-- ==== Sys2Proof/Word.lean ====
section
/-! DEFINITION. The words of the register window and the plain tables of the model. -/

namespace Sys2Proof

/-- A register word: the window is accessed in aligned 32-bit words (R11). -/
abbrev Word := BitVec 32

/-- One byte. -/
abbrev Byte := BitVec 8

/-- A table by key, held as a list of (key, value) pairs in one canonical form: keys strictly rising, and no entry
equal to what an unlisted key reads as. -/
abbrev Tab (V : Type) := List (Nat × V)

/-- A named field of a register: window offset of the register, lowest bit, width. -/
structure Fld where
  addr : Nat
  lo : Nat
  len : Nat
deriving DecidableEq, Repr

/-- An event of the recorder: its code and its severity (0 INFO, 1 MINOR, 2 MAJOR, 3 CRIT), R378. -/
structure Ev where
  code : Nat
  sev : Nat
deriving DecidableEq, Repr

/-- One row of a page's register summary: name, page offset, number of words, the bits a write sets, clears by 1, sets
by 1 and acts on, the bits that exist, whether a field is protected (R46), whether a read clears it (RC), and the reset
value. -/
structure RegRow where
  name : String
  off : Nat
  cnt : Nat
  rw : Nat
  w1c : Nat
  w1s : Nat
  wo : Nat
  imp : Nat
  prot : Bool
  rc : Bool
  rst : Nat
deriving DecidableEq, Repr

end Sys2Proof
end

