-- ==== Sys2Proof/Machine/TypesLight.lean ====
section
/-! DEFINITION. State of the light path: tick executive (R49 to R70), Hatch (R71 to R100), Plate and the lamp groups
(R101 to R120, R441), node table entries (R160 to R162). -/

namespace Sys2Proof.Machine

/-- A detection record of Hatch's input queue, R79. `range` is the signed RANGE; `node` holds all 16 bits of its field
and `rsv` bytes 13 to 15, so that the FORMAT check of R82 sees the reserved bits. -/
structure Detection where
  typ : Nat
  flags : Nat
  node : Nat
  speed : Nat
  heading : Nat
  conf : Nat
  range : Int
  rxSeq : Nat
  bus : Nat
  rsv : Nat
  sofSec : Nat
  sofNs : Nat
  rxTick : Nat
deriving DecidableEq, Repr

/-- A hypothesis, R86: weight, edge, position in Q8 cm. -/
structure Hyp where
  edge : Nat
  pos : Nat
  w : Nat
deriving DecidableEq, Repr

/-- A pulse of the pulse table, R86; its hypotheses in stored order. -/
structure Pulse where
  speed : Nat
  cls : Nat
  sensor : Nat
  age : Nat
  refresh : Nat
  hyps : List Hyp
deriving DecidableEq, Repr

/-- An edge record of the street graph: its three words, R74. -/
structure EdgeRec where
  w0 : Word
  w1 : Word
  w2 : Word
deriving DecidableEq, Repr

/-- A sensor binding record: its two words, R74. -/
structure SensRec where
  w0 : Word
  w1 : Word
deriving DecidableEq, Repr

/-- A graph bank: the counts, the four tables, the CRC of the tables and the commit sequence number, R74, R78. -/
structure Graph where
  nVtx : Nat := 0
  nEdge : Nat := 0
  nAtt : Nat := 0
  nSens : Nat := 0
  vtx : Tab Word := []
  edge : Tab EdgeRec := []
  att : Tab Word := []
  sens : Tab SensRec := []
  crc : Word := 0
  seq : Nat := 0
deriving DecidableEq, Repr

/-- The empty graph: VTX_CNT 0 and ACT_SEQ 0, R78. -/
def Graph.empty : Graph := { }

/-- What a Hatch run in progress has produced; it is committed whole at its completion and dropped when aborted, R72. -/
structure HatchRun where
  pulses : Tab (Option Pulse)
  contrib : Tab Nat
  left : List Detection
  launch : Nat
  assoc : Nat
  rejects : List (Nat × Nat)
  evicts : List (Nat × Nat × Nat)
  capped : Nat
  ended : Nat
deriving DecidableEq, Repr

/-- Hatch: banks, pulse slots, contribution buffer, input queue, frozen detections, the run in progress, the
once-a-second limiters of its events (R98), and the µs that a run lasted which something else than the window's end has
aborted in the running tick. -/
structure HatchSt where
  act : Graph := .empty
  load : Graph := .empty
  pulses : Tab (Option Pulse) := []
  contrib : Tab Nat := []
  inq : List Detection := []
  frozen : List Detection := []
  run : Option HatchRun := none
  valid : Option Graph := none
  rejCnt : Tab Nat := []
  rejAt : Tab (Option Nat) := []
  deferAt : Option Nat := none
  cut : Nat := 0
deriving DecidableEq, Repr

/-- Hatch holding nothing. -/
def HatchSt.init : HatchSt := { }

/-- The tick executive beside its page: the tick number (R65), the step count k (R58), what has happened in the running
tick, and the phase-alarm run lengths (R68); OVR_CNT, CLEAN_CNT and MODE as the page shows them while the outcome of the
running tick waits for the guard band, and the interrupt bits that wait with it (R55); the ns since the edge that the tick is
known to have lasted; and the inputs other than frames that have become complete in it (R56). -/
structure TickSt where
  num : Nat := 0
  booted : Bool := false
  k : Nat := 1
  winOpen : Bool := false
  runDone : Bool := false
  overrun : Bool := false
  flushed : Bool := false
  composeDone : Bool := false
  degAt : Nat := 0
  forced : Bool := false
  badEdges : Nat := 0
  okEdges : Nat := 0
  armed : Bool := true
  impBusy : Bool := false
  ownCut : Bool := false
  cutGot : Bool := false
  steps : List Int := []
  started : Bool := false
  shown : Option (Word × Word × Word) := none
  irqs : List Nat := []
  ofs : Nat := 0
  inCnt : Nat := 0
deriving DecidableEq, Repr

/-- The tick executive before its first edge. -/
def TickSt.init : TickSt := { }

/-- A node table entry: identity half (R161) and dynamic half (R162). -/
structure NodeId where
  uid : Nat := 0
  state : Nat := 0
  qcause : Nat := 0
  kind : Nat := 0
  ntype : Nat := 0
  depth : Nat := 0
  chCnt : Nat := 0
  group : Nat := 0
  cfg : Nat := 0
  driveCap : Nat := 0
  ratedW : Nat := 0
  fwVer : Nat := 0
  commSec : Nat := 0
  phase : Nat := 0
deriving DecidableEq, Repr

/-- The dynamic half of a node table entry, R162. -/
structure NodeDyn where
  l : Nat := 0
  lvl : Nat := 0
  rxFv : Nat := 0
  burnH : Nat := 0
  temp : Nat := 0
  fault : Nat := 0
  link : Nat := 0
  miss : Nat := 0
  late : Nat := 0
  p : Nat := 0
  vsup : Nat := 0
  eLast : Nat := 0
  eTot : Nat := 0
  lastFault : Nat := 0
  seen : Nat := 0
  satCnt : Nat := 0
  satRun : Nat := 0
  detTot : Nat := 0
  detDrop : Nat := 0
deriving DecidableEq, Repr

/-- A node table entry. -/
structure Node where
  ident : NodeId := { }
  dyn : NodeDyn := { }
deriving DecidableEq, Repr

/-- The identity half of a FREE entry. -/
def NodeId.free : NodeId := { }

/-- The dynamic half of a FREE entry. DEDUCED: log entry 75. -/
def NodeDyn.zero : NodeDyn := { }
/-- The dynamic half of an entry that is planned or assigned: its node has reported no temperature (R162). DEDUCED:
log entry 75. -/
def NodeDyn.fresh : NodeDyn := { temp := 0x80 }

/-- A FREE entry. -/
def Node.free : Node := { }

/-- State of a lamp group that compose keeps, R112, R113: broken, and the composes spent broken. -/
structure GrpSt where
  broken : Bool := false
  spent : Nat := 0
deriving DecidableEq, Repr

/-- A group as after reset: not broken. -/
def GrpSt.init : GrpSt := { }

/-- An event waiting to be raised: the event, the raising page and its parameters. -/
structure Raise where
  ev : Ev
  src : Nat
  params : List Nat
deriving DecidableEq, Repr

/-- The working copies of a compose in progress, committed only when it completes, R108. -/
structure ComposeWork where
  back : Tab Nat
  nodes : Tab Node
  grp : Tab GrpSt
  chips : List (Nat × Bool)
  capCnt : Nat
  capLow : Nat
  raises : List Raise
deriving DecidableEq, Repr

/-- A requested clear of a latch: of one member, or of every member of the group, R113. -/
structure LatchReq where
  group : Nat
  all : Bool
  node : Nat
deriving DecidableEq, Repr

/-- Plate and lamp groups: two physical buffers, the change marks, the pending checksum, the compose in progress, the
group states, the requested clears (waiting for the edge, and frozen), and the hour limiter of DRIVE_CAPPED. DEDUCED:
log entry 43. -/
structure PlateSt where
  buf0 : Tab Nat := []
  buf1 : Tab Nat := []
  marks : Tab Bool := []
  csum : Word := 0
  work : Option ComposeWork := none
  grp : Tab GrpSt := []
  brkReq : List Nat := []
  latReq : List LatchReq := []
  brkFrz : List Nat := []
  latFrz : List LatchReq := []
  cappedAt : Option Nat := none
deriving DecidableEq, Repr

/-- Plate with empty buffers. -/
def PlateSt.init : PlateSt := { }

/-- Where a contactor's sequence stands, R115. -/
inductive CoPhase where
  | idle
  | queued
  | pulse
  | await
  | retry
deriving DecidableEq, Repr

/-- A contactor driver: commanded state, sensed state (none is UNKNOWN), the sequence, the state the sequence drives
to, whether it is the second pulse, whether a request changed the command during it, the source of the latest request
(0 schedule, 1 register, 2 fallback schedule); the sensed state as frozen at the latest edge (UNKNOWN counts as ON) and
the edges left of the hold of R117. -/
structure Co where
  cmd : Bool := false
  sensed : Option Bool := none
  phase : CoPhase := .idle
  target : Bool := false
  second : Bool := false
  changed : Bool := false
  src : Nat := 0
  newSrc : Nat := 0
  on : Bool := true
  hold : Nat := 0
deriving DecidableEq, Repr

/-- A contactor before the first edge: UNKNOWN, commanded OFF (CO_CMD.ON reads 0), R441. -/
def Co.init : Co := { }

/-- A request for a contactor, R114. -/
structure CoReq where
  co : Nat
  on : Bool
  src : Nat
deriving DecidableEq, Repr

end Sys2Proof.Machine
end

