-- ==== Sys2Proof/Machine/TypesBus.lean ====
section
/-! DEFINITION. State of the feeder bus controllers (R121 to R158), of node management (R159 to R186, R442, R443) and of
the digital inputs (R183, R187). -/

namespace Sys2Proof.Machine

/-- What a frame that the module sends is (R127, R139): SYNC, PLATE_DELTA with its addresses, POLL_REQ with what it asks
(0 STATUS, 1 IDENT, 2 CONFIRM), DISCOVER PROBE, ASSIGN and RELEASE, a NODE_CMD or KEY_INSTALL (op 0x80), the Update
chain's bulk frame, a message object's frame. -/
inductive TxKind where
  | sync
  | pd (addrs : List Nat)
  | poll (addr ask : Nat)
  | probe (m pfx : Nat)
  | assign (addr uid : Nat)
  | release (uid : Nat)
  | job (op addr tag : Nat)
  | bulk
  | object (i : Nat)
deriving DecidableEq, Repr

/-- A frame the module has built: its kind, 29-bit identifier, data field (with the trailer once its tag is in), its
freshness value when it carries the trailer of R134, whether it has one attempt only (R148), and the error state
indicator it goes out with (R121). -/
structure TxFrame where
  kind : TxKind
  id : Nat
  data : List Nat
  fv : Option Nat
  oneshot : Bool
  esi : Bool := false
deriving DecidableEq, Repr

/-- Ground's answer to a tag request: the tag's bytes, or a refusal (1 KEY_REVOKED, 2 KEYS_LOCKED, 3 EMPTY, 5 Ground not
started, 10 ABORTED), R136, R335, R341. -/
inductive TagAnswer where
  | tag (bytes : List Nat)
  | refused (code : Nat)
deriving DecidableEq, Repr

/-- A received frame as the line shows it: identifier, format and flags, data bytes, the ns from the latest edge to its SOF
(negative for a frame that began before that edge), the µs from the edge to its end, and the error counters after it
(ISO 11898-1). DESIGN CHOICE: log entry 9. -/
structure RxFrame where
  id : Nat
  ext : Bool
  remote : Bool
  fdf : Bool
  esi : Bool
  data : List Nat
  sof : Int
  us : Nat
  tec : Nat
  rec_ : Nat
deriving DecidableEq, Repr

/-- The poll whose response is awaited: address, tag, what was asked, and the end of its pair's second slot in µs from the
edge (R143). -/
structure PollWait where
  addr : Nat
  tag : Nat
  ask : Nat
  till : Nat
deriving DecidableEq, Repr

/-- What the second slot of a PROBE pair has shown, R177. -/
inductive ProbeSeen where
  | nothing
  | found (uid : Nat)
  | failed
deriving DecidableEq, Repr

/-- A PROBE that waits for its outcome. -/
structure Probe where
  m : Nat
  pfx : Nat
  tag : Nat
  till : Nat
  seen : ProbeSeen
deriving DecidableEq, Repr

/-- An action of a bus's discovery queue, R177 to R179. -/
inductive WalkAct where
  | assign (addr uid : Nat)
  | confirm (addr uid : Nat)
  | release (uid : Nat)
deriving DecidableEq, Repr

/-- Why a NODE_CMD is sent, R168, R181, R186, R343, R367: for a command of the CMD register, for a DECOMMISSION, for
re-commissioning, for a MOVE to a target, to install the key of a KEYING node or of a rollout, for an update. -/
inductive JobKind where
  | wink
  | decom
  | recom
  | move (target : Nat)
  | keying
  | rollout
  | update
deriving DecidableEq, Repr

/-- A NODE_CMD or KEY_INSTALL (op 0x80) that waits to be sent or acknowledged, R168: attempts made, the tick of the
latest, whether an acknowledgement is awaited, and the poll cycle it waits for after a failure (R343). -/
structure NodeJob where
  kind : JobKind
  op : Nat
  addr : Nat
  args : List Nat := []
  tag : Nat := 0
  tries : Nat := 0
  sentAt : Nat := 0
  waiting : Bool := false
  cycle : Nat := 0
deriving DecidableEq, Repr

/-- A BULK_DATA frame of the Update chain's stream that waits for the bulk window, R133, R367. -/
structure BulkOut where
  addr : Nat
  stream : Nat
  chunk : Nat
  last : Bool
  ackReq : Bool
  data : List Nat
deriving DecidableEq, Repr

/-- A feeder bus controller beside its page: whether it has joined at an edge; the SYNC payload that waits; the
Plate-delta frames of the tick; positions passed, the next poll position, full cycles, the poll tag; the poll and the
probe that are open; address and tag of each unanswered poll, by which a late response is known; the pointers of R142
and the addresses held under R321; the frame on the wire, the frame that waits for its tag, the frames that wait for
retransmission, the identifiers stalled in this window (R136), the Plate-delta frames of the tick that got no tag, the
next poll pair, the position of the latest frame of the poll window, whether FLUSH has dropped the tick's commands; the hold's cause and ticks, consecutive timeouts, the test
request, whether a test was answered with a tag, whether a tag has been asked for since the boot; the sample points
that wait; frames heard and clean frames in detection and whether an FD frame was among them; the bus-off history in
ms with the start of the present one; collision bursts by address with their ms; the latest line error (identifier,
own, run length) and the bursts counted that have not ended (R151, R152); the limiters of FB_AUTH_FAIL and FB_SHED with their counts; the refused plan; jobs, the command tag,
installs sent in the tick, the rollout's start and switch; the walk; the drop counters and bulk queue; consecutive
verification failures as a STANDBY (R344); the hour's data-phase and arbitration-phase errors and frames (R392).
DESIGN CHOICE: log entry 129. -/
structure FbSt where
  joined : Bool := false
  sync : Option (List Nat) := none
  pdq : List (List Nat) := []
  pdIdx : Nat := 0
  pairs : Nat := 0
  pollPos : Nat := 0
  cycles : Nat := 0
  pollTag : Nat := 0
  wait : Option PollWait := none
  unanswered : List (Nat × Nat) := []
  probe : Option Probe := none
  refPtr : Nat := 1
  markStart : Nat := 1
  held : List Nat := []
  tx : Option TxFrame := none
  req : Option (TxFrame × TagAnswer) := none
  again : List TxFrame := []
  stalled : List Nat := []
  pdLost : Nat := 0
  pairAt : Nat := 0
  sentPos : Nat := 0
  jobsCut : Bool := false
  hold : Nat := 0
  holdTicks : Nat := 0
  tmoRun : Nat := 0
  test : Option TagAnswer := none
  testOk : Bool := false
  asked : Bool := false
  spPend : Option Word := none
  heard : Nat := 0
  clean : Nat := 0
  heardFd : Bool := false
  boTimes : List Nat := []
  boAt : Nat := 0
  bursts : List (Nat × Nat) := []
  lastErr : Option (Nat × Bool × Nat) := none
  burstOpen : List (Nat × Bool) := []
  authAt : Option Nat := none
  authCnt : Nat := 0
  shedAt : Option Nat := none
  shedCnt : Nat := 0
  planBad : Option Word := none
  jobs : List NodeJob := []
  cmdTag : Nat := 0
  keySent : Nat := 0
  keyAt : Nat := 0
  keySwitch : Bool := false
  acts : List WalkAct := []
  stack : List (Nat × Nat) := []
  ran : Bool := false
  told : List Nat := []
  lastM : Nat := 0
  lastPfx : Nat := 0
  probes : Nat := 0
  collided : Nat := 0
  walks : Nat := 0
  foundUid : Nat := 0
  foundCnt : Nat := 0
  dropUnk : Nat := 0
  dropQuar : Nat := 0
  dropFmt : Nat := 0
  bulkq : List BulkOut := []
  verFail : Nat := 0
  errD : Nat := 0
  errA : Nat := 0
  frames : Nat := 0
deriving DecidableEq, Repr

/-- A bus controller as after reset. -/
def FbSt.init : FbSt := { }

/-- A frame that node management has accepted and that waits for the edge, R164: class and type, what its poll asked,
its receive sequence number, the tick of its reception, its data, and whether the rate limit has dropped it (R182). -/
structure NodeFrame where
  bus : Nat
  addr : Nat
  cls : Nat
  typ : Nat
  ask : Nat
  seq : Nat
  tick : Nat
  data : List Nat
  drop : Bool := false
deriving DecidableEq, Repr

/-- A node input that waits for the edge, in order of completion, R56, R164. -/
inductive NodeInput where
  | frame (f : NodeFrame)
  | ack (bus : Nat) (j : NodeJob) (result tick : Nat)
  | missed (bus addr ask : Nat)
  | late (bus addr : Nat)
  | assigned (bus addr uid : Nat)
  | released (index : Nat)
  | entWrite (index word : Nat) (v : Word)
  | cmd (op index arg uid : Nat)
  | dup (index : Nat)
deriving DecidableEq, Repr

/-- The 60 s hold of fault events for one node and code, R175; its end in ns. -/
structure FaultHold where
  running : Bool := false
  until_ : Nat := 0
  shown : Bool := false
  chan : Nat := 0
  detail : Nat := 0
  alarm : Bool := false
deriving DecidableEq, Repr

/-- No hold. -/
def FaultHold.init : FaultHold := { }

/-- The progress of one entry: IDENT polls since ASSIGNED, tick of KEYING, whether re-commissioning runs, its start tick,
its RELEASEs and the tick of the latest, tick of quarantine, whether the next STATUS sets E_LAST only (R173), the tick
at which its latest saturation window ended, the window of its latest detection and the detections received in it
(R182). -/
structure NodeProg where
  polls : Nat := 0
  keyTick : Nat := 0
  recom : Bool := false
  recStart : Nat := 0
  releases : Nat := 0
  relAt : Nat := 0
  qTick : Nat := 0
  firstE : Bool := false
  satAt : Nat := 0
  satWin : Nat := 0
  satNow : Nat := 0
deriving DecidableEq, Repr

/-- Nothing in progress. -/
def NodeProg.init : NodeProg := { }

/-- A history record of a node, R173. -/
structure NodeHist where
  index : Nat
  period : Nat
  energy : Nat
  pEnd : Nat
  faults : Nat
  flags : Nat
deriving DecidableEq, Repr

/-- Node management beside its page: the live table, inputs that wait and inputs frozen at the edge, fault event holds
by index * 16 + code − 1, progress by index, the index of the next regular copy (R34), acknowledgements of update
commands (bus, address, operation, result) and BULK_ACK frames for Proof. -/
structure NodeMgmt where
  table : Tab Node := []
  inputs : List NodeInput := []
  frozen : List NodeInput := []
  holds : Tab FaultHold := []
  prog : Tab NodeProg := []
  walkCopy : Nat := 0
  updAcks : List (Nat × Nat × Nat × Nat) := []
  bulkAcks : List NodeFrame := []
deriving DecidableEq, Repr

/-- Node management with an empty table. -/
def NodeMgmt.init : NodeMgmt := { }

/-- A digital input, R183: its raw and its debounced level, the ms of its latest confirmed changes (newest first), and of
the last of them. -/
structure Di where
  raw : Bool := false
  lvl : Bool := false
  changes : List Nat := []
  lastChange : Nat := 0
deriving DecidableEq, Repr

/-- An input at a low level, with no confirmed change. -/
def Di.init : Di := { }

/-- Digital inputs and contactor drivers beside the IO page. -/
structure IoSt where
  di : Tab Di := []
  co : Tab Co := []
  coReq : List CoReq := []
  coFrozen : List CoReq := []
  coFb : Nat := 0
deriving DecidableEq, Repr

/-- Inputs and drivers as after reset. -/
def IoSt.init : IoSt := { }

end Sys2Proof.Machine
end

