-- ==== Sys2Proof/Machine/TypesMet.lean ====
section
/-! DEFINITION. State of the metering sets (R188 to R200), Trace (R201 to R204), calibration (R205, R206) and the schedule
engine (R238 to R254). -/

namespace Sys2Proof.Machine

/-- A window of the front end (R190, R191): the raw samples of the seven channels, oldest first, and the frequency in mHz
that each phase would give as reference. DESIGN CHOICE: log entries 9, 85. -/
structure MetWin where
  raw : List (List Int)
  freqs : List Nat
deriving DecidableEq, Repr

/-- What the correction of a sample takes from a calibration record (R190): GAIN, PHASE and OFFSET. -/
structure CalUse where
  gain : Nat := 4194304
  phase : Int := 0
  offset : Int := 0
deriving DecidableEq, Repr

/-- A metering set beside its page: the energy registers by phase * 6 + register with the remainders below one unit
(R195), the harmonic components of the latest window by channel * 32 + order, windows without a valid reference, the
consecutive evaluated edges of over, under and quiet by phase (R200), and the
minute limiter of MET_CLIP; `pos`, the sample of the running window that the latest edge took; `cals`, the calibrations in
use with the window's sample from which each counts (R206); `short`, by sample, the ns that a realignment tick takes off its
interval (R190); the latest corrected codes of each channel before its delay, newest first; sums of Vrms, Irms and frequency over the windows of the minute, with their flags (R198). -/
structure MetSt where
  energy : Tab Nat := []
  remain : Tab Nat := []
  harm : Tab Nat := []
  noRefWins : Nat := 0
  above : Tab Nat := []
  under : Tab Nat := []
  quiet : Tab Nat := []
  clipAt : Option Nat := none
  pos : Int := 0
  cals : List (Int × List CalUse) := []
  short : List (Int × Nat) := []
  tail : List (List Int) := []
  sumV : Tab Nat := []
  sumI : Tab Nat := []
  sumF : Nat := 0
  wins : Nat := 0
  badRef : Bool := false
  clipped : Bool := false
deriving DecidableEq, Repr

/-- A set that has completed no window. -/
def MetSt.init : MetSt := { }

/-- A Trace slot (R201 to R204): STATE and CAUSE of RESULT, the node, the start tick, the chips composed so far (oldest
first, true when the step was applied), the chips missed, the mean currents of the set's phases in the ticks after the
start tick (oldest first, 0.1 mA), ticks with a bad signal, and the result.  `want` is a start that waits for the edge. -/
structure TraceSlot where
  state : Nat := 0
  cause : Nat := 0
  node : Nat := 0
  want : Bool := false
  nodeSel : Nat := 0
  start : Nat := 0
  chips : List Bool := []
  sent : List Bool := []
  cur : List (List Nat) := []
  bad : Nat := 0
  missed : Nat := 0
  phase : Nat := 0
  ratio : Nat := 0
  amp : Nat := 0
  phaseWr : Option Nat := none
deriving DecidableEq, Repr

/-- An idle slot. -/
def TraceSlot.init : TraceSlot := { }

/-- A calibration record in the MRAM calibration region (R205), with its source (0 NONE, 1 FACTORY, 2 USER) and its
count of user commits. -/
structure CalRec where
  gain : Nat := 4194304
  phase : Nat := 0
  offset : Nat := 0
  src : Nat := 1
  writes : Nat := 0
deriving DecidableEq, Repr

/-- A record as the model manufactures it. -/
def CalRec.factory : CalRec := { }

/-- Metering, Trace and calibration beside their pages.  `calWr` is the commit whose MRAM write is in progress, `unsent` the
traced nodes whose Plate entry did not go out in the tick that an edge ends (R202). -/
structure MetAll where
  set : Tab MetSt := []
  slot : Tab TraceSlot := []
  calWr : Option (Nat × CalRec) := none
  unsent : List Nat := []
deriving DecidableEq, Repr

/-- Metering as after reset. -/
def MetAll.init : MetAll := { }

/-- A schedule entry with its status (R241, R242): its four words, LAST_DAY with whether it is set, OUT, whether it
counts as newly programmed, whether an ABSOLUTE one has fired or been skipped (R247), and the day of its latest
SCHED_NO_EVENT. -/
structure SchedEnt where
  w0 : Word := 0
  w1 : Word := 0
  w2 : Word := 0
  w3 : Word := 0
  lastDay : Option Int := none
  out : Nat := 0
  fresh : Bool := false
  done : Bool := false
  noEvt : Option Int := none
deriving DecidableEq, Repr

/-- An empty entry. -/
def SchedEnt.init : SchedEnt := { }

/-- A running ramp of a group (R251): start level, target, edges in all, edges done, and the entry that started it. -/
structure SchedRamp where
  b0 : Nat
  arg : Nat
  n : Nat
  j : Nat
  entry : Nat
deriving DecidableEq, Repr

/-- A stored fallback schedule (R253): its sequence number, its entries by index, the holiday table, TZ_CFG, DST_START,
DST_END, CATCHUP, DEF_LVL, the day of the save, and the solar events by day from the save * 4 + event. -/
structure FbSched where
  seq : Nat
  ents : Tab SchedEnt
  hol : Tab Word
  tz : Word
  dst0 : Word
  dst1 : Word
  catchup : Nat
  defLvl : Nat
  day0 : Int
  solar : Tab (Option Int)
  saved : Nat
  left : Nat
deriving DecidableEq, Repr

/-- The schedule engine beside its page: entries, holidays and scenes; words staged by initiator * 4 + word; commits that
wait and commits frozen at an edge; base levels and ramps; the previous evaluation's instant in ms of UTC since 2000;
whether the time was adjusted forward since the latest edge; whether the engine has rebuilt since SAFE_LIGHT; in
SAFE_LIGHT the fallback's own entries, once begun, with the sequence number of their copy, the UTC second of its latest
evaluation, whether the time was adjusted forward since, and the day of its latest SCHED_FB_STALE; the day, place and zone of the solar events shown; the local offset last seen; the save in progress. -/
structure SchedSt where
  ent : Tab SchedEnt := []
  hol : Tab Word := []
  scene : Tab Word := []
  stage : Tab Word := []
  commits : List (Nat × SchedEnt) := []
  frozen : List (Nat × SchedEnt) := []
  base : Tab Nat := []
  ramp : Tab (Option SchedRamp) := []
  tPrev : Option Int := none
  adjusted : Bool := false
  rebuilt : Bool := false
  safe : Bool := false
  fbEnt : Tab SchedEnt := []
  fbSeq : Option Nat := none
  fbAdj : Bool := false
  fbSec : Int := 0
  staleDay : Option Int := none
  day : Int := 0
  place : List Word := []
  solar : Tab (Option Int) := []
  ofs : Option Int := none
  saving : Option FbSched := none
deriving DecidableEq, Repr

/-- The schedule engine as after reset. -/
def SchedSt.init : SchedSt := { }

end Sys2Proof.Machine
end

