-- ==== Sys2Proof/Machine/TypesTime.lean ====
section
/-! DEFINITION. State of the RTC (R215 to R221) and of the time engine (R211 to R234). -/

namespace Sys2Proof.Machine

/-- The staged set of the RTC, R220: software's 40-bit SEC or its calendar halves, whichever was written later, WEEKDAY,
and the engine's SEC. -/
structure RtcStage where
  sec : Option Nat := none
  date : Option Word := none
  time : Option Word := none
  wday : Option Nat := none
  engine : Option Nat := none
deriving DecidableEq, Repr

/-- Nothing staged. -/
def RtcStage.init : RtcStage := { }

/-- The RTC beside its page, on its own clock in ns, which runs `off` ahead of the free-running time of the light path: the
latest second boundary, SUBSEC while the crystal is stopped, the start of the wake timer's count, its steps while the
crystal is stopped, and the staged set. -/
structure RtcSt where
  off : Nat := 0
  secAt : Nat := 0
  stopped : Option Nat := some 0
  wakeAt : Nat := 0
  wakeHeld : Option Nat := some 0
  stage : RtcStage := .init
deriving DecidableEq, Repr

/-- The RTC as after a COLD reset, before the crystal first starts (R217). -/
def RtcSt.init : RtcSt := { }

/-- A source's offset measurements, R223, R224: the latest ones (newest first, at most 16), consecutive ones within
±200 ns, beyond ±1 µs and within ±1 µs, and the latest. -/
structure SrcMeas where
  hist : List Int := []
  near : Nat := 0
  far : Nat := 0
  good : Nat := 0
deriving DecidableEq, Repr

/-- No measurement. -/
def SrcMeas.init : SrcMeas := { }

/-- The part of a PTP message's header that decides whether the module takes it (R222): domainNumber, minorVersionPTP, unicast,
logMessageInterval, transport (0 UDP over IPv4, 1 UDP over IPv6, 2 Ethernet), and the sending port's identity. -/
structure PtpHdr where
  dom : Nat
  minor : Nat
  unicast : Bool
  interval : Int
  carrier : Nat
  src : Nat
deriving DecidableEq, Repr

/-- How a PTP message that the module writes into is kept valid (R232): a UDP checksum of 0, or the two trailing octets; the
FCS is recomputed. -/
structure PtpFix where
  zeroSum : Bool
  trailer : Bool
deriving DecidableEq, Repr

/-- What the transport of a message asks for, R232. -/
def ptpFix (c : Nat) : PtpFix := ⟨c == 0, c == 1⟩

/-- A Delay_Req as it leaves (R214, R222, R232): sequence number, originTimestamp with the low 48 bits of the seconds,
transport, and source address. -/
structure DelayReq where
  seq : Nat
  sec : Nat
  ns : Nat
  carrier : Nat
  fix : PtpFix
  mac : Nat
deriving DecidableEq, Repr

/-- A PTP domain's slave instance, R222, R223: the identity of the selected master and the domain number it was selected in,
its Announce data, the measurements, the Sync that waits for its Follow_Up (sequence number, receive stamp, correction), the
latest Sync interval from master to slave, the Delay_Req that waits (sequence number, departure), the mean path delay in ns,
the transport of the master's Sync, and the latest Delay_Req sent. -/
structure PtpDom where
  master : Option Nat := none
  dom : Nat := 0
  utcOfs : Int := 0
  utcValid : Bool := false
  leap : Nat := 0
  meas : SrcMeas := .init
  sync : Option (Nat × Int × Int) := none
  toSlave : Option Int := none
  req : Option (Nat × Int) := none
  delay : Int := 0
  transport : Nat := 0
  out : Option DelayReq := none
deriving DecidableEq, Repr

/-- A domain that has heard nothing. -/
def PtpDom.init : PtpDom := { }

/-- The GNSS source, R224: the second the latest sentence names and the one before it, the latest edges of PPS_IN
(disciplined ns), whether the sentence or the edge waits for the other, and consecutive good seconds. -/
structure GnssSt where
  named : Option Nat := none
  lastNamed : Option Nat := none
  edge : Option Int := none
  lastEdge : Option Int := none
  run : Nat := 0
  meas : SrcMeas := .init
deriving DecidableEq, Repr

/-- A GNSS source that has heard nothing. -/
def GnssSt.init : GnssSt := { }

/-- A jump being waited on, R229: its first and latest measurements, and whether all were within ±1 ms of the first. -/
structure StepWait where
  first : Int
  latest : Int
  ok : Bool
deriving DecidableEq, Repr

/-- The time engine beside its page: whether the sources run (boot stage 21), whether both domains are enabled with one DOMAIN
(R230), the correction still to slew in ns, a jump
waited on, the ms at which the holdover began, the latest PPS_OUT pulse (ns) and the pulses sent; the latest relations
between the free-running counter and the disciplined time, newest first, each with the count from which it holds
(R144). -/
structure TimeSt where
  on : Bool := false
  same : Bool := false
  dom : Tab PtpDom := []
  gnss : GnssSt := .init
  slew : Int := 0
  wait : Option StepWait := none
  holdAt : Nat := 0
  ppsAt : Option Nat := none
  ppsCnt : Nat := 0
  rel : List (Nat × Int) := []
deriving DecidableEq, Repr

/-- The time engine as after reset. -/
def TimeSt.init : TimeSt := { }

/-- What an Announce carries, R212, R213, R223; `best` says that the best master clock algorithm of IEEE 1588 selects
its sender. DESIGN CHOICE: log entry 9. -/
structure AnnounceMsg where
  best : Bool
  cls : Nat
  utcOfs : Int
  utcValid : Bool
  leap61 : Bool
  leap59 : Bool
deriving DecidableEq, Repr

end Sys2Proof.Machine
end

