-- ==== Sys2Proof/Machine/TypesNet.lean ====
section
/-! DEFINITION. State of the switch, of ring protection and of LSP (R257 to R272). -/

namespace Sys2Proof.Machine

/-- A frame at the switch: its VLAN tag if it has one, PCP, MAC addresses, whether its FCS holds, whether it is R-APS,
and what PTP message it carries (0 none, 1 Sync, 2 Delay_Req, 3 another event or general message), over which transport
(0 UDP over IPv4, 1 UDP over IPv6, 2 Ethernet, else none of them), with its true residence in ns (R233). DESIGN CHOICE: log entry 9. -/
structure NetFrame where
  vid : Option Nat
  pcp : Nat
  dst : Nat
  src : Nat
  fcsOk : Bool
  raps : Bool
  ptp : Nat
  carrier : Nat
  res : Nat
deriving DecidableEq, Repr

/-- What the switch sent for its latest frame: egress ports, queue (7 highest), tag, and the ns added to
correctionField with what keeps the frame valid then (R232). -/
structure FwdOut where
  egress : List Nat
  queue : Nat
  vid : Option Nat
  corrected : Nat
  fix : Option PtpFix
deriving DecidableEq, Repr

/-- Requests of R-APS messages, G.8032. -/
inductive RapsKind where
  | nr
  | nrRb
  | ms
  | sf
  | fs
deriving DecidableEq, Repr

/-- An R-APS message as a ring port hears it. DESIGN CHOICE: log entry 9. -/
structure RapsMsg where
  kind : RapsKind
  nodeId : Nat
  ringId : Nat
  mel : Nat
deriving DecidableEq, Repr

/-- An R-APS frame as a ring port sends it (R258, R259): untagged, in the R-APS VLAN, at its MEL. -/
structure RapsOut where
  kind : RapsKind
  src : Nat
  vlan : Nat
  mel : Nat
  ringId : Nat
  nodeId : Nat
deriving DecidableEq, Repr

/-- Ring protection beside ERPS_STAT: signal fails present and acted on (bit 0 RING0, bit 1 RING1), ports whose hold-off
timer runs, whether the guard timer runs, the ms at which wait-to-restore started, the R-APS message sent, and the ms at
which protection began. -/
structure Erps where
  present : Nat := 0
  acted : Nat := 0
  hold : Nat := 0
  guard : Bool := false
  wtr : Option Nat := none
  tx : Option RapsKind := none
  protAt : Option Nat := none
deriving DecidableEq, Repr

/-- Ring protection before its start. -/
def Erps.init : Erps := { }

/-- One operation of a REG_BATCH, R266. -/
structure BatchOp where
  op : Nat
  status : Nat
  addr : Nat
  value : Word
deriving DecidableEq, Repr

/-- An EVENT message that waits for its acknowledgement, R268: sequence number, indices of its records, ms of its latest
sending, and its payload. -/
structure EvMsg where
  seq : Nat
  recs : List Nat
  sentAt : Nat
  body : List Nat
deriving DecidableEq, Repr

/-- The opening of a DTLS handshake, R264: the address it comes from, whether it offers DTLS 1.3, its cipher suites, whether it
asks for a pre-shared key without certificates, and whether the peer's certificate holds. -/
structure DtlsHello where
  addr : Nat
  v13 : Bool
  suites : List Nat
  psk : Bool
  certOk : Bool
deriving DecidableEq, Repr

/-- A session, R264, R268, R269: its cipher suite, ms of the latest message each way, the next SEQ, the index from which
records are still to be sent, the messages that wait, and the latest message sent, as bytes. -/
structure Session where
  suite : Nat
  lastRx : Nat
  lastTx : Nat
  nextSeq : Nat
  cursor : Nat
  msgs : List EvMsg
  sent : List Nat := []
deriving DecidableEq, Repr

/-- The IP settings of R263 that reach the module's behaviour, and LSP_CFG.EV_MIN (R268).  An address with its port is one
number. -/
structure IpCfg where
  ringVlan : Bool := true
  v6 : Nat := 0
  v4 : Nat := 0
  peers : List Nat := []
  udpPort : Nat := 47010
  dns : List Nat := []
  upstream : Option Nat := none
  downstream : Option Nat := none
  partner : Option Nat := none
  evMin : Nat := 0
deriving DecidableEq, Repr

/-- The settings as R263 gives their defaults. DESIGN CHOICE: log entries 10, 118. DEDUCED: log entry 119. -/
def IpCfg.init : IpCfg := { }

/-- The network side beside its pages: the MAC table by VLAN * 2^48 + address with the port and the ms of the latest
frame, what the switch sent last, ring protection, the IP settings in force, sessions by peer (0 to 3 head-end peers,
4 UPSTREAM, 5 DOWNSTREAM, 6 PARTNER), the responses kept per peer (R267), and the index after each peer's last
acknowledged record. DESIGN CHOICE: log entry 129. -/
structure NetSt where
  mac : Tab (Option (Nat × Nat)) := []
  out : Option FwdOut := none
  erps : Erps := .init
  ip : IpCfg := .init
  sess : Tab (Option Session) := []
  store : Tab (List (Nat × List BatchOp)) := []
  acked : Tab (Option Nat) := []
deriving DecidableEq, Repr

/-- The network side as after reset. -/
def NetSt.init : NetSt := { }

end Sys2Proof.Machine
end

