-- ==== Sys2Proof/Machine/TypesPair.lean ====
section
/-! DEFINITION. State of the redundant pair: link, shadow, witness lease (R306 to R331). -/

namespace Sys2Proof.Machine

/-- A piece of an Impression copy, R35: front buffer entries, a node's dynamic half, a pulse slot, a group's base level,
ramp and state, the schedule cursor (ms of UTC since 2000 of the latest evaluation), the tick executive (k, mode, cause,
clean and consecutive overrun counts), the queue heads (the latest frame of each bus and the latest mirrored input that the
state covers), a Trace slot, a bus's poll position and refresh pointer, a contactor's commanded state. -/
inductive ImpPiece where
  | front (entries : List (Nat × Nat))
  | dyn (index : Nat) (d : NodeDyn)
  | pulse (k : Nat) (p : Option Pulse)
  | heads (rxSeq : List Nat) (mirror : Nat)
  | group (g base : Nat) (ramp : Option SchedRamp) (st : GrpSt)
  | cursor (t : Option Int)
  | exec (k mode cause clean consec : Nat)
  | slot (k : Nat) (t : TraceSlot)
  | bus (b pollPos refPtr : Nat)
  | contactor (j : Nat) (on : Bool)
deriving DecidableEq, Repr

/-- A mirrored input, R311: a register write, an identity half, a DRIVE_CAP, a sample-point word. -/
inductive MirrorIn where
  | write (addr : Nat) (v : Word)
  | ident (index : Nat) (n : NodeId)
  | cap (index v : Nat)
  | samplePt (bus : Nat) (w : Word)
deriving DecidableEq, Repr

/-- A piece of the formation sync, R308: of the MRAM configuration region a register word, the street graph, a schedule
entry, a holiday, a scene; an identity half; the end. -/
inductive SyncPiece where
  | cfg (addr : Nat) (v : Word)
  | graph (g : Graph)
  | sched (i : Nat) (e : SchedEnt)
  | holiday (i : Nat) (v : Word)
  | scene (i : Nat) (v : Word)
  | ident (index : Nat) (n : NodeId)
  | last
deriving DecidableEq, Repr

/-- A witness message, R316. -/
structure WitMsg where
  typ : Nat
  flags : Nat
  unit : Nat
  pairId : Nat
  seq : Nat
  remain : Nat
  tag : List Nat
deriving DecidableEq, Repr

/-- A partner STATUS, R310. -/
structure StatusMsg where
  num : Nat
  role : Nat
  unit : Nat
  pairId : Nat
  period : Nat
  witOk : Bool
  lease : Bool
  fit : Bool
deriving DecidableEq, Repr

/-- A CUT, R310: the receive sequence number frozen per bus, the latest MIRROR frozen, UTC_OFS.CUR, the sensed contactor
states, and the arrival less the link latency against the own edge in ns (R314). -/
structure CutMsg where
  num : Nat
  rxSeq : List Nat
  mirror : Nat
  utcOfs : Int
  sensed : List Bool
  ofs : Int
deriving DecidableEq, Repr

/-- An IMP_END, R310, with its arrival in µs after the edge and whether the copy's CRC holds. -/
structure ImpEndMsg where
  num : Nat
  csum : Word
  digest : Word
  fv : List Nat
  kb : Nat
  ok : Bool
  us : Nat
deriving DecidableEq, Repr

/-- The pair beside its pages: whether this module is paired (loaded at its first edge), whether it has stopped starting
frames, the end of the latest module frame (ns); the role that waits for the edge, with its fence cause and the kind of
switch-over; the partner's latest STATUS with the ticks since; MIRROR numbers sent and received and the inputs that
wait; the copy being received and whether the tick's IMP_END has come; compared ticks in a row, whether a mismatch waits
for a copy in time, the sums at the edge, whether the tick before used its own cut, the limiters; the frozen detections of
the tick; the formation (its start tick, whether its data are in); the heartbeat conditions, the latest heartbeat (SEQ, ns,
whether it still waits, its FLAGS), the local lease's end in ns; whether LEASE_LOST has been told; the swap that waits; the second of
the latest change of ACTIVE; whether the tick numbers have been aligned; how far the inputs had come at the latest edge
(receive sequence number per bus, MIRROR number); the cut sent at it, and the Impression snapshot taken there, which the copy
carries; the latest IMP_END, STATUS, MIRROR and YIELD (its tick and the end of the last frame) sent; the bytes of the latest
heartbeat on its path; whether WIT_UNREACHABLE has been told without a WIT_RESTORED since. -/
structure PairSt where
  paired : Bool := false
  quiet : Bool := false
  lastEnd : Option Nat := none
  next : Option (Nat × Nat) := none
  kind : Nat := 0
  peer : Option StatusMsg := none
  peerAge : Nat := 0
  mirSent : Nat := 0
  mirGot : Option Nat := none
  mirror : List (Nat × MirrorIn) := []
  imp : List ImpPiece := []
  impGot : Bool := false
  run : Nat := 0
  rebase : Bool := false
  csum : Word := 0
  digest : Word := 0
  ownPrev : Bool := false
  mismAt : Option Nat := none
  missAt : Option Nat := none
  frozen : List Detection := []
  syncAt : Option Nat := none
  synced : Bool := false
  claim : Bool := false
  request : Bool := false
  release : Bool := false
  hbSeq : Nat := 0
  hbAt : Nat := 0
  hbWait : Bool := false
  hbFlags : Nat := 0
  leaseEnd : Option Nat := none
  told : Bool := false
  swap : Bool := false
  swapAt : Nat := 0
  aligned : Bool := false
  mark : List Nat := []
  mirMark : Option Nat := none
  cutOut : Option CutMsg := none
  out : List ImpPiece := []
  endOut : Option ImpEndMsg := none
  statusOut : Option StatusMsg := none
  mirOut : Option (Nat × MirrorIn) := none
  yieldOut : Option (Nat × Option Nat) := none
  hbOut : List Nat := []
  witLost : Bool := false
deriving DecidableEq, Repr

/-- The pair as after reset. -/
def PairSt.init : PairSt := { }

end Sys2Proof.Machine
end

