-- ==== Sys2Proof/Syntax.lean ====
section
/-! DEFINITION. The commands: one constructor for each row of the opcode table, with the operands that its rule names.
`ini` is the initiator of a register access (R37), `a` a window offset, `page` a page number. -/

namespace Sys2Proof

open Sys2Proof.Machine

inductive Instr where
  /-- REGISTER_WRITE, R12. -/
  | registerWrite (ini a size : Nat) (v : Word)
  /-- ACCESS_TIMEOUT, R45. -/
  | accessTimeout (ini a : Nat) (write : Bool)
  /-- SPLIT_LO_READ, R39. -/
  | splitLoRead (ini a : Nat)
  /-- SPLIT_HI_WRITE, R39. -/
  | splitHiWrite (ini a : Nat) (v : Word)
  /-- SPLIT_LO_WRITE, R39. -/
  | splitLoWrite (ini a : Nat) (v : Word)
  /-- ERR_CAP_READ, R41. -/
  | errCapRead (ini page : Nat)
  /-- BUSERR_READ, R48. -/
  | buserrRead (ini : Nat) (info : Bool)
  /-- RST_CAUSE_READ, R48. -/
  | rstCauseRead (ini : Nat)
  /-- IRQ_STAT_CLEAR, R42. -/
  | irqStatClear (ini page : Nat) (v : Word)
  /-- BLOCK_ENABLE, R41. -/
  | blockEnable (ini page : Nat)
  /-- BLOCK_DISABLE, R41. -/
  | blockDisable (ini page : Nat)
  /-- BLOCK_STOP_POINT, R41. -/
  | blockStopPoint (page : Nat)
  /-- SOFT_RESET, R44. -/
  | softReset (ini page : Nat)
  /-- SOFT_RESET_DONE, R44. -/
  | softResetDone (page : Nat)
  /-- FLUSH, R44. -/
  | flush (ini page : Nat)
  /-- FLUSH_DONE, R44. -/
  | flushDone (page : Nat)
  /-- LOCK_WRITE, R46. -/
  | lockWrite (ini page : Nat) (v : Word)
  /-- UNLOCK_EXPIRE, R46. -/
  | unlockExpire (page : Nat)
  /-- BLOCK_WATCHDOG_EXPIRE, R415. -/
  | blockWatchdogExpire (page : Nat)
  /-- SYS_RST_CMD, R48. -/
  | sysRstCmd (ini : Nat)
  /-- MODULE_RESET, R47. -/
  | moduleReset
  /-- COLD_RESET, R47. -/
  | coldReset
  /-- DEBUG_RESET_REQUEST, R414. -/
  | debugResetRequest
  /-- RT_WATCHDOG_EXPIRE, R415. -/
  | rtWatchdogExpire
  /-- SUPERVISOR_RESET, R415. -/
  | supervisorReset (cause : Nat)
  /-- TICK_EDGE, R53. -/
  | tickEdge (dt : Nat) (err : Int) (cur : List Nat)
  /-- OWN_CUT, R57. -/
  | ownCut
  /-- HATCH_RUN_START, R72. -/
  | hatchRunStart
  /-- HATCH_RUN_DONE, R95. -/
  | hatchRunDone (us : Nat)
  /-- HATCH_WINDOW_END, R58. -/
  | hatchWindowEnd (us : Nat)
  /-- COMPOSE_START, R104. -/
  | composeStart
  /-- COMPOSE_DONE, R109. -/
  | composeDone (us : Nat)
  /-- TICK_COMPOSE_MISS, R62. -/
  | tickComposeMiss (nodes : Nat)
  /-- TICK_IMP_LATE, R54. -/
  | tickImpLate (bytes : Nat)
  /-- IMP_COPY_COMPLETE, R54. -/
  | impCopyComplete
  /-- GUARD_BAND, R55. -/
  | guardBand
  /-- GRAPH_OPEN, R76. -/
  | graphOpen (ini : Nat)
  /-- GRAPH_COMMIT, R77. -/
  | graphCommit (ini : Nat)
  /-- GRAPH_ABORT, R78. -/
  | graphAbort (ini : Nat)
  /-- GRAPH_RECORD_STORE, R76. -/
  | graphRecordStore (ini w : Nat) (v : Word)
  /-- GRAPH_VALIDATION_DONE, R77. -/
  | graphValidationDone
  /-- GRAPH_PERSIST_DONE, R78. -/
  | graphPersistDone
  /-- PLATE_WIN_READ, R119. -/
  | plateWinRead (ini : Nat)
  /-- BROKEN_CLEAR, R113. -/
  | brokenClear (ini k : Nat) (v : Word)
  /-- LATCH_CLR, R113. -/
  | latchClr (ini : Nat) (v : Word)
  /-- CO_CMD_WRITE, R114. -/
  | coCmdWrite (ini : Nat) (v : Word)
  /-- CO_PULSE_START, R115. -/
  | coPulseStart (j : Nat)
  /-- CO_PULSE_END, R115. -/
  | coPulseEnd (j : Nat)
  /-- CO_FEEDBACK_READ, R115. -/
  | coFeedbackRead (j : Nat)
  /-- CO_RETRY_PULSE, R115. -/
  | coRetryPulse (j : Nat)
  /-- CO_EXTERNAL, R116. -/
  | coExternal (j : Nat) (level : Bool)
  /-- EVAL_HOLD_EXPIRE, R117. -/
  | evalHoldExpire (j : Nat)
  /-- FB_FRAME_START, R139. -/
  | fbFrameStart (b us : Nat)
  /-- FB_TAG_RESPONSE, R134. -/
  | fbTagResponse (b : Nat)
  /-- FB_TAG_TIMEOUT, R136. -/
  | fbTagTimeout (b : Nat)
  /-- FB_WINDOW_CLOSE, R141. -/
  | fbWindowClose (b w : Nat)
  /-- FB_FRAME_SENT, R154. -/
  | fbFrameSent (b us : Nat) (sof : Int) (tec rec_ : Nat)
  /-- FB_FRAME_RECEIVED, R170. -/
  | fbFrameReceived (b : Nat) (f : RxFrame)
  /-- FB_ERROR, R148. -/
  | fbError (b code : Nat) (dataPhase : Bool) (id : Nat) (own : Bool) (tec rec_ : Nat)
  /-- FB_RECOVERED, R149. -/
  | fbRecovered (b : Nat)
  /-- FB_STORM_END, R149. -/
  | fbStormEnd (b : Nat)
  /-- FB_RATE_DETECTED, R147. -/
  | fbRateDetected (b arb data : Nat)
  /-- FB_RATE_NONE, R147. -/
  | fbRateNone (b : Nat)
  /-- MO_TX_REQUEST, R154. -/
  | moTxRequest (ini b i : Nat) (v : Word)
  /-- MO_RX_ARM, R155. -/
  | moRxArm (ini b i : Nat) (v : Word)
  /-- POLL_RESPONSE_TIMEOUT, R172. -/
  | pollResponseTimeout (b : Nat)
  /-- FAULT_EVENT_HOLD_EXPIRE, R175. -/
  | faultEventHoldExpire (i code : Nat)
  /-- NODE_PLAN, R176. -/
  | nodePlan (ini index : Nat)
  /-- NODE_UNPLAN, R186. -/
  | nodeUnplan (ini index : Nat)
  /-- NODE_DECOMMISSION, R186. -/
  | nodeDecommission (ini index : Nat)
  /-- NODE_QUARANTINE, R180. -/
  | nodeQuarantine (ini index : Nat)
  /-- NODE_UNQUARANTINE, R180. -/
  | nodeUnquarantine (ini index : Nat)
  /-- NODE_RECOMMISSION, R181. -/
  | nodeRecommission (ini index : Nat)
  /-- NODE_IDENT, R171. -/
  | nodeIdent (ini index : Nat)
  /-- NODE_MOVE, R186. -/
  | nodeMove (ini index arg : Nat)
  /-- NODE_WINK, R168. -/
  | nodeWink (ini index arg : Nat)
  /-- NODE_CMD_RESEND, R168. -/
  | nodeCmdResend (b a op : Nat)
  /-- PROBE_OUTCOME, R177. -/
  | probeOutcome (b : Nat) (busy : Bool)
  /-- KEY_INSTALL_TIMEOUT, R179. -/
  | keyInstallTimeout (i : Nat)
  /-- RECOM_RELEASE, R181. -/
  | recomRelease (i : Nat)
  /-- NODE_RECOM_FAIL, R181. -/
  | nodeRecomFail (i : Nat)
  /-- KEY_ROLLOUT_SWITCH, R343. -/
  | keyRolloutSwitch (b : Nat)
  /-- SAT_WINDOW_END, R182. -/
  | satWindowEnd (i : Nat)
  /-- NODE_ENT_READ, R186. -/
  | nodeEntRead (ini k : Nat)
  /-- NODE_ENT_WRITE, R186. -/
  | nodeEntWrite (ini k : Nat) (v : Word)
  /-- DI_CONFIRM, R183. -/
  | diConfirm (i : Nat)
  /-- DI_STUCK, R183. -/
  | diStuck (i : Nat)
  /-- MET_WINDOW_END, R192. -/
  | metWindowEnd (n : Nat) (w : MetWin)
  /-- MET_WIN_CNT_READ, R192. -/
  | metWinCntRead (ini n : Nat)
  /-- MET_ENERGY_SAVE, R196. -/
  | metEnergySave
  /-- TRACE_START, R202. -/
  | traceStart (ini node : Nat)
  /-- TRACE_DECISION, R203. -/
  | traceDecision (k : Nat)
  /-- CAL_CH_SEL, R206. -/
  | calChSel (ini : Nat) (v : Word)
  /-- CAL_COMMIT, R206. -/
  | calCommit (ini : Nat)
  /-- RTC_SECOND, R220. -/
  | rtcSecond (dev : Int)
  /-- RTC_STAGE_WRITE, R220. -/
  | rtcStageWrite (ini w : Nat) (v : Word)
  /-- RTC_STAGE_CANCEL, R220. -/
  | rtcStageCancel (ini : Nat)
  /-- RTC_SEC_LO_READ, R219. -/
  | rtcSecLoRead (ini : Nat)
  /-- RTC_CRYSTAL_STOP, R217. -/
  | rtcCrystalStop
  /-- RTC_CRYSTAL_START, R217. -/
  | rtcCrystalStart
  /-- WAKE_TIMER_EXPIRE, R221. -/
  | wakeTimerExpire
  /-- WAKE_CFG_WRITE, R221. -/
  | wakeCfgWrite (ini : Nat) (v : Word)
  /-- PTP_SYNC_RECEIVED, R223. -/
  | ptpSyncReceived (h : PtpHdr) (port seq : Nat) (twoStep : Bool) (sec ns : Nat) (corr rx : Int)
  /-- PTP_ANNOUNCE_RECEIVED, R223. -/
  | ptpAnnounceReceived (h : PtpHdr) (port : Nat) (m : AnnounceMsg)
  /-- PTP_DELAY_RESP_RECEIVED, R222. -/
  | ptpDelayRespReceived (h : PtpHdr) (port seq sec ns : Nat) (corr : Int)
  /-- PTP_DELAY_REQ_SEND, R232. -/
  | ptpDelayReqSend (k seq : Nat) (t : Int)
  /-- PTP_TIMEOUT, R223. -/
  | ptpTimeout (k : Nat)
  /-- GNSS_SENTENCE_RECEIVED, R224. -/
  | gnssSentenceReceived (kind sec : Nat) (ok : Bool)
  /-- PPS_IN_EDGE, R224. -/
  | ppsInEdge (t : Int)
  /-- GNSS_LOST, R224. -/
  | gnssLost (reason : Nat)
  /-- SRC_REVERT, R225. -/
  | srcRevert (k : Nat)
  /-- TIME_RTC_FALLBACK, R226. -/
  | timeRtcFallback
  /-- STEP_WAIT_END, R229. -/
  | stepWaitEnd
  /-- TIME_LEAP, R213. -/
  | timeLeap
  /-- RTC_DISCIPLINE, R216. -/
  | rtcDiscipline (cyc : Int) (trim : Option Int)
  /-- PPS_OUT_PULSE, R234. -/
  | ppsOutPulse
  /-- TIME_NOW_READ, R237. -/
  | timeNowRead (ini : Nat)
  /-- SCHED_ENT_STAGE, R242. -/
  | schedEntStage (ini w : Nat) (v : Word)
  /-- SCHED_ENT_COMMIT, R242. -/
  | schedEntCommit (ini : Nat) (v : Word)
  /-- SCHED_ENT_READ, R242. -/
  | schedEntRead (ini : Nat)
  /-- SCHED_FB_SAVE, R253. -/
  | schedFbSave (ini lvl : Nat)
  /-- SCHED_FB_SAVED, R253. -/
  | schedFbSaved
  /-- SW_FRAME_FORWARD, R257. -/
  | swFrameForward (p : Nat) (f : NetFrame)
  /-- MAC_AGE, R257. -/
  | macAge (vid mac : Nat)
  /-- RING_SF, R259. -/
  | ringSf (n : Nat)
  /-- RING_SIGNAL_RESTORE, R259. -/
  | ringSignalRestore (n : Nat)
  /-- RAPS_RECEIVED, R259. -/
  | rapsReceived (m : RapsMsg)
  /-- WTR_EXPIRE, R259. -/
  | wtrExpire
  /-- HOLDOFF_EXPIRE, R259. -/
  | holdoffExpire (n : Nat)
  /-- GUARD_EXPIRE, R259. -/
  | guardExpire
  /-- ERPS_FORCED_SWITCH, R261. -/
  | erpsForcedSwitch (ini port : Nat)
  /-- ERPS_MANUAL_SWITCH, R261. -/
  | erpsManualSwitch (ini port : Nat)
  /-- ERPS_CLEAR, R261. -/
  | erpsClear (ini : Nat)
  /-- ERPS_CFG_WRITE, R261. -/
  | erpsCfgWrite (ini : Nat) (v : Word)
  /-- RING_SFP, R261. -/
  | ringSfp (n : Nat) (inserted fault : Bool)
  /-- PORT_LINK_UP, R270. -/
  | portLinkUp (n mbps : Nat)
  /-- PORT_LINK_DOWN, R270. -/
  | portLinkDown (n : Nat)
  /-- DTLS_HANDSHAKE, R264. -/
  | dtlsHandshake (h : DtlsHello)
  /-- LSP_REG_BATCH, R266. -/
  | lspRegBatch (k queued core : Nat) (m : List Nat)
  /-- EVENT_ACK, R268. -/
  | eventAck (k : Nat) (m : List Nat)
  /-- LSP_EVENT_RESEND, R268. -/
  | lspEventResend (k seq : Nat)
  /-- KEEPALIVE, R269. -/
  | keepalive (k : Nat)
  /-- KEEPALIVE_RECEIVED, R269. -/
  | keepaliveReceived (k : Nat) (m : List Nat)
  /-- LSP_SESSION_DOWN, R269. -/
  | lspSessionDown (k : Nat) (alert : Bool)
  /-- IU_DELIVERY, R278. -/
  | iuDelivery (c : Nat)
  /-- IU_EOI, R279. -/
  | iuEoi (c src : Nat)
  /-- IU_DOORBELL_SET, R281. -/
  | iuDoorbellSet (ini : Nat) (v : Word)
  /-- IU_DOORBELL_CLEAR, R281. -/
  | iuDoorbellClear (ini : Nat) (v : Word)
  /-- COAL_OPEN, R282. -/
  | coalOpen (g : Nat)
  /-- QUEUE_STAGE_WRITE, R285. -/
  | queueStageWrite (ini q w : Nat) (v : Word)
  /-- QUEUE_PUSH, R285. -/
  | queuePush (ini q : Nat) (v : Word)
  /-- QUEUE_POP, R285. -/
  | queuePop (ini q : Nat)
  /-- QUEUE_LATCH_READ, R285. -/
  | queueLatchRead (ini q w : Nat)
  /-- QUEUE_ENABLE, R283. -/
  | queueEnable (ini : Nat) (v : Word)
  /-- QUEUE_FLUSH, R287. -/
  | queueFlush (ini : Nat)
  /-- QM_STALL, R289. -/
  | qmStall (q : Nat)
  /-- HOST_ACCESS, R294. -/
  | hostAccess (a size : Nat) (write : Bool) (v : Word)
  /-- HDB_SET, R295. -/
  | hdbSet (v : Word)
  /-- HDB_CLEAR, R295. -/
  | hdbClear (ini : Nat) (v : Word)
  /-- CPL_CMD, R296. -/
  | cplCmd (ini : Nat) (v : Word)
  /-- CQ_ENTRY_WRITE, R296. -/
  | cqEntryWrite (k : Nat)
  /-- CQ_HEAD_WRITE, R296. -/
  | cqHeadWrite (v : Word)
  /-- MOD_TIMER_EXPIRE, R297. -/
  | modTimerExpire (k : Nat)
  /-- MSIX_SEND, R297. -/
  | msixSend (k : Nat)
  /-- HOST_WAKE, R298. -/
  | hostWake (d0 : Bool)
  /-- PCIE_RESET, R299. -/
  | pcieReset (cause : Nat)
  /-- PCIE_LINK, R300. -/
  | pcieLink (up : Bool) (speed width : Nat)
  /-- BYELL_UP, R309. -/
  | byellUp (lanes : Nat)
  /-- BYELL_DOWN, R309. -/
  | byellDown
  /-- BYELL_LANE, R309. -/
  | byellLane (lane : Nat)
  /-- CUT_RECEIVED, R310. -/
  | cutReceived (m : CutMsg) (ok : Bool)
  /-- MIRROR_RECEIVED, R311. -/
  | mirrorReceived (seq : Nat) (x : MirrorIn) (ok : Bool)
  /-- IMP_DATA_RECEIVED, R310. -/
  | impDataReceived (l : List ImpPiece) (ok : Bool)
  /-- IMP_END_RECEIVED, R313. -/
  | impEndReceived (m : ImpEndMsg)
  /-- STATUS_RECEIVED, R310. -/
  | statusReceived (m : StatusMsg) (ok : Bool)
  /-- STATUS_TIMEOUT, R320. -/
  | statusTimeout
  /-- YIELD_RECEIVED, R319. -/
  | yieldReceived (lastEnd : Nat) (ok : Bool)
  /-- SYNC_DATA_RECEIVED, R308. -/
  | syncDataReceived (x : SyncPiece) (ok : Bool)
  /-- FORMATION_TIMEOUT, R308. -/
  | formationTimeout
  /-- JOIN_CLAIM_TIMEOUT, R308. -/
  | joinClaimTimeout
  /-- WIT_HEARTBEAT, R317. -/
  | witHeartbeat
  /-- WIT_REPLY_RECEIVED, R317. -/
  | witReplyReceived (m : WitMsg)
  /-- WIT_REPLY_TIMEOUT, R317. -/
  | witReplyTimeout
  /-- LEASE_LOST, R322. -/
  | leaseLost
  /-- PAIR_SWAP, R325. -/
  | pairSwap (ini : Nat)
  /-- PAIR_FENCE, R319. -/
  | pairFence (ini : Nat)
  /-- PAIR_UNFENCE, R307. -/
  | pairUnfence (ini : Nat)
  /-- SWAP_PERIOD_EXPIRE, R325. -/
  | swapPeriodExpire
  /-- GROUND_PORT_REQUEST, R335. -/
  | groundPortRequest (port : Nat) (data extra : List Nat)
  /-- MBX_IN_WRITE, R352. -/
  | mbxInWrite (ini : Nat) (v : Word)
  /-- MBX_OUT_READ, R352. -/
  | mbxOutRead (ini : Nat)
  /-- GROUND_KEY_UPDATE, R340. -/
  | groundKeyUpdate
  /-- GROUND_PUBKEY, R333. -/
  | groundPubkey (slot : Nat)
  /-- GROUND_SIGN, R334. -/
  | groundSign (slot : Nat) (msg : List Nat)
  /-- GROUND_CMAC, R334. -/
  | groundCmac (slot : Nat) (msg : List Nat)
  /-- GROUND_AEAD_ENC, R334. -/
  | groundAeadEnc (slot : Nat) (head msg : List Nat)
  /-- GROUND_AEAD_DEC, R334. -/
  | groundAeadDec (slot : Nat) (head msg : List Nat)
  /-- GROUND_RANDOM, R352. -/
  | groundRandom (n : Nat)
  /-- GROUND_GENERATE, R339. -/
  | groundGenerate (slot : Nat)
  /-- GROUND_COMMAND_DONE, R340. -/
  | groundCommandDone
  /-- TAMPER, R347. -/
  | tamper (src : Nat) (active vioC : Bool)
  /-- TAMP_LATCH_CLEAR, R347. -/
  | tampLatchClear (ini : Nat) (v : Word)
  /-- DBG_NEW_CHAL, R349. -/
  | dbgNewChal (ini : Nat)
  /-- DBG_REQUEST, R349. -/
  | dbgRequest (ini level : Nat)
  /-- DBG_END, R349. -/
  | dbgEnd (ini : Nat)
  /-- DBG_CHAL_EXPIRE, R349. -/
  | dbgChalExpire
  /-- DBG_LOCKOUT_END, R349. -/
  | dbgLockoutEnd
  /-- RT_HALT, R416. -/
  | rtHalt
  /-- RT_RESUME, R416. -/
  | rtResume
  /-- BULK_OPEN, R358. -/
  | bulkOpen (src : Nat) (m : List Nat)
  /-- BULK_DATA, R363. -/
  | bulkData (src : Nat) (m : List Nat)
  /-- BULK_ACK, R360. -/
  | bulkAck (k : Nat) (m : List Nat)
  /-- BULK_ACK_SEND, R360. -/
  | bulkAckSend
  /-- BULK_CHUNK_RESEND, R360. -/
  | bulkChunkResend (k c : Nat)
  /-- BULK_OPEN_RESEND, R362. -/
  | bulkOpenResend (k : Nat)
  /-- BULK_STREAM_TIMEOUT, R363. -/
  | bulkStreamTimeout
  /-- BULK_CLOSE_DONE, R359. -/
  | bulkCloseDone (src : Nat) (m : List Nat)
  /-- BULK_CLOSE_ABORT, R366. -/
  | bulkCloseAbort (src : Nat) (m : List Nat)
  /-- BULK_CLOSE_ACTIVATE, R370. -/
  | bulkCloseActivate (src : Nat) (m : List Nat)
  /-- BULK_CLOSE_REVERT, R373. -/
  | bulkCloseRevert (src : Nat) (m : List Nat)
  /-- UPD_VERIFY_DONE, R364. -/
  | updVerifyDone
  /-- UPD_DEADLINE, R370. -/
  | updDeadline
  /-- UPD_CMD_ACTIVATE, R370. -/
  | updCmdActivate (ini : Nat)
  /-- UPD_CMD_ABORT, R366. -/
  | updCmdAbort (ini : Nat)
  /-- UPD_CMD_CONFIRM, R373. -/
  | updCmdConfirm (ini : Nat)
  /-- UPD_CMD_REVERT, R373. -/
  | updCmdRevert (ini : Nat)
  /-- UPD_ARM_TIMEOUT, R370. -/
  | updArmTimeout
  /-- UPD_PARTNER_TIMEOUT, R371. -/
  | updPartnerTimeout
  /-- LOADER_UNIT_DONE, R372. -/
  | loaderUnitDone
  /-- LOADER_EXCHANGE_DONE, R372. -/
  | loaderExchangeDone
  /-- UPD_STABLE_CONFIRM, R373. -/
  | updStableConfirm
  /-- UPD_NODE_CONFIRM_TIMEOUT, R374. -/
  | updNodeConfirmTimeout
  /-- UPD_CONTAINER_RELEASE, R374. -/
  | updContainerRelease
  /-- REC_WRITE_DONE, R381. -/
  | recWriteDone
  /-- LOG_DEGRADED, R384. -/
  | logDegraded (cause : Nat)
  /-- REC_TRIAL_WRITE, R385. -/
  | recTrialWrite (ok : Bool)
  /-- LOG_RESTORED, R385. -/
  | logRestored
  /-- REC_RD_SEL_WRITE, R387. -/
  | recRdSelWrite (ini : Nat) (v : Word)
  /-- REC_RD_WIN0_READ, R387. -/
  | recRdWin0Read (ini : Nat)
  /-- REC_RD_WIN15_READ, R387. -/
  | recRdWin15Read (ini : Nat)
  /-- REC_QUOTA_WRITE, R383. -/
  | recQuotaWrite (ini : Nat) (v : Word)
  /-- REC_APP_POST, R380. -/
  | recAppPost (ini : Nat) (v : Word)
  /-- AGE_MEASURE, R388. -/
  | ageMeasure (k : Nat) (v : Int)
  /-- NAND_SCAN_DONE, R390. -/
  | nandScanDone (v : Nat)
  /-- SCAP_TEST_START, R391. -/
  | scapTestStart
  /-- AGE_SCAP_TEST, R391. -/
  | ageScapTest (c esr : Nat)
  /-- SAMPLE_POINT_REPLAN, R392. -/
  | samplePointReplan (b : Nat)
  /-- DRIVE_CAP_REPLAN, R393. -/
  | driveCapReplan
  /-- AGE_CMD_MEASURE, R394. -/
  | ageCmdMeasure (ini : Nat)
  /-- AGE_CMD_SCAP_TEST, R391. -/
  | ageCmdScapTest (ini : Nat)
  /-- POWER_GOOD_RISE, R398. -/
  | powerGoodRise (vin : Nat)
  /-- POWER_GOOD_FALL, R398. -/
  | powerGoodFall (vin : Nat) (vbat : Bool)
  /-- VHOLD_READY, R399. -/
  | vholdReady (mv : Nat)
  /-- RIDE_THROUGH_END, R411. -/
  | rideThroughEnd
  /-- POWER_DOWN_DONE, R411. -/
  | powerDownDone (vbat : Bool)
  /-- PWR_VIN_RETURN, R407. -/
  | pwrVinReturn (vin : Nat)
  /-- PWR_CMD_RUN, R407. -/
  | pwrCmdRun (ini : Nat)
  /-- PWR_CMD_LOW, R407. -/
  | pwrCmdLow (ini : Nat)
  /-- PWR_CMD_STANDBY, R408. -/
  | pwrCmdStandby (ini : Nat)
  /-- DOMAIN_RST_APP, R413. -/
  | domainRstApp (ini : Nat)
  /-- DOMAIN_RST_NET, R413. -/
  | domainRstNet (ini : Nat)
  /-- NET_WATCHDOG_EXPIRE, R413. -/
  | netWatchdogExpire
  /-- CORE_WATCHDOG_EXPIRE, R415. -/
  | coreWatchdogExpire (n : Nat)
  /-- WDOG_KICK, R420. -/
  | wdogKick (ini : Nat) (v : Word)
  /-- PWR_WAKE, R407. -/
  | pwrWake
  /-- VIN_LOST_STANDBY, R407. -/
  | vinLostStandby (vbat : Bool)
  /-- BOOT_STAGE_DONE, R400. -/
  | bootStageDone (ok : Bool) (ms : Nat)
  /-- BOOT_STAGE_DEADLINE, R400. -/
  | bootStageDeadline (ms : Nat)
  /-- ROM_EXEC_RESET, R403. -/
  | romExecReset
  /-- BOOT_RETRY_ALL, R419. -/
  | bootRetryAll (ini : Nat)
  /-- BOOT_RETRY_SEL, R419. -/
  | bootRetrySel (ini stage : Nat)
  /-- NODE_HISTORY_RECORD, R173. -/
  | nodeHistoryRecord
  /-- FEEDER_HISTORY_RECORD, R198. -/
  | feederHistoryRecord
  /-- RC_REGISTER_READ, R12. -/
  | rcRegisterRead (ini a size : Nat)
  /-- AGE_MARGIN_READ, R397. -/
  | ageMarginRead (ini : Nat)
  /-- HARM_WIN_READ, R208. -/
  | harmWinRead (ini n : Nat)
  /-- BYELL_LANE_RESTORED, R309. -/
  | byellLaneRestored
  /-- PCIE_HOST_SLEEP, R298. -/
  | pcieHostSleep (l1 d3 : Bool)
  /-- MSIX_VECTOR_UNMASK, R297. -/
  | msixVectorUnmask (v : Nat)
  /-- PTP_FOLLOW_UP_RECEIVED, R222. -/
  | ptpFollowUpReceived (h : PtpHdr) (port seq sec ns : Nat) (corr : Int)
  /-- DI_CHATTER_WINDOW_END, R183. -/
  | diChatterWindowEnd (i : Nat)
  /-- DI_LEVEL_CHANGE, R183. -/
  | diLevelChange (i : Nat) (level vioC : Bool)
  /-- FB_INTEGRATED, R157. -/
  | fbIntegrated (b : Nat)
  /-- CAL_COMMIT_DONE, R206. -/
  | calCommitDone
deriving DecidableEq, Repr

end Sys2Proof
end

