-- ==== Sys2Proof/Config.lean ====
section
/-! DEFINITION. What an implementation fixes and the values the spec leaves open: constants with no body, so that no
proof can see what they are. -/

namespace Sys2Proof

/-- A free word for each draw: values the spec leaves open.  Log entry 5. -/
opaque Config.freeWord : Nat → Word

/-- The four words of the 128-bit device UID, fixed per device (R48).  Log entry 6. -/
opaque Config.uid : Nat → Word

/-- Ordering code: true for GS-4096-AX (R4, SYS.ORDER).  Log entry 6. -/
opaque Config.gradeAX : Bool

/-- How the base MAC address is derived from the device UID (R258): the spec gives no function.  Log entry 6. -/
opaque Config.macOfUid : List Word → Nat

/-- A free number for each draw, from which a new P-384 private key and the number that a signature uses once are made (R334,
R339).  Log entry 161. -/
opaque Config.freeScalar : Nat → Nat

/-- The keys of slots 0 and 1, written at manufacture (R332).  Log entry 6. -/
opaque Config.deviceKey : Nat → Nat

/-- The Dainaing manufacturing anchor pair in Ground's read-only memory (R332).  Log entry 6. -/
opaque Config.mfrAnchor : Nat

/-- A key slot whose cells do not read back zeros after a zeroize (R341).  Log entry 6. -/
opaque Config.stuckSlot : Nat → Bool

/-- The nominals of items 0 to 8 of Burnish, taken in the factory (R388).  Log entry 6. -/
opaque Config.ageFactory : Nat → Int

/-- The fractional delay of R190 on the latest 32 corrected codes of a channel, newest first, for a PHASE; the spec gives
neither the interpolator's coefficients nor its group delay.  Log entry 85. -/
opaque Config.fracDelay : Int → List Int → BitVec 24

/-- Point k of 1,024 of a window resampled (R194), in 1/65,536 of a code; the spec gives no resampling filter.  Log entry
85. -/
opaque Config.resample : List Int → Nat → Int

/-- The trigonometric functions of R249 on IEEE 754 binary64 words, in degrees; the spec gives no bit-exact definition of them.
Log entry 8. -/
opaque Config.f64sind : BitVec 64 → BitVec 64
opaque Config.f64cosd : BitVec 64 → BitVec 64
opaque Config.f64acosd : BitVec 64 → BitVec 64

/-- llround of a word that is no number or lies beyond 64 bits.  Log entry 8. -/
opaque Config.llroundOpen : BitVec 64 → Int

end Sys2Proof
end

