-- ==== Sys2Proof/Machine/TypesApp.lean ====
section
/-! DEFINITION. State of the interrupt unit (R275 to R282), the queue manager (R283 to R292) and the PCIe endpoint (R293
to R299). -/

namespace Sys2Proof.Machine

/-- A coalescing group, R282: OPEN or ARMED, edges counted, whether its timer runs. -/
structure CoalGrp where
  opened : Bool := false
  count : Nat := 0
  timer : Bool := false
deriving DecidableEq, Repr

/-- A group that is ARMED with nothing counted. -/
def CoalGrp.init : CoalGrp := { }

/-- The interrupt unit beside its pages: the priority stack of each core (top first: source and its priority at
delivery), the source selected by the entry sequence of each core, the groups, and the vector address to which each core
has last been made to jump. -/
structure IuSt where
  stack : Tab (List (Nat × Nat)) := []
  entry : Tab (Option Nat) := []
  coal : Tab CoalGrp := []
  vector : Tab (Option Nat) := []
deriving DecidableEq, Repr

/-- The interrupt unit as after reset. -/
def IuSt.init : IuSt := { }

/-- The queue manager beside its pages: items of each queue (oldest first, 8 words each), words staged and words
latched by (initiator * 64 + queue) * 8 + word, part-written and voided stagings by initiator * 64 + queue, STALLED,
queues whose pointer copies differ (R288), and the once-a-second limiters of QM_OVERFLOW with their counts. DEDUCED:
log entry 130. -/
structure QmSt where
  items : Tab (List (List Word)) := []
  stage : Tab Word := []
  part : Tab Bool := []
  torn : Tab Bool := []
  latch : Tab Word := []
  stalled : Tab Bool := []
  ptrBad : List Nat := []
  ovfAt : Tab (Option Nat) := []
  ovfCnt : Tab Nat := []
deriving DecidableEq, Repr

/-- The queue manager with empty queues. -/
def QmSt.init : QmSt := { }

/-- A completion queue beside its registers, R296, R297: PHASE, the held entries (oldest first, 4 words each), entries
counted since the previous message, whether the timer runs and whether a message is due, and the limiter of PCIE_CQ_OVF. -/
structure CqSt where
  phase : Bool := true
  held : List (List Word) := []
  unsig : Nat := 0
  timer : Bool := false
  due : Bool := false
  ovfAt : Option Nat := none
  ovfCnt : Nat := 0
deriving DecidableEq, Repr

/-- A completion queue as after reset. -/
def CqSt.init : CqSt := { }

/-- The PCIe endpoint beside its page: the completion queues, the staging (initiator * 4 + word) and CPL_STAT per
initiator, the words written to host memory by byte address, masked vectors and the pending bits of the MSI-X table,
messages sent per vector, and the level of WAKE_N (true: asserted). DESIGN CHOICE: log entry 129. -/
structure PcieSt where
  cq : Tab CqSt := []
  stage : Tab Word := []
  stat : Tab Nat := []
  hostMem : Tab Word := []
  unmasked : Tab Bool := []
  pba : Tab Bool := []
  sent : Tab Nat := []
  wake : Bool := false
deriving DecidableEq, Repr

/-- The endpoint as after reset. -/
def PcieSt.init : PcieSt := { }

end Sys2Proof.Machine
end

