-- ==== Sys2Proof/Machine/TypesGround.lean ====
section
/-! DEFINITION. State of Ground: key slots, mailbox, tamper, lifecycle and debug (R332 to R354). -/

namespace Sys2Proof.Machine

/-- A key slot (R332): state 0 EMPTY, 1 VALID, 2 REVOKED, 3 FAULTY; key type as coded in R339; parent slot (none:
255); the user USAGE bits; the key material; the generation of SEG; whether Ground generated the key pair (R333). -/
structure KeySlot where
  state : Nat := 0
  typ : Nat := 0
  parent : Nat := 255
  usage : Nat := 0
  mat : Nat := 0
  gen : Nat := 0
  own : Bool := false
deriving DecidableEq, Repr

/-- A slot as manufactured: ROOT and DEV_KEK are written, every other slot is EMPTY (R332). DESIGN CHOICE: log entry
10. -/
def KeySlot.made (i : Nat) : KeySlot :=
  if i = 0 then { state := 1, typ := 2, mat := Config.deviceKey 0 }
  else if i = 1 then { state := 1, typ := 2, parent := 0, mat := Config.deviceKey 1 }
  else { }

/-- One operation record of a key-update message (R339), with its material as bytes. -/
structure KeyOp where
  op : Nat
  slot : Nat
  typ : Nat
  parent : Nat
  usage : Nat
  len : Nat
  gen : Nat
  mat : List Nat
deriving DecidableEq, Repr

/-- WRITE operations that wait for ACT_TICK (R340). -/
structure KeyPend where
  act : Nat
  ops : List KeyOp
  ctr : Nat
  cnt : Nat
deriving DecidableEq, Repr

/-- Ground's non-volatile key store: slots, lifecycle state, key counter, POLICY and SRC_EN (R346), slots a GENERATE may
fill (R339), and the message held for its ACT_TICK. -/
structure KeyStore where
  slots : Tab KeySlot := []
  lc : Nat := 0
  ctr : Nat := 0
  policy : Nat := 1
  srcEn : Nat := 0x3F
  genAllow : List Nat := []
  pend : Option KeyPend := none
deriving DecidableEq, Repr

/-- A key store as manufactured. DESIGN CHOICE: log entry 10. -/
def KeyStore.made : KeyStore := { }

/-- The answer of a request port (R335): its result code as in R352 (0 OK), and the bytes released. -/
structure PortAns where
  code : Nat := 0
  bytes : List Nat := []
deriving DecidableEq, Repr

/-- Nothing asked yet. -/
def PortAns.init : PortAns := { }

/-- Ground while powered: started or bypassed, the operational lock, the mailbox (running command with the words it
still takes, input FIFO, words taken, output FIFO, the result its command will post), sources active now, an alarm
of the start-up (a COLD reset is one) or of a power-down state, the refused clear, port answers, previous session keys of buses in a rollout, the
challenge, its expiry and lockout times; a SEG written at this edge whose rollout has yet to start. -/
structure GroundSt where
  ready : Bool := false
  bypassed : Bool := false
  locked : Bool := false
  cmd : Option Nat := none
  need : Nat := 0
  fifo : List Word := []
  taken : List Word := []
  out : List Word := []
  result : Option Nat := none
  live : Nat := 0
  early : Bool := true
  refusedClear : Bool := false
  ans : Tab PortAns := []
  oldKey : Tab Nat := []
  resp : Tab Word := []
  chalAt : Option Nat := none
  lockAt : Option Nat := none
  asleep : Bool := false
  segNew : Bool := false
deriving DecidableEq, Repr

/-- Ground before its start. -/
def GroundSt.init : GroundSt := { }

end Sys2Proof.Machine
end

