-- ==== Sys2Proof/Machine/TypesSys.lean ====
section
/-! DEFINITION. State of the recorder and Burnish (R378 to R397), of bring-up, power and watchdogs (R398 to R420), and
of the access side of every page (R37 to R48). -/

namespace Sys2Proof.Machine

/-- A recorder record, R378: the fields software can read; VALID and CHECK follow from them. -/
structure Rec where
  code : Nat
  sev : Nat
  fallback : Bool
  copied : Bool
  unsync : Bool
  source : Nat
  index : Nat
  opsec : Nat
  pwrcyc : Nat
  tick : Nat
  role : Nat
  params : List Nat
  utc : Nat
deriving DecidableEq, Repr

/-- The open EVENTS_LOST record of slot 255, R382: its record, and the losses it counts by severity. -/
structure LostRec where
  base : Rec
  crit : Nat
  major : Nat
  minor : Nat
  info : Nat
deriving DecidableEq, Repr

/-- The recorder beside its page: the pending ring, the open EVENTS_LOST, records handed to the writer, per-initiator
read selection and latch, application parameters, the limiter of LOG_DROPPED, and where the writer stores. -/
structure RecSt where
  ring : List Rec := []
  lost : Option LostRec := none
  handed : List Rec := []
  mounted : Bool := false
  gasp : Bool := false
  copying : Bool := false
  rdSel : Tab Nat := []
  rdCfg : Tab Nat := []
  rdWin : Tab Word := []
  appParam : Tab Nat := []
  dropAt : Option Nat := none
deriving DecidableEq, Repr

/-- The recorder as after reset. -/
def RecSt.init : RecSt := { }

/-- One item of Burnish, R388: the second of its latest measurement, and of its latest LOW and OUT events. -/
structure AgeItem where
  measured : Bool := false
  value : Int := 0
  status : Nat := 0
  margin : Nat := 0
  since : Nat := 0
  lowAt : Option Nat := none
  outAt : Option Nat := none
deriving DecidableEq, Repr

/-- An item that has not been measured. -/
def AgeItem.init : AgeItem := { }

/-- Sample-point re-planning of one phase of one bus, R392: errors and frames of the latest hour, the direction of the
last move that lowered the rate (later until there is one), the latest move if the next hour judges it (with whether it
was a move back), the points moved from the configured value, and hours without an error. -/
structure SpPlan where
  lastErr : Nat := 0
  lastFrames : Nat := 0
  dir : Int := 1
  moved : Int := 0
  back : Bool := false
  ofs : Int := 0
  quiet : Nat := 0
deriving DecidableEq, Repr

/-- No sample-point move yet. -/
def SpPlan.init : SpPlan := { }

/-- Burnish beside its page: items, core rail in mV and the run of good samples (R389), a step waiting for the guard
band, NAND interval and good scans (R390), the capacitor test (R391) with the UTC hour of its latest start or deferral,
sample points (R392), the day's full-drive power sums per node (R393) with the day of the latest re-plan. -/
structure AgeSt where
  items : Tab AgeItem := []
  rail : Nat := 800
  railNext : Nat := 800
  goodRun : Nat := 0
  nandDays : Nat := 90
  goodScans : Nat := 0
  scapDue : Bool := false
  scapRun : Bool := false
  scapAt : Option Nat := none
  scapC : Nat := 470
  scapEsr : Nat := 500
  sp : Tab SpPlan := []
  capSum : Tab Nat := []
  capCnt : Tab Nat := []
  capDay : Option Nat := none
deriving DecidableEq, Repr

/-- Burnish as after reset: rail 800 mV (R389), interval 90 days (R390), C 470 mF and ESR 500 mΩ (R409). -/
def AgeSt.init : AgeSt := { }

/-- The power states, R406. -/
inductive PowerState where
  | run
  | low
  | holdup
  | standby
  | vbatOnly
  | off
deriving DecidableEq, Repr

/-- A MODULE reset that is being held, R414. -/
inductive ResetCause where
  | por
  | supv
  | wdog
  | cmd
  | dbg
  | wake
deriving DecidableEq, Repr

/-- Power, boot and watchdogs beside their pages: the state and, in HOLDUP, whether it came from LOW and the ns of entry;
power-down work begun (R411); a stay in HOLDUP since power-good; VIN in mV and power-good; VHOLD in mV, READY, CHARGING;
the powered domains; the real-time complex halted by debug (R416); the running boot stage (0 none), the stages still to
run, the ns at which the running one began and at which power-good rose, what each stage did in this boot (result, TAKEN,
ms); the ledger unreadable; the ROM executive; stage 24 completed; a loader exchange; edges generated; stage 10 begun and
stage 9 bypassed; a MODULE reset held, and whether its work was left out (R414); wake requests (bit 0 the wake timer,
bits 8 to 15 the DI inputs); the ns of each initiator's latest KICK; a COLD reset before the next power-up. -/
structure PwrSt where
  state : PowerState := .run
  fromLow : Bool := false
  holdAt : Nat := 0
  irrev : Bool := false
  throughHoldup : Bool := false
  vin : Nat := 0
  pgood : Bool := true
  vhold : Nat := 0
  ready : Bool := false
  charging : Bool := false
  appOn : Bool := true
  netOn : Bool := true
  halted : Bool := false
  stage : Nat := 0
  todo : List Nat := []
  stageAt : Nat := 0
  pgAt : Nat := 0
  results : Tab Nat := []
  taken : Tab Nat := []
  durs : Tab Nat := []
  noLedger : Bool := false
  romExec : Bool := false
  done : Bool := false
  exchange : Bool := false
  light : Bool := false
  leave : Bool := false
  noSched : Bool := false
  resetHold : Option ResetCause := none
  noHold : Bool := false
  wakeReq : Nat := 0
  kicks : Tab Nat := []
  cold : Bool := false
deriving DecidableEq, Repr

/-- Power and boot as after a MODULE reset: RUN with power-good, no stage run. -/
def PwrSt.init : PwrSt := { }

/-- The volatile memories of R28 that no page shows, byte by byte: the tightly coupled memory (512 KB), the L2 cache (1 MB), the
LPDDR4X (4 GB).  A byte that nothing has written reads 0. DESIGN CHOICE: log entry 194. -/
structure VolMem where
  tcm : Tab Byte := []
  l2 : Tab Byte := []
  dram : Tab Byte := []
deriving DecidableEq, Repr

/-- The response of the latest register access: read data and the error response of R45. -/
structure Rsp where
  data : Word
  err : Bool
deriving DecidableEq, Repr

/-- The access side: the response of the latest access, the words latched by a snapshot (R39) and the HI halves held,
both by initiator * 2^20 + window offset, the initiator that armed each page's LOCK (R46), and the writes that a flush
holds back (initiator, window offset, value; R44). -/
structure AccSt where
  rsp : Rsp := { data := 0, err := false }
  latch : Tab (Option Word) := []
  held : Tab (Option Word) := []
  lock : Tab (Option Nat) := []
  heldBack : List (Nat × Nat × Word) := []
deriving DecidableEq, Repr

/-- No access made yet. -/
def AccSt.init : AccSt := { }

end Sys2Proof.Machine
end

