-- ==== Sys2Proof/Machine/TypesUpd.lean ====
section
/-! DEFINITION. State of the update chain (R355 to R377). -/

namespace Sys2Proof.Machine

/-- A manifest entry, R356. -/
structure ManEntry where
  kind : Nat
  ntype : Nat
  version : Nat
  offset : Nat
  length : Nat
  digest : List Nat
deriving DecidableEq, Repr

/-- A node target, R367: its table index, its manifest entry, and what it has answered. -/
structure UpdTarget where
  index : Nat
  entry : Nat
  begun : Bool := false
  verified : Bool := false
  armed : Bool := false
  failed : Bool := false
deriving DecidableEq, Repr

/-- The campaign and the loader in MRAM, the campaign spare partition and the staging partitions (R357, R363, R372 to R375): the
fields of page UPD, the manifest, the chunks held, ACT_TICK with the second of activation, targets, the recorded conflict
(R365), exchange units done and in all, whether the exchange is the swap-back, the partner's latest status (255 none), the
downstream neighbour's, the second from which the container is kept, whether the partner is known to run the new image; the
source and stream that BULK_ACKs go to, with the STATUS last sent; the units of 256 KB of the running images and of staging A
and B (R31). -/
structure UpdNv where
  state : Nat := 0
  cause : Nat := 0
  source : Nat := 0
  seq : Nat := 0
  contLen : Nat := 0
  deadline : Nat := 0
  actAt : Nat := 0
  minLedger : Nat := 0
  manDigest : List Nat := []
  man : List ManEntry := []
  held : Tab (List Nat) := []
  actTick : Option Nat := none
  actSec : Nat := 0
  targets : List UpdTarget := []
  conflict : Option Nat := none
  runSeq : Nat := 0
  ledger : Nat := 0
  done : Nat := 0
  total : Nat := 0
  back : Bool := false
  running : Bool := false
  confirmed : Bool := true
  manual : Bool := false
  boots : Nat := 0
  partner : Nat := 255
  downstream : Nat := 255
  keptAt : Option Nat := none
  mateNew : Bool := false
  ackTo : Nat × Nat := (0, 0)
  told : Nat := 255
  run : Tab (List Nat) := []
  stgA : Tab (List Nat) := []
  stgB : Tab (List Nat) := []
deriving DecidableEq, Repr

/-- No campaign has ever run. DESIGN CHOICE: log entry 10. -/
def UpdNv.init : UpdNv := { }

/-- An offer whose header is being received: source, stream, SEQ, DEADLINE, ACT_AT, header chunks. -/
structure UpdOffer where
  src : Nat
  stream : Nat
  seq : Nat
  deadline : Nat
  actAt : Nat
  hdr : Tab (List Nat)
deriving DecidableEq, Repr

/-- The distribution on one bus, R367: place in the list of node components, phase (0 UPD_BEGIN, 1 data, 2 requests), next
chunk, place in the target list, requests without progress, the chunk the target expected, tick of the latest request,
whether it waits for an answer, whether the full resend has been used. -/
structure UpdDist where
  comp : Nat := 0
  phase : Nat := 0
  asked : Bool := false
  chunk : Nat := 0
  target : Nat := 0
  tries : Nat := 0
  expect : Nat := 0
  at_ : Nat := 0
  waiting : Bool := false
  again : Bool := false
deriving DecidableEq, Repr

/-- The distribution before its start. -/
def UpdDist.init : UpdDist := { }

/-- A stream this module sources (R359 to R362): its STREAM number, the receiver's STATUS, NEXT and MAP, BULK_OPENs sent, the
first chunk not sent, the SEQ of its latest message, the messages sent since the latest edge, and a BULK_CLOSE that waits for
the session. -/
structure UpdRelay where
  stream : Option Nat := none
  status : Nat := 255
  next : Nat := 0
  map : List Nat := []
  opens : Nat := 0
  sent : Nat := 0
  seq : Nat := 0
  out : List (List Nat) := []
  due : Option Nat := none
deriving DecidableEq, Repr

/-- A stream not yet offered. -/
def UpdRelay.init : UpdRelay := { }

/-- Proof's volatile side: the offers being received, one per source, the open stream of the campaign (source, stream number),
chunks received on it, the latest BULK_ACK as sent with its source, SEQ of the BULK_ACKs by source and stream, distribution
per bus, streams sourced (5 downstream, 6 partner), the second at which stable run began, whether a MODULE reset is due at the
next edge, whether UPD_ACTIVATE is to be sent again after a boot (R375), and whether the loader has completed the unit that
was in progress at the entry to HOLDUP. -/
structure UpdSt where
  offers : List UpdOffer := []
  stream : Option (Nat × Nat) := none
  got : Nat := 0
  ack : Option (Nat × List Nat) := none
  ackSeq : Tab Nat := []
  dist : Tab UpdDist := []
  relay : Tab UpdRelay := []
  stableAt : Option Nat := none
  resetDue : Bool := false
  rearm : Bool := false
  lastUnit : Bool := false
deriving DecidableEq, Repr

/-- Proof as after reset. -/
def UpdSt.init : UpdSt := { }

end Sys2Proof.Machine
end

