-- ==== Sys2Proof/Machine/TypesNv.lean ====
section
/-! DEFINITION. What survives every reset class (R47): the MRAM regions of R33 and the recorder partition of the NAND
(R31, R383). -/

namespace Sys2Proof.Machine

/-- Saved tick number: the number and RTC.SEC at the save, R66. -/
structure TickSave where
  num : Nat
  rtc : Nat
deriving DecidableEq, Repr

/-- MRAM counters (R33): recorder index (R379), highest stored index plus 1, operating seconds, power cycles,
supervisor resets and their latest cause (R420), the two saved tick numbers (R66), the two saved TX_FV of every bus
(R135) and the key counter while its authentication tag is valid (R340). -/
structure NvCount where
  nextIdx : Nat := 0
  storedIdx : Nat := 0
  opsec : Nat := 0
  pwrcyc : Nat := 0
  supvCnt : Nat := 0
  supvLast : Nat := 0
  tick0 : Option TickSave := none
  tick1 : Option TickSave := none
  tickTurn : Bool := false
  fv0 : Tab (Option Nat) := []
  fv1 : Tab (Option Nat) := []
  keyCtr : Option Nat := some 0
deriving DecidableEq, Repr

/-- Boot ledger (R400, R401): FAIL_CNT per stage, the stage recorded as STARTED (0 none), whether the training values
are held, whether a start without hold-up work is to be reported, the RTC second of the latest end of a run (a loss of
power or a reset), and whether the ledger cannot be read (R419). -/
structure NvBoot where
  fails : Tab Nat := []
  started : Nat := 0
  trained : Bool := false
  noHoldup : Bool := false
  lostAt : Nat := 0
  unreadable : Bool := false
deriving DecidableEq, Repr

/-- A feeder history record of a set: the 64 bytes of R198. -/
structure FeederHist where
  set : Nat
  bytes : List Nat
deriving DecidableEq, Repr

/-- The NAND history partitions (R27, R173, R198): node records with the quarter-hour of the latest and E_TOT at its end
by index; feeder records with the minute of the latest and the energy registers at its end by set * 64 + register. -/
structure History where
  node : List NodeHist := []
  nodeAt : Nat := 0
  nodeE : Tab Nat := []
  feeder : List FeederHist := []
  feederAt : Nat := 0
  feederE : Tab Nat := []
deriving DecidableEq, Repr

/-- MRAM and NAND contents. `cfg` is the configuration region: register words by window offset; `nodeBad` names the node
copies whose check fails (1 the identity half, 2 the dynamic half alone, R404); `logBad` and `fbBad` count the slots of the
log and of the fallback region that hold an invalid record (R378); `user` the customer application files of
the user area, by name (R31); `energyEver` tells that the energy registers have been saved (R196). DESIGN CHOICE: log entry 10. -/
structure NonVol where
  cnt : NvCount := { }
  boot : NvBoot := { }
  cfg : Tab Word := []
  graph0 : Option Graph := none
  graph1 : Option Graph := none
  graphTurn : Bool := false
  nodes : Tab Node := []
  nodeBad : Tab Nat := []
  user : List (Nat × List Nat) := []
  log : List Rec := []
  fb : List Rec := []
  logBad : Nat := 0
  fbBad : Nat := 0
  ageN : Tab (Option Int) := []
  keys : KeyStore := { }
  hist : History := { }
  energy : Tab Nat := []
  energyAt : Nat := 0
  energyHoldup : Bool := false
  energyEver : Bool := false
  cal : Tab CalRec := []
  sched : Tab SchedEnt := []
  schedHol : Tab Word := []
  schedScene : Tab Word := []
  schedFb0 : Option FbSched := none
  schedFb1 : Option FbSched := none
  ip : IpCfg := { }
  upd : UpdNv := { }
deriving DecidableEq, Repr

end Sys2Proof.Machine
end

