-- ==== Sys2Proof/Machine/State.lean ====
section
/-! DEFINITION. The state of the module and its reset value. -/

namespace Sys2Proof.Machine

/-- Why a step stops with a fault.  The module stops on nothing: every irregular access is answered (R45). -/
inductive Fault where
  /-- Raised by no command of this model; safe, since nothing rests on it. -/
  | none
deriving DecidableEq, Repr

/-- Why a command is refused. -/
inductive Refusal where
  /-- Raised by exec for a command whose meaning has not been written; safe: nothing about it can be proved. -/
  | notModelled (mnemonic : String)
deriving DecidableEq, Repr

/-- The state of the module.  `regs` holds the register words of every page by window offset (R37), banked words above
the window; `snap` the configuration snapshot of R53 step 4; `ns` the free-running nanoseconds and `free` the count of
free values drawn (both the model's own); `pending` the commands that wait, first in, first out. -/
structure State where
  pending : List Instr := []
  regs : Tab Word := []
  snap : Tab Word := []
  acc : AccSt := { }
  tick : TickSt := { }
  hatch : HatchSt := { }
  plate : PlateSt := { }
  fb : Tab FbSt := []
  node : NodeMgmt := { }
  io : IoSt := { }
  met : MetAll := { }
  sched : SchedSt := { }
  ground : GroundSt := { }
  rcd : RecSt := { }
  age : AgeSt := { }
  pwr : PwrSt := { }
  pair : PairSt := { }
  rtc : RtcSt := { }
  time : TimeSt := { }
  iu : IuSt := { }
  qm : QmSt := { }
  pcie : PcieSt := { }
  net : NetSt := { }
  upd : UpdSt := { }
  nv : NonVol := { }
  vol : VolMem := { }
  tai : Nat := 0
  ns : Nat := 0
  free : Nat := 0
deriving DecidableEq, Repr

/-- The module right after reset: every register at its reset value (no word listed), nothing queued. -/
def State.reset : State := { }

end Sys2Proof.Machine
end

