-- ==== Sys2Proof/Machine/Events.lean ====
section
/-! DEFINITION. The events of the module: code, name and severity as the event tables of the chapters give them
(R67, R98, R118, R156, R185, R207, R235, R255, R270, R300, R328, R351, R376, R395, R417). -/

namespace Sys2Proof.Machine


/-- TICK_OVERRUN: 1: k. 2: Hatch run time so far in µs. 3: OVR_CNT.CONSEC. -/
abbrev Ev.TICK_OVERRUN : Ev := ⟨0x0101, 1⟩
/-- TICK_DEGRADED: 1: cause, coded as for TICK.MODE.CAUSE -/
abbrev Ev.TICK_DEGRADED : Ev := ⟨0x0102, 2⟩
/-- TICK_RESTORED: 1: ticks spent in DEGRADED -/
abbrev Ev.TICK_RESTORED : Ev := ⟨0x0103, 0⟩
/-- TICK_COMPOSE_MISS: 1: compose progress in nodes -/
abbrev Ev.TICK_COMPOSE_MISS : Ev := ⟨0x0104, 2⟩
/-- TICK_IMP_LATE: 1: bytes copied by 0.80 P -/
abbrev Ev.TICK_IMP_LATE : Ev := ⟨0x0105, 1⟩
/-- TICK_REALIGN: 1: step in µs, signed. 2: realignment tick length in µs. -/
abbrev Ev.TICK_REALIGN : Ev := ⟨0x0106, 0⟩
/-- TICK_HATCH_FLUSH: 1: pulses dropped. 2: detections dropped. -/
abbrev Ev.TICK_HATCH_FLUSH : Ev := ⟨0x0107, 2⟩
/-- TICK_PHASE_ALARM: 1: PHASE_ERR in ns, signed -/
abbrev Ev.TICK_PHASE_ALARM : Ev := ⟨0x0108, 1⟩
/-- TICK_NUM_JUMP: 1–4: old and new tick numbers -/
abbrev Ev.TICK_NUM_JUMP : Ev := ⟨0x0109, 0⟩
/-- TICK_PERIOD_SET: 1: CUR. 2: NEXT. -/
abbrev Ev.TICK_PERIOD_SET : Ev := ⟨0x010A, 0⟩
/-- HATCH_DET_REJECT: 1: reason (1 FORMAT, 2 UNBOUND, 3 CLASS, 4 HEADING, 5 WEIGHT, 6 FULL). 2: node index of the latest rejection. 3: count. -/
abbrev Ev.HATCH_DET_REJECT : Ev := ⟨0x0201, 0⟩
/-- HATCH_PULSE_EVICT: 1: evicted slot. 2: its total weight. 3: new launch weight. -/
abbrev Ev.HATCH_PULSE_EVICT : Ev := ⟨0x0202, 1⟩
/-- HATCH_HYP_CAP: 1: hypotheses removed. 2: pulses ended. -/
abbrev Ev.HATCH_HYP_CAP : Ev := ⟨0x0203, 1⟩
/-- HATCH_GRAPH_LOADED: 1: ACT_CRC. 2: vertices. 3: edges. 4: pulses dropped. 5: ACT_SEQ. Raised at swap and at boot. -/
abbrev Ev.HATCH_GRAPH_LOADED : Ev := ⟨0x0204, 0⟩
/-- HATCH_GRAPH_REFUSED: 1: ERR. 2: table. 3: record index. -/
abbrev Ev.HATCH_GRAPH_REFUSED : Ev := ⟨0x0205, 2⟩
/-- HATCH_DET_DEFER: 1: detections deferred. Raised at most once per second. -/
abbrev Ev.HATCH_DET_DEFER : Ev := ⟨0x0206, 0⟩
/-- GROUP_BROKEN: 1: group. 2: lowest failed node index. 3: failed members. -/
abbrev Ev.GROUP_BROKEN : Ev := ⟨0x0301, 2⟩
/-- GROUP_RESTORED: 1: group. 2: composes spent broken. -/
abbrev Ev.GROUP_RESTORED : Ev := ⟨0x0302, 0⟩
/-- LAMP_LATCHED_OFF: 1: node index. 2: group. -/
abbrev Ev.LAMP_LATCHED_OFF : Ev := ⟨0x0303, 1⟩
/-- DRIVE_CAPPED: 1: CAP_CNT. 2: lowest capped node index. Raised at most once per hour while CAP_CNT is non-zero. -/
abbrev Ev.DRIVE_CAPPED : Ev := ⟨0x0304, 0⟩
/-- CO_SWITCHED: 1: contactor. 2: new state (0 OFF, 1 ON). 3: source (0 schedule, 1 register, 2 fallback schedule). -/
abbrev Ev.CO_SWITCHED : Ev := ⟨0x0305, 0⟩
/-- CO_FAIL: 1: contactor. 2: commanded state. 3: feedback state. -/
abbrev Ev.CO_FAIL : Ev := ⟨0x0306, 2⟩
/-- CO_EXTERNAL: 1: contactor. 2: sensed state. -/
abbrev Ev.CO_EXTERNAL : Ev := ⟨0x0307, 1⟩
/-- FB_ERR_PASSIVE: 2: TEC. 3: REC. -/
abbrev Ev.FB_ERR_PASSIVE : Ev := ⟨0x0401, 1⟩
/-- FB_BUS_OFF: 2: bus-offs in the last 60 s -/
abbrev Ev.FB_BUS_OFF : Ev := ⟨0x0402, 2⟩
/-- FB_RECOVERED: 2: ms in bus-off -/
abbrev Ev.FB_RECOVERED : Ev := ⟨0x0403, 0⟩
/-- FB_STORM: 2: BUSOFF_CNT.STORM -/
abbrev Ev.FB_STORM : Ev := ⟨0x0404, 2⟩
/-- FB_RATE_DETECTED: 2: arbitration code. 3: data code. 4: 1 if the pair differs from BITRATE. -/
abbrev Ev.FB_RATE_DETECTED : Ev := ⟨0x0405, 0⟩
/-- FB_RATE_NONE: 2: frames heard -/
abbrev Ev.FB_RATE_NONE : Ev := ⟨0x0406, 1⟩
/-- FB_DUP_ADDR: 2: address. 3: bursts in the last 10 s. -/
abbrev Ev.FB_DUP_ADDR : Ev := ⟨0x0407, 2⟩
/-- FB_DUAL_MASTER: 2: identifier of the colliding frame -/
abbrev Ev.FB_DUAL_MASTER : Ev := ⟨0x0408, 2⟩
/-- FB_KEY_HOLD: 2: cause, as numbered in R136 (1 no key at start-up, 2 KEY_REVOKED, 3 tag timeout, 4 keys locked, 5 key zeroized, 6 Ground not started) -/
abbrev Ev.FB_KEY_HOLD : Ev := ⟨0x0409, 2⟩
/-- FB_KEY_RESUMED: 2: ticks in hold -/
abbrev Ev.FB_KEY_RESUMED : Ev := ⟨0x040A, 0⟩
/-- FB_AUTH_FAIL: 2: address of the latest failing frame. 3: count. -/
abbrev Ev.FB_AUTH_FAIL : Ev := ⟨0x040B, 1⟩
/-- FB_PLAN_ERR: 2: N. 3: sum of the requested plan. -/
abbrev Ev.FB_PLAN_ERR : Ev := ⟨0x040C, 2⟩
/-- FB_SHED: 2: window (1 Plate-delta, 2 poll, 3 event, 4 bulk) of the latest shed. 3: count. -/
abbrev Ev.FB_SHED : Ev := ⟨0x040D, 1⟩
/-- NODE_COMMISSIONED: 3–4: UID. 5: KIND. -/
abbrev Ev.NODE_COMMISSIONED : Ev := ⟨0x0501, 0⟩
/-- NODE_DECOMMISSIONED: 3–4: UID -/
abbrev Ev.NODE_DECOMMISSIONED : Ev := ⟨0x0502, 0⟩
/-- NODE_FOUND: 2: reason (1 UNPLANNED, 2 NO_ADDR, 3 ELSEWHERE, 4 HELD). 3–4: UID. -/
abbrev Ev.NODE_FOUND : Ev := ⟨0x0503, 0⟩
/-- NODE_COMMISSION_FAIL: 3: cause (1 NO_CONFIRM, 2 SENSOR_LIMIT, 3 NO_KIND, 4 KEY). 4–5: UID. -/
abbrev Ev.NODE_COMMISSION_FAIL : Ev := ⟨0x0504, 1⟩
/-- NODE_QUARANTINED: 3: QCAUSE -/
abbrev Ev.NODE_QUARANTINED : Ev := ⟨0x0505, 2⟩
/-- NODE_RECOMMISSIONED: 3: ticks in quarantine -/
abbrev Ev.NODE_RECOMMISSIONED : Ev := ⟨0x0506, 0⟩
/-- NODE_RECOM_FAIL: 3: QCAUSE -/
abbrev Ev.NODE_RECOM_FAIL : Ev := ⟨0x0507, 2⟩
/-- NODE_COMLOSS: 3: MISS -/
abbrev Ev.NODE_COMLOSS : Ev := ⟨0x0508, 1⟩
/-- NODE_COMRESTORED: 3: polls missed -/
abbrev Ev.NODE_COMRESTORED : Ev := ⟨0x0509, 0⟩
/-- NODE_FAULT: 3: code. 4: channel. 5: DETAIL. -/
abbrev Ev.NODE_FAULT : Ev := ⟨0x050A, 1⟩
/-- NODE_FAULT_CLEAR: 3: code. 4: channel. -/
abbrev Ev.NODE_FAULT_CLEAR : Ev := ⟨0x050B, 0⟩
/-- NODE_ALARM: 3: code. 4: channel. 5: DETAIL. -/
abbrev Ev.NODE_ALARM : Ev := ⟨0x050C, 2⟩
/-- NODE_CMD_FAIL: 3: OP. 4: RESULT, or 0xFF for no acknowledgement. -/
abbrev Ev.NODE_CMD_FAIL : Ev := ⟨0x050D, 1⟩
/-- NODE_SENSOR_SAT: 3: count in the last window -/
abbrev Ev.NODE_SENSOR_SAT : Ev := ⟨0x050E, 1⟩
/-- NODE_SENSOR_OK: 3: DET_DROP -/
abbrev Ev.NODE_SENSOR_OK : Ev := ⟨0x050F, 0⟩
/-- NODE_IDENT_CHANGE: 3: old FW_VER. 4: new FW_VER. 5: fields changed ([0] FW_VER, [1] DEPTH, [2] CH_CNT). -/
abbrev Ev.NODE_IDENT_CHANGE : Ev := ⟨0x0510, 0⟩
/-- DI_STUCK: 1: input -/
abbrev Ev.DI_STUCK : Ev := ⟨0x0511, 1⟩
/-- DI_CHATTER: 1: input. 2: changes in the window. -/
abbrev Ev.DI_CHATTER : Ev := ⟨0x0512, 1⟩
/-- DI_CLEARED: 1: input. 2: flag cleared (1 STUCK, 2 CHATTER). -/
abbrev Ev.DI_CLEARED : Ev := ⟨0x0513, 0⟩
/-- MET_NO_REF: 1: set -/
abbrev Ev.MET_NO_REF : Ev := ⟨0x0601, 1⟩
/-- MET_FREQ_RANGE: 1: set. 2: frequency in mHz. -/
abbrev Ev.MET_FREQ_RANGE : Ev := ⟨0x0602, 1⟩
/-- MET_REF_RESTORED: 1: set. 2: windows without a valid reference. -/
abbrev Ev.MET_REF_RESTORED : Ev := ⟨0x0603, 0⟩
/-- MET_CLIP: 1: set. 2: lowest clipping channel c. -/
abbrev Ev.MET_CLIP : Ev := ⟨0x0604, 1⟩
/-- LOSS_SUSPECT: 1: set. 2: phase, 1–3. 3: P_meter. 4: sum. 5: diff. -/
abbrev Ev.LOSS_SUSPECT : Ev := ⟨0x0605, 2⟩
/-- RECON_NEG: As LOSS_SUSPECT -/
abbrev Ev.RECON_NEG : Ev := ⟨0x0606, 1⟩
/-- LOSS_CLEARED: 1: set. 2: phase. 3: flag cleared (1 LOSS, 2 NEG). -/
abbrev Ev.LOSS_CLEARED : Ev := ⟨0x0607, 0⟩
/-- TRACE_DONE: 1: slot. 2: node index. 3: new PHASE byte. 4: ratio × 10. 5: previous PHASE byte. -/
abbrev Ev.TRACE_DONE : Ev := ⟨0x0608, 0⟩
/-- TRACE_FAIL: 1: slot. 2: node index. 3: cause, coded as RESULT.CAUSE. -/
abbrev Ev.TRACE_FAIL : Ev := ⟨0x0609, 1⟩
/-- CAL_WRITTEN: 1: channel. 2: old GAIN. 3: old PHASE. 4: old OFFSET. 5: new GAIN. -/
abbrev Ev.CAL_WRITTEN : Ev := ⟨0x060A, 2⟩
/-- CAL_INVALID: 1: channel -/
abbrev Ev.CAL_INVALID : Ev := ⟨0x060B, 2⟩
/-- MET_ENERGY_GAP: 1: seconds not counted -/
abbrev Ev.MET_ENERGY_GAP : Ev := ⟨0x060C, 1⟩
/-- TIME_SRC_CHANGE: 1: old source. 2: new source. 3: offset of the new source in ns, signed, saturating. -/
abbrev Ev.TIME_SRC_CHANGE : Ev := ⟨0x0701, 0⟩
/-- TIME_LOCKED: 1: source -/
abbrev Ev.TIME_LOCKED : Ev := ⟨0x0702, 0⟩
/-- TIME_HOLDOVER: 1: last source -/
abbrev Ev.TIME_HOLDOVER : Ev := ⟨0x0703, 2⟩
/-- TIME_STEP: 1: step in µs, signed, saturating. 2: source. -/
abbrev Ev.TIME_STEP : Ev := ⟨0x0704, 1⟩
/-- TIME_SLEW: 1: correction in ns, signed, saturating. 2: source. -/
abbrev Ev.TIME_SLEW : Ev := ⟨0x0705, 0⟩
/-- TIME_SRC_FAULT: 1: source. 2: jump in ms, signed, saturating. -/
abbrev Ev.TIME_SRC_FAULT : Ev := ⟨0x0706, 2⟩
/-- TIME_RTC_FALLBACK: 1: minutes in holdover -/
abbrev Ev.TIME_RTC_FALLBACK : Ev := ⟨0x0707, 2⟩
/-- TIME_LEAP: 1: +1 or −1. 2: new UTC_OFS. -/
abbrev Ev.TIME_LEAP : Ev := ⟨0x0708, 0⟩
/-- TIME_UTC_OFS: 1: old UTC_OFS. 2: new UTC_OFS. -/
abbrev Ev.TIME_UTC_OFS : Ev := ⟨0x0709, 0⟩
/-- RTC_OSF: none -/
abbrev Ev.RTC_OSF : Ev := ⟨0x070A, 2⟩
/-- RTC_SET: 1: old SEC [31:0]. 2: new SEC [31:0]. 3: source (0 software, 1 ENGINE). 4: 1 if only WEEKDAY changed. -/
abbrev Ev.RTC_SET : Ev := ⟨0x070B, 0⟩
/-- RTC_SET_REJECT: 1: STAGE.ERR -/
abbrev Ev.RTC_SET_REJECT : Ev := ⟨0x070C, 1⟩
/-- GNSS_LOST: 1: reason (1 PPS, 2 time of day, 3 RMC status V) -/
abbrev Ev.GNSS_LOST : Ev := ⟨0x070D, 1⟩
/-- TIME_NO_SOURCE: none -/
abbrev Ev.TIME_NO_SOURCE : Ev := ⟨0x070E, 2⟩
/-- SCHED_ACTION: 2: ACT. 3: ARG. 4: GROUP. Only for entries with EVT = 1. -/
abbrev Ev.SCHED_ACTION : Ev := ⟨0x0801, 0⟩
/-- SCHED_LATE: 2: seconds late -/
abbrev Ev.SCHED_LATE : Ev := ⟨0x0802, 1⟩
/-- SCHED_SKIPPED_PAST: 2: seconds past -/
abbrev Ev.SCHED_SKIPPED_PAST : Ev := ⟨0x0803, 1⟩
/-- SCHED_ALARM_LATE: 2: seconds late. 3: days skipped over. -/
abbrev Ev.SCHED_ALARM_LATE : Ev := ⟨0x0804, 1⟩
/-- SCHED_NO_EVENT: 2: TRIG. 3: day number. -/
abbrev Ev.SCHED_NO_EVENT : Ev := ⟨0x0805, 0⟩
/-- SCHED_DST: 1: new offset in minutes, signed -/
abbrev Ev.SCHED_DST : Ev := ⟨0x0806, 0⟩
/-- SCHED_FB_SAVED: 1: entries saved. 2: OMIT. 3: sequence number. -/
abbrev Ev.SCHED_FB_SAVED : Ev := ⟨0x0807, 0⟩
/-- SCHED_FB_INVALID: none -/
abbrev Ev.SCHED_FB_INVALID : Ev := ⟨0x0808, 2⟩
/-- SCHED_FB_STALE: 1: days beyond the saved range -/
abbrev Ev.SCHED_FB_STALE : Ev := ⟨0x0809, 1⟩
/-- PORT_LINK_UP: 1: port (0 RING0, 1 RING1, 2 LAN0, 3 LAN1) -/
abbrev Ev.PORT_LINK_UP : Ev := ⟨0x0901, 0⟩
/-- PORT_LINK_DOWN: 1: port -/
abbrev Ev.PORT_LINK_DOWN : Ev := ⟨0x0902, 1⟩
/-- RING_SF: 1: port. 2: ERPS state after. -/
abbrev Ev.RING_SF : Ev := ⟨0x0903, 2⟩
/-- RING_RESTORED: 1: seconds in protection -/
abbrev Ev.RING_RESTORED : Ev := ⟨0x0904, 0⟩
/-- RING_SFP: 1: port. 2: 1 inserted, 0 removed. -/
abbrev Ev.RING_SFP : Ev := ⟨0x0905, 1⟩
/-- ERPS_CMD_DONE: 1: command. 2: result (0 OK, 1 refused). -/
abbrev Ev.ERPS_CMD_DONE : Ev := ⟨0x0906, 0⟩
/-- LSP_SESSION_UP: 1: peer index -/
abbrev Ev.LSP_SESSION_UP : Ev := ⟨0x0907, 0⟩
/-- LSP_SESSION_DOWN: 1: peer index. 2: cause (1 timeout, 2 replaced, 3 alert). -/
abbrev Ev.LSP_SESSION_DOWN : Ev := ⟨0x0908, 1⟩
/-- LSP_AUTH_FAIL: 1: peer index, or 0xFF for an unknown address -/
abbrev Ev.LSP_AUTH_FAIL : Ev := ⟨0x0909, 2⟩
/-- IU_STACK_FAULT: 1: core. 2: EOI source. 3: top source. 4: depth. -/
abbrev Ev.IU_STACK_FAULT : Ev := ⟨0x0A01, 2⟩
/-- QM_QERR: 1: queue. 2: items lost. -/
abbrev Ev.QM_QERR : Ev := ⟨0x0A02, 2⟩
/-- QM_OVERFLOW: 1: queue. 2: count. -/
abbrev Ev.QM_OVERFLOW : Ev := ⟨0x0A03, 1⟩
/-- QM_STALL: 1: queue. 2: depth. -/
abbrev Ev.QM_STALL : Ev := ⟨0x0A04, 1⟩
/-- QM_ABORTED: 1: queue. 2: items returned. 3: items dropped. 4: CONS. -/
abbrev Ev.QM_ABORTED : Ev := ⟨0x0A05, 0⟩
/-- PCIE_LINK: 1: 1 up, 0 down. 2: speed. 3: width. -/
abbrev Ev.PCIE_LINK : Ev := ⟨0x0A06, 0⟩
/-- PCIE_RESET: 1: cause (1 PERST_N, 2 hot reset, 3 function-level reset). 2: entries discarded. -/
abbrev Ev.PCIE_RESET : Ev := ⟨0x0A07, 1⟩
/-- PCIE_CQ_OVF: 1: CQ. 2: count. -/
abbrev Ev.PCIE_CQ_OVF : Ev := ⟨0x0A08, 1⟩
/-- PAIR_ROLE: 1: old role. 2: new role. 3: fence cause, or 0. -/
abbrev Ev.PAIR_ROLE : Ev := ⟨0x0B01, 0⟩
/-- PAIR_FORMED: 1: partner unit. 2: 1 if the tick number moved. -/
abbrev Ev.PAIR_FORMED : Ev := ⟨0x0B02, 0⟩
/-- PAIR_SWITCHOVER: 1: kind (1 yielded, 2 warm, 3 cold). 2: gap in µs. -/
abbrev Ev.PAIR_SWITCHOVER : Ev := ⟨0x0B03, 2⟩
/-- SHADOW_MISMATCH: 1: TICK.NUM [31:0]. 2: own CSUM. 3: active CSUM. 4: 1 CSUM, 2 DIGEST, 3 both. -/
abbrev Ev.SHADOW_MISMATCH : Ev := ⟨0x0B04, 2⟩
/-- PAIR_SWAP_DEFER: 1: reason (1 not FIT, 2 witness, 3 one lane, 4 contactor) -/
abbrev Ev.PAIR_SWAP_DEFER : Ev := ⟨0x0B05, 1⟩
/-- BYELL_DOWN: 1: lanes locked before the loss -/
abbrev Ev.BYELL_DOWN : Ev := ⟨0x0B06, 2⟩
/-- BYELL_UP: 1: lanes -/
abbrev Ev.BYELL_UP : Ev := ⟨0x0B07, 0⟩
/-- BYELL_LANE: 1: lane lost -/
abbrev Ev.BYELL_LANE : Ev := ⟨0x0B08, 1⟩
/-- WIT_UNREACHABLE: 1: path -/
abbrev Ev.WIT_UNREACHABLE : Ev := ⟨0x0B09, 2⟩
/-- WIT_RESTORED: 1: heartbeats missed -/
abbrev Ev.WIT_RESTORED : Ev := ⟨0x0B0A, 0⟩
/-- LEASE_LOST: 1: case of R322, 1–4 -/
abbrev Ev.LEASE_LOST : Ev := ⟨0x0B0B, 2⟩
/-- IMP_MISSING: 1: consecutive copies missing. Raised at most once per second. -/
abbrev Ev.IMP_MISSING : Ev := ⟨0x0B0C, 1⟩
/-- PAIR_CONFIG_STALE: 1: last MIRROR sequence number received -/
abbrev Ev.PAIR_CONFIG_STALE : Ev := ⟨0x0B0D, 2⟩
/-- KEY_UPDATE_OK: 1: COUNTER [31:0]. 2: operations. 3: 1 if held for ACT_TICK. -/
abbrev Ev.KEY_UPDATE_OK : Ev := ⟨0x0C01, 0⟩
/-- KEY_UPDATE_REJECT: 1: result code of R340. 2: COUNTER [31:0]. 3: record index for OP. -/
abbrev Ev.KEY_UPDATE_REJECT : Ev := ⟨0x0C02, 2⟩
/-- KEY_REVOKED: 1: slot. 2: descendants revoked. -/
abbrev Ev.KEY_REVOKED : Ev := ⟨0x0C03, 2⟩
/-- KEY_ZEROIZED: 1: first slot. 2: slots. 3: cause (1 operation, 2 tamper, 3 debug, 4 RMA, 5 SCRAPPED). -/
abbrev Ev.KEY_ZEROIZED : Ev := ⟨0x0C04, 2⟩
/-- ZEROIZE_FAIL: 1: slot -/
abbrev Ev.ZEROIZE_FAIL : Ev := ⟨0x0C05, 3⟩
/-- TAMPER: 1: LATCH bits. 2: POLICY. 3: power state at detection. -/
abbrev Ev.TAMPER : Ev := ⟨0x0C06, 3⟩
/-- TAMPER_CLEARED: 1: LATCH bits cleared -/
abbrev Ev.TAMPER_CLEARED : Ev := ⟨0x0C07, 0⟩
/-- KEYS_LOCKED: 1: 1 policy, 2 start-up, 3 wake -/
abbrev Ev.KEYS_LOCKED : Ev := ⟨0x0C08, 2⟩
/-- LIFECYCLE: 1: old state. 2: new state. -/
abbrev Ev.LIFECYCLE : Ev := ⟨0x0C09, 2⟩
/-- DBG_LEVEL: 1: old level. 2: new level. 3: 1 if keys were zeroized. -/
abbrev Ev.DBG_LEVEL : Ev := ⟨0x0C0A, 2⟩
/-- DBG_AUTH_FAIL: 1: failures in a row -/
abbrev Ev.DBG_AUTH_FAIL : Ev := ⟨0x0C0B, 1⟩
/-- KEY_OP_ABORT: 1: slot. 2: requester page, or 0xFE for cores. -/
abbrev Ev.KEY_OP_ABORT : Ev := ⟨0x0C0C, 2⟩
/-- KEY_PAIR_DIFF: 1: bus -/
abbrev Ev.KEY_PAIR_DIFF : Ev := ⟨0x0C0D, 2⟩
/-- UPD_OFFER: 1: SEQ [31:0]. 2: source. 3: CONT_LEN in KB. -/
abbrev Ev.UPD_OFFER : Ev := ⟨0x0D01, 0⟩
/-- UPD_REFUSED: 1: code of R358. 2: SEQ [31:0]. 3: source. -/
abbrev Ev.UPD_REFUSED : Ev := ⟨0x0D02, 1⟩
/-- UPD_CONFLICT: 1: SEQ [31:0]. 2: first source. 3: second source. -/
abbrev Ev.UPD_CONFLICT : Ev := ⟨0x0D03, 2⟩
/-- UPD_STAGED: 1: SEQ [31:0]. 2: targets verified. -/
abbrev Ev.UPD_STAGED : Ev := ⟨0x0D04, 0⟩
/-- UPD_ABORT: 1: cause. 2: SEQ [31:0]. -/
abbrev Ev.UPD_ABORT : Ev := ⟨0x0D05, 2⟩
/-- UPD_ACTIVATED: 1: SEQ [31:0]. 2: ACT_TICK [31:0]. -/
abbrev Ev.UPD_ACTIVATED : Ev := ⟨0x0D06, 0⟩
/-- UPD_CONFIRMED: 1: SEQ [31:0]. 2: new LEDGER_VER. -/
abbrev Ev.UPD_CONFIRMED : Ev := ⟨0x0D07, 0⟩
/-- UPD_SWAPBACK: 1: reason (1 BOOTS, 2 COMMAND, 3 PARTNER, 4 NODES). 2: BOOTS. -/
abbrev Ev.UPD_SWAPBACK : Ev := ⟨0x0D08, 3⟩
/-- UPD_NODE_FAIL: 1: bus. 2: address. 3: node status, or 0xFF for no response. -/
abbrev Ev.UPD_NODE_FAIL : Ev := ⟨0x0D09, 1⟩
/-- UPD_NODE_DROPPED: 1: bus. 2: address. -/
abbrev Ev.UPD_NODE_DROPPED : Ev := ⟨0x0D0A, 0⟩
/-- UPD_RESUMED: 1: stage (2 DOWNLOAD, 6 ACTIVATING, 8 SWAPBACK). 2: blocks or units already done. -/
abbrev Ev.UPD_RESUMED : Ev := ⟨0x0D0B, 0⟩
/-- EVENTS_LOST: 1–4: CRIT, MAJOR, MINOR, INFO lost. 5: indices without a store, under R382 and R387. -/
abbrev Ev.EVENTS_LOST : Ev := ⟨0x0E01, 1⟩
/-- LOG_DEGRADED: 1: cause (1 write, 2 read, 3 timeout) -/
abbrev Ev.LOG_DEGRADED : Ev := ⟨0x0E02, 2⟩
/-- LOG_RESTORED: 1: records copied -/
abbrev Ev.LOG_RESTORED : Ev := ⟨0x0E03, 0⟩
/-- LOG_DROPPED: 1: DROPPED. 2: severity of the latest drop. -/
abbrev Ev.LOG_DROPPED : Ev := ⟨0x0E04, 2⟩
/-- REC_INVALID: 1: invalid in the log. 2: invalid in the fallback region. -/
abbrev Ev.REC_INVALID : Ev := ⟨0x0E05, 1⟩
/-- AGE_MARGIN_LOW: 1: item. 2: value. 3: margin. -/
abbrev Ev.AGE_MARGIN_LOW : Ev := ⟨0x0E06, 1⟩
/-- AGE_MARGIN_OUT: 1: item. 2: value. 3: limit. -/
abbrev Ev.AGE_MARGIN_OUT : Ev := ⟨0x0E07, 2⟩
/-- AGE_REPLAN: 1: kind (1 core rail, 2 NAND interval, 3 hold-up, 4 sample point, 5 drive caps). 2: new value, or caps changed. 3: bus, for kind 4. -/
abbrev Ev.AGE_REPLAN : Ev := ⟨0x0E08, 0⟩
/-- AGE_SCAP_TEST: 1: C in mF. 2: ESR in mΩ. 3: 0 done, 1 deferred, 2 ended by VIN loss. -/
abbrev Ev.AGE_SCAP_TEST : Ev := ⟨0x0E09, 0⟩
/-- AGE_CAP_FLOOR: 1: node index. 2: P_full in 0.1 W. -/
abbrev Ev.AGE_CAP_FLOOR : Ev := ⟨0x0E0A, 1⟩
/-- BOOT_STAGE_FAIL: 1: stage. 2: cause (1 check, 2 deadline, 3 reset during the stage). 3: FAIL_CNT. -/
abbrev Ev.BOOT_STAGE_FAIL : Ev := ⟨0x0F01, 2⟩
/-- BOOT_STAGE_ALT: 1: stage. 2: 1 alternate, 2 skipped, 3 retried. -/
abbrev Ev.BOOT_STAGE_ALT : Ev := ⟨0x0F02, 2⟩
/-- BOOT_DONE: 1: ms from power-good. 2: TAKEN_MAP. -/
abbrev Ev.BOOT_DONE : Ev := ⟨0x0F03, 0⟩
/-- BOOT_ROM_EXEC: 1: stage that called it -/
abbrev Ev.BOOT_ROM_EXEC : Ev := ⟨0x0F04, 3⟩
/-- PWR_STATE: 1: old state. 2: new state (coded as PWR.STATE, with 3 STANDBY and 4 VBAT_ONLY). -/
abbrev Ev.PWR_STATE : Ev := ⟨0x0F05, 0⟩
/-- PWR_HOLDUP: 1: plan. 2: T_r in ms. 3: E_u in mJ. -/
abbrev Ev.PWR_HOLDUP : Ev := ⟨0x0F06, 2⟩
/-- PWR_VIN_RETURN: 1: ms in HOLDUP -/
abbrev Ev.PWR_VIN_RETURN : Ev := ⟨0x0F07, 0⟩
/-- PWR_NO_HOLDUP: None -/
abbrev Ev.PWR_NO_HOLDUP : Ev := ⟨0x0F08, 2⟩
/-- WDOG_EXPIRED: 1: watchdog (0 real-time, 1–4 application cores 0–3). 2: action. -/
abbrev Ev.WDOG_EXPIRED : Ev := ⟨0x0F09, 2⟩
/-- SUPV_RESET: 1: cause (1 no edge, 2 lockstep, 3 rail) -/
abbrev Ev.SUPV_RESET : Ev := ⟨0x0F0A, 3⟩
/-- DOMAIN_RESET: 1: domain (1 application, 2 network). 2: cause (1 command, 2 watchdog). -/
abbrev Ev.DOMAIN_RESET : Ev := ⟨0x0F0B, 2⟩
/-- PWR_WAKE: 1: WAKE_SRC -/
abbrev Ev.PWR_WAKE : Ev := ⟨0x0F0C, 0⟩

end Sys2Proof.Machine
end

