-- ==== Sys2Proof/Machine/Fields.lean ====
section
/-! DEFINITION. The named fields of the registers, as the field maps of the spec give them: window offset of the
register, lowest bit, width.  A field of a page with several instances takes the instance number n, a field of an array
of registers its index k. -/

namespace Sys2Proof.Machine


/-! Registers. -/

abbrev Rg.SYS_UID (k : Nat) : Nat := 0x40 + 4 * k
abbrev Rg.SYS_SERIAL_LO : Nat := 0x50
abbrev Rg.SYS_SERIAL_HI : Nat := 0x54
abbrev Rg.SYS_ORDER : Nat := 0x58
abbrev Rg.SYS_RST_CAUSE : Nat := 0x5c
abbrev Rg.SYS_RST_CMD : Nat := 0x60
abbrev Rg.SYS_BUSERR_ADDR : Nat := 0x64
abbrev Rg.SYS_BUSERR_INFO : Nat := 0x68
abbrev Rg.SYS_OPSEC : Nat := 0x6c
abbrev Rg.SYS_PWRCYC : Nat := 0x70
abbrev Rg.SYS_SCRATCH (k : Nat) : Nat := 0x74 + 4 * k
abbrev Rg.TICK_PERIOD : Nat := 0x1040
abbrev Rg.TICK_NUM_LO : Nat := 0x1044
abbrev Rg.TICK_NUM_HI : Nat := 0x1048
abbrev Rg.TICK_OFFSET : Nat := 0x104c
abbrev Rg.TICK_PHASE_ERR : Nat := 0x1050
abbrev Rg.TICK_PHASE_MAX : Nat := 0x1054
abbrev Rg.TICK_OVR_CNT : Nat := 0x1058
abbrev Rg.TICK_CLEAN_CNT : Nat := 0x105c
abbrev Rg.TICK_MODE : Nat := 0x1060
abbrev Rg.TICK_MISS : Nat := 0x1064
abbrev Rg.TICK_FREEZE : Nat := 0x1068
abbrev Rg.HATCH_DROP_W : Nat := 0x2040
abbrev Rg.HATCH_HORIZON : Nat := 0x2044
abbrev Rg.HATCH_LIMITS : Nat := 0x2048
abbrev Rg.HATCH_PULSE_CNT : Nat := 0x204c
abbrev Rg.HATCH_HYP_CNT : Nat := 0x2050
abbrev Rg.HATCH_DET_CNT : Nat := 0x2054
abbrev Rg.HATCH_DET_REJ : Nat := 0x2058
abbrev Rg.HATCH_DET_REJ2 : Nat := 0x205c
abbrev Rg.HATCH_DET_DEFER : Nat := 0x2060
abbrev Rg.HATCH_RUN_US : Nat := 0x2064
abbrev Rg.HATCH_RUN_MAX : Nat := 0x2068
abbrev Rg.HATCH_DIGEST : Nat := 0x206c
abbrev Rg.HATCH_DROP_CNT : Nat := 0x2070
abbrev Rg.HATCHG_GRAPH_CTRL : Nat := 0x3040
abbrev Rg.HATCHG_GRAPH_STAT : Nat := 0x3044
abbrev Rg.HATCHG_VTX_CNT : Nat := 0x3048
abbrev Rg.HATCHG_EDGE_CNT : Nat := 0x304c
abbrev Rg.HATCHG_ATT_CNT : Nat := 0x3050
abbrev Rg.HATCHG_SENS_CNT : Nat := 0x3054
abbrev Rg.HATCHG_LOAD_SEL : Nat := 0x3058
abbrev Rg.HATCHG_GRAPH_CRC : Nat := 0x305c
abbrev Rg.HATCHG_ACT_CRC : Nat := 0x3060
abbrev Rg.HATCHG_ACT_VTX : Nat := 0x3064
abbrev Rg.HATCHG_ACT_EDGE : Nat := 0x3068
abbrev Rg.HATCHG_ACT_SEQ : Nat := 0x306c
abbrev Rg.HATCHG_LOAD_WIN (k : Nat) : Nat := 0x3080 + 4 * k
abbrev Rg.PLATE_BUF_SEL : Nat := 0x4040
abbrev Rg.PLATE_CSUM : Nat := 0x4044
abbrev Rg.PLATE_WIN_SEL : Nat := 0x4048
abbrev Rg.PLATE_WIN : Nat := 0x404c
abbrev Rg.PLATE_LF_CFG : Nat := 0x4050
abbrev Rg.PLATE_CAP_CNT : Nat := 0x4054
abbrev Rg.PLATE_COMP_US : Nat := 0x4058
abbrev Rg.PLATE_CHG_CNT : Nat := 0x405c
abbrev Rg.PLATE_SWAP_CNT : Nat := 0x4060
abbrev Rg.GROUP_GRP_SEL : Nat := 0x5040
abbrev Rg.GROUP_GRP_MODE : Nat := 0x5044
abbrev Rg.GROUP_GRP_MIN : Nat := 0x5048
abbrev Rg.GROUP_GRP_MAX : Nat := 0x504c
abbrev Rg.GROUP_FAIL_LVL : Nat := 0x5050
abbrev Rg.GROUP_GRP_RAMP : Nat := 0x5054
abbrev Rg.GROUP_GRP_STAT : Nat := 0x5058
abbrev Rg.GROUP_LATCH_CLR : Nat := 0x505c
abbrev Rg.GROUP_BROKEN (k : Nat) : Nat := 0x5080 + 4 * k
abbrev Rg.NODE_ENT_SEL : Nat := 0x6040
abbrev Rg.NODE_CMD : Nat := 0x6044
abbrev Rg.NODE_CMD_ARG0 : Nat := 0x6048
abbrev Rg.NODE_CMD_ARG1 : Nat := 0x604c
abbrev Rg.NODE_CMD_STAT : Nat := 0x6050
abbrev Rg.NODE_SESSION : Nat := 0x6054
abbrev Rg.NODE_POLL_CFG : Nat := 0x6058
abbrev Rg.NODE_SAT_CFG : Nat := 0x605c
abbrev Rg.NODE_COUNTS : Nat := 0x6060
abbrev Rg.NODE_COUNTS2 : Nat := 0x6064
abbrev Rg.NODE_DEF_GROUP : Nat := 0x6068
abbrev Rg.NODE_ENT (k : Nat) : Nat := 0x6080 + 4 * k
abbrev Rg.FB_BITRATE (n : Nat) : Nat := 0x10040 + n * 0x1000
abbrev Rg.FB_SAMPLE_PT (n : Nat) : Nat := 0x10044 + n * 0x1000
abbrev Rg.FB_SP_EFF (n : Nat) : Nat := 0x10048 + n * 0x1000
abbrev Rg.FB_SLOT_CFG (n : Nat) : Nat := 0x1004c + n * 0x1000
abbrev Rg.FB_SLOT_STAT (n : Nat) : Nat := 0x10050 + n * 0x1000
abbrev Rg.FB_SLOT_LEN (n : Nat) : Nat := 0x10054 + n * 0x1000
abbrev Rg.FB_REFRESH (n : Nat) : Nat := 0x10058 + n * 0x1000
abbrev Rg.FB_DET_CFG (n : Nat) : Nat := 0x1005c + n * 0x1000
abbrev Rg.FB_ERR_CNT (n : Nat) : Nat := 0x10060 + n * 0x1000
abbrev Rg.FB_LAST_ERR (n : Nat) : Nat := 0x10064 + n * 0x1000
abbrev Rg.FB_BUSOFF_CNT (n : Nat) : Nat := 0x10068 + n * 0x1000
abbrev Rg.FB_DUPCOLL_CNT (n : Nat) : Nat := 0x1006c + n * 0x1000
abbrev Rg.FB_FRAME_CNT (n : Nat) : Nat := 0x10070 + n * 0x1000
abbrev Rg.FB_SHED_CNT (n : Nat) : Nat := 0x10074 + n * 0x1000
abbrev Rg.FB_TX_FV (n : Nat) : Nat := 0x10078 + n * 0x1000
abbrev Rg.FB_AUTH_FAIL (n : Nat) : Nat := 0x1007c + n * 0x1000
abbrev Rg.FB_RX_SEQ (n : Nat) : Nat := 0x10080 + n * 0x1000
abbrev Rg.FB_TXPEND (n k : Nat) : Nat := 0x10090 + n * 0x1000 + 4 * k
abbrev Rg.FB_RXNEW (n k : Nat) : Nat := 0x100a0 + n * 0x1000 + 4 * k
abbrev Rg.MET_CFG (n : Nat) : Nat := 0x30040 + n * 0x1000
abbrev Rg.MET_SCALE_V (n : Nat) : Nat := 0x30044 + n * 0x1000
abbrev Rg.MET_SCALE_I (n : Nat) : Nat := 0x30048 + n * 0x1000
abbrev Rg.MET_IB (n : Nat) : Nat := 0x3004c + n * 0x1000
abbrev Rg.MET_FREQ (n : Nat) : Nat := 0x30050 + n * 0x1000
abbrev Rg.MET_WIN_CNT (n : Nat) : Nat := 0x30054 + n * 0x1000
abbrev Rg.MET_VRMS (n k : Nat) : Nat := 0x30058 + n * 0x1000 + 4 * k
abbrev Rg.MET_IRMS (n k : Nat) : Nat := 0x30064 + n * 0x1000 + 4 * k
abbrev Rg.MET_P (n k : Nat) : Nat := 0x30074 + n * 0x1000 + 4 * k
abbrev Rg.MET_Q (n k : Nat) : Nat := 0x30080 + n * 0x1000 + 4 * k
abbrev Rg.MET_S (n k : Nat) : Nat := 0x3008c + n * 0x1000 + 4 * k
abbrev Rg.MET_PF (n k : Nat) : Nat := 0x30098 + n * 0x1000 + 4 * k
abbrev Rg.MET_THD (n k : Nat) : Nat := 0x300a4 + n * 0x1000 + 4 * k
abbrev Rg.MET_ENERGY_SEL (n : Nat) : Nat := 0x300b0 + n * 0x1000
abbrev Rg.MET_ENERGY_LO (n : Nat) : Nat := 0x300b4 + n * 0x1000
abbrev Rg.MET_ENERGY_HI (n : Nat) : Nat := 0x300b8 + n * 0x1000
abbrev Rg.MET_HARM_SEL (n : Nat) : Nat := 0x300bc + n * 0x1000
abbrev Rg.MET_HARM_WIN (n : Nat) : Nat := 0x300c0 + n * 0x1000
abbrev Rg.MET_LOSS_THR (n : Nat) : Nat := 0x300c4 + n * 0x1000
abbrev Rg.MET_LOSS_CFG (n : Nat) : Nat := 0x300c8 + n * 0x1000
abbrev Rg.MET_RECON_SUM (n k : Nat) : Nat := 0x300cc + n * 0x1000 + 4 * k
abbrev Rg.MET_RECON_DIFF (n k : Nat) : Nat := 0x300d8 + n * 0x1000 + 4 * k
abbrev Rg.TRACE_CFG : Nat := 0x34040
abbrev Rg.TRACE_CODE_SEL : Nat := 0x34044
abbrev Rg.TRACE_NODE_SEL : Nat := 0x34048
abbrev Rg.TRACE_RESULT : Nat := 0x3404c
abbrev Rg.TRACE_BUSY_LO : Nat := 0x34050
abbrev Rg.TRACE_BUSY_HI : Nat := 0x34054
abbrev Rg.TRACE_UNK_P : Nat := 0x34058
abbrev Rg.TRACE_AMP : Nat := 0x3405c
abbrev Rg.CAL_CH_SEL : Nat := 0x35040
abbrev Rg.CAL_GAIN : Nat := 0x35044
abbrev Rg.CAL_PHASE : Nat := 0x35048
abbrev Rg.CAL_OFFSET : Nat := 0x3504c
abbrev Rg.CAL_SRC : Nat := 0x35050
abbrev Rg.CAL_CAL_CMD : Nat := 0x35054
abbrev Rg.CAL_CAL_STAT : Nat := 0x35058
abbrev Rg.CAL_USER_MAP : Nat := 0x3505c
abbrev Rg.CAL_INVALID_MAP : Nat := 0x35060
abbrev Rg.RTC_SEC_LO : Nat := 0x38040
abbrev Rg.RTC_SEC_HI : Nat := 0x38044
abbrev Rg.RTC_SUBSEC : Nat := 0x38048
abbrev Rg.RTC_CAL_DATE : Nat := 0x3804c
abbrev Rg.RTC_CAL_TIME : Nat := 0x38050
abbrev Rg.RTC_WEEKDAY : Nat := 0x38054
abbrev Rg.RTC_OSF : Nat := 0x38058
abbrev Rg.RTC_STAGE : Nat := 0x3805c
abbrev Rg.RTC_TRIM : Nat := 0x38060
abbrev Rg.RTC_WAKE_CFG : Nat := 0x38064
abbrev Rg.RTC_WAKE_REM : Nat := 0x38068
abbrev Rg.TIME_SRC_SEL : Nat := 0x39040
abbrev Rg.TIME_SRC_STAT : Nat := 0x39044
abbrev Rg.TIME_DOM_A_CFG : Nat := 0x39048
abbrev Rg.TIME_DOM_B_CFG : Nat := 0x3904c
abbrev Rg.TIME_DOM_A_STAT : Nat := 0x39050
abbrev Rg.TIME_DOM_B_STAT : Nat := 0x39054
abbrev Rg.TIME_DOM_A_OFS : Nat := 0x39058
abbrev Rg.TIME_DOM_B_OFS : Nat := 0x3905c
abbrev Rg.TIME_GNSS_CFG : Nat := 0x39060
abbrev Rg.TIME_GNSS_STAT : Nat := 0x39064
abbrev Rg.TIME_GNSS_OFS : Nat := 0x39068
abbrev Rg.TIME_UTC_OFS : Nat := 0x3906c
abbrev Rg.TIME_LEAP : Nat := 0x39070
abbrev Rg.TIME_SLEW : Nat := 0x39074
abbrev Rg.TIME_STEP_LOG : Nat := 0x39078
abbrev Rg.TIME_STEP_CNT : Nat := 0x3907c
abbrev Rg.TIME_NOW_NS : Nat := 0x39080
abbrev Rg.TIME_NOW_SEC_LO : Nat := 0x39084
abbrev Rg.TIME_NOW_SEC_HI : Nat := 0x39088
abbrev Rg.TIME_PPS_CFG : Nat := 0x3908c
abbrev Rg.TIME_HOLD_CFG : Nat := 0x39090
abbrev Rg.TIME_TC_CFG : Nat := 0x39094
abbrev Rg.SCHED_ENT_SEL : Nat := 0x3a040
abbrev Rg.SCHED_ENT_WIN (k : Nat) : Nat := 0x3a044 + 4 * k
abbrev Rg.SCHED_ENT_WIN4 : Nat := 0x3a054
abbrev Rg.SCHED_HOL_SEL : Nat := 0x3a058
abbrev Rg.SCHED_HOL_WIN : Nat := 0x3a05c
abbrev Rg.SCHED_SCENE_SEL : Nat := 0x3a060
abbrev Rg.SCHED_SCENE_WIN : Nat := 0x3a064
abbrev Rg.SCHED_CATCHUP : Nat := 0x3a068
abbrev Rg.SCHED_CURSOR : Nat := 0x3a06c
abbrev Rg.SCHED_LAT : Nat := 0x3a070
abbrev Rg.SCHED_LON : Nat := 0x3a074
abbrev Rg.SCHED_TZ_CFG : Nat := 0x3a078
abbrev Rg.SCHED_DST_START : Nat := 0x3a07c
abbrev Rg.SCHED_DST_END : Nat := 0x3a080
abbrev Rg.SCHED_BASE_SEL : Nat := 0x3a084
abbrev Rg.SCHED_BASE : Nat := 0x3a088
abbrev Rg.SCHED_SOLAR_SEL : Nat := 0x3a08c
abbrev Rg.SCHED_SOLAR : Nat := 0x3a090
abbrev Rg.SCHED_FB_CFG : Nat := 0x3a094
abbrev Rg.SCHED_FB_STAT : Nat := 0x3a098
abbrev Rg.SW_SW_CFG : Nat := 0x40040
abbrev Rg.SW_VLAN_CFG : Nat := 0x40044
abbrev Rg.SW_ERPS_CFG : Nat := 0x40048
abbrev Rg.SW_ERPS_TMR : Nat := 0x4004c
abbrev Rg.SW_ERPS_CMD : Nat := 0x40050
abbrev Rg.SW_ERPS_STAT : Nat := 0x40054
abbrev Rg.SW_FLUSH_CNT : Nat := 0x40058
abbrev Rg.SW_DROP : Nat := 0x4005c
abbrev Rg.SW_MAC_LO : Nat := 0x40060
abbrev Rg.SW_MAC_HI : Nat := 0x40064
abbrev Rg.PORT_MODE (n : Nat) : Nat := 0x41040 + n * 0x1000
abbrev Rg.PORT_LINK (n : Nat) : Nat := 0x41044 + n * 0x1000
abbrev Rg.PORT_PORT_CFG (n : Nat) : Nat := 0x41048 + n * 0x1000
abbrev Rg.PORT_RX_FRAMES (n : Nat) : Nat := 0x4104c + n * 0x1000
abbrev Rg.PORT_TX_FRAMES (n : Nat) : Nat := 0x41050 + n * 0x1000
abbrev Rg.PORT_RX_ERR (n : Nat) : Nat := 0x41054 + n * 0x1000
abbrev Rg.PORT_DOWN_CNT (n : Nat) : Nat := 0x41058 + n * 0x1000
abbrev Rg.IU_HOLD : Nat := 0x48040
abbrev Rg.IU_SRC_SEL : Nat := 0x48044
abbrev Rg.IU_SRC_CFG : Nat := 0x48048
abbrev Rg.IU_SRC_STAT : Nat := 0x4804c
abbrev Rg.IU_DOORBELL : Nat := 0x48050
abbrev Rg.IU_PEND (k : Nat) : Nat := 0x48060 + 4 * k
abbrev Rg.IU_COAL_CFG (k : Nat) : Nat := 0x48084 + 4 * k
abbrev Rg.IU_COAL_STAT : Nat := 0x480c0
abbrev Rg.IUC_VBAR (n : Nat) : Nat := 0x49040 + n * 0x1000
abbrev Rg.IUC_VEC (n : Nat) : Nat := 0x49044 + n * 0x1000
abbrev Rg.IUC_EOI (n : Nat) : Nat := 0x49048 + n * 0x1000
abbrev Rg.IUC_PMASK (n : Nat) : Nat := 0x4904c + n * 0x1000
abbrev Rg.IUC_FAULT (n : Nat) : Nat := 0x49050 + n * 0x1000
abbrev Rg.IUC_STACK (n k : Nat) : Nat := 0x49060 + n * 0x1000 + 4 * k
abbrev Rg.QM_Q_SEL : Nat := 0x50040
abbrev Rg.QM_Q_CFG : Nat := 0x50044
abbrev Rg.QM_Q_CFG2 : Nat := 0x50048
abbrev Rg.QM_Q_ERR : Nat := 0x5004c
abbrev Rg.QM_Q_SKIP : Nat := 0x50050
abbrev Rg.QMQ_DEPTH (k : Nat) : Nat := 0x51100 + 4 * k
abbrev Rg.QMQ_ITEM (k : Nat) : Nat := 0x51800 + 4 * k
abbrev Rg.PCIE_LINK : Nat := 0x54040
abbrev Rg.PCIE_HOST_MASK (k : Nat) : Nat := 0x54044 + 4 * k
abbrev Rg.PCIE_HDB_SET : Nat := 0x54054
abbrev Rg.PCIE_HDB : Nat := 0x54058
abbrev Rg.PCIE_CQ_SEL : Nat := 0x5405c
abbrev Rg.PCIE_CQ_BASE_LO : Nat := 0x54060
abbrev Rg.PCIE_CQ_BASE_HI : Nat := 0x54064
abbrev Rg.PCIE_CQ_CFG : Nat := 0x54068
abbrev Rg.PCIE_CQ_HEAD : Nat := 0x5406c
abbrev Rg.PCIE_CQ_TAIL : Nat := 0x54070
abbrev Rg.PCIE_MOD_CFG : Nat := 0x54074
abbrev Rg.PCIE_CQ_STAT : Nat := 0x54078
abbrev Rg.PCIE_CQ_OVF : Nat := 0x5407c
abbrev Rg.PCIE_CPL_W (k : Nat) : Nat := 0x54080 + 4 * k
abbrev Rg.PCIE_CPL_CMD : Nat := 0x54090
abbrev Rg.PCIE_CPL_STAT : Nat := 0x54094
abbrev Rg.PCIE_WAKE_ON_CPL : Nat := 0x54098
abbrev Rg.PAIR_CFG : Nat := 0x58040
abbrev Rg.PAIR_ROLE : Nat := 0x58044
abbrev Rg.PAIR_CMD : Nat := 0x58048
abbrev Rg.PAIR_SWAP_PERIOD : Nat := 0x5804c
abbrev Rg.PAIR_PEER : Nat := 0x58050
abbrev Rg.PAIR_MISMATCH_CNT : Nat := 0x58054
abbrev Rg.PAIR_IMP_STAT : Nat := 0x58058
abbrev Rg.PAIR_EDGE_OFS : Nat := 0x5805c
abbrev Rg.PAIR_PAIR_ID : Nat := 0x58060
abbrev Rg.PAIR_SWITCH_GAP : Nat := 0x58064
abbrev Rg.BYELL_LANE_STAT : Nat := 0x59040
abbrev Rg.BYELL_LAT : Nat := 0x59044
abbrev Rg.BYELL_TX_MSG : Nat := 0x59048
abbrev Rg.BYELL_RX_MSG : Nat := 0x5904c
abbrev Rg.BYELL_CRC_ERR : Nat := 0x59050
abbrev Rg.BYELL_DOWN_CNT : Nat := 0x59054
abbrev Rg.WIT_CFG : Nat := 0x5a040
abbrev Rg.WIT_HB_CFG : Nat := 0x5a044
abbrev Rg.WIT_LEASE : Nat := 0x5a048
abbrev Rg.WIT_STAT : Nat := 0x5a04c
abbrev Rg.WIT_HE_MAC_LO : Nat := 0x5a050
abbrev Rg.WIT_HE_MAC_HI : Nat := 0x5a054
abbrev Rg.WIT_CNT : Nat := 0x5a058
abbrev Rg.GROUND_MBX_CMD : Nat := 0x60040
abbrev Rg.GROUND_MBX_IN : Nat := 0x60044
abbrev Rg.GROUND_MBX_OUT : Nat := 0x60048
abbrev Rg.GROUND_MBX_STAT : Nat := 0x6004c
abbrev Rg.GROUND_LC : Nat := 0x60050
abbrev Rg.GROUND_KEY_CTR_LO : Nat := 0x60054
abbrev Rg.GROUND_KEY_CTR_HI : Nat := 0x60058
abbrev Rg.GROUND_SLOT_SEL : Nat := 0x6005c
abbrev Rg.GROUND_SLOT_STAT : Nat := 0x60060
abbrev Rg.GROUND_TAG_CNT : Nat := 0x60064
abbrev Rg.TAMP_POLICY : Nat := 0x61040
abbrev Rg.TAMP_SRC_EN : Nat := 0x61044
abbrev Rg.TAMP_LATCH : Nat := 0x61048
abbrev Rg.TAMP_LIVE : Nat := 0x6104c
abbrev Rg.TAMP_DOOR_SEL : Nat := 0x61050
abbrev Rg.UPD_STAGE : Nat := 0x64040
abbrev Rg.UPD_CMD : Nat := 0x64044
abbrev Rg.UPD_SEQ_LO : Nat := 0x64048
abbrev Rg.UPD_SEQ_HI : Nat := 0x6404c
abbrev Rg.UPD_RUN_SEQ_LO : Nat := 0x64050
abbrev Rg.UPD_RUN_SEQ_HI : Nat := 0x64054
abbrev Rg.UPD_LEDGER_VER : Nat := 0x64058
abbrev Rg.UPD_BITMAP_STAT : Nat := 0x6405c
abbrev Rg.UPD_TARGETS : Nat := 0x64060
abbrev Rg.UPD_DEADLINE : Nat := 0x64064
abbrev Rg.UPD_ACT_TICK_LO : Nat := 0x64068
abbrev Rg.UPD_ACT_TICK_HI : Nat := 0x6406c
abbrev Rg.UPD_CONFIRM : Nat := 0x64070
abbrev Rg.UPD_CFG : Nat := 0x64074
abbrev Rg.UPD_EXCHANGE : Nat := 0x64078
abbrev Rg.REC_RD_SEL : Nat := 0x68040
abbrev Rg.REC_RD_CFG : Nat := 0x68044
abbrev Rg.REC_RD_STAT : Nat := 0x68048
abbrev Rg.REC_NEXT_IDX : Nat := 0x6804c
abbrev Rg.REC_COUNTS (k : Nat) : Nat := 0x68050 + 4 * k
abbrev Rg.REC_QUOTA : Nat := 0x68060
abbrev Rg.REC_LOST : Nat := 0x68064
abbrev Rg.REC_DROPPED : Nat := 0x68068
abbrev Rg.REC_FB_CNT : Nat := 0x6806c
abbrev Rg.REC_PEND : Nat := 0x68070
abbrev Rg.REC_APP_PARAM (k : Nat) : Nat := 0x68074 + 4 * k
abbrev Rg.REC_APP_POST : Nat := 0x68088
abbrev Rg.REC_RD_WIN (k : Nat) : Nat := 0x680c0 + 4 * k
abbrev Rg.AGE_CFG : Nat := 0x6c040
abbrev Rg.AGE_ITEM_SEL : Nat := 0x6c044
abbrev Rg.AGE_MARGIN : Nat := 0x6c048
abbrev Rg.AGE_VALUE : Nat := 0x6c04c
abbrev Rg.AGE_LIMIT : Nat := 0x6c050
abbrev Rg.AGE_NOMINAL : Nat := 0x6c054
abbrev Rg.AGE_MEAS_AGE : Nat := 0x6c058
abbrev Rg.AGE_AVS : Nat := 0x6c05c
abbrev Rg.AGE_NAND_RF : Nat := 0x6c060
abbrev Rg.AGE_SCAP_CFG : Nat := 0x6c064
abbrev Rg.AGE_SCAP_RES : Nat := 0x6c068
abbrev Rg.AGE_CMD : Nat := 0x6c06c
abbrev Rg.PWR_STATE : Nat := 0x70040
abbrev Rg.PWR_CMD : Nat := 0x70044
abbrev Rg.PWR_CMD_STAT : Nat := 0x70048
abbrev Rg.PWR_VIN_MON : Nat := 0x7004c
abbrev Rg.PWR_VHOLD_MON : Nat := 0x70050
abbrev Rg.PWR_HOLD_CFG : Nat := 0x70054
abbrev Rg.PWR_HOLD_PLAN : Nat := 0x70058
abbrev Rg.PWR_WAKE_EN : Nat := 0x7005c
abbrev Rg.PWR_WAKE_SRC : Nat := 0x70060
abbrev Rg.BOOT_PROGRESS : Nat := 0x71040
abbrev Rg.BOOT_STAGE_SEL : Nat := 0x71044
abbrev Rg.BOOT_STAGE_STAT : Nat := 0x71048
abbrev Rg.BOOT_FAIL_CNT : Nat := 0x7104c
abbrev Rg.BOOT_TAKEN_MAP : Nat := 0x71050
abbrev Rg.BOOT_CMD : Nat := 0x71054
abbrev Rg.WDOG_RT_WD : Nat := 0x72040
abbrev Rg.WDOG_CORE_WD (k : Nat) : Nat := 0x72044 + 4 * k
abbrev Rg.WDOG_KICK : Nat := 0x72054
abbrev Rg.WDOG_SUPV : Nat := 0x72058
abbrev Rg.WDOG_EXP : Nat := 0x7205c
abbrev Rg.IO_DI_CFG : Nat := 0x78040
abbrev Rg.IO_DI_STUCK_T : Nat := 0x78044
abbrev Rg.IO_DI_CHATTER_N : Nat := 0x78048
abbrev Rg.IO_DI_STAT : Nat := 0x7804c
abbrev Rg.IO_DI_RAW : Nat := 0x78050
abbrev Rg.IO_CO_CMD : Nat := 0x78054
abbrev Rg.IO_CO_FB : Nat := 0x78058
abbrev Rg.IO_CO_CFG : Nat := 0x7805c
abbrev Rg.IO_CO_PULSE0 : Nat := 0x78060
abbrev Rg.IO_CO_PULSE1 : Nat := 0x78064
abbrev Rg.DBG_LEVEL : Nat := 0x7c040
abbrev Rg.DBG_CMD : Nat := 0x7c044
abbrev Rg.DBG_CHAL (k : Nat) : Nat := 0x7c048 + 4 * k
abbrev Rg.DBG_RESP (k : Nat) : Nat := 0x7c070 + 4 * k

/-! Fields. -/

abbrev Fd.SYS_RST_CAUSE_COLD : Fld := ⟨0x5c, 6, 1⟩
abbrev Fd.SYS_RST_CAUSE_DBG : Fld := ⟨0x5c, 5, 1⟩
abbrev Fd.SYS_RST_CAUSE_CMD : Fld := ⟨0x5c, 4, 1⟩
abbrev Fd.SYS_RST_CAUSE_WDOG : Fld := ⟨0x5c, 3, 1⟩
abbrev Fd.SYS_RST_CAUSE_SUPV : Fld := ⟨0x5c, 2, 1⟩
abbrev Fd.SYS_RST_CAUSE_BROWN : Fld := ⟨0x5c, 1, 1⟩
abbrev Fd.SYS_RST_CAUSE_POR : Fld := ⟨0x5c, 0, 1⟩
abbrev Fd.SYS_RST_CMD_MODULE_RST : Fld := ⟨0x60, 0, 1⟩
abbrev Fd.SYS_BUSERR_INFO_VALID : Fld := ⟨0x68, 31, 1⟩
abbrev Fd.SYS_BUSERR_INFO_OVF : Fld := ⟨0x68, 30, 1⟩
abbrev Fd.SYS_BUSERR_INFO_INIT : Fld := ⟨0x68, 24, 4⟩
abbrev Fd.SYS_BUSERR_INFO_WRITE : Fld := ⟨0x68, 23, 1⟩
abbrev Fd.SYS_BUSERR_INFO_CODE : Fld := ⟨0x68, 12, 8⟩
abbrev Fd.TICK_PERIOD_NEXT : Fld := ⟨0x1040, 4, 2⟩
abbrev Fd.TICK_PERIOD_CUR : Fld := ⟨0x1040, 0, 2⟩
abbrev Fd.TICK_PHASE_ERR_ERR : Fld := ⟨0x1050, 0, 32⟩
abbrev Fd.TICK_OVR_CNT_CONSEC : Fld := ⟨0x1058, 24, 8⟩
abbrev Fd.TICK_OVR_CNT_TOTAL : Fld := ⟨0x1058, 0, 24⟩
abbrev Fd.TICK_CLEAN_CNT_CLEAN : Fld := ⟨0x105c, 0, 16⟩
abbrev Fd.TICK_MODE_CAUSE : Fld := ⟨0x1060, 8, 3⟩
abbrev Fd.TICK_MODE_FORCE_SCHED : Fld := ⟨0x1060, 4, 1⟩
abbrev Fd.TICK_MODE_STATE : Fld := ⟨0x1060, 0, 2⟩
abbrev Fd.TICK_MISS_IMP_LATE : Fld := ⟨0x1064, 16, 16⟩
abbrev Fd.TICK_MISS_COMPOSE_MISS : Fld := ⟨0x1064, 0, 16⟩
abbrev Fd.TICK_FREEZE_OWN_CUT : Fld := ⟨0x1068, 16, 1⟩
abbrev Fd.TICK_FREEZE_IN_CNT : Fld := ⟨0x1068, 0, 16⟩
abbrev Fd.TICK_STAT_REALIGN : Fld := ⟨0x100c, 9, 1⟩
abbrev Fd.TICK_STAT_PHASE_OK : Fld := ⟨0x100c, 8, 1⟩
abbrev Fd.HATCH_DROP_W_DROP_W : Fld := ⟨0x2040, 0, 16⟩
abbrev Fd.HATCH_HORIZON_HORIZON : Fld := ⟨0x2044, 0, 8⟩
abbrev Fd.HATCH_LIMITS_DET_MAX : Fld := ⟨0x2048, 16, 10⟩
abbrev Fd.HATCH_LIMITS_HYP_MAX_P : Fld := ⟨0x2048, 0, 7⟩
abbrev Fd.HATCH_PULSE_CNT_PEAK : Fld := ⟨0x204c, 16, 12⟩
abbrev Fd.HATCH_PULSE_CNT_CUR : Fld := ⟨0x204c, 0, 12⟩
abbrev Fd.HATCH_HYP_CNT_PEAK : Fld := ⟨0x2050, 16, 14⟩
abbrev Fd.HATCH_HYP_CNT_CUR : Fld := ⟨0x2050, 0, 14⟩
abbrev Fd.HATCH_DET_CNT_ASSOC : Fld := ⟨0x2054, 16, 16⟩
abbrev Fd.HATCH_DET_CNT_LAUNCH : Fld := ⟨0x2054, 0, 16⟩
abbrev Fd.HATCH_DET_REJ_FULL : Fld := ⟨0x2058, 24, 8⟩
abbrev Fd.HATCH_DET_REJ_HEADING : Fld := ⟨0x2058, 16, 8⟩
abbrev Fd.HATCH_DET_REJ_CLASS : Fld := ⟨0x2058, 8, 8⟩
abbrev Fd.HATCH_DET_REJ_UNBOUND : Fld := ⟨0x2058, 0, 8⟩
abbrev Fd.HATCH_DET_REJ2_WEIGHT : Fld := ⟨0x205c, 8, 8⟩
abbrev Fd.HATCH_DET_REJ2_FORMAT : Fld := ⟨0x205c, 0, 8⟩
abbrev Fd.HATCH_DET_DEFER_DEFER : Fld := ⟨0x2060, 0, 10⟩
abbrev Fd.HATCH_RUN_US_K : Fld := ⟨0x2064, 28, 4⟩
abbrev Fd.HATCH_RUN_US_US : Fld := ⟨0x2064, 0, 16⟩
abbrev Fd.HATCH_RUN_MAX_US : Fld := ⟨0x2068, 0, 16⟩
abbrev Fd.HATCH_DIGEST_DIGEST : Fld := ⟨0x206c, 0, 32⟩
abbrev Fd.HATCH_DROP_CNT_EVICTED : Fld := ⟨0x2070, 16, 16⟩
abbrev Fd.HATCH_DROP_CNT_CAPPED : Fld := ⟨0x2070, 0, 16⟩
abbrev Fd.HATCH_PROFILE_EN (c : Nat) : Fld := ⟨0x2100 + 0x10 * c, 31, 1⟩
abbrev Fd.HATCH_PROFILE_AHEAD_T (c : Nat) : Fld := ⟨0x2100 + 0x10 * c, 16, 8⟩
abbrev Fd.HATCH_PROFILE_PEAK (c : Nat) : Fld := ⟨0x2100 + 0x10 * c, 0, 16⟩
abbrev Fd.HATCH_PROFILE_BEHIND (c : Nat) : Fld := ⟨0x2104 + 0x10 * c, 16, 16⟩
abbrev Fd.HATCH_PROFILE_AHEAD_MIN (c : Nat) : Fld := ⟨0x2104 + 0x10 * c, 0, 16⟩
abbrev Fd.HATCH_PROFILE_DECAY_PS (c : Nat) : Fld := ⟨0x2108 + 0x10 * c, 16, 16⟩
abbrev Fd.HATCH_PROFILE_DEF_SPEED (c : Nat) : Fld := ⟨0x2108 + 0x10 * c, 0, 16⟩
abbrev Fd.HATCH_PROFILE_ASSOC_T (c : Nat) : Fld := ⟨0x210c + 0x10 * c, 24, 8⟩
abbrev Fd.HATCH_PROFILE_GATE (c : Nat) : Fld := ⟨0x210c + 0x10 * c, 16, 8⟩
abbrev Fd.HATCH_PROFILE_MAX_AGE (c : Nat) : Fld := ⟨0x210c + 0x10 * c, 0, 12⟩
abbrev Fd.HATCHG_GRAPH_CTRL_CMD : Fld := ⟨0x3040, 0, 2⟩
abbrev Fd.HATCHG_GRAPH_STAT_ERR_TABLE : Fld := ⟨0x3044, 30, 2⟩
abbrev Fd.HATCHG_GRAPH_STAT_ERR_INDEX : Fld := ⟨0x3044, 16, 14⟩
abbrev Fd.HATCHG_GRAPH_STAT_ERR : Fld := ⟨0x3044, 8, 8⟩
abbrev Fd.HATCHG_GRAPH_STAT_STATE : Fld := ⟨0x3044, 0, 3⟩
abbrev Fd.HATCHG_LOAD_SEL_TABLE : Fld := ⟨0x3058, 30, 2⟩
abbrev Fd.HATCHG_LOAD_SEL_INDEX : Fld := ⟨0x3058, 0, 14⟩
abbrev Fd.PLATE_BUF_SEL_FRONT : Fld := ⟨0x4040, 0, 1⟩
abbrev Fd.PLATE_WIN_SEL_BUF : Fld := ⟨0x4048, 31, 1⟩
abbrev Fd.PLATE_WIN_SEL_AUTOINC : Fld := ⟨0x4048, 12, 1⟩
abbrev Fd.PLATE_WIN_SEL_INDEX : Fld := ⟨0x4048, 0, 12⟩
abbrev Fd.PLATE_WIN_ODD : Fld := ⟨0x404c, 16, 16⟩
abbrev Fd.PLATE_WIN_EVEN : Fld := ⟨0x404c, 0, 16⟩
abbrev Fd.PLATE_LF_CFG_EN : Fld := ⟨0x4050, 31, 1⟩
abbrev Fd.PLATE_LF_CFG_TREF : Fld := ⟨0x4050, 24, 7⟩
abbrev Fd.PLATE_LF_CFG_TEMP_COEF : Fld := ⟨0x4050, 16, 8⟩
abbrev Fd.PLATE_LF_CFG_DEP_PER_KH : Fld := ⟨0x4050, 0, 16⟩
abbrev Fd.GROUP_GRP_MODE_CO_EN : Fld := ⟨0x5044, 11, 1⟩
abbrev Fd.GROUP_GRP_MODE_CO : Fld := ⟨0x5044, 8, 3⟩
abbrev Fd.GROUP_GRP_MODE_FAIL_STEP : Fld := ⟨0x5044, 5, 1⟩
abbrev Fd.GROUP_GRP_MODE_COMLOSS_FAIL : Fld := ⟨0x5044, 4, 1⟩
abbrev Fd.GROUP_GRP_MODE_MODE : Fld := ⟨0x5044, 0, 2⟩
abbrev Fd.GROUP_GRP_RAMP_RAMP_UP : Fld := ⟨0x5054, 16, 16⟩
abbrev Fd.GROUP_GRP_RAMP_RAMP_DN : Fld := ⟨0x5054, 0, 16⟩
abbrev Fd.GROUP_GRP_STAT_BROKEN : Fld := ⟨0x5058, 31, 1⟩
abbrev Fd.GROUP_GRP_STAT_CO_OFF : Fld := ⟨0x5058, 30, 1⟩
abbrev Fd.GROUP_GRP_STAT_EVAL_HOLD : Fld := ⟨0x5058, 29, 1⟩
abbrev Fd.GROUP_GRP_STAT_FAILED : Fld := ⟨0x5058, 16, 13⟩
abbrev Fd.GROUP_GRP_STAT_MEMBERS : Fld := ⟨0x5058, 0, 13⟩
abbrev Fd.GROUP_LATCH_CLR_ALL : Fld := ⟨0x505c, 31, 1⟩
abbrev Fd.GROUP_LATCH_CLR_NODE : Fld := ⟨0x505c, 0, 12⟩
abbrev Fd.GROUP_BROKEN_BROKEN (k : Nat) : Fld := ⟨0x5080 + 4 * k, 0, 32⟩
abbrev Fd.NODE_ENT_SEL_AUTOINC : Fld := ⟨0x6040, 31, 1⟩
abbrev Fd.NODE_ENT_SEL_INDEX : Fld := ⟨0x6040, 0, 12⟩
abbrev Fd.NODE_CMD_INDEX : Fld := ⟨0x6044, 16, 12⟩
abbrev Fd.NODE_CMD_ARG : Fld := ⟨0x6044, 8, 8⟩
abbrev Fd.NODE_CMD_OP : Fld := ⟨0x6044, 0, 4⟩
abbrev Fd.NODE_CMD_STAT_BUSY : Fld := ⟨0x6050, 31, 1⟩
abbrev Fd.NODE_CMD_STAT_INDEX : Fld := ⟨0x6050, 16, 12⟩
abbrev Fd.NODE_CMD_STAT_RESULT : Fld := ⟨0x6050, 8, 8⟩
abbrev Fd.NODE_CMD_STAT_OP : Fld := ⟨0x6050, 0, 4⟩
abbrev Fd.NODE_POLL_CFG_COMLOSS_N : Fld := ⟨0x6058, 0, 4⟩
abbrev Fd.NODE_SAT_CFG_OFF_S : Fld := ⟨0x605c, 24, 8⟩
abbrev Fd.NODE_SAT_CFG_ON_S : Fld := ⟨0x605c, 16, 8⟩
abbrev Fd.NODE_SAT_CFG_RATE_LIM : Fld := ⟨0x605c, 8, 8⟩
abbrev Fd.NODE_SAT_CFG_RATE_MAX : Fld := ⟨0x605c, 0, 8⟩
abbrev Fd.NODE_COUNTS_SENSORS : Fld := ⟨0x6060, 16, 11⟩
abbrev Fd.NODE_COUNTS_NODES : Fld := ⟨0x6060, 0, 13⟩
abbrev Fd.NODE_COUNTS2_COMLOSS : Fld := ⟨0x6064, 16, 13⟩
abbrev Fd.NODE_COUNTS2_QUAR : Fld := ⟨0x6064, 0, 13⟩
abbrev Fd.FB_BITRATE_ARB (n : Nat) : Fld := ⟨0x10040 + n * 0x1000, 4, 2⟩
abbrev Fd.FB_BITRATE_DATA (n : Nat) : Fld := ⟨0x10040 + n * 0x1000, 0, 2⟩
abbrev Fd.FB_SAMPLE_PT_NOM_SP (n : Nat) : Fld := ⟨0x10044 + n * 0x1000, 24, 7⟩
abbrev Fd.FB_SAMPLE_PT_DATA_SP (n : Nat) : Fld := ⟨0x10044 + n * 0x1000, 16, 7⟩
abbrev Fd.FB_SAMPLE_PT_BURNISH_EN (n : Nat) : Fld := ⟨0x10044 + n * 0x1000, 0, 1⟩
abbrev Fd.FB_SP_EFF_NOM_SP (n : Nat) : Fld := ⟨0x10048 + n * 0x1000, 24, 7⟩
abbrev Fd.FB_SP_EFF_DATA_SP (n : Nat) : Fld := ⟨0x10048 + n * 0x1000, 16, 7⟩
abbrev Fd.FB_SLOT_CFG_PLAN_AUTO (n : Nat) : Fld := ⟨0x1004c + n * 0x1000, 31, 1⟩
abbrev Fd.FB_SLOT_CFG_PD (n : Nat) : Fld := ⟨0x1004c + n * 0x1000, 24, 5⟩
abbrev Fd.FB_SLOT_CFG_POLL (n : Nat) : Fld := ⟨0x1004c + n * 0x1000, 16, 5⟩
abbrev Fd.FB_SLOT_CFG_EVENT (n : Nat) : Fld := ⟨0x1004c + n * 0x1000, 8, 6⟩
abbrev Fd.FB_SLOT_CFG_BULK (n : Nat) : Fld := ⟨0x1004c + n * 0x1000, 0, 6⟩
abbrev Fd.FB_SLOT_STAT_PLAN_ERR (n : Nat) : Fld := ⟨0x10050 + n * 0x1000, 31, 1⟩
abbrev Fd.FB_SLOT_LEN_N (n : Nat) : Fld := ⟨0x10054 + n * 0x1000, 24, 8⟩
abbrev Fd.FB_SLOT_LEN_LS (n : Nat) : Fld := ⟨0x10054 + n * 0x1000, 0, 13⟩
abbrev Fd.FB_REFRESH_MIN (n : Nat) : Fld := ⟨0x10058 + n * 0x1000, 0, 4⟩
abbrev Fd.FB_DET_CFG_FRAMES (n : Nat) : Fld := ⟨0x1005c + n * 0x1000, 16, 4⟩
abbrev Fd.FB_DET_CFG_TMO (n : Nat) : Fld := ⟨0x1005c + n * 0x1000, 0, 16⟩
abbrev Fd.FB_ERR_CNT_TEC (n : Nat) : Fld := ⟨0x10060 + n * 0x1000, 16, 9⟩
abbrev Fd.FB_ERR_CNT_REC (n : Nat) : Fld := ⟨0x10060 + n * 0x1000, 0, 8⟩
abbrev Fd.FB_LAST_ERR_VALID (n : Nat) : Fld := ⟨0x10064 + n * 0x1000, 31, 1⟩
abbrev Fd.FB_LAST_ERR_DATA_PHASE (n : Nat) : Fld := ⟨0x10064 + n * 0x1000, 30, 1⟩
abbrev Fd.FB_LAST_ERR_CODE (n : Nat) : Fld := ⟨0x10064 + n * 0x1000, 0, 3⟩
abbrev Fd.FB_BUSOFF_CNT_STORM (n : Nat) : Fld := ⟨0x10068 + n * 0x1000, 16, 16⟩
abbrev Fd.FB_BUSOFF_CNT_BUSOFF (n : Nat) : Fld := ⟨0x10068 + n * 0x1000, 0, 16⟩
abbrev Fd.FB_DUPCOLL_CNT_QUAR (n : Nat) : Fld := ⟨0x1006c + n * 0x1000, 16, 16⟩
abbrev Fd.FB_DUPCOLL_CNT_BURSTS (n : Nat) : Fld := ⟨0x1006c + n * 0x1000, 0, 16⟩
abbrev Fd.FB_FRAME_CNT_TX (n : Nat) : Fld := ⟨0x10070 + n * 0x1000, 16, 16⟩
abbrev Fd.FB_FRAME_CNT_RX (n : Nat) : Fld := ⟨0x10070 + n * 0x1000, 0, 16⟩
abbrev Fd.FB_TX_FV_FV (n : Nat) : Fld := ⟨0x10078 + n * 0x1000, 0, 32⟩
abbrev Fd.FB_AUTH_FAIL_HOLD (n : Nat) : Fld := ⟨0x1007c + n * 0x1000, 16, 16⟩
abbrev Fd.FB_AUTH_FAIL_FAIL (n : Nat) : Fld := ⟨0x1007c + n * 0x1000, 0, 16⟩
abbrev Fd.FB_CTRL_LISTEN (n : Nat) : Fld := ⟨0x10008 + n * 0x1000, 10, 1⟩
abbrev Fd.FB_CTRL_AUTORATE (n : Nat) : Fld := ⟨0x10008 + n * 0x1000, 9, 1⟩
abbrev Fd.FB_CTRL_ONESHOT (n : Nat) : Fld := ⟨0x10008 + n * 0x1000, 8, 1⟩
abbrev Fd.FB_STAT_RATE_ARB (n : Nat) : Fld := ⟨0x1000c + n * 0x1000, 18, 2⟩
abbrev Fd.FB_STAT_RATE_DATA (n : Nat) : Fld := ⟨0x1000c + n * 0x1000, 16, 2⟩
abbrev Fd.FB_STAT_BUS_STATE (n : Nat) : Fld := ⟨0x1000c + n * 0x1000, 12, 3⟩
abbrev Fd.FB_STAT_PLAN_ERR (n : Nat) : Fld := ⟨0x1000c + n * 0x1000, 10, 1⟩
abbrev Fd.FB_STAT_KEY_HOLD (n : Nat) : Fld := ⟨0x1000c + n * 0x1000, 9, 1⟩
abbrev Fd.FB_STAT_LISTENING (n : Nat) : Fld := ⟨0x1000c + n * 0x1000, 8, 1⟩
abbrev Fd.MET_CFG_N_EN (n : Nat) : Fld := ⟨0x30040 + n * 0x1000, 8, 1⟩
abbrev Fd.MET_CFG_NOM_F (n : Nat) : Fld := ⟨0x30040 + n * 0x1000, 1, 1⟩
abbrev Fd.MET_CFG_WIRING (n : Nat) : Fld := ⟨0x30040 + n * 0x1000, 0, 1⟩
abbrev Fd.MET_THD_THD_I (n k : Nat) : Fld := ⟨0x300a4 + n * 0x1000 + 4 * k, 16, 16⟩
abbrev Fd.MET_THD_THD_V (n k : Nat) : Fld := ⟨0x300a4 + n * 0x1000 + 4 * k, 0, 16⟩
abbrev Fd.MET_ENERGY_SEL_REG (n : Nat) : Fld := ⟨0x300b0 + n * 0x1000, 4, 3⟩
abbrev Fd.MET_ENERGY_SEL_PHASE (n : Nat) : Fld := ⟨0x300b0 + n * 0x1000, 0, 2⟩
abbrev Fd.MET_HARM_SEL_AUTOINC (n : Nat) : Fld := ⟨0x300bc + n * 0x1000, 31, 1⟩
abbrev Fd.MET_HARM_SEL_ORDER (n : Nat) : Fld := ⟨0x300bc + n * 0x1000, 8, 5⟩
abbrev Fd.MET_HARM_SEL_CH (n : Nat) : Fld := ⟨0x300bc + n * 0x1000, 0, 3⟩
abbrev Fd.MET_LOSS_THR_REL (n : Nat) : Fld := ⟨0x300c4 + n * 0x1000, 16, 16⟩
abbrev Fd.MET_LOSS_THR_ABS (n : Nat) : Fld := ⟨0x300c4 + n * 0x1000, 0, 16⟩
abbrev Fd.MET_LOSS_CFG_PERSIST (n : Nat) : Fld := ⟨0x300c8 + n * 0x1000, 16, 16⟩
abbrev Fd.MET_LOSS_CFG_EN (n : Nat) : Fld := ⟨0x300c8 + n * 0x1000, 0, 1⟩
abbrev Fd.TRACE_CFG_MIN_LVL : Fld := ⟨0x34040, 16, 16⟩
abbrev Fd.TRACE_CFG_RATIO : Fld := ⟨0x34040, 8, 8⟩
abbrev Fd.TRACE_CFG_MISS_MAX : Fld := ⟨0x34040, 0, 8⟩
abbrev Fd.TRACE_NODE_SEL_START : Fld := ⟨0x34048, 31, 1⟩
abbrev Fd.TRACE_NODE_SEL_NODE : Fld := ⟨0x34048, 0, 12⟩
abbrev Fd.TRACE_RESULT_STATE : Fld := ⟨0x3404c, 28, 4⟩
abbrev Fd.TRACE_RESULT_CAUSE : Fld := ⟨0x3404c, 24, 4⟩
abbrev Fd.TRACE_RESULT_PHASE : Fld := ⟨0x3404c, 22, 2⟩
abbrev Fd.TRACE_RESULT_RATIO : Fld := ⟨0x3404c, 8, 8⟩
abbrev Fd.TRACE_RESULT_MISSED : Fld := ⟨0x3404c, 0, 7⟩
abbrev Fd.CAL_SRC_WRITES : Fld := ⟨0x35050, 16, 16⟩
abbrev Fd.CAL_SRC_SRC : Fld := ⟨0x35050, 0, 2⟩
abbrev Fd.CAL_CAL_CMD_COMMIT : Fld := ⟨0x35054, 0, 1⟩
abbrev Fd.CAL_CAL_STAT_BUSY : Fld := ⟨0x35058, 31, 1⟩
abbrev Fd.CAL_CAL_STAT_RESULT : Fld := ⟨0x35058, 8, 8⟩
abbrev Fd.CAL_CAL_STAT_CH : Fld := ⟨0x35058, 0, 5⟩
abbrev Fd.RTC_SEC_LO_SEC : Fld := ⟨0x38040, 0, 32⟩
abbrev Fd.RTC_SEC_HI_SEC : Fld := ⟨0x38044, 0, 8⟩
abbrev Fd.RTC_SUBSEC_CYC : Fld := ⟨0x38048, 0, 15⟩
abbrev Fd.RTC_CAL_DATE_YEAR : Fld := ⟨0x3804c, 16, 12⟩
abbrev Fd.RTC_CAL_DATE_MONTH : Fld := ⟨0x3804c, 8, 4⟩
abbrev Fd.RTC_CAL_DATE_DAY : Fld := ⟨0x3804c, 0, 5⟩
abbrev Fd.RTC_CAL_TIME_HOUR : Fld := ⟨0x38050, 16, 5⟩
abbrev Fd.RTC_CAL_TIME_MIN : Fld := ⟨0x38050, 8, 6⟩
abbrev Fd.RTC_CAL_TIME_SEC : Fld := ⟨0x38050, 0, 6⟩
abbrev Fd.RTC_WEEKDAY_WDAY : Fld := ⟨0x38054, 0, 3⟩
abbrev Fd.RTC_OSF_WDAY_STALE : Fld := ⟨0x38058, 1, 1⟩
abbrev Fd.RTC_OSF_OSF : Fld := ⟨0x38058, 0, 1⟩
abbrev Fd.RTC_STAGE_PENDING : Fld := ⟨0x3805c, 31, 1⟩
abbrev Fd.RTC_STAGE_ERR : Fld := ⟨0x3805c, 8, 2⟩
abbrev Fd.RTC_STAGE_CANCEL : Fld := ⟨0x3805c, 0, 1⟩
abbrev Fd.RTC_TRIM_AUTO : Fld := ⟨0x38060, 15, 1⟩
abbrev Fd.RTC_TRIM_TRIM : Fld := ⟨0x38060, 0, 12⟩
abbrev Fd.RTC_WAKE_CFG_MODE : Fld := ⟨0x38064, 30, 2⟩
abbrev Fd.RTC_WAKE_CFG_COUNT : Fld := ⟨0x38064, 0, 25⟩
abbrev Fd.RTC_WAKE_REM_REM : Fld := ⟨0x38068, 0, 25⟩
abbrev Fd.TIME_SRC_SEL_FORCE : Fld := ⟨0x39040, 31, 1⟩
abbrev Fd.TIME_SRC_SEL_FORCED : Fld := ⟨0x39040, 24, 3⟩
abbrev Fd.TIME_SRC_SEL_REVERT_S : Fld := ⟨0x39040, 16, 8⟩
abbrev Fd.TIME_SRC_SEL_PRIO2 : Fld := ⟨0x39040, 8, 2⟩
abbrev Fd.TIME_SRC_SEL_PRIO1 : Fld := ⟨0x39040, 4, 2⟩
abbrev Fd.TIME_SRC_SEL_PRIO0 : Fld := ⟨0x39040, 0, 2⟩
abbrev Fd.TIME_SRC_STAT_HOLD_MIN : Fld := ⟨0x39044, 16, 16⟩
abbrev Fd.TIME_SRC_STAT_LEAP : Fld := ⟨0x39044, 9, 2⟩
abbrev Fd.TIME_SRC_STAT_UTC_ANN : Fld := ⟨0x39044, 8, 1⟩
abbrev Fd.TIME_SRC_STAT_FORCED : Fld := ⟨0x39044, 7, 1⟩
abbrev Fd.TIME_SRC_STAT_STATE : Fld := ⟨0x39044, 4, 3⟩
abbrev Fd.TIME_SRC_STAT_CUR : Fld := ⟨0x39044, 0, 3⟩
abbrev Fd.TIME_DOM_A_CFG_EN : Fld := ⟨0x39048, 31, 1⟩
abbrev Fd.TIME_DOM_A_CFG_MAX_CLASS : Fld := ⟨0x39048, 16, 8⟩
abbrev Fd.TIME_DOM_A_CFG_PORTS : Fld := ⟨0x39048, 8, 4⟩
abbrev Fd.TIME_DOM_A_CFG_DOMAIN : Fld := ⟨0x39048, 0, 8⟩
abbrev Fd.TIME_DOM_B_CFG_EN : Fld := ⟨0x3904c, 31, 1⟩
abbrev Fd.TIME_DOM_B_CFG_MAX_CLASS : Fld := ⟨0x3904c, 16, 8⟩
abbrev Fd.TIME_DOM_B_CFG_PORTS : Fld := ⟨0x3904c, 8, 4⟩
abbrev Fd.TIME_DOM_B_CFG_DOMAIN : Fld := ⟨0x3904c, 0, 8⟩
abbrev Fd.TIME_DOM_A_STAT_CLASS : Fld := ⟨0x39050, 16, 8⟩
abbrev Fd.TIME_DOM_A_STAT_PORT : Fld := ⟨0x39050, 8, 2⟩
abbrev Fd.TIME_DOM_A_STAT_STATE : Fld := ⟨0x39050, 0, 3⟩
abbrev Fd.TIME_DOM_B_STAT_CLASS : Fld := ⟨0x39054, 16, 8⟩
abbrev Fd.TIME_DOM_B_STAT_PORT : Fld := ⟨0x39054, 8, 2⟩
abbrev Fd.TIME_DOM_B_STAT_STATE : Fld := ⟨0x39054, 0, 3⟩
abbrev Fd.TIME_GNSS_CFG_EN : Fld := ⟨0x39060, 31, 1⟩
abbrev Fd.TIME_GNSS_CFG_BAUD : Fld := ⟨0x39060, 24, 3⟩
abbrev Fd.TIME_GNSS_CFG_PPS_REL : Fld := ⟨0x39060, 20, 1⟩
abbrev Fd.TIME_GNSS_CFG_PPS_DLY : Fld := ⟨0x39060, 0, 16⟩
abbrev Fd.TIME_GNSS_STAT_CSUM_ERR : Fld := ⟨0x39064, 8, 8⟩
abbrev Fd.TIME_GNSS_STAT_STATE : Fld := ⟨0x39064, 0, 3⟩
abbrev Fd.TIME_UTC_OFS_CUR : Fld := ⟨0x3906c, 16, 16⟩
abbrev Fd.TIME_UTC_OFS_CFG : Fld := ⟨0x3906c, 0, 16⟩
abbrev Fd.TIME_LEAP_PEND : Fld := ⟨0x39070, 0, 2⟩
abbrev Fd.TIME_STEP_CNT_FAULTS : Fld := ⟨0x3907c, 16, 16⟩
abbrev Fd.TIME_STEP_CNT_STEPS : Fld := ⟨0x3907c, 0, 16⟩
abbrev Fd.TIME_PPS_CFG_EN : Fld := ⟨0x3908c, 31, 1⟩
abbrev Fd.TIME_PPS_CFG_LOCKED_ONLY : Fld := ⟨0x3908c, 30, 1⟩
abbrev Fd.TIME_PPS_CFG_WIDTH : Fld := ⟨0x3908c, 0, 9⟩
abbrev Fd.TIME_HOLD_CFG_HOLD_MAX : Fld := ⟨0x39090, 0, 16⟩
abbrev Fd.TIME_TC_CFG_EN : Fld := ⟨0x39094, 0, 1⟩
abbrev Fd.SCHED_ENT_SEL_ERR : Fld := ⟨0x3a040, 30, 2⟩
abbrev Fd.SCHED_ENT_SEL_INDEX : Fld := ⟨0x3a040, 0, 11⟩
abbrev Fd.SCHED_ENT_WIN4_LAST_DAY : Fld := ⟨0x3a054, 16, 16⟩
abbrev Fd.SCHED_ENT_WIN4_OUT : Fld := ⟨0x3a054, 8, 3⟩
abbrev Fd.SCHED_ENT_WIN4_RAMPING : Fld := ⟨0x3a054, 0, 1⟩
abbrev Fd.SCHED_HOL_WIN_EN : Fld := ⟨0x3a05c, 31, 1⟩
abbrev Fd.SCHED_HOL_WIN_YEARLY : Fld := ⟨0x3a05c, 30, 1⟩
abbrev Fd.SCHED_HOL_WIN_YEAR : Fld := ⟨0x3a05c, 16, 12⟩
abbrev Fd.SCHED_HOL_WIN_MONTH : Fld := ⟨0x3a05c, 8, 4⟩
abbrev Fd.SCHED_HOL_WIN_DAY : Fld := ⟨0x3a05c, 0, 5⟩
abbrev Fd.SCHED_SCENE_WIN_EN : Fld := ⟨0x3a064, 31, 1⟩
abbrev Fd.SCHED_SCENE_WIN_GROUP : Fld := ⟨0x3a064, 16, 9⟩
abbrev Fd.SCHED_SCENE_WIN_LEVEL : Fld := ⟨0x3a064, 0, 16⟩
abbrev Fd.SCHED_CURSOR_DAY : Fld := ⟨0x3a06c, 16, 16⟩
abbrev Fd.SCHED_CURSOR_NEXT : Fld := ⟨0x3a06c, 0, 12⟩
abbrev Fd.SCHED_TZ_CFG_DST_EN : Fld := ⟨0x3a078, 31, 1⟩
abbrev Fd.SCHED_TZ_CFG_DST_MIN : Fld := ⟨0x3a078, 24, 7⟩
abbrev Fd.SCHED_TZ_CFG_STD_MIN : Fld := ⟨0x3a078, 0, 12⟩
abbrev Fd.SCHED_DST_START_MONTH : Fld := ⟨0x3a07c, 28, 4⟩
abbrev Fd.SCHED_DST_START_WEEK : Fld := ⟨0x3a07c, 25, 3⟩
abbrev Fd.SCHED_DST_START_CWDAY : Fld := ⟨0x3a07c, 22, 3⟩
abbrev Fd.SCHED_DST_START_MIN : Fld := ⟨0x3a07c, 11, 11⟩
abbrev Fd.SCHED_DST_END_MONTH : Fld := ⟨0x3a080, 28, 4⟩
abbrev Fd.SCHED_DST_END_WEEK : Fld := ⟨0x3a080, 25, 3⟩
abbrev Fd.SCHED_DST_END_CWDAY : Fld := ⟨0x3a080, 22, 3⟩
abbrev Fd.SCHED_DST_END_MIN : Fld := ⟨0x3a080, 11, 11⟩
abbrev Fd.SCHED_FB_CFG_SAVE : Fld := ⟨0x3a094, 31, 1⟩
abbrev Fd.SCHED_FB_CFG_DEF_LVL : Fld := ⟨0x3a094, 0, 16⟩
abbrev Fd.SCHED_FB_STAT_VALID : Fld := ⟨0x3a098, 31, 1⟩
abbrev Fd.SCHED_FB_STAT_ERR : Fld := ⟨0x3a098, 29, 2⟩
abbrev Fd.SCHED_FB_STAT_SEQ : Fld := ⟨0x3a098, 17, 12⟩
abbrev Fd.SCHED_FB_STAT_OMIT : Fld := ⟨0x3a098, 9, 8⟩
abbrev Fd.SCHED_FB_STAT_SAVED : Fld := ⟨0x3a098, 0, 9⟩
abbrev Fd.SW_SW_CFG_CUT_THRU : Fld := ⟨0x40040, 1, 1⟩
abbrev Fd.SW_SW_CFG_LAN_BRIDGE : Fld := ⟨0x40040, 0, 1⟩
abbrev Fd.SW_VLAN_CFG_RAPS_VID : Fld := ⟨0x40044, 16, 12⟩
abbrev Fd.SW_VLAN_CFG_RING_VID : Fld := ⟨0x40044, 0, 12⟩
abbrev Fd.SW_ERPS_CFG_EN : Fld := ⟨0x40048, 31, 1⟩
abbrev Fd.SW_ERPS_CFG_ROLE : Fld := ⟨0x40048, 29, 2⟩
abbrev Fd.SW_ERPS_CFG_RPL_PORT : Fld := ⟨0x40048, 28, 1⟩
abbrev Fd.SW_ERPS_CFG_REVERTIVE : Fld := ⟨0x40048, 27, 1⟩
abbrev Fd.SW_ERPS_CFG_MEL : Fld := ⟨0x40048, 24, 3⟩
abbrev Fd.SW_ERPS_CFG_RING_ID : Fld := ⟨0x40048, 0, 8⟩
abbrev Fd.SW_ERPS_TMR_WTR : Fld := ⟨0x4004c, 24, 8⟩
abbrev Fd.SW_ERPS_TMR_HOLDOFF : Fld := ⟨0x4004c, 16, 8⟩
abbrev Fd.SW_ERPS_TMR_GUARD : Fld := ⟨0x4004c, 0, 16⟩
abbrev Fd.SW_ERPS_CMD_PORT : Fld := ⟨0x40050, 8, 1⟩
abbrev Fd.SW_ERPS_CMD_CMD : Fld := ⟨0x40050, 0, 2⟩
abbrev Fd.SW_ERPS_STAT_WTR_REM : Fld := ⟨0x40054, 16, 16⟩
abbrev Fd.SW_ERPS_STAT_CMD_ERR : Fld := ⟨0x40054, 10, 1⟩
abbrev Fd.SW_ERPS_STAT_BLOCKED : Fld := ⟨0x40054, 8, 2⟩
abbrev Fd.SW_ERPS_STAT_STATE : Fld := ⟨0x40054, 0, 3⟩
abbrev Fd.PORT_MODE_AUTONEG (n : Nat) : Fld := ⟨0x41040 + n * 0x1000, 8, 1⟩
abbrev Fd.PORT_MODE_LINE (n : Nat) : Fld := ⟨0x41040 + n * 0x1000, 0, 1⟩
abbrev Fd.PORT_LINK_TX_FAULT (n : Nat) : Fld := ⟨0x41044 + n * 0x1000, 3, 1⟩
abbrev Fd.PORT_LINK_SFP_PRESENT (n : Nat) : Fld := ⟨0x41044 + n * 0x1000, 2, 1⟩
abbrev Fd.PORT_LINK_SIGNAL (n : Nat) : Fld := ⟨0x41044 + n * 0x1000, 1, 1⟩
abbrev Fd.PORT_LINK_UP (n : Nat) : Fld := ⟨0x41044 + n * 0x1000, 0, 1⟩
abbrev Fd.PORT_PORT_CFG_DROP_UNTAGGED (n : Nat) : Fld := ⟨0x41048 + n * 0x1000, 8, 1⟩
abbrev Fd.PORT_PORT_CFG_DEF_PCP (n : Nat) : Fld := ⟨0x41048 + n * 0x1000, 0, 3⟩
abbrev Fd.IU_SRC_CFG_EN : Fld := ⟨0x48048, 31, 1⟩
abbrev Fd.IU_SRC_CFG_GROUP : Fld := ⟨0x48048, 16, 4⟩
abbrev Fd.IU_SRC_CFG_TARGET : Fld := ⟨0x48048, 8, 2⟩
abbrev Fd.IU_SRC_CFG_PRIO : Fld := ⟨0x48048, 0, 4⟩
abbrev Fd.IU_SRC_STAT_REQ : Fld := ⟨0x4804c, 31, 1⟩
abbrev Fd.IU_SRC_STAT_PEND : Fld := ⟨0x4804c, 30, 1⟩
abbrev Fd.IU_SRC_STAT_ACTIVE : Fld := ⟨0x4804c, 29, 1⟩
abbrev Fd.IU_SRC_STAT_ACT_CORE : Fld := ⟨0x4804c, 24, 2⟩
abbrev Fd.IU_COAL_CFG_COUNT (k : Nat) : Fld := ⟨0x48084 + 4 * k, 24, 8⟩
abbrev Fd.IU_COAL_CFG_TIME (k : Nat) : Fld := ⟨0x48084 + 4 * k, 0, 16⟩
abbrev Fd.IUC_VBAR_BASE (n : Nat) : Fld := ⟨0x49040 + n * 0x1000, 14, 18⟩
abbrev Fd.IUC_VEC_VALID (n : Nat) : Fld := ⟨0x49044 + n * 0x1000, 31, 1⟩
abbrev Fd.IUC_VEC_DEPTH (n : Nat) : Fld := ⟨0x49044 + n * 0x1000, 16, 5⟩
abbrev Fd.IUC_VEC_PRIO (n : Nat) : Fld := ⟨0x49044 + n * 0x1000, 8, 4⟩
abbrev Fd.IUC_VEC_SRC (n : Nat) : Fld := ⟨0x49044 + n * 0x1000, 0, 8⟩
abbrev Fd.IUC_EOI_SRC (n : Nat) : Fld := ⟨0x49048 + n * 0x1000, 0, 8⟩
abbrev Fd.IUC_PMASK_PMASK (n : Nat) : Fld := ⟨0x4904c + n * 0x1000, 0, 5⟩
abbrev Fd.IUC_FAULT_VALID (n : Nat) : Fld := ⟨0x49050 + n * 0x1000, 31, 1⟩
abbrev Fd.IUC_FAULT_OVF (n : Nat) : Fld := ⟨0x49050 + n * 0x1000, 30, 1⟩
abbrev Fd.IUC_FAULT_DEPTH (n : Nat) : Fld := ⟨0x49050 + n * 0x1000, 16, 5⟩
abbrev Fd.IUC_FAULT_TOP (n : Nat) : Fld := ⟨0x49050 + n * 0x1000, 8, 8⟩
abbrev Fd.IUC_FAULT_EOI_SRC (n : Nat) : Fld := ⟨0x49050 + n * 0x1000, 0, 8⟩
abbrev Fd.QM_Q_CFG_EN : Fld := ⟨0x50044, 31, 1⟩
abbrev Fd.QM_Q_CFG_SYS : Fld := ⟨0x50044, 30, 1⟩
abbrev Fd.QM_Q_CFG_FLUSH : Fld := ⟨0x50044, 29, 1⟩
abbrev Fd.QM_Q_CFG_RET_EN : Fld := ⟨0x50044, 28, 1⟩
abbrev Fd.QM_Q_CFG_RET_Q : Fld := ⟨0x50044, 22, 6⟩
abbrev Fd.QM_Q_CFG_SIZE_M1 : Fld := ⟨0x50044, 15, 7⟩
abbrev Fd.QM_Q_CFG_BASE : Fld := ⟨0x50044, 0, 12⟩
abbrev Fd.QM_Q_CFG2_CONS : Fld := ⟨0x50048, 24, 8⟩
abbrev Fd.QM_Q_CFG2_WMARK : Fld := ⟨0x50048, 12, 11⟩
abbrev Fd.QM_Q_CFG2_STALL : Fld := ⟨0x50048, 0, 12⟩
abbrev Fd.QM_Q_ERR_OVF : Fld := ⟨0x5004c, 24, 8⟩
abbrev Fd.QM_Q_ERR_TORN : Fld := ⟨0x5004c, 16, 8⟩
abbrev Fd.QM_Q_ERR_BAD : Fld := ⟨0x5004c, 8, 8⟩
abbrev Fd.QM_Q_ERR_QERR : Fld := ⟨0x5004c, 0, 8⟩
abbrev Fd.QM_Q_SKIP_DROP : Fld := ⟨0x50050, 16, 16⟩
abbrev Fd.QM_Q_SKIP_SKIP : Fld := ⟨0x50050, 0, 16⟩
abbrev Fd.PCIE_LINK_PERST : Fld := ⟨0x54040, 10, 1⟩
abbrev Fd.PCIE_LINK_D3HOT : Fld := ⟨0x54040, 9, 1⟩
abbrev Fd.PCIE_LINK_L1 : Fld := ⟨0x54040, 8, 1⟩
abbrev Fd.PCIE_LINK_SPEED : Fld := ⟨0x54040, 4, 2⟩
abbrev Fd.PCIE_LINK_WIDTH : Fld := ⟨0x54040, 2, 2⟩
abbrev Fd.PCIE_LINK_UP : Fld := ⟨0x54040, 0, 1⟩
abbrev Fd.PCIE_CQ_CFG_EN : Fld := ⟨0x54068, 31, 1⟩
abbrev Fd.PCIE_CQ_CFG_VECTOR : Fld := ⟨0x54068, 16, 4⟩
abbrev Fd.PCIE_CQ_CFG_SIZE : Fld := ⟨0x54068, 0, 13⟩
abbrev Fd.PCIE_MOD_CFG_COUNT : Fld := ⟨0x54074, 24, 8⟩
abbrev Fd.PCIE_MOD_CFG_TIME : Fld := ⟨0x54074, 0, 16⟩
abbrev Fd.PCIE_CQ_STAT_PEND : Fld := ⟨0x54078, 31, 1⟩
abbrev Fd.PCIE_CQ_STAT_TIMER : Fld := ⟨0x54078, 30, 1⟩
abbrev Fd.PCIE_CQ_STAT_HELD : Fld := ⟨0x54078, 16, 7⟩
abbrev Fd.PCIE_CQ_STAT_UNSIG : Fld := ⟨0x54078, 0, 8⟩
abbrev Fd.PAIR_CFG_PAIRED : Fld := ⟨0x58040, 31, 1⟩
abbrev Fd.PAIR_CFG_UNIT : Fld := ⟨0x58040, 0, 1⟩
abbrev Fd.PAIR_ROLE_FIT : Fld := ⟨0x58044, 17, 1⟩
abbrev Fd.PAIR_ROLE_SYNCED : Fld := ⟨0x58044, 16, 1⟩
abbrev Fd.PAIR_ROLE_FENCE_CAUSE : Fld := ⟨0x58044, 8, 3⟩
abbrev Fd.PAIR_ROLE_ROLE : Fld := ⟨0x58044, 0, 3⟩
abbrev Fd.PAIR_CMD_OP : Fld := ⟨0x58048, 0, 4⟩
abbrev Fd.PAIR_PEER_WIT_OK : Fld := ⟨0x58050, 7, 1⟩
abbrev Fd.PAIR_PEER_UNIT : Fld := ⟨0x58050, 6, 1⟩
abbrev Fd.PAIR_PEER_ROLE : Fld := ⟨0x58050, 0, 3⟩
abbrev Fd.PAIR_MISMATCH_CNT_OWN_CUT : Fld := ⟨0x58054, 16, 16⟩
abbrev Fd.PAIR_MISMATCH_CNT_MISMATCH : Fld := ⟨0x58054, 0, 16⟩
abbrev Fd.PAIR_IMP_STAT_MISS : Fld := ⟨0x58058, 24, 8⟩
abbrev Fd.PAIR_IMP_STAT_KB : Fld := ⟨0x58058, 0, 9⟩
abbrev Fd.BYELL_LANE_STAT_DEGRADED : Fld := ⟨0x59040, 9, 1⟩
abbrev Fd.BYELL_LANE_STAT_UP : Fld := ⟨0x59040, 8, 1⟩
abbrev Fd.BYELL_LANE_STAT_LOCK : Fld := ⟨0x59040, 0, 2⟩
abbrev Fd.WIT_HB_CFG_PERIOD : Fld := ⟨0x5a044, 24, 8⟩
abbrev Fd.WIT_HB_CFG_LEASE : Fld := ⟨0x5a044, 12, 12⟩
abbrev Fd.WIT_HB_CFG_GUARD : Fld := ⟨0x5a044, 6, 6⟩
abbrev Fd.WIT_HB_CFG_REPLY : Fld := ⟨0x5a044, 0, 6⟩
abbrev Fd.WIT_LEASE_HOLDER : Fld := ⟨0x5a048, 30, 2⟩
abbrev Fd.WIT_LEASE_LOCAL_VALID : Fld := ⟨0x5a048, 29, 1⟩
abbrev Fd.WIT_LEASE_REMAIN : Fld := ⟨0x5a048, 0, 16⟩
abbrev Fd.WIT_STAT_MISSED : Fld := ⟨0x5a04c, 8, 8⟩
abbrev Fd.WIT_STAT_REACHABLE : Fld := ⟨0x5a04c, 0, 1⟩
abbrev Fd.WIT_CNT_TAG_FAIL : Fld := ⟨0x5a058, 16, 16⟩
abbrev Fd.WIT_CNT_NO_REPLY : Fld := ⟨0x5a058, 0, 16⟩
abbrev Fd.GROUND_MBX_STAT_BUSY : Fld := ⟨0x6004c, 31, 1⟩
abbrev Fd.GROUND_MBX_STAT_PEND : Fld := ⟨0x6004c, 30, 1⟩
abbrev Fd.GROUND_MBX_STAT_LOCKED : Fld := ⟨0x6004c, 29, 1⟩
abbrev Fd.GROUND_MBX_STAT_READY : Fld := ⟨0x6004c, 28, 1⟩
abbrev Fd.GROUND_MBX_STAT_OWNER : Fld := ⟨0x6004c, 24, 4⟩
abbrev Fd.GROUND_MBX_STAT_RESULT : Fld := ⟨0x6004c, 16, 8⟩
abbrev Fd.GROUND_MBX_STAT_OUT_CNT : Fld := ⟨0x6004c, 0, 9⟩
abbrev Fd.GROUND_SLOT_STAT_STATE : Fld := ⟨0x60060, 30, 2⟩
abbrev Fd.GROUND_SLOT_STAT_CLASS : Fld := ⟨0x60060, 28, 2⟩
abbrev Fd.GROUND_SLOT_STAT_TYPE : Fld := ⟨0x60060, 25, 3⟩
abbrev Fd.GROUND_SLOT_STAT_PARENT : Fld := ⟨0x60060, 16, 9⟩
abbrev Fd.GROUND_SLOT_STAT_USAGE : Fld := ⟨0x60060, 0, 16⟩
abbrev Fd.UPD_STAGE_CAUSE : Fld := ⟨0x64040, 24, 8⟩
abbrev Fd.UPD_STAGE_SOURCE : Fld := ⟨0x64040, 16, 8⟩
abbrev Fd.UPD_STAGE_STATE : Fld := ⟨0x64040, 0, 4⟩
abbrev Fd.UPD_CMD_OP : Fld := ⟨0x64044, 0, 3⟩
abbrev Fd.UPD_TARGETS_TOTAL : Fld := ⟨0x64060, 16, 13⟩
abbrev Fd.UPD_TARGETS_READY : Fld := ⟨0x64060, 0, 13⟩
abbrev Fd.UPD_CONFIRM_MANUAL : Fld := ⟨0x64070, 31, 1⟩
abbrev Fd.UPD_CONFIRM_CONFIRMED : Fld := ⟨0x64070, 30, 1⟩
abbrev Fd.UPD_CONFIRM_BOOTS : Fld := ⟨0x64070, 24, 4⟩
abbrev Fd.UPD_CONFIRM_STABLE : Fld := ⟨0x64070, 0, 24⟩
abbrev Fd.UPD_CFG_RELAY_EN : Fld := ⟨0x64074, 1, 1⟩
abbrev Fd.UPD_CFG_NODE_STRICT : Fld := ⟨0x64074, 0, 1⟩
abbrev Fd.REC_QUOTA_MAJOR_RES : Fld := ⟨0x68060, 16, 8⟩
abbrev Fd.REC_QUOTA_MINOR_RES : Fld := ⟨0x68060, 8, 8⟩
abbrev Fd.REC_QUOTA_INFO_RES : Fld := ⟨0x68060, 0, 8⟩
abbrev Fd.REC_LOST_CRIT : Fld := ⟨0x68064, 24, 8⟩
abbrev Fd.REC_LOST_MAJOR : Fld := ⟨0x68064, 16, 8⟩
abbrev Fd.REC_LOST_MINOR : Fld := ⟨0x68064, 8, 8⟩
abbrev Fd.REC_LOST_INFO : Fld := ⟨0x68064, 0, 8⟩
abbrev Fd.REC_APP_POST_SEV : Fld := ⟨0x68088, 16, 2⟩
abbrev Fd.REC_APP_POST_CODE : Fld := ⟨0x68088, 0, 16⟩
abbrev Fd.AGE_CFG_CAP_PCT : Fld := ⟨0x6c040, 8, 8⟩
abbrev Fd.AGE_CFG_CAP_EN : Fld := ⟨0x6c040, 3, 1⟩
abbrev Fd.AGE_CFG_SCAP_EN : Fld := ⟨0x6c040, 2, 1⟩
abbrev Fd.AGE_CFG_NAND_EN : Fld := ⟨0x6c040, 1, 1⟩
abbrev Fd.AGE_CFG_AVS_EN : Fld := ⟨0x6c040, 0, 1⟩
abbrev Fd.AGE_MARGIN_STATUS : Fld := ⟨0x6c048, 30, 2⟩
abbrev Fd.AGE_MARGIN_MARGIN : Fld := ⟨0x6c048, 0, 8⟩
abbrev Fd.AGE_SCAP_CFG_HOUR : Fld := ⟨0x6c064, 8, 5⟩
abbrev Fd.AGE_SCAP_CFG_DAY : Fld := ⟨0x6c064, 0, 5⟩
abbrev Fd.AGE_CMD_OP : Fld := ⟨0x6c06c, 0, 2⟩
abbrev Fd.PWR_STATE_PLAN : Fld := ⟨0x70040, 8, 2⟩
abbrev Fd.PWR_STATE_STATE : Fld := ⟨0x70040, 0, 2⟩
abbrev Fd.PWR_CMD_OP : Fld := ⟨0x70044, 0, 3⟩
abbrev Fd.PWR_CMD_STAT_RESULT : Fld := ⟨0x70048, 0, 2⟩
abbrev Fd.PWR_VIN_MON_PGOOD : Fld := ⟨0x7004c, 16, 1⟩
abbrev Fd.PWR_VIN_MON_VIN : Fld := ⟨0x7004c, 0, 16⟩
abbrev Fd.PWR_VHOLD_MON_CHARGING : Fld := ⟨0x70050, 17, 1⟩
abbrev Fd.PWR_VHOLD_MON_READY : Fld := ⟨0x70050, 16, 1⟩
abbrev Fd.PWR_VHOLD_MON_VHOLD : Fld := ⟨0x70050, 0, 16⟩
abbrev Fd.PWR_HOLD_CFG_RIDE_EN : Fld := ⟨0x70054, 31, 1⟩
abbrev Fd.PWR_HOLD_CFG_RIDE_MAX : Fld := ⟨0x70054, 0, 16⟩
abbrev Fd.PWR_HOLD_PLAN_E_U : Fld := ⟨0x70058, 16, 16⟩
abbrev Fd.PWR_HOLD_PLAN_T_R : Fld := ⟨0x70058, 0, 16⟩
abbrev Fd.PWR_WAKE_EN_DI : Fld := ⟨0x7005c, 8, 8⟩
abbrev Fd.PWR_WAKE_EN_TIMER : Fld := ⟨0x7005c, 0, 1⟩
abbrev Fd.PWR_WAKE_SRC_DI : Fld := ⟨0x70060, 8, 8⟩
abbrev Fd.PWR_WAKE_SRC_TIMER : Fld := ⟨0x70060, 0, 1⟩
abbrev Fd.BOOT_PROGRESS_NO_LEDGER : Fld := ⟨0x71040, 10, 1⟩
abbrev Fd.BOOT_PROGRESS_ROM_EXEC : Fld := ⟨0x71040, 9, 1⟩
abbrev Fd.BOOT_PROGRESS_DONE : Fld := ⟨0x71040, 8, 1⟩
abbrev Fd.BOOT_PROGRESS_STAGE : Fld := ⟨0x71040, 0, 5⟩
abbrev Fd.BOOT_STAGE_STAT_RESULT : Fld := ⟨0x71048, 30, 2⟩
abbrev Fd.BOOT_STAGE_STAT_TAKEN : Fld := ⟨0x71048, 28, 2⟩
abbrev Fd.BOOT_STAGE_STAT_DUR : Fld := ⟨0x71048, 0, 16⟩
abbrev Fd.BOOT_CMD_STAGE : Fld := ⟨0x71054, 2, 5⟩
abbrev Fd.BOOT_CMD_OP : Fld := ⟨0x71054, 0, 2⟩
abbrev Fd.WDOG_RT_WD_EN : Fld := ⟨0x72040, 31, 1⟩
abbrev Fd.WDOG_RT_WD_PERIOD : Fld := ⟨0x72040, 0, 16⟩
abbrev Fd.WDOG_CORE_WD_EN (k : Nat) : Fld := ⟨0x72044 + 4 * k, 31, 1⟩
abbrev Fd.WDOG_CORE_WD_ACT (k : Nat) : Fld := ⟨0x72044 + 4 * k, 30, 1⟩
abbrev Fd.WDOG_CORE_WD_PERIOD (k : Nat) : Fld := ⟨0x72044 + 4 * k, 0, 16⟩
abbrev Fd.WDOG_SUPV_LAST : Fld := ⟨0x72058, 8, 8⟩
abbrev Fd.WDOG_SUPV_COUNT : Fld := ⟨0x72058, 0, 8⟩
abbrev Fd.WDOG_EXP_CORE : Fld := ⟨0x7205c, 1, 4⟩
abbrev Fd.WDOG_EXP_RT : Fld := ⟨0x7205c, 0, 1⟩
abbrev Fd.IO_DI_CFG_DEBOUNCE : Fld := ⟨0x78040, 24, 8⟩
abbrev Fd.IO_DI_CFG_INVERT : Fld := ⟨0x78040, 8, 8⟩
abbrev Fd.IO_DI_CFG_EN : Fld := ⟨0x78040, 0, 8⟩
abbrev Fd.IO_DI_CHATTER_N_WIN : Fld := ⟨0x78048, 8, 16⟩
abbrev Fd.IO_DI_CHATTER_N_N : Fld := ⟨0x78048, 0, 8⟩
abbrev Fd.IO_DI_STAT_CHATTER : Fld := ⟨0x7804c, 24, 8⟩
abbrev Fd.IO_DI_STAT_STUCK : Fld := ⟨0x7804c, 16, 8⟩
abbrev Fd.IO_DI_STAT_EFF : Fld := ⟨0x7804c, 8, 8⟩
abbrev Fd.IO_DI_STAT_DEB : Fld := ⟨0x7804c, 0, 8⟩
abbrev Fd.IO_CO_CMD_SEL : Fld := ⟨0x78054, 8, 8⟩
abbrev Fd.IO_CO_CMD_ON : Fld := ⟨0x78054, 0, 8⟩
abbrev Fd.IO_CO_FB_UNKNOWN : Fld := ⟨0x78058, 16, 8⟩
abbrev Fd.IO_CO_FB_BUSY : Fld := ⟨0x78058, 8, 8⟩
abbrev Fd.IO_CO_FB_SENSED_ON : Fld := ⟨0x78058, 0, 8⟩
abbrev Fd.IO_CO_CFG_FB_INV : Fld := ⟨0x7805c, 8, 8⟩
abbrev Fd.IO_CO_CFG_EN : Fld := ⟨0x7805c, 0, 8⟩
abbrev Fd.DBG_LEVEL_FAILS : Fld := ⟨0x7c040, 16, 8⟩
abbrev Fd.DBG_LEVEL_LOCKOUT : Fld := ⟨0x7c040, 9, 1⟩
abbrev Fd.DBG_LEVEL_CHAL_VALID : Fld := ⟨0x7c040, 8, 1⟩
abbrev Fd.DBG_LEVEL_RESULT : Fld := ⟨0x7c040, 4, 2⟩
abbrev Fd.DBG_LEVEL_CUR : Fld := ⟨0x7c040, 0, 2⟩

end Sys2Proof.Machine
end

