-- ==== Sys2Proof/Machine/RegRows.lean ====
section
/-! DEFINITION. The register rows of the window, page by page: which bits of a word exist, which bits a write sets,
clears or acts on, whether the register is protected or cleared by a read, and its reset value.  Each row follows the
register summary and the field map of the spec's chapter for that page (R41, R48, R69, R99, R100, R119, R120, R153, R157,
R186, R187, R208 to R210, R236, R237, R256, R271, R272, R301 to R305, R329 to R331, R352 to R354, R377, R396, R397,
R418 to R420). -/

namespace Sys2Proof.Machine

/-- Block registers of the SYS page. -/
def rowsSYS : List RegRow :=
 [
  ⟨"UID", 0x40, 4, 0, 0, 0, 0, 0xffffffff, false, false, 0⟩,
  ⟨"SERIAL_LO", 0x50, 1, 0, 0, 0, 0, 0xffffffff, false, false, 0⟩,
  ⟨"SERIAL_HI", 0x54, 1, 0, 0, 0, 0, 0xffffffff, false, false, 0⟩,
  ⟨"ORDER", 0x58, 1, 0, 0, 0, 0, 0x1, false, false, 0⟩,
  ⟨"RST_CAUSE", 0x5c, 1, 0, 0, 0, 0, 0x7f, false, true, 0⟩,
  ⟨"RST_CMD", 0x60, 1, 0x1, 0, 0, 0, 0x1, true, false, 0⟩,
  ⟨"BUSERR_ADDR", 0x64, 1, 0, 0, 0, 0, 0xffffffff, false, true, 0⟩,
  ⟨"BUSERR_INFO", 0x68, 1, 0, 0, 0, 0, 0xcf8ff000, false, true, 0⟩,
  ⟨"OPSEC", 0x6c, 1, 0, 0, 0, 0, 0xffffffff, false, false, 0⟩,
  ⟨"PWRCYC", 0x70, 1, 0, 0, 0, 0, 0xffffff, false, false, 0⟩,
  ⟨"SCRATCH", 0x74, 2, 0xffffffff, 0, 0, 0, 0xffffffff, false, false, 0⟩]

/-- Block registers of the TICK page. -/
def rowsTICK : List RegRow :=
 [
  ⟨"PERIOD", 0x40, 1, 0x30, 0, 0, 0, 0x33, true, false, 0x11⟩,
  ⟨"NUM_LO", 0x44, 1, 0, 0, 0, 0, 0xffffffff, false, false, 0⟩,
  ⟨"NUM_HI", 0x48, 1, 0, 0, 0, 0, 0xffffffff, false, false, 0⟩,
  ⟨"OFFSET", 0x4c, 1, 0, 0, 0, 0, 0xffffffff, false, false, 0⟩,
  ⟨"PHASE_ERR", 0x50, 1, 0, 0, 0, 0, 0xffffffff, false, false, 0⟩,
  ⟨"PHASE_MAX", 0x54, 1, 0, 0, 0, 0, 0xffffffff, false, true, 0⟩,
  ⟨"OVR_CNT", 0x58, 1, 0, 0, 0, 0, 0xffffffff, false, false, 0⟩,
  ⟨"CLEAN_CNT", 0x5c, 1, 0, 0, 0, 0, 0xffff, false, false, 0⟩,
  ⟨"MODE", 0x60, 1, 0x10, 0, 0, 0, 0x713, false, false, 0⟩,
  ⟨"MISS", 0x64, 1, 0, 0, 0, 0, 0xffffffff, false, false, 0⟩,
  ⟨"FREEZE", 0x68, 1, 0, 0, 0, 0, 0x1ffff, false, false, 0⟩]

/-- Block registers of the HATCH page. -/
def rowsHATCH : List RegRow :=
 [
  ⟨"DROP_W", 0x40, 1, 0xffff, 0, 0, 0, 0xffff, false, false, 0x666⟩,
  ⟨"HORIZON", 0x44, 1, 0xff, 0, 0, 0, 0xff, false, false, 0x80⟩,
  ⟨"LIMITS", 0x48, 1, 0x3ff007f, 0, 0, 0, 0x3ff007f, false, false, 0x2000040⟩,
  ⟨"PULSE_CNT", 0x4c, 1, 0, 0, 0, 0, 0xfff0fff, false, false, 0⟩,
  ⟨"HYP_CNT", 0x50, 1, 0, 0, 0, 0, 0x3fff3fff, false, false, 0⟩,
  ⟨"DET_CNT", 0x54, 1, 0, 0, 0, 0, 0xffffffff, false, true, 0⟩,
  ⟨"DET_REJ", 0x58, 1, 0, 0, 0, 0, 0xffffffff, false, true, 0⟩,
  ⟨"DET_REJ2", 0x5c, 1, 0, 0, 0, 0, 0xffff, false, true, 0⟩,
  ⟨"DET_DEFER", 0x60, 1, 0, 0, 0, 0, 0x3ff, false, false, 0⟩,
  ⟨"RUN_US", 0x64, 1, 0, 0, 0, 0, 0xf000ffff, false, false, 0⟩,
  ⟨"RUN_MAX", 0x68, 1, 0, 0, 0, 0, 0xffff, false, true, 0⟩,
  ⟨"DIGEST", 0x6c, 1, 0, 0, 0, 0, 0xffffffff, false, false, 0⟩,
  ⟨"DROP_CNT", 0x70, 1, 0, 0, 0, 0, 0xffffffff, false, true, 0⟩,
  ⟨"PROFILE0_0", 0x100, 1, 0x80ffffff, 0, 0, 0, 0x80ffffff, false, false, 0x8080b333⟩,
  ⟨"PROFILE1_0", 0x110, 1, 0x80ffffff, 0, 0, 0, 0x80ffffff, false, false, 0x8060cccc⟩,
  ⟨"PROFILE2_0", 0x120, 1, 0x80ffffff, 0, 0, 0, 0x80ffffff, false, false, 0x8050ffff⟩,
  ⟨"PROFILE3_0", 0x130, 1, 0x80ffffff, 0, 0, 0, 0x80ffffff, false, false, 0x8060ffff⟩,
  ⟨"PROFILE4_0", 0x140, 1, 0x80ffffff, 0, 0, 0, 0x80ffffff, false, false, 0x8050ffff⟩,
  ⟨"PROFILE5_0", 0x150, 1, 0x80ffffff, 0, 0, 0, 0x80ffffff, false, false, 0x8080cccc⟩,
  ⟨"PROFILE6_0", 0x160, 1, 0x80ffffff, 0, 0, 0, 0x80ffffff, false, false, 0x80409999⟩,
  ⟨"PROFILE0_1", 0x104, 1, 0xffffffff, 0, 0, 0, 0xffffffff, false, false, 0x3e805dc⟩,
  ⟨"PROFILE1_1", 0x114, 1, 0xffffffff, 0, 0, 0, 0xffffffff, false, false, 0x3e809c4⟩,
  ⟨"PROFILE2_1", 0x124, 1, 0xffffffff, 0, 0, 0, 0xffffffff, false, false, 0x5dc1388⟩,
  ⟨"PROFILE3_1", 0x134, 1, 0xffffffff, 0, 0, 0, 0xffffffff, false, false, 0x9c41770⟩] ++
 [
  ⟨"PROFILE4_1", 0x144, 1, 0xffffffff, 0, 0, 0, 0xffffffff, false, false, 0x5dc1388⟩,
  ⟨"PROFILE5_1", 0x154, 1, 0xffffffff, 0, 0, 0, 0xffffffff, false, false, 0x3e805dc⟩,
  ⟨"PROFILE6_1", 0x164, 1, 0xffffffff, 0, 0, 0, 0xffffffff, false, false, 0x3e807d0⟩,
  ⟨"PROFILE0_2", 0x108, 1, 0xffffffff, 0, 0, 0, 0xffffffff, false, false, 0x800008c⟩,
  ⟨"PROFILE1_2", 0x118, 1, 0xffffffff, 0, 0, 0, 0xffffffff, false, false, 0x80001f4⟩,
  ⟨"PROFILE2_2", 0x128, 1, 0xffffffff, 0, 0, 0, 0xffffffff, false, false, 0x10000514⟩,
  ⟨"PROFILE3_2", 0x138, 1, 0xffffffff, 0, 0, 0, 0xffffffff, false, false, 0x1000044c⟩,
  ⟨"PROFILE4_2", 0x148, 1, 0xffffffff, 0, 0, 0, 0xffffffff, false, false, 0x100005dc⟩,
  ⟨"PROFILE5_2", 0x158, 1, 0xffffffff, 0, 0, 0, 0xffffffff, false, false, 0x4000064⟩,
  ⟨"PROFILE6_2", 0x168, 1, 0xffffffff, 0, 0, 0, 0xffffffff, false, false, 0x100001f4⟩,
  ⟨"PROFILE0_3", 0x10c, 1, 0xffff0fff, 0, 0, 0, 0xffff0fff, false, false, 0x201e0078⟩,
  ⟨"PROFILE1_3", 0x11c, 1, 0xffff0fff, 0, 0, 0, 0xffff0fff, false, false, 0x2032005a⟩,
  ⟨"PROFILE2_3", 0x12c, 1, 0xffff0fff, 0, 0, 0, 0xffff0fff, false, false, 0x1064003c⟩,
  ⟨"PROFILE3_3", 0x13c, 1, 0xffff0fff, 0, 0, 0, 0xffff0fff, false, false, 0x1096003c⟩,
  ⟨"PROFILE4_3", 0x14c, 1, 0xffff0fff, 0, 0, 0, 0xffff0fff, false, false, 0x1064003c⟩,
  ⟨"PROFILE5_3", 0x15c, 1, 0xffff0fff, 0, 0, 0, 0xffff0fff, false, false, 0x201e00b4⟩,
  ⟨"PROFILE6_3", 0x16c, 1, 0xffff0fff, 0, 0, 0, 0xffff0fff, false, false, 0x2064003c⟩]

/-- Block registers of the HATCHG page. -/
def rowsHATCHG : List RegRow :=
 [
  ⟨"GRAPH_CTRL", 0x40, 1, 0x3, 0, 0, 0, 0x3, true, false, 0⟩,
  ⟨"GRAPH_STAT", 0x44, 1, 0, 0, 0, 0, 0xffffff07, false, false, 0⟩,
  ⟨"VTX_CNT", 0x48, 1, 0x1fff, 0, 0, 0, 0x1fff, false, false, 0⟩,
  ⟨"EDGE_CNT", 0x4c, 1, 0x7fff, 0, 0, 0, 0x7fff, false, false, 0⟩,
  ⟨"ATT_CNT", 0x50, 1, 0x7fff, 0, 0, 0, 0x7fff, false, false, 0⟩,
  ⟨"SENS_CNT", 0x54, 1, 0x7ff, 0, 0, 0, 0x7ff, false, false, 0⟩,
  ⟨"LOAD_SEL", 0x58, 1, 0xc0003fff, 0, 0, 0, 0xc0003fff, false, false, 0⟩,
  ⟨"GRAPH_CRC", 0x5c, 1, 0xffffffff, 0, 0, 0, 0xffffffff, false, false, 0⟩,
  ⟨"ACT_CRC", 0x60, 1, 0, 0, 0, 0, 0xffffffff, false, false, 0⟩,
  ⟨"ACT_VTX", 0x64, 1, 0, 0, 0, 0, 0x1fff, false, false, 0⟩,
  ⟨"ACT_EDGE", 0x68, 1, 0, 0, 0, 0, 0x7fff, false, false, 0⟩,
  ⟨"ACT_SEQ", 0x6c, 1, 0, 0, 0, 0, 0xffffffff, false, false, 0⟩,
  ⟨"LOAD_WIN", 0x80, 4, 0xffffffff, 0, 0, 0, 0xffffffff, false, false, 0⟩]

/-- Block registers of the PLATE page. -/
def rowsPLATE : List RegRow :=
 [
  ⟨"BUF_SEL", 0x40, 1, 0, 0, 0, 0, 0x1, false, false, 0⟩,
  ⟨"CSUM", 0x44, 1, 0, 0, 0, 0, 0xffffffff, false, false, 0⟩,
  ⟨"WIN_SEL", 0x48, 1, 0x80001fff, 0, 0, 0, 0x80001fff, false, false, 0⟩,
  ⟨"WIN", 0x4c, 1, 0, 0, 0, 0, 0xffffffff, false, false, 0⟩,
  ⟨"LF_CFG", 0x50, 1, 0xffffffff, 0, 0, 0, 0xffffffff, false, false, 0x992100a4⟩,
  ⟨"CAP_CNT", 0x54, 1, 0, 0, 0, 0, 0x1fff, false, false, 0⟩,
  ⟨"COMP_US", 0x58, 1, 0, 0, 0, 0, 0xffff, false, false, 0⟩,
  ⟨"CHG_CNT", 0x5c, 1, 0, 0, 0, 0, 0x1fff, false, false, 0⟩,
  ⟨"SWAP_CNT", 0x60, 1, 0, 0, 0, 0, 0xffffffff, false, false, 0⟩]

/-- Block registers of the GROUP page. -/
def rowsGROUP : List RegRow :=
 [
  ⟨"GRP_SEL", 0x40, 1, 0x1ff, 0, 0, 0, 0x1ff, false, false, 0⟩,
  ⟨"GRP_MODE", 0x44, 1, 0xf33, 0, 0, 0, 0xf33, false, false, 0x20⟩,
  ⟨"GRP_MIN", 0x48, 1, 0xffff, 0, 0, 0, 0xffff, false, false, 0⟩,
  ⟨"GRP_MAX", 0x4c, 1, 0xffff, 0, 0, 0, 0xffff, false, false, 0xffff⟩,
  ⟨"FAIL_LVL", 0x50, 1, 0xffff, 0, 0, 0, 0xffff, false, false, 0⟩,
  ⟨"GRP_RAMP", 0x54, 1, 0xffffffff, 0, 0, 0, 0xffffffff, false, false, 0x10000200⟩,
  ⟨"GRP_STAT", 0x58, 1, 0, 0, 0, 0, 0xffff1fff, false, false, 0⟩,
  ⟨"LATCH_CLR", 0x5c, 1, 0, 0, 0, 0x80000fff, 0x80000fff, false, false, 0⟩,
  ⟨"BROKEN", 0x80, 16, 0, 0xffffffff, 0, 0, 0xffffffff, false, false, 0⟩]

/-- Block registers of the NODE page. -/
def rowsNODE : List RegRow :=
 [
  ⟨"ENT_SEL", 0x40, 1, 0x80000fff, 0, 0, 0, 0x80000fff, false, false, 0⟩,
  ⟨"CMD", 0x44, 1, 0, 0, 0, 0xfffff0f, 0xfffff0f, true, false, 0⟩,
  ⟨"CMD_ARG0", 0x48, 1, 0xffffffff, 0, 0, 0, 0xffffffff, false, false, 0⟩,
  ⟨"CMD_ARG1", 0x4c, 1, 0xffff, 0, 0, 0, 0xffff, false, false, 0⟩,
  ⟨"CMD_STAT", 0x50, 1, 0, 0, 0, 0, 0x8fffff0f, false, false, 0⟩,
  ⟨"SESSION", 0x54, 1, 0xffffffff, 0, 0, 0, 0xffffffff, false, false, 0⟩,
  ⟨"POLL_CFG", 0x58, 1, 0xf, 0, 0, 0, 0xf, false, false, 0x3⟩,
  ⟨"SAT_CFG", 0x5c, 1, 0xffffffff, 0, 0, 0, 0xffffffff, false, false, 0x3c0a0214⟩,
  ⟨"COUNTS", 0x60, 1, 0, 0, 0, 0, 0x7ff1fff, false, false, 0⟩,
  ⟨"COUNTS2", 0x64, 1, 0, 0, 0, 0, 0x1fff1fff, false, false, 0⟩,
  ⟨"DEF_GROUP", 0x68, 1, 0x1ff, 0, 0, 0, 0x1ff, false, false, 0⟩,
  ⟨"ENT", 0x80, 32, 0xffffffff, 0, 0, 0, 0xffffffff, false, false, 0⟩]

/-- Block registers of the FB page. -/
def rowsFB : List RegRow :=
 [
  ⟨"BITRATE", 0x40, 1, 0x33, 0, 0, 0, 0x33, false, false, 0⟩,
  ⟨"SAMPLE_PT", 0x44, 1, 0x7f7f0001, 0, 0, 0, 0x7f7f0001, false, false, 0x504b0001⟩,
  ⟨"SP_EFF", 0x48, 1, 0, 0, 0, 0, 0x7f7f0000, false, false, 0x504b0000⟩,
  ⟨"SLOT_CFG", 0x4c, 1, 0x9f1f3f3f, 0, 0, 0, 0x9f1f3f3f, false, false, 0x84040a05⟩,
  ⟨"SLOT_STAT", 0x50, 1, 0, 0, 0, 0, 0x9f1f3f3f, false, false, 0⟩,
  ⟨"SLOT_LEN", 0x54, 1, 0, 0, 0, 0, 0xff001fff, false, false, 0⟩,
  ⟨"REFRESH", 0x58, 1, 0xf, 0, 0, 0, 0xf, false, false, 0x2⟩,
  ⟨"DET_CFG", 0x5c, 1, 0xfffff, 0, 0, 0, 0xfffff, false, false, 0x30064⟩,
  ⟨"ERR_CNT", 0x60, 1, 0, 0, 0, 0, 0x1ff00ff, false, false, 0⟩,
  ⟨"LAST_ERR", 0x64, 1, 0, 0, 0, 0, 0xc0000007, false, true, 0⟩,
  ⟨"BUSOFF_CNT", 0x68, 1, 0, 0, 0, 0, 0xffffffff, false, true, 0⟩,
  ⟨"DUPCOLL_CNT", 0x6c, 1, 0, 0, 0, 0, 0xffffffff, false, true, 0⟩,
  ⟨"FRAME_CNT", 0x70, 1, 0, 0, 0, 0, 0xffffffff, false, true, 0⟩,
  ⟨"SHED_CNT", 0x74, 1, 0, 0, 0, 0, 0xffff, false, true, 0⟩,
  ⟨"TX_FV", 0x78, 1, 0, 0, 0, 0, 0xffffffff, false, false, 0⟩,
  ⟨"AUTH_FAIL", 0x7c, 1, 0, 0, 0, 0, 0xffffffff, false, true, 0⟩,
  ⟨"RX_SEQ", 0x80, 1, 0, 0, 0, 0, 0xffff, false, false, 0⟩,
  ⟨"TXPEND", 0x90, 4, 0, 0, 0, 0, 0xffffffff, false, false, 0⟩,
  ⟨"RXNEW", 0xa0, 4, 0, 0, 0, 0, 0xffffffff, false, false, 0⟩]

/-- Block registers of the MET page. -/
def rowsMET : List RegRow :=
 [
  ⟨"CFG", 0x40, 1, 0x103, 0, 0, 0, 0x103, false, false, 0x100⟩,
  ⟨"SCALE_V", 0x44, 1, 0xffffffff, 0, 0, 0, 0xffffffff, false, false, 0⟩,
  ⟨"SCALE_I", 0x48, 1, 0xffffffff, 0, 0, 0, 0xffffffff, false, false, 0⟩,
  ⟨"IB", 0x4c, 1, 0xffffff, 0, 0, 0, 0xffffff, false, false, 0⟩,
  ⟨"FREQ", 0x50, 1, 0, 0, 0, 0, 0x1ffff, false, false, 0⟩,
  ⟨"WIN_CNT", 0x54, 1, 0, 0, 0, 0, 0xffffffff, false, false, 0⟩,
  ⟨"VRMS", 0x58, 3, 0, 0, 0, 0, 0xffffffff, false, false, 0⟩,
  ⟨"IRMS", 0x64, 4, 0, 0, 0, 0, 0xffffffff, false, false, 0⟩,
  ⟨"P", 0x74, 3, 0, 0, 0, 0, 0xffffffff, false, false, 0⟩,
  ⟨"Q", 0x80, 3, 0, 0, 0, 0, 0xffffffff, false, false, 0⟩,
  ⟨"S", 0x8c, 3, 0, 0, 0, 0, 0xffffffff, false, false, 0⟩,
  ⟨"PF", 0x98, 3, 0, 0, 0, 0, 0xffff, false, false, 0⟩,
  ⟨"THD", 0xa4, 3, 0, 0, 0, 0, 0xffffffff, false, false, 0⟩,
  ⟨"ENERGY_SEL", 0xb0, 1, 0x73, 0, 0, 0, 0x73, false, false, 0⟩,
  ⟨"ENERGY_LO", 0xb4, 1, 0, 0, 0, 0, 0xffffffff, false, false, 0⟩,
  ⟨"ENERGY_HI", 0xb8, 1, 0, 0, 0, 0, 0xffffffff, false, false, 0⟩,
  ⟨"HARM_SEL", 0xbc, 1, 0x80001f07, 0, 0, 0, 0x80001f07, false, false, 0x100⟩,
  ⟨"HARM_WIN", 0xc0, 1, 0, 0, 0, 0, 0xffffffff, false, false, 0⟩,
  ⟨"LOSS_THR", 0xc4, 1, 0xffffffff, 0, 0, 0, 0xffffffff, false, false, 0x12c00c8⟩,
  ⟨"LOSS_CFG", 0xc8, 1, 0xffff0001, 0, 0, 0, 0xffff0001, false, false, 0x3840001⟩,
  ⟨"RECON_SUM", 0xcc, 3, 0, 0, 0, 0, 0xffffffff, false, false, 0⟩,
  ⟨"RECON_DIFF", 0xd8, 3, 0, 0, 0, 0, 0xffffffff, false, false, 0⟩]

/-- Block registers of the TRACE page. -/
def rowsTRACE : List RegRow :=
 [
  ⟨"CFG", 0x40, 1, 0xffffffff, 0, 0, 0, 0xffffffff, false, false, 0x199a1e10⟩,
  ⟨"CODE_SEL", 0x44, 1, 0x3f, 0, 0, 0, 0x3f, false, false, 0⟩,
  ⟨"NODE_SEL", 0x48, 1, 0x80000fff, 0, 0, 0, 0x80000fff, false, false, 0⟩,
  ⟨"RESULT", 0x4c, 1, 0, 0, 0, 0, 0xffc0ff7f, false, false, 0⟩,
  ⟨"BUSY_LO", 0x50, 1, 0, 0, 0, 0, 0xffffffff, false, false, 0⟩,
  ⟨"BUSY_HI", 0x54, 1, 0, 0, 0, 0, 0xffffffff, false, false, 0⟩,
  ⟨"UNK_P", 0x58, 1, 0, 0, 0, 0, 0xffffffff, false, false, 0⟩,
  ⟨"AMP", 0x5c, 1, 0, 0, 0, 0, 0xffff, false, false, 0⟩]

/-- Block registers of the CAL page. -/
def rowsCAL : List RegRow :=
 [
  ⟨"CH_SEL", 0x40, 1, 0x1f, 0, 0, 0, 0x1f, false, false, 0⟩,
  ⟨"GAIN", 0x44, 1, 0xffffff, 0, 0, 0, 0xffffff, false, false, 0x400000⟩,
  ⟨"PHASE", 0x48, 1, 0xfff, 0, 0, 0, 0xfff, false, false, 0⟩,
  ⟨"OFFSET", 0x4c, 1, 0xffffff, 0, 0, 0, 0xffffff, false, false, 0⟩,
  ⟨"SRC", 0x50, 1, 0, 0, 0, 0, 0xffff0003, false, false, 0⟩,
  ⟨"CAL_CMD", 0x54, 1, 0, 0, 0, 0x1, 0x1, true, false, 0⟩,
  ⟨"CAL_STAT", 0x58, 1, 0, 0, 0, 0, 0x8000ff1f, false, false, 0⟩,
  ⟨"USER_MAP", 0x5c, 1, 0, 0, 0, 0, 0xfffffff, false, false, 0⟩,
  ⟨"INVALID_MAP", 0x60, 1, 0, 0, 0, 0, 0xfffffff, false, false, 0⟩]

/-- Block registers of the RTC page. -/
def rowsRTC : List RegRow :=
 [
  ⟨"SEC_LO", 0x40, 1, 0xffffffff, 0, 0, 0, 0xffffffff, false, false, 0⟩,
  ⟨"SEC_HI", 0x44, 1, 0xff, 0, 0, 0, 0xff, false, false, 0⟩,
  ⟨"SUBSEC", 0x48, 1, 0, 0, 0, 0, 0x7fff, false, false, 0⟩,
  ⟨"CAL_DATE", 0x4c, 1, 0xfff0f1f, 0, 0, 0, 0xfff0f1f, false, false, 0x7d00101⟩,
  ⟨"CAL_TIME", 0x50, 1, 0x1f3f3f, 0, 0, 0, 0x1f3f3f, false, false, 0⟩,
  ⟨"WEEKDAY", 0x54, 1, 0x7, 0, 0, 0, 0x7, false, false, 0⟩,
  ⟨"OSF", 0x58, 1, 0, 0x3, 0, 0, 0x3, false, false, 0x1⟩,
  ⟨"STAGE", 0x5c, 1, 0, 0, 0, 0x1, 0x80000301, false, false, 0⟩,
  ⟨"TRIM", 0x60, 1, 0x8fff, 0, 0, 0, 0x8fff, false, false, 0x8000⟩,
  ⟨"WAKE_CFG", 0x64, 1, 0xc1ffffff, 0, 0, 0, 0xc1ffffff, false, false, 0x100⟩,
  ⟨"WAKE_REM", 0x68, 1, 0, 0, 0, 0, 0x1ffffff, false, false, 0⟩]

/-- Block registers of the TIME page. -/
def rowsTIME : List RegRow :=
 [
  ⟨"SRC_SEL", 0x40, 1, 0x87ff0333, 0, 0, 0, 0x87ff0333, true, false, 0x3c0210⟩,
  ⟨"SRC_STAT", 0x44, 1, 0, 0, 0, 0, 0xffff07f7, false, false, 0x5⟩,
  ⟨"DOM_A_CFG", 0x48, 1, 0x80ff0fff, 0, 0, 0, 0x80ff0fff, false, false, 0x80f80300⟩,
  ⟨"DOM_B_CFG", 0x4c, 1, 0x80ff0fff, 0, 0, 0, 0x80ff0fff, false, false, 0xf80301⟩,
  ⟨"DOM_A_STAT", 0x50, 1, 0, 0, 0, 0, 0xff0307, false, false, 0xff0000⟩,
  ⟨"DOM_B_STAT", 0x54, 1, 0, 0, 0, 0, 0xff0307, false, false, 0xff0000⟩,
  ⟨"DOM_A_OFS", 0x58, 1, 0, 0, 0, 0, 0xffffffff, false, false, 0⟩,
  ⟨"DOM_B_OFS", 0x5c, 1, 0, 0, 0, 0, 0xffffffff, false, false, 0⟩,
  ⟨"GNSS_CFG", 0x60, 1, 0x8710ffff, 0, 0, 0, 0x8710ffff, false, false, 0⟩,
  ⟨"GNSS_STAT", 0x64, 1, 0, 0, 0, 0, 0xff07, false, false, 0⟩,
  ⟨"GNSS_OFS", 0x68, 1, 0, 0, 0, 0, 0xffffffff, false, false, 0⟩,
  ⟨"UTC_OFS", 0x6c, 1, 0xffff, 0, 0, 0, 0xffffffff, false, false, 0x250025⟩,
  ⟨"LEAP", 0x70, 1, 0x3, 0, 0, 0, 0x3, false, false, 0⟩,
  ⟨"SLEW", 0x74, 1, 0, 0, 0, 0, 0xffffffff, false, false, 0⟩,
  ⟨"STEP_LOG", 0x78, 1, 0, 0, 0, 0, 0xffffffff, false, false, 0⟩,
  ⟨"STEP_CNT", 0x7c, 1, 0, 0, 0, 0, 0xffffffff, false, false, 0⟩,
  ⟨"NOW_NS", 0x80, 1, 0, 0, 0, 0, 0x3fffffff, false, false, 0⟩,
  ⟨"NOW_SEC_LO", 0x84, 1, 0, 0, 0, 0, 0xffffffff, false, false, 0⟩,
  ⟨"NOW_SEC_HI", 0x88, 1, 0, 0, 0, 0, 0xffffffff, false, false, 0⟩,
  ⟨"PPS_CFG", 0x8c, 1, 0xc00001ff, 0, 0, 0, 0xc00001ff, false, false, 0x40000064⟩,
  ⟨"HOLD_CFG", 0x90, 1, 0xffff, 0, 0, 0, 0xffff, false, false, 0x5a0⟩,
  ⟨"TC_CFG", 0x94, 1, 0x1, 0, 0, 0, 0x1, false, false, 0x1⟩]

/-- Block registers of the SCHED page. -/
def rowsSCHED : List RegRow :=
 [
  ⟨"ENT_SEL", 0x40, 1, 0x7ff, 0, 0, 0, 0xc00007ff, false, false, 0⟩,
  ⟨"ENT_WIN", 0x44, 4, 0xffffffff, 0, 0, 0, 0xffffffff, false, false, 0⟩,
  ⟨"ENT_WIN4", 0x54, 1, 0, 0, 0, 0, 0xffff0701, false, false, 0⟩,
  ⟨"HOL_SEL", 0x58, 1, 0x3f, 0, 0, 0, 0x3f, false, false, 0⟩,
  ⟨"HOL_WIN", 0x5c, 1, 0xcfff0f1f, 0, 0, 0, 0xcfff0f1f, false, false, 0⟩,
  ⟨"SCENE_SEL", 0x60, 1, 0x3ff, 0, 0, 0, 0x3ff, false, false, 0⟩,
  ⟨"SCENE_WIN", 0x64, 1, 0x81ffffff, 0, 0, 0, 0x81ffffff, false, false, 0⟩,
  ⟨"CATCHUP", 0x68, 1, 0x1ffff, 0, 0, 0, 0x1ffff, false, false, 0xe10⟩,
  ⟨"CURSOR", 0x6c, 1, 0, 0, 0, 0, 0xffff0fff, false, false, 0xfff⟩,
  ⟨"LAT", 0x70, 1, 0xffffffff, 0, 0, 0, 0xffffffff, false, false, 0⟩,
  ⟨"LON", 0x74, 1, 0xffffffff, 0, 0, 0, 0xffffffff, false, false, 0⟩,
  ⟨"TZ_CFG", 0x78, 1, 0xff000fff, 0, 0, 0, 0xff000fff, false, false, 0⟩,
  ⟨"DST_START", 0x7c, 1, 0xfffff800, 0, 0, 0, 0xfffff800, false, false, 0⟩,
  ⟨"DST_END", 0x80, 1, 0xfffff800, 0, 0, 0, 0xfffff800, false, false, 0⟩,
  ⟨"BASE_SEL", 0x84, 1, 0x1ff, 0, 0, 0, 0x1ff, false, false, 0⟩,
  ⟨"BASE", 0x88, 1, 0, 0, 0, 0, 0x1ffff, false, false, 0⟩,
  ⟨"SOLAR_SEL", 0x8c, 1, 0x3, 0, 0, 0, 0x3, false, false, 0⟩,
  ⟨"SOLAR", 0x90, 1, 0, 0, 0, 0, 0xffffffff, false, false, 0xffffffff⟩,
  ⟨"FB_CFG", 0x94, 1, 0xffff, 0, 0, 0x80000000, 0x8000ffff, true, false, 0x8000⟩,
  ⟨"FB_STAT", 0x98, 1, 0, 0, 0, 0, 0xffffffff, false, false, 0⟩]

/-- Block registers of the SW page. -/
def rowsSW : List RegRow :=
 [
  ⟨"SW_CFG", 0x40, 1, 0x3, 0, 0, 0, 0x3, false, false, 0x2⟩,
  ⟨"VLAN_CFG", 0x44, 1, 0xfff0fff, 0, 0, 0, 0xfff0fff, false, false, 0xfa00064⟩,
  ⟨"ERPS_CFG", 0x48, 1, 0xff0000ff, 0, 0, 0, 0xff0000ff, true, false, 0xf000001⟩,
  ⟨"ERPS_TMR", 0x4c, 1, 0xffffffff, 0, 0, 0, 0xffffffff, false, false, 0x50001f4⟩,
  ⟨"ERPS_CMD", 0x50, 1, 0, 0, 0, 0x103, 0x103, true, false, 0⟩,
  ⟨"ERPS_STAT", 0x54, 1, 0, 0, 0, 0, 0xffff0707, false, false, 0⟩,
  ⟨"FLUSH_CNT", 0x58, 1, 0, 0, 0, 0, 0xffffffff, false, true, 0⟩,
  ⟨"DROP", 0x5c, 1, 0, 0, 0, 0, 0xffffffff, false, true, 0⟩,
  ⟨"MAC_LO", 0x60, 1, 0, 0, 0, 0, 0xffffffff, false, false, 0⟩,
  ⟨"MAC_HI", 0x64, 1, 0, 0, 0, 0, 0xffff, false, false, 0⟩]

/-- Block registers of the RING0 and RING1 pages. -/
def rowsRING : List RegRow :=
 [
  ⟨"MODE", 0x40, 1, 0, 0, 0, 0, 0, false, false, 0⟩,
  ⟨"LINK", 0x44, 1, 0, 0, 0, 0, 0xf, false, false, 0⟩,
  ⟨"PORT_CFG", 0x48, 1, 0x107, 0, 0, 0, 0x107, false, false, 0x100⟩,
  ⟨"RX_FRAMES", 0x4c, 1, 0, 0, 0, 0, 0xffffffff, false, true, 0⟩,
  ⟨"TX_FRAMES", 0x50, 1, 0, 0, 0, 0, 0xffffffff, false, true, 0⟩,
  ⟨"RX_ERR", 0x54, 1, 0, 0, 0, 0, 0xffffffff, false, true, 0⟩,
  ⟨"DOWN_CNT", 0x58, 1, 0, 0, 0, 0, 0xffffffff, false, true, 0⟩]

/-- Block registers of the LAN0 and LAN1 pages. -/
def rowsLAN : List RegRow :=
 [
  ⟨"MODE", 0x40, 1, 0x101, 0, 0, 0, 0x101, false, false, 0x100⟩,
  ⟨"LINK", 0x44, 1, 0, 0, 0, 0, 0xf, false, false, 0⟩,
  ⟨"PORT_CFG", 0x48, 1, 0x107, 0, 0, 0, 0x107, false, false, 0⟩,
  ⟨"RX_FRAMES", 0x4c, 1, 0, 0, 0, 0, 0xffffffff, false, true, 0⟩,
  ⟨"TX_FRAMES", 0x50, 1, 0, 0, 0, 0, 0xffffffff, false, true, 0⟩,
  ⟨"RX_ERR", 0x54, 1, 0, 0, 0, 0, 0xffffffff, false, true, 0⟩,
  ⟨"DOWN_CNT", 0x58, 1, 0, 0, 0, 0, 0xffffffff, false, true, 0⟩]

/-- Block registers of the IU page. -/
def rowsIU : List RegRow :=
 [
  ⟨"HOLD", 0x40, 1, 0x1, 0, 0, 0, 0x1, false, false, 0⟩,
  ⟨"SRC_SEL", 0x44, 1, 0xff, 0, 0, 0, 0xff, false, false, 0⟩,
  ⟨"SRC_CFG", 0x48, 1, 0x800f030f, 0, 0, 0, 0x800f030f, false, false, 0xf⟩,
  ⟨"SRC_STAT", 0x4c, 1, 0, 0, 0, 0, 0xe3000000, false, false, 0⟩,
  ⟨"DOORBELL", 0x50, 1, 0, 0xffffffff, 0, 0, 0xffffffff, false, false, 0⟩,
  ⟨"PEND", 0x60, 8, 0, 0, 0, 0, 0xffffffff, false, false, 0⟩,
  ⟨"COAL_CFG", 0x84, 15, 0xff00ffff, 0, 0, 0, 0xff00ffff, false, false, 0x100ffff⟩,
  ⟨"COAL_STAT", 0xc0, 1, 0, 0, 0, 0, 0xfffe, false, false, 0⟩]

/-- Block registers of the IUC page. -/
def rowsIUC : List RegRow :=
 [
  ⟨"VBAR", 0x40, 1, 0xffffc000, 0, 0, 0, 0xffffc000, true, false, 0⟩,
  ⟨"VEC", 0x44, 1, 0, 0, 0, 0, 0x801f0fff, false, false, 0⟩,
  ⟨"EOI", 0x48, 1, 0, 0, 0, 0xff, 0xff, false, false, 0⟩,
  ⟨"PMASK", 0x4c, 1, 0x1f, 0, 0, 0, 0x1f, false, false, 0x10⟩,
  ⟨"FAULT", 0x50, 1, 0, 0, 0, 0, 0xc01fffff, false, true, 0⟩,
  ⟨"STACK", 0x60, 4, 0, 0, 0, 0, 0xffffffff, false, false, 0⟩]

/-- Block registers of the QM page. -/
def rowsQM : List RegRow :=
 [
  ⟨"Q_SEL", 0x40, 1, 0x3f, 0, 0, 0, 0x3f, false, false, 0⟩,
  ⟨"Q_CFG", 0x44, 1, 0xbfff8fff, 0, 0, 0, 0xffff8fff, false, false, 0⟩,
  ⟨"Q_CFG2", 0x48, 1, 0xff7fffff, 0, 0, 0, 0xff7fffff, false, false, 0xff000000⟩,
  ⟨"Q_ERR", 0x4c, 1, 0, 0, 0, 0, 0xffffffff, false, true, 0⟩,
  ⟨"Q_SKIP", 0x50, 1, 0, 0, 0, 0, 0xffffffff, false, true, 0⟩]

/-- Block registers of the QMQ page. -/
def rowsQMQ : List RegRow :=
 [
  ⟨"DEPTH", 0x100, 64, 0, 0, 0, 0, 0x800007ff, false, false, 0⟩,
  ⟨"ITEM", 0x800, 512, 0xffffffff, 0, 0, 0, 0xffffffff, false, false, 0⟩]

/-- Block registers of the PCIE page. -/
def rowsPCIE : List RegRow :=
 [
  ⟨"LINK", 0x40, 1, 0, 0, 0, 0, 0x73d, false, false, 0⟩,
  ⟨"HOST_MASK0", 0x44, 1, 0xffffffff, 0, 0, 0, 0xffffffff, true, false, 0x1⟩,
  ⟨"HOST_MASK1", 0x48, 1, 0xffffffff, 0, 0, 0, 0xffffffff, true, false, 0⟩,
  ⟨"HOST_MASK2", 0x4c, 1, 0xffffffff, 0, 0, 0, 0xffffffff, true, false, 0x120000⟩,
  ⟨"HOST_MASK3", 0x50, 1, 0xffffffff, 0, 0, 0, 0xffffffff, true, false, 0⟩,
  ⟨"HDB_SET", 0x54, 1, 0, 0, 0xff, 0, 0xff, false, false, 0⟩,
  ⟨"HDB", 0x58, 1, 0, 0xff, 0, 0, 0xff, false, false, 0⟩,
  ⟨"CQ_SEL", 0x5c, 1, 0x7, 0, 0, 0, 0x7, false, false, 0⟩,
  ⟨"CQ_BASE_LO", 0x60, 1, 0xffffff00, 0, 0, 0, 0xffffff00, false, false, 0⟩,
  ⟨"CQ_BASE_HI", 0x64, 1, 0xffffffff, 0, 0, 0, 0xffffffff, false, false, 0⟩,
  ⟨"CQ_CFG", 0x68, 1, 0x800f1fff, 0, 0, 0, 0x800f1fff, false, false, 0x10⟩,
  ⟨"CQ_HEAD", 0x6c, 1, 0xfff, 0, 0, 0, 0xfff, false, false, 0⟩,
  ⟨"CQ_TAIL", 0x70, 1, 0, 0, 0, 0, 0xfff, false, false, 0⟩,
  ⟨"MOD_CFG", 0x74, 1, 0xff00ffff, 0, 0, 0, 0xff00ffff, false, false, 0x8000064⟩,
  ⟨"CQ_STAT", 0x78, 1, 0, 0, 0, 0, 0xc07f00ff, false, false, 0⟩,
  ⟨"CQ_OVF", 0x7c, 1, 0, 0, 0, 0, 0xffff, false, true, 0⟩,
  ⟨"CPL_W", 0x80, 4, 0xffffffff, 0, 0, 0, 0xffffffff, false, false, 0⟩,
  ⟨"CPL_CMD", 0x90, 1, 0, 0, 0, 0x7, 0x7, false, false, 0⟩,
  ⟨"CPL_STAT", 0x94, 1, 0, 0, 0, 0, 0x3, false, false, 0⟩,
  ⟨"WAKE_ON_CPL", 0x98, 1, 0x1, 0, 0, 0, 0x1, false, false, 0⟩]

/-- Block registers of the PAIR page. -/
def rowsPAIR : List RegRow :=
 [
  ⟨"CFG", 0x40, 1, 0x80000001, 0, 0, 0, 0x80000001, true, false, 0⟩,
  ⟨"ROLE", 0x44, 1, 0, 0, 0, 0, 0x30707, false, false, 0x4⟩,
  ⟨"CMD", 0x48, 1, 0, 0, 0, 0xf, 0xf, true, false, 0⟩,
  ⟨"SWAP_PERIOD", 0x4c, 1, 0xffff, 0, 0, 0, 0xffff, false, false, 0xa8⟩,
  ⟨"PEER", 0x50, 1, 0, 0, 0, 0, 0xc7, false, false, 0⟩,
  ⟨"MISMATCH_CNT", 0x54, 1, 0, 0, 0, 0, 0xffffffff, false, true, 0⟩,
  ⟨"IMP_STAT", 0x58, 1, 0, 0, 0, 0, 0xff0001ff, false, false, 0⟩,
  ⟨"EDGE_OFS", 0x5c, 1, 0, 0, 0, 0, 0xffffffff, false, false, 0⟩,
  ⟨"PAIR_ID", 0x60, 1, 0xffffffff, 0, 0, 0, 0xffffffff, true, false, 0⟩,
  ⟨"SWITCH_GAP", 0x64, 1, 0, 0, 0, 0, 0xffffffff, false, false, 0⟩]

/-- Block registers of the BYELL page. -/
def rowsBYELL : List RegRow :=
 [
  ⟨"LANE_STAT", 0x40, 1, 0, 0, 0, 0, 0x303, false, false, 0⟩,
  ⟨"LAT", 0x44, 1, 0, 0, 0, 0, 0xffff, false, false, 0⟩,
  ⟨"TX_MSG", 0x48, 1, 0, 0, 0, 0, 0xffffffff, false, true, 0⟩,
  ⟨"RX_MSG", 0x4c, 1, 0, 0, 0, 0, 0xffffffff, false, true, 0⟩,
  ⟨"CRC_ERR", 0x50, 1, 0, 0, 0, 0, 0xffff, false, true, 0⟩,
  ⟨"DOWN_CNT", 0x54, 1, 0, 0, 0, 0, 0xffff, false, true, 0⟩]

/-- Block registers of the WIT page. -/
def rowsWIT : List RegRow :=
 [
  ⟨"CFG", 0x40, 1, 0x1, 0, 0, 0, 0x1, false, false, 0⟩,
  ⟨"HB_CFG", 0x44, 1, 0xffffffff, 0, 0, 0, 0xffffffff, true, false, 0x641f450a⟩,
  ⟨"LEASE", 0x48, 1, 0, 0, 0, 0, 0xe000ffff, false, false, 0⟩,
  ⟨"STAT", 0x4c, 1, 0, 0, 0, 0, 0xff01, false, false, 0⟩,
  ⟨"HE_MAC_LO", 0x50, 1, 0xffffffff, 0, 0, 0, 0xffffffff, false, false, 0⟩,
  ⟨"HE_MAC_HI", 0x54, 1, 0xffff, 0, 0, 0, 0xffff, false, false, 0⟩,
  ⟨"CNT", 0x58, 1, 0, 0, 0, 0, 0xffffffff, false, true, 0⟩]

/-- Block registers of the GROUND page. -/
def rowsGROUND : List RegRow :=
 [
  ⟨"MBX_CMD", 0x40, 1, 0, 0, 0, 0xffff00ff, 0xffff00ff, false, false, 0⟩,
  ⟨"MBX_IN", 0x44, 1, 0, 0, 0, 0xffffffff, 0xffffffff, false, false, 0⟩,
  ⟨"MBX_OUT", 0x48, 1, 0, 0, 0, 0, 0xffffffff, false, false, 0⟩,
  ⟨"MBX_STAT", 0x4c, 1, 0, 0, 0, 0, 0xffff01ff, false, false, 0⟩,
  ⟨"LC", 0x50, 1, 0, 0, 0, 0, 0x7, false, false, 0⟩,
  ⟨"KEY_CTR_LO", 0x54, 1, 0, 0, 0, 0, 0xffffffff, false, false, 0⟩,
  ⟨"KEY_CTR_HI", 0x58, 1, 0, 0, 0, 0, 0xffffffff, false, false, 0⟩,
  ⟨"SLOT_SEL", 0x5c, 1, 0x7f, 0, 0, 0, 0x7f, false, false, 0⟩,
  ⟨"SLOT_STAT", 0x60, 1, 0, 0, 0, 0, 0xff7fffff, false, false, 0⟩,
  ⟨"TAG_CNT", 0x64, 1, 0, 0, 0, 0, 0xffffffff, false, true, 0⟩]

/-- Block registers of the TAMP page. -/
def rowsTAMP : List RegRow :=
 [
  ⟨"POLICY", 0x40, 1, 0x3, 0, 0, 0, 0x3, false, false, 0x1⟩,
  ⟨"SRC_EN", 0x44, 1, 0x3f, 0, 0, 0, 0x3f, false, false, 0x3f⟩,
  ⟨"LATCH", 0x48, 1, 0, 0x3f, 0, 0, 0x3f, false, false, 0x20⟩,
  ⟨"LIVE", 0x4c, 1, 0, 0, 0, 0, 0x13f, false, false, 0⟩,
  ⟨"DOOR_SEL", 0x50, 1, 0x7, 0, 0, 0, 0x7, false, false, 0⟩]

/-- Block registers of the UPD page. -/
def rowsUPD : List RegRow :=
 [
  ⟨"STAGE", 0x40, 1, 0, 0, 0, 0, 0xffff000f, false, false, 0⟩,
  ⟨"CMD", 0x44, 1, 0, 0, 0, 0x7, 0x7, true, false, 0⟩,
  ⟨"SEQ_LO", 0x48, 1, 0, 0, 0, 0, 0xffffffff, false, false, 0⟩,
  ⟨"SEQ_HI", 0x4c, 1, 0, 0, 0, 0, 0xffffffff, false, false, 0⟩,
  ⟨"RUN_SEQ_LO", 0x50, 1, 0, 0, 0, 0, 0xffffffff, false, false, 0⟩,
  ⟨"RUN_SEQ_HI", 0x54, 1, 0, 0, 0, 0, 0xffffffff, false, false, 0⟩,
  ⟨"LEDGER_VER", 0x58, 1, 0, 0, 0, 0, 0xffffffff, false, false, 0⟩,
  ⟨"BITMAP_STAT", 0x5c, 1, 0, 0, 0, 0, 0xffffffff, false, false, 0⟩,
  ⟨"TARGETS", 0x60, 1, 0, 0, 0, 0, 0x1fff1fff, false, false, 0⟩,
  ⟨"DEADLINE", 0x64, 1, 0, 0, 0, 0, 0xffffffff, false, false, 0⟩,
  ⟨"ACT_TICK_LO", 0x68, 1, 0, 0, 0, 0, 0xffffffff, false, false, 0⟩,
  ⟨"ACT_TICK_HI", 0x6c, 1, 0, 0, 0, 0, 0xffffffff, false, false, 0⟩,
  ⟨"CONFIRM", 0x70, 1, 0x80000000, 0, 0, 0, 0xcfffffff, false, false, 0⟩,
  ⟨"CFG", 0x74, 1, 0x3, 0, 0, 0, 0x3, false, false, 0x2⟩,
  ⟨"EXCHANGE", 0x78, 1, 0, 0, 0, 0, 0xffffffff, false, false, 0⟩]

/-- Block registers of the REC page. -/
def rowsREC : List RegRow :=
 [
  ⟨"RD_SEL", 0x40, 1, 0xffffffff, 0, 0, 0, 0xffffffff, false, false, 0⟩,
  ⟨"RD_CFG", 0x44, 1, 0x1, 0, 0, 0, 0x1, false, false, 0⟩,
  ⟨"RD_STAT", 0x48, 1, 0, 0, 0, 0, 0xc0000000, false, false, 0⟩,
  ⟨"NEXT_IDX", 0x4c, 1, 0, 0, 0, 0, 0xffffffff, false, false, 0⟩,
  ⟨"COUNTS", 0x50, 4, 0, 0, 0, 0, 0xffffff, false, false, 0⟩,
  ⟨"QUOTA", 0x60, 1, 0xffffff, 0, 0, 0, 0xffffff, false, false, 0x101010⟩,
  ⟨"LOST", 0x64, 1, 0, 0, 0, 0, 0xffffffff, false, true, 0⟩,
  ⟨"DROPPED", 0x68, 1, 0, 0, 0, 0, 0xffffffff, false, true, 0⟩,
  ⟨"FB_CNT", 0x6c, 1, 0, 0, 0, 0, 0xfff, false, false, 0⟩,
  ⟨"PEND", 0x70, 1, 0, 0, 0, 0, 0x1ff, false, false, 0⟩,
  ⟨"APP_PARAM", 0x74, 5, 0xffffffff, 0, 0, 0, 0xffffffff, false, false, 0⟩,
  ⟨"APP_POST", 0x88, 1, 0, 0, 0, 0x3ffff, 0x3ffff, false, false, 0⟩,
  ⟨"RD_WIN", 0xc0, 16, 0, 0, 0, 0, 0xffffffff, false, false, 0⟩]

/-- Block registers of the AGE page. -/
def rowsAGE : List RegRow :=
 [
  ⟨"CFG", 0x40, 1, 0xff0f, 0, 0, 0, 0xff0f, false, false, 0x640f⟩,
  ⟨"ITEM_SEL", 0x44, 1, 0x3f, 0, 0, 0, 0x3f, false, false, 0⟩,
  ⟨"MARGIN", 0x48, 1, 0, 0, 0, 0, 0xc00000ff, false, false, 0⟩,
  ⟨"VALUE", 0x4c, 1, 0, 0, 0, 0, 0xffffffff, false, false, 0⟩,
  ⟨"LIMIT", 0x50, 1, 0, 0, 0, 0, 0xffffffff, false, false, 0⟩,
  ⟨"NOMINAL", 0x54, 1, 0, 0, 0, 0, 0xffffffff, false, false, 0⟩,
  ⟨"MEAS_AGE", 0x58, 1, 0, 0, 0, 0, 0xffffffff, false, false, 0⟩,
  ⟨"AVS", 0x5c, 1, 0, 0, 0, 0, 0xffffff, false, false, 0x320⟩,
  ⟨"NAND_RF", 0x60, 1, 0, 0, 0, 0, 0xff, false, false, 0⟩,
  ⟨"SCAP_CFG", 0x64, 1, 0x1f1f, 0, 0, 0, 0x1f1f, false, false, 0x301⟩,
  ⟨"SCAP_RES", 0x68, 1, 0, 0, 0, 0, 0xffffffff, false, false, 0⟩,
  ⟨"CMD", 0x6c, 1, 0, 0, 0, 0x3, 0x3, true, false, 0⟩]

/-- Block registers of the PWR page. -/
def rowsPWR : List RegRow :=
 [
  ⟨"STATE", 0x40, 1, 0, 0, 0, 0, 0x303, false, false, 0⟩,
  ⟨"CMD", 0x44, 1, 0, 0, 0, 0x7, 0x7, true, false, 0⟩,
  ⟨"CMD_STAT", 0x48, 1, 0, 0, 0, 0, 0x3, false, false, 0⟩,
  ⟨"VIN_MON", 0x4c, 1, 0, 0, 0, 0, 0x1ffff, false, false, 0⟩,
  ⟨"VHOLD_MON", 0x50, 1, 0, 0, 0, 0, 0x3ffff, false, false, 0⟩,
  ⟨"HOLD_CFG", 0x54, 1, 0x8000ffff, 0, 0, 0, 0x8000ffff, false, false, 0x800007d0⟩,
  ⟨"HOLD_PLAN", 0x58, 1, 0, 0, 0, 0, 0xffffffff, false, false, 0x96501dc⟩,
  ⟨"WAKE_EN", 0x5c, 1, 0xff01, 0, 0, 0, 0xff01, false, false, 0⟩,
  ⟨"WAKE_SRC", 0x60, 1, 0, 0, 0, 0, 0xff01, false, false, 0⟩]

/-- Block registers of the BOOT page. -/
def rowsBOOT : List RegRow :=
 [
  ⟨"PROGRESS", 0x40, 1, 0, 0, 0, 0, 0x71f, false, false, 0⟩,
  ⟨"STAGE_SEL", 0x44, 1, 0x1f, 0, 0, 0, 0x1f, false, false, 0x1⟩,
  ⟨"STAGE_STAT", 0x48, 1, 0, 0, 0, 0, 0xf000ffff, false, false, 0⟩,
  ⟨"FAIL_CNT", 0x4c, 1, 0, 0, 0, 0, 0xff, false, false, 0⟩,
  ⟨"TAKEN_MAP", 0x50, 1, 0, 0, 0, 0, 0xffffff, false, false, 0⟩,
  ⟨"CMD", 0x54, 1, 0, 0, 0, 0x7f, 0x7f, true, false, 0⟩]

/-- Block registers of the WDOG page. -/
def rowsWDOG : List RegRow :=
 [
  ⟨"RT_WD", 0x40, 1, 0xffff, 0, 0, 0, 0x8000ffff, true, false, 0x80000064⟩,
  ⟨"CORE_WD", 0x44, 4, 0xc000ffff, 0, 0, 0, 0xc000ffff, false, false, 0x3e8⟩,
  ⟨"KICK", 0x54, 1, 0, 0, 0, 0xffffffff, 0xffffffff, false, false, 0⟩,
  ⟨"SUPV", 0x58, 1, 0, 0, 0, 0, 0xffff, false, false, 0⟩,
  ⟨"EXP", 0x5c, 1, 0, 0, 0, 0, 0x1f, false, true, 0⟩]

/-- Block registers of the IO page. -/
def rowsIO : List RegRow :=
 [
  ⟨"DI_CFG", 0x40, 1, 0xff00ffff, 0, 0, 0, 0xff00ffff, false, false, 0x14000000⟩,
  ⟨"DI_STUCK_T", 0x44, 1, 0xffff, 0, 0, 0, 0xffff, false, false, 0x258⟩,
  ⟨"DI_CHATTER_N", 0x48, 1, 0xffffff, 0, 0, 0, 0xffffff, false, false, 0x6408⟩,
  ⟨"DI_STAT", 0x4c, 1, 0, 0, 0, 0, 0xffffffff, false, false, 0⟩,
  ⟨"DI_RAW", 0x50, 1, 0, 0, 0, 0, 0xff, false, false, 0⟩,
  ⟨"CO_CMD", 0x54, 1, 0xff, 0, 0, 0xff00, 0xffff, true, false, 0⟩,
  ⟨"CO_FB", 0x58, 1, 0, 0, 0, 0, 0xffffff, false, false, 0⟩,
  ⟨"CO_CFG", 0x5c, 1, 0xffff, 0, 0, 0, 0xffff, false, false, 0⟩,
  ⟨"CO_PULSE0", 0x60, 1, 0xffffffff, 0, 0, 0, 0xffffffff, false, false, 0x32323232⟩,
  ⟨"CO_PULSE1", 0x64, 1, 0xffffffff, 0, 0, 0, 0xffffffff, false, false, 0x32323232⟩]

/-- Block registers of the DBG page. -/
def rowsDBG : List RegRow :=
 [
  ⟨"LEVEL", 0x40, 1, 0, 0, 0, 0, 0xff0333, false, false, 0⟩,
  ⟨"CMD", 0x44, 1, 0, 0, 0, 0x33, 0x33, false, false, 0⟩,
  ⟨"CHAL", 0x48, 8, 0, 0, 0, 0, 0xffffffff, false, false, 0⟩,
  ⟨"RESP", 0x70, 24, 0, 0, 0, 0xffffffff, 0xffffffff, false, false, 0⟩]

end Sys2Proof.Machine
end

