-- ==== Sys2Proof/Machine/RegMap.lean ====
section
/-! DEFINITION. The map of the window: which page is which (R40), the row of a register, its reset value, and the bits
that exist. -/

namespace Sys2Proof.Machine

/-- The page numbers of R40 by name. -/
abbrev Pg.sys : Nat := 0x00
abbrev Pg.tick : Nat := 0x01
abbrev Pg.hatch : Nat := 0x02
abbrev Pg.hatchG : Nat := 0x03
abbrev Pg.plate : Nat := 0x04
abbrev Pg.group : Nat := 0x05
abbrev Pg.node : Nat := 0x06
abbrev Pg.fb (n : Nat) : Nat := 0x10 + n
abbrev Pg.fbmo (n : Nat) : Nat := 0x20 + n
abbrev Pg.met (n : Nat) : Nat := 0x30 + n
abbrev Pg.trace : Nat := 0x34
abbrev Pg.cal : Nat := 0x35
abbrev Pg.rtc : Nat := 0x38
abbrev Pg.time : Nat := 0x39
abbrev Pg.sched : Nat := 0x3A
abbrev Pg.sw : Nat := 0x40
abbrev Pg.port (n : Nat) : Nat := 0x41 + n
abbrev Pg.iu : Nat := 0x48
abbrev Pg.iuc (n : Nat) : Nat := 0x49 + n
abbrev Pg.qm : Nat := 0x50
abbrev Pg.qmq : Nat := 0x51
abbrev Pg.pcie : Nat := 0x54
abbrev Pg.pair : Nat := 0x58
abbrev Pg.byell : Nat := 0x59
abbrev Pg.wit : Nat := 0x5A
abbrev Pg.ground : Nat := 0x60
abbrev Pg.tamp : Nat := 0x61
abbrev Pg.upd : Nat := 0x64
abbrev Pg.rec : Nat := 0x68
abbrev Pg.age : Nat := 0x6C
abbrev Pg.pwr : Nat := 0x70
abbrev Pg.boot : Nat := 0x71
abbrev Pg.wdog : Nat := 0x72
abbrev Pg.io : Nat := 0x78
abbrev Pg.dbg : Nat := 0x7C

/-- The power and reset domains that pages belong to (R23, R40). -/
inductive Domain where
  | always
  | realTime
  | network
  | application
deriving DecidableEq, Repr

/-- A page of the index: the rows of its block registers, the number of its block's first page (for ID.TYPE), whether
CTRL.FLUSH acts (R40), block control bits of CTRL and block status bits of STAT, its domain, and whether the block
always runs, so that CTRL.EN reads 1 and a write of 0 to it is ignored. -/
structure PageInfo where
  rows : List RegRow
  base : Nat
  flush : Bool
  ctrl : Nat
  stat : Nat
  dom : Domain
  always : Bool

/-- R40: the page index.  A page not listed is reserved (none); FBMO pages have no header and stand apart. -/
def pageInfo (p : Nat) : Option PageInfo :=
  if p = Pg.sys then some ⟨rowsSYS, p, false, 0, 0, .realTime, true⟩
  else if p = Pg.tick then some ⟨rowsTICK, p, false, 0, 0x300, .realTime, true⟩
  else if p = Pg.hatch then some ⟨rowsHATCH, p, true, 0, 0x100, .realTime, false⟩
  else if p = Pg.hatchG then some ⟨rowsHATCHG, p, false, 0, 0, .realTime, false⟩
  else if p = Pg.plate then some ⟨rowsPLATE, p, false, 0, 0x100, .realTime, true⟩
  else if p = Pg.group then some ⟨rowsGROUP, p, false, 0, 0, .realTime, false⟩
  else if p = Pg.node then some ⟨rowsNODE, p, false, 0, 0x300, .realTime, true⟩
  else if 0x10 ≤ p ∧ p ≤ 0x1F then some ⟨rowsFB, 0x10, true, 0x700, 0xF7700, .realTime, false⟩
  else if 0x30 ≤ p ∧ p ≤ 0x33 then some ⟨rowsMET, 0x30, false, 0, 0x3FF00, .realTime, false⟩
  else if p = Pg.trace then some ⟨rowsTRACE, p, false, 0, 0, .realTime, false⟩
  else if p = Pg.cal then some ⟨rowsCAL, p, false, 0, 0, .realTime, false⟩
  else if p = Pg.rtc then some ⟨rowsRTC, p, false, 0, 0, .always, true⟩
  else if p = Pg.time then some ⟨rowsTIME, p, false, 0, 0, .realTime, true⟩
  else if p = Pg.sched then some ⟨rowsSCHED, p, false, 0, 0x100, .realTime, true⟩
  else if p = Pg.sw then some ⟨rowsSW, p, false, 0, 0, .network, false⟩
  else if p = 0x41 ∨ p = 0x42 then some ⟨rowsRING, 0x41, false, 0, 0, .network, false⟩
  else if p = 0x43 ∨ p = 0x44 then some ⟨rowsLAN, 0x43, false, 0, 0, .network, false⟩
  else if p = Pg.iu then some ⟨rowsIU, p, false, 0, 0, .application, false⟩
  else if 0x49 ≤ p ∧ p ≤ 0x4C then some ⟨rowsIUC, 0x49, false, 0, 0, .application, false⟩
  else if p = Pg.qm then some ⟨rowsQM, p, false, 0, 0x100, .application, false⟩
  else if p = Pg.qmq then some ⟨rowsQMQ, p, true, 0, 0, .application, false⟩
  else if p = Pg.pcie then some ⟨rowsPCIE, p, false, 0, 0, .application, false⟩
  else if p = Pg.pair then some ⟨rowsPAIR, p, false, 0, 0, .realTime, false⟩
  else if p = Pg.byell then some ⟨rowsBYELL, p, false, 0, 0, .realTime, false⟩
  else if p = Pg.wit then some ⟨rowsWIT, p, false, 0, 0, .realTime, false⟩
  else if p = Pg.ground then some ⟨rowsGROUND, p, true, 0, 0, .realTime, true⟩
  else if p = Pg.tamp then some ⟨rowsTAMP, p, false, 0, 0, .always, true⟩
  else if p = Pg.upd then some ⟨rowsUPD, p, false, 0, 0, .realTime, true⟩
  else if p = Pg.rec then some ⟨rowsREC, p, true, 0, 0x300, .realTime, true⟩
  else if p = Pg.age then some ⟨rowsAGE, p, false, 0, 0, .realTime, true⟩
  else if p = Pg.pwr then some ⟨rowsPWR, p, false, 0, 0, .realTime, true⟩
  else if p = Pg.boot then some ⟨rowsBOOT, p, false, 0, 0, .realTime, true⟩
  else if p = Pg.wdog then some ⟨rowsWDOG, p, false, 0, 0, .realTime, true⟩
  else if p = Pg.io then some ⟨rowsIO, p, false, 0, 0, .realTime, false⟩
  else if p = Pg.dbg then some ⟨rowsDBG, p, false, 0, 0, .realTime, true⟩
  else none

/-- A message-object page, R41, R153. -/
def isFbmo (p : Nat) : Bool := decide (0x20 ≤ p ∧ p ≤ 0x2F)

/-- Key of the register at offset o of page p: its offset in the window (R37). -/
abbrev key (p o : Nat) : Nat := p * 0x1000 + o

/-- Key of the copy of register `a` that a window register selects (group, queue, contactor, slot): banks stand above
the window. -/
abbrev bank (sel a : Nat) : Nat := (sel + 1) * 0x100000 + a

/-- The row that holds offset o, among the rows of a page. -/
def findRow : List RegRow → Nat → Option RegRow
  | [], _ => none
  | r :: t, o => if r.off ≤ o ∧ o < r.off + 4 * r.cnt then some r else findRow t o

/-- How many of the interrupt bits [29:0] of page p its chapter defines, from bit 0 up (R42); the rest are reserved. -/
def irqBits (p : Nat) : Nat :=
  if p = Pg.tick then 9
  else if p = Pg.hatch then 4
  else if p = Pg.hatchG then 2
  else if p = Pg.plate then 3
  else if p = Pg.group ∨ p = Pg.io then 5
  else if p = Pg.node then 7
  else if 0x10 ≤ p ∧ p ≤ 0x1F then 14
  else if 0x30 ≤ p ∧ p ≤ 0x33 then 7
  else if p = Pg.trace ∨ p = Pg.cal then 2
  else if p = Pg.rtc ∨ p = Pg.time ∨ p = Pg.sched then 6
  else if p = Pg.sw then 3
  else if p = 0x41 ∨ p = 0x42 then 3
  else if p = 0x43 ∨ p = 0x44 then 2
  else if p = Pg.qm then 4
  else if p = Pg.qmq then 0
  else if p = Pg.pcie then 3
  else if p = Pg.pair then 4
  else if p = Pg.byell ∨ p = Pg.wit then 3
  else if p = Pg.ground then 3
  else if p = Pg.upd then 5
  else if p = Pg.rec ∨ p = Pg.age then 4
  else if p = Pg.pwr ∨ p = Pg.boot then 2
  else 1

/-- Bits of header registers that exist (R41), and of block registers. -/
def impBits (p o : Nat) : Nat :=
  if isFbmo p then
    let w := o % 32
    if w = 0 then 0xFB0000FF else if w = 4 ∨ w = 8 then 0x1FFFFFFF else if w = 12 then 0xFFF0FFFF else 0xFFFFFFFF
  else match pageInfo p with
  | none => 0
  | some pi =>
    if o = 0x000 then 0xFFFFFFFF
    else if o = 0x004 then 0xFFFFFF00
    else if o = 0x008 then pi.ctrl + (if pi.flush then 7 else 3)
    else if o = 0x00C then (pi.stat &&& 0xFFFFFF00) + 0x1F
    else if o = 0x010 ∨ o = 0x014 ∨ o = 0x018 then 0xC0000000 + (2 ^ irqBits p - 1)
    else if o = 0x01C then 0xFFFFFFFF
    else if o = 0x020 then 0xCF8FFFFF
    else if o = 0x024 then 0xE00FFFFF
    else if o = 0x028 then 0xFFFFFFFF
    else if o < 0x040 then 0
    else match findRow pi.rows o with
      | some r => r.imp
      | none => 0

/-- The reset value of a register word by its key. A bank copy resets to its register's value. DESIGN CHOICE: log
entry 4. -/
def regReset (a : Nat) : Word :=
  let w := a % 0x100000
  let p := w / 0x1000
  let o := w % 0x1000
  if isFbmo p then 0 else match pageInfo p with
  | none => 0
  | some pi =>
    if o = 0x024 then 0x3E8
    else if o < 0x040 then 0
    else match findRow pi.rows o with
      | some r => BitVec.ofNat 32 r.rst
      | none => 0

end Sys2Proof.Machine
end

