-- ==== Sys2Proof/Machine/Tab.lean ====
section
/-! DEFINITION. Reading and writing a table: the one canonical form of `Tab` is kept by every write. -/

namespace Sys2Proof.Machine

variable {V : Type}

/-- The value at key k; an unlisted key reads as `d k`. -/
def Tab.get (d : Nat → V) : Tab V → Nat → V
  | [], k => d k
  | (j, v) :: t, k => if j = k then v else Tab.get d t k

/-- Every entry of key k removed. -/
def Tab.del : Tab V → Nat → Tab V
  | [], _ => []
  | (j, v) :: t, k => if j = k then Tab.del t k else (j, v) :: Tab.del t k

/-- An entry put in its place by key. -/
def Tab.ins : Tab V → Nat → V → Tab V
  | [], k, v => [(k, v)]
  | (j, w) :: t, k, v => if k < j then (k, v) :: (j, w) :: t else (j, w) :: Tab.ins t k v

/-- The write of v at key k: the default value removes the entry. -/
def Tab.set [DecidableEq V] (d : Nat → V) (m : Tab V) (k : Nat) (v : V) : Tab V :=
  if v = d k then Tab.del m k else Tab.ins (Tab.del m k) k v

/-- A read-modify-write of the value at key k. -/
def Tab.mod [DecidableEq V] (d : Nat → V) (m : Tab V) (k : Nat) (f : V → V) : Tab V :=
  Tab.set d m k (f (Tab.get d m k))

/-- Keys rise strictly from `lo` on. -/
def Tab.rising (lo : Nat) : Tab V → Bool
  | [] => true
  | (j, _) :: t => decide (lo ≤ j) && Tab.rising (j + 1) t

/-- No entry holds what an unlisted key reads as. -/
def Tab.lean [DecidableEq V] (d : Nat → V) : Tab V → Bool
  | [] => true
  | (j, v) :: t => !decide (v = d j) && Tab.lean d t

/-- The canonical form. -/
def Tab.wf [DecidableEq V] (d : Nat → V) (m : Tab V) : Bool := Tab.rising 0 m && Tab.lean d m

/-- Every entry whose key satisfies p is set back to what an unlisted key reads as. -/
def Tab.clear (p : Nat → Bool) : Tab V → Tab V
  | [] => []
  | (j, v) :: t => if p j then Tab.clear p t else (j, v) :: Tab.clear p t

end Sys2Proof.Machine
end

