-- ==== Sys2Proof/Machine/Ops.lean ====
section
/-! DEFINITION. Named operations over the register words, the interrupt bits, the recorder's pending ring, the time and
the free values.  Every block's meaning is written over these. -/

namespace Sys2Proof.Machine

/-! ### Bits -/

/-- `n` in two's complement of `w` bits, read as an integer. -/
def signed (w n : Nat) : Int := if n % 2 ^ w < 2 ^ (w - 1) then (n % 2 ^ w : Nat) else (n % 2 ^ w : Nat) - (2 ^ w : Nat)

/-- An integer as `w` bits in two's complement. -/
def unsigned (w : Nat) (i : Int) : Nat := (i % (2 ^ w : Nat)).toNat

/-- The integer nearest to i within ±(2^31 − 1). -/
def sat31 (i : Int) : Int := max (-(2147483647 : Int)) (min i 2147483647)

/-- A field of a word: `len` bits from bit `lo` up (R8). -/
def getF (w : Word) (lo len : Nat) : Nat := (w.toNat >>> lo) % 2 ^ len

/-- The bits of a field. -/
def maskF (lo len : Nat) : Word := BitVec.ofNat 32 ((2 ^ len - 1) <<< lo)

/-- A word with one field replaced. -/
def setF (w : Word) (lo len v : Nat) : Word :=
  (w &&& ~~~(maskF lo len)) ||| (BitVec.ofNat 32 (v <<< lo) &&& maskF lo len)

/-- Bit b of a word. -/
def bitW (w : Word) (b : Nat) : Bool := w.toNat.testBit b

/-- Bit b of a number. -/
def bitN (n b : Nat) : Bool := n.testBit b

/-- A number with bit b set to v. -/
def setBitN (n b : Nat) (v : Bool) : Nat :=
  if n.testBit b then (if v then n else n - 2 ^ b) else (if v then n + 2 ^ b else n)

/-- 1 for true. -/
def b2n (b : Bool) : Nat := if b then 1 else 0

/-- `n` little-endian bytes of v (R11). -/
def leBytes : Nat → Nat → List Nat
  | 0, _ => []
  | n + 1, v => v % 256 :: leBytes n (v / 256)

/-- The number whose little-endian bytes these are. -/
def ofLe : List Nat → Nat
  | [] => 0
  | b :: t => b % 256 + 256 * ofLe t

/-- `n` big-endian bytes of v. -/
def beBytes (n v : Nat) : List Nat := (leBytes n v).reverse

/-- The number that big-endian bytes give. -/
def ofBe (l : List Nat) : Nat := l.foldl (fun a b => a * 256 + b % 256) 0

/-- The base MAC address (R258): an individual, locally administered address derived from the UID. -/
def baseMac : Nat := Config.macOfUid ((List.range 4).map Config.uid) % 2 ^ 40 + 2 ^ 41

/-- The address of RING0, RING1, LAN0 or LAN1, which is the source of its R-APS and PTP frames (R258). -/
def portMac (n : Nat) : Nat := (baseMac + n + 1) % 2 ^ 48

/-- Byte i of a payload; bytes beyond its end read 0. -/
def byteAt (l : List Nat) (i : Nat) : Nat := (l[i]?).getD 0 % 256

/-- Bytes i, i+1, … of a payload as a little-endian number of n bytes. -/
def leAt (l : List Nat) (i n : Nat) : Nat := ofLe ((List.range n).map (fun k => byteAt l (i + k)))

/-- One byte taken into a CRC-32 (reflected, polynomial 0x04C1_1DB7, whose reflection is 0xEDB8_8320), R76. -/
def crcByte (c b : Nat) : Nat :=
  let x := c ^^^ (b % 256)
  let st := fun (y : Nat) => if y % 2 = 1 then (y / 2) ^^^ 0xEDB88320 else y / 2
  st (st (st (st (st (st (st (st x)))))))

/-- CRC-32 of a byte list, R76. -/
def crc32 (l : List Nat) : Nat := (l.foldl crcByte 0xFFFFFFFF) ^^^ 0xFFFFFFFF

/-! ### Register words -/

/-- The word stored at a key. -/
def State.rd (s : State) (a : Nat) : Word := Tab.get regReset s.regs a

/-- The word at a key replaced. -/
def State.wr (s : State) (a : Nat) (w : Word) : State := { s with regs := Tab.set regReset s.regs a w }

/-- A field of a stored register. -/
def State.get (s : State) (f : Fld) : Nat := getF (s.rd f.addr) f.lo f.len

/-- A field of a stored register replaced; the value is cut to the field's width. -/
def State.put (s : State) (f : Fld) (v : Nat) : State := s.wr f.addr (setF (s.rd f.addr) f.lo f.len v)

/-- A one-bit field as a Bool. -/
def State.flag (s : State) (f : Fld) : Bool := s.get f != 0

/-- A field increased by n, saturating at its largest value. -/
def State.add (s : State) (f : Fld) (n : Nat) : State := s.put f (min (s.get f + n) (2 ^ f.len - 1))

/-- A field increased by n, wrapping. -/
def State.addWrap (s : State) (f : Fld) (n : Nat) : State := s.put f ((s.get f + n) % 2 ^ f.len)

/-- A signed value stored in a field, in two's complement. -/
def State.putInt (s : State) (f : Fld) (i : Int) : State := s.put f (unsigned f.len i)

/-- A field read as a signed value. -/
def State.getInt (s : State) (f : Fld) : Int := signed f.len (s.get f)

/-- The word of the configuration snapshot (R53 step 4) at a key. -/
def State.snapRd (s : State) (a : Nat) : Word := Tab.get regReset s.snap a

/-- A field as the configuration snapshot holds it. -/
def State.snapGet (s : State) (f : Fld) : Nat := getF (s.snapRd f.addr) f.lo f.len

/-- A field in the copy that a window register selects. -/
abbrev inBank (f : Fld) (sel : Nat) : Fld := ⟨bank sel f.addr, f.lo, f.len⟩

/-- A whole register as a field. -/
abbrev whole (a : Nat) : Fld := ⟨a, 0, 32⟩

/-- The register at offset o of page p. -/
abbrev Rg.reg (p o : Nat) : Nat := key p o
/-- CTRL of page p. -/
abbrev Rg.ctrl (p : Nat) : Nat := key p 0x008
/-- STAT of page p. -/
abbrev Rg.stat (p : Nat) : Nat := key p 0x00C
/-- IRQ_EN of page p. -/
abbrev Rg.irqEn (p : Nat) : Nat := key p 0x014
/-- IRQ_STAT of page p. -/
abbrev Rg.irqStat (p : Nat) : Nat := key p 0x018
/-- ERR_CAP of page p. -/
abbrev Rg.errCap (p : Nat) : Nat := key p 0x020
/-- TMO_CFG of page p. -/
abbrev Rg.tmo (p : Nat) : Nat := key p 0x024
/-- CTRL.EN of page p. -/
abbrev Fd.en (p : Nat) : Fld := ⟨key p 0x008, 0, 1⟩
/-- STAT.RUN of page p. -/
abbrev Fd.run (p : Nat) : Fld := ⟨key p 0x00C, 0, 1⟩
/-- STAT.SRST_BUSY of page p. -/
abbrev Fd.srstBusy (p : Nat) : Fld := ⟨key p 0x00C, 1, 1⟩
/-- STAT.FLUSH_BUSY of page p. -/
abbrev Fd.flushBusy (p : Nat) : Fld := ⟨key p 0x00C, 2, 1⟩
/-- STAT.WD_EXP of page p. -/
abbrev Fd.wdExp (p : Nat) : Fld := ⟨key p 0x00C, 4, 1⟩
/-- STAT bit b of page p. -/
abbrev Fd.statBit (p b : Nat) : Fld := ⟨key p 0x00C, b, 1⟩

/-- Every word of page p, and of its banks, back at its reset value from offset `lo` up. -/
def State.clearPage (s : State) (p lo : Nat) : State :=
  { s with regs := Tab.clear (fun a => a % 0x100000 / 0x1000 == p && decide (lo ≤ a % 0x1000)) s.regs }

/-- The interrupt request of page p: OR of IRQ_STAT AND IRQ_EN (R42). -/
def State.irqReq (s : State) (p : Nat) : Bool := (s.rd (key p 0x018) &&& s.rd (key p 0x014)) != 0

/-! ### Interrupt sources: requests, coalescing, selection (R275 to R282) -/

/-- Queue q is in use: queues 0 to 7 always (R283). -/
def State.qOn (s : State) (q : Nat) : Bool := decide (q < 8) || s.flag (inBank Fd.QM_Q_CFG_EN q)

/-- The items of queue q. -/
def State.qItems (s : State) (q : Nat) : List (List Word) := Tab.get (fun _ => []) s.qm.items q

/-- The request of source i is asserted, R275. -/
def State.srcReq (s : State) (i : Nat) : Bool :=
  if i < 128 then (pageInfo i).isSome && s.irqReq i
  else if i < 192 then
    let w := s.get (inBank Fd.QM_Q_CFG2_WMARK (i - 128))
    w != 0 && decide (w ≤ (s.qItems (i - 128)).length)
  else if i < 200 then s.flag ⟨Rg.PCIE_HDB, i - 192, 1⟩
  else if i < 224 then false
  else if i < 256 then s.flag ⟨Rg.IU_DOORBELL, i - 224, 1⟩
  else false

/-- The stack of core c, top first. -/
def State.iuStack (s : State) (c : Nat) : List (Nat × Nat) := Tab.get (fun _ => []) s.iu.stack c

/-- Source i is active: it is on the stack of a core (R276). -/
def State.srcActive (s : State) (i : Nat) : Bool :=
  (List.range 4).any fun c => (s.iuStack c).any fun e => e.1 == i

/-- The coalescing group of source i. -/
def State.srcGroup (s : State) (i : Nat) : Nat := s.get (inBank Fd.IU_SRC_CFG_GROUP i)

/-- Coalescing group g. -/
def State.coal (s : State) (g : Nat) : CoalGrp := Tab.get (fun _ => CoalGrp.init) s.iu.coal g

/-- Coalescing group g replaced. -/
def State.setCoal (s : State) (g : Nat) (x : CoalGrp) : State :=
  { s with iu := { s.iu with coal := Tab.set (fun _ => CoalGrp.init) s.iu.coal g x } }

/-- Source i is pending, R276, R282. -/
def State.srcPend (s : State) (i : Nat) : Bool :=
  s.srcReq i && (s.srcGroup i == 0 || (s.coal (s.srcGroup i)).opened)

/-- Conditions 1, 3, 4 of R277 for core c. -/
def State.srcMay (s : State) (c i : Nat) : Bool :=
  let p := s.get (inBank Fd.IU_SRC_CFG_PRIO i)
  s.flag (inBank Fd.IU_SRC_CFG_EN i) && s.get (inBank Fd.IU_SRC_CFG_TARGET i) == c &&
  decide (p < s.get (Fd.IUC_PMASK_PMASK c)) &&
  (match s.iuStack c with | [] => true | t :: _ => decide (p < t.2)) &&
  s.flag (Fd.en Pg.iu) && s.flag (Fd.en (Pg.iuc c))

/-- Source i is eligible on core c, R277. -/
def State.srcElig (s : State) (c i : Nat) : Bool :=
  s.srcMay c i && s.srcPend i && !s.srcActive i && (decide (128 ≤ i) || !s.flag ⟨Rg.IU_HOLD, 0, 1⟩)

/-- The source that an entry sequence of core c has selected (R278). -/
def State.iuEntry (s : State) (c : Nat) : Option Nat := Tab.get (fun _ => none) s.iu.entry c

/-- The selected source of core c replaced. -/
def State.setEntry (s : State) (c : Nat) (o : Option Nat) : State :=
  { s with iu := { s.iu with entry := Tab.set (fun _ => none) s.iu.entry c o } }

/-- Among eligible sources the one with the lowest PRIO, and the lowest number on a tie, R277. -/
def State.iuBest (s : State) (c : Nat) : Option Nat :=
  if !(s.flag (Fd.en Pg.iu) && s.flag (Fd.en (Pg.iuc c))) then none
  else (List.range 256).foldl (fun b i =>
    if !s.srcElig c i then b
    else match b with
      | none => some i
      | some j => if s.get (inBank Fd.IU_SRC_CFG_PRIO i) < s.get (inBank Fd.IU_SRC_CFG_PRIO j) then some i else b) none

/-- The unit selects on core c when no entry sequence runs there. DEDUCED: log entry 124. -/
def State.iuLook (s : State) (c : Nat) : State :=
  match s.iuEntry c with
  | some _ => s
  | none => match s.iuBest c with
    | none => s
    | some i => s.setEntry c (some i)

/-- The unit selects on every core. -/
def State.iuLookAll (s : State) : State := (((s.iuLook 0).iuLook 1).iuLook 2).iuLook 3

/-- Groups that are OPEN with no member requesting and none active return to ARMED (R282). -/
def State.coalSettle (s : State) : State :=
  (List.range 16).foldl (fun t g =>
    if (t.coal g).opened &&
      !(List.range 256).any (fun i => t.srcGroup i == g && (t.srcReq i || t.srcActive i))
    then t.setCoal g .init else t) s

/-- The request of source i has risen: its ARMED group counts the edge, starts its timer at the first one and opens at
COUNT (R282); then the unit selects the source if nothing else is being entered. -/
def State.reqRise (s : State) (i : Nat) : State :=
  let g := s.srcGroup i
  let x := s.coal g
  let s := if g = 0 || x.opened then s else
    let n := x.count + 1
    s.setCoal g { opened := decide (s.get (Fd.IU_COAL_CFG_COUNT (g - 1)) ≤ n), count := n, timer := true }
  let c := s.get (inBank Fd.IU_SRC_CFG_TARGET i)
  if g != 0 then s.iuLookAll
  else if (s.iuEntry c).isNone && s.srcElig c i then s.setEntry c (some i) else s

/-- An update of the state seen by the unit: rises of the request of source i count. -/
def State.withReq (s : State) (i : Nat) (f : State → State) : State :=
  let t := f s
  if !s.srcReq i && t.srcReq i then t.reqRise i else t

/-- Interrupt bit b of page p is 1 in IRQ_RAW for one cycle, which sets IRQ_STAT whatever IRQ_EN (R42). -/
def State.irq (s : State) (p b : Nat) : State := s.withReq p (·.put ⟨key p 0x018, b, 1⟩ 1)

/-- An interrupt bit of page TICK that belongs to the tick's outcome waits for the guard band (R55). -/
def State.outcomeIrq (s : State) (b : Nat) : State := { s with tick := { s.tick with irqs := s.tick.irqs ++ [b] } }

/-- One more input of the tick complete, for IN_CNT (R56). -/
def State.countIn (s : State) : State := { s with tick := { s.tick with inCnt := s.tick.inCnt + 1 } }

/-! ### Free values -/

/-- A free word, and the state that has drawn it. DESIGN CHOICE: log entry 5. -/
def State.fresh (s : State) : Word × State := (Config.freeWord s.free, { s with free := s.free + 1 })

/-! ### Time, roles, modes -/

/-- The free-running time in ms. -/
def State.ms (s : State) : Nat := s.ns / 1000000

/-- The free-running time in s. -/
def State.sec (s : State) : Nat := s.ns / 1000000000

/-- Disciplined TAI seconds (R211). -/
def State.taiSec (s : State) : Nat := s.tai / 1000000000

/-- The UTC offset in force (R212). -/
def State.utcOfs (s : State) : Int := s.getInt Fd.TIME_UTC_OFS_CUR

/-- Disciplined UTC seconds since 1970 (R212). DEDUCED: log entry 83. -/
def State.utc (s : State) : Nat := ((s.taiSec : Int) - s.utcOfs).toNat

/-- The disciplined time moves to `t` from the counter value `at_` on; the four latest relations are kept (R144). -/
def State.setTai (s : State) (at_ t : Nat) : State :=
  { s with tai := t, time := { s.time with rel := ((at_, (t : Int) - s.ns) :: s.time.rel).take 4 } }

/-- The disciplined time in ns at a counter value, by the relation that held there (R144). -/
def State.timeAt (s : State) (c : Int) : Int :=
  let d := ((s.time.rel.find? fun r => decide ((r.1 : Int) ≤ c)).map (·.2)).getD ((s.tai : Int) - s.ns)
  c + d

/-- The stamp of a frame whose SOF lies `sof` ns after the latest edge: UTC seconds (R212) and nanoseconds; the counter
counts whole µs (R144). -/
def State.stamp (s : State) (sof : Int) : Nat × Nat :=
  let t := s.timeAt (((s.ns : Int) + sof) / 1000 * 1000)
  (((t / 1000000000 - s.utcOfs) % 4294967296).toNat, (t % 1000000000).toNat)

/-- The tick period in ms: PERIOD.CUR 0, 1, 2 is 10, 20, 40 (R49). -/
def State.pms (s : State) : Nat :=
  let c := s.get Fd.TICK_PERIOD_CUR
  if c = 0 then 10 else if c = 2 then 40 else 20

/-- The executive's state replaced through a function. -/
def State.modTick (s : State) (f : TickSt → TickSt) : State := { s with tick := f s.tick }

/-- The tick is known to have lasted `ns` since its edge. -/
def State.atLeast (s : State) (ns : Nat) : State := s.modTick fun t => { t with ofs := max t.ofs ns }

/-- The ns since the tick's edge at an instant that no command carries: a free value, later than every instant of the tick
known before and within the period (R69). DESIGN CHOICE: log entry 26. -/
def State.drawOfs (s : State) : Nat × State :=
  let v := s.tick.ofs + s.fresh.1.toNat % (1000000 * s.pms - s.tick.ofs)
  (v, s.fresh.2.modTick ({ · with ofs := v }))

/-- PAIR.ROLE.ROLE: 0 JOINING, 1 ACTIVE, 2 STANDBY, 3 ORPHAN_STANDBY, 4 SOLO, 5 FENCED (R306). -/
def State.role (s : State) : Nat := s.get Fd.PAIR_ROLE_ROLE

/-- The module transmits on feeder buses and pulses contactors: ACTIVE or SOLO (R306). -/
def State.transmits (s : State) : Bool := s.role == 1 || s.role == 4

/-- TICK.MODE.STATE: 0 SAFE_LIGHT, 1 NORMAL, 2 DEGRADED (R60). -/
def State.mode (s : State) : Nat := s.get Fd.TICK_MODE_STATE

/-- A limiter lets an event through when none has passed or `gap` s have gone by since the latest; times in ns. -/
def limitOk (last : Option Nat) (now gap : Nat) : Bool :=
  match last with
  | none => true
  | some t => decide (t + gap * 1000000000 ≤ now)

/-! ### The recorder's pending ring (R378 to R382) -/

/-- A record as the recorder forms it at raise (R378); its index is the next one (R379). -/
def State.mkRec (s : State) (ev : Ev) (src : Nat) (params : List Nat) : Rec :=
  { code := ev.code, sev := ev.sev, fallback := false, copied := false,
    unsync := s.get Fd.TIME_SRC_STAT_CUR == 5, source := src, index := s.nv.cnt.nextIdx,
    opsec := s.nv.cnt.opsec, pwrcyc := s.nv.cnt.pwrcyc % 2 ^ 24, tick := s.tick.num % 2 ^ 40, role := s.role,
    params := (List.range 5).map (fun i => (params[i]?).getD 0 % 2 ^ 32), utc := s.utc % 2 ^ 32 }

/-- The next index is taken: indices wrap from 2^32 − 1 to 0 (R379). -/
def State.takeIdx (s : State) : State :=
  { s with nv := { s.nv with cnt := { s.nv.cnt with nextIdx := (s.nv.cnt.nextIdx + 1) % 2 ^ 32 } } }

/-- Loss counts with one more loss of severity v. -/
def LostRec.count (l : LostRec) (v : Nat) : LostRec :=
  if v = 3 then { l with crit := l.crit + 1 } else if v = 2 then { l with major := l.major + 1 }
  else if v = 1 then { l with minor := l.minor + 1 } else { l with info := l.info + 1 }

/-- A record counts as lost (R382): REC.LOST counts it, and EVENTS_LOST opens in slot 255, or adds to its counts. -/
def State.loseRec (s : State) (v : Nat) : State :=
  let s := (s.add ⟨Rg.REC_LOST, 8 * v, 8⟩ 1).irq Pg.rec 0
  match s.rcd.lost with
  | some l => { s with rcd := { s.rcd with lost := some (l.count v) } }
  | none =>
    let l : LostRec := ⟨s.mkRec Ev.EVENTS_LOST Pg.rec [], 0, 0, 0, 0⟩
    { s.takeIdx with rcd := { s.rcd with lost := some (l.count v) } }

/-- The newest record below CRIT taken out of a ring (oldest first), with its severity. DEDUCED: log entry 183. -/
def dropNewestLow : List Rec → Option (List Rec × Nat)
  | [] => none
  | r :: t => match dropNewestLow t with
    | some (t', v) => some (r :: t', v)
    | none => if r.sev < 3 then some (t, r.sev) else none

/-- Slots 0 to 254 in use: records that wait and records handed over whose write has not completed (R381). -/
def RecSt.used (r : RecSt) : Nat := r.ring.length + r.handed.length

/-- An event enters the pending ring, or counts as lost (R379, R382). DEDUCED: log entry 183. -/
def State.raiseRec (s : State) (r : Rec) : State :=
  if s.rcd.used < 255 then { s.takeIdx with rcd := { s.rcd with ring := s.rcd.ring ++ [r] } }
  else if r.sev = 3 then
    match dropNewestLow s.rcd.ring with
    | some (t, v) => ({ s.takeIdx with rcd := { s.rcd with ring := t ++ [r] } }).loseRec v
    | none => s.loseRec 3
  else s.loseRec r.sev

/-- A block on page `src` raises an event with its parameters. -/
def State.raise (s : State) (ev : Ev) (src : Nat) (params : List Nat) : State :=
  s.raiseRec (s.mkRec ev src params)

/-- Events raised in order. -/
def State.raiseAll (s : State) (l : List Raise) : State :=
  l.foldl (fun t r => t.raise r.ev r.src r.params) s

/-- A signed parameter as 32 bits. -/
def pInt (i : Int) : Nat := unsigned 32 i

/-- Record a comes before record b in index order (serial numbers, R379). -/
def idxBefore (a b : Nat) : Bool := decide ((b + 2 ^ 32 - a) % 2 ^ 32 < 2 ^ 31)

/-! ### The Byell link (R309 to R311) -/

/-- The pair's state replaced through a function. -/
def State.modPair (s : State) (f : PairSt → PairSt) : State := { s with pair := f s.pair }

/-- The link is up, R309. -/
def State.linkUp (s : State) : Bool := s.flag Fd.BYELL_LANE_STAT_UP

/-- Every message the module sends over the link is counted (R330). DEDUCED: log entry 153. -/
def State.byellSend (s : State) (n : Nat) : State :=
  if s.linkUp then s.add (whole Rg.BYELL_TX_MSG) n else s

/-- An input of R311 goes out as a MIRROR with its own sequence number. -/
def State.mirrorOut (s : State) (x : MirrorIn) : State :=
  if s.role = 1 ∧ s.linkUp then
    (s.modPair fun p => { p with
      mirSent := (p.mirSent + 1) % 2 ^ 32, mirOut := some ((p.mirSent + 1) % 2 ^ 32, x) }).byellSend 1
  else s

end Sys2Proof.Machine
end

