-- ==== Sys2Proof/Machine/Clamp.lean ====
section
/-! DEFINITION. How a written value is stored (R41 and the Meaning columns of the register maps): "stored as", "stored
within", "leaves the field unchanged". -/

namespace Sys2Proof.Machine

/-- A field stored within a to b. -/
def fit (v : Word) (lo len a b : Nat) : Word := setF v lo len (max a (min (getF v lo len) b))

/-- A signed field stored within a to b. -/
def fitInt (v : Word) (lo len : Nat) (a b : Int) : Word :=
  setF v lo len (unsigned len (max a (min (signed len (getF v lo len)) b)))

/-- A field left unchanged when c holds. -/
def keepIf (c : Bool) (old v : Word) (lo len : Nat) : Word := if c then setF v lo len (getF old lo len) else v

/-- HATCH, R99: DROP_W, HORIZON, LIMITS and the profile words. -/
def clampHatch (o : Nat) (v : Word) : Word :=
  if o = 0x40 then fit v 0 16 1 32767
  else if o = 0x44 then fit v 0 8 0 128
  else if o = 0x48 then fit (fit v 0 7 1 64) 16 10 1 512
  else if o < 0x100 then v
  else if o % 16 = 0 then fit v 16 8 0 128
  else if o % 16 = 8 then fit v 16 16 0 32768
  else if o % 16 = 12 then fit v 0 12 1 4095
  else v

/-- FBn, R157. -/
def clampFb (o : Nat) (old v : Word) : Word :=
  if o = 0x40 then keepIf (getF v 0 2 == 3) old (keepIf (getF v 4 2 == 3) old v 4 2) 0 2
  else if o = 0x44 then fit (fit v 24 7 60 90) 16 7 60 85
  else if o = 0x5C then fit (fit v 0 16 1 65535) 16 4 1 15
  else v

/-- TIME, R237. -/
def clampTime (o : Nat) (old v : Word) : Word :=
  if o = 0x48 ∨ o = 0x4C then keepIf (decide (239 < getF v 0 8)) old v 0 8
  else if o = 0x60 then keepIf (decide (5 ≤ getF v 24 3)) old v 24 3
  else if o = 0x70 then keepIf (getF v 0 2 == 3) old v 0 2
  else if o = 0x8C then fit v 0 9 1 500
  else if o = 0x90 then fit v 0 16 1 65535
  else v

/-- SCHED, R256. -/
def clampSched (o : Nat) (v : Word) : Word :=
  if o = 0x68 then fit v 0 17 0 86400
  else if o = 0x70 then fitInt v 0 32 (-90000000) 90000000
  else if o = 0x74 then fitInt v 0 32 (-180000000) 180000000
  else if o = 0x78 then fitInt v 0 12 (-720) 840
  else v

/-- SW, R271. RING_VID is compared with the RAPS_VID of the same write. DEDUCED: log entry 180. -/
def clampSw (o : Nat) (old v : Word) : Word :=
  if o = 0x44 then keepIf (getF v 0 12 == getF v 16 12) old v 0 12
  else if o = 0x48 then keepIf (getF v 0 8 == 0 || decide (239 < getF v 0 8)) old v 0 8
  else if o = 0x4C then fit (fit (fit v 24 8 1 12) 16 8 0 100) 0 16 10 2000
  else v

/-- WIT.HB_CFG, R331. -/
def clampHb (v : Word) : Word :=
  let v := fit (fit v 24 8 20 255) 0 6 1 63
  fit v 12 12 (5 * getF v 24 8) 4095

/-- AGE, R397. -/
def clampAge (o : Nat) (old v : Word) : Word :=
  if o = 0x40 then fit v 8 8 50 150
  else if o = 0x44 then keepIf (decide (32 < getF v 0 6)) old v 0 6
  else if o = 0x64 then fit (keepIf (decide (23 < getF v 8 5)) old v 8 5) 0 5 1 28
  else v

/-- WDOG, R420. -/
def clampWdog (o : Nat) (v : Word) : Word :=
  if o = 0x40 then fit v 0 16 20 1000 else if 0x44 ≤ o ∧ o ≤ 0x50 then fit v 0 16 10 60000 else v

/-- IO, R187. -/
def clampIo (o : Nat) (v : Word) : Word :=
  if o = 0x40 then fit v 24 8 1 255
  else if o = 0x48 then fit v 8 16 1 65535
  else if o = 0x60 ∨ o = 0x64 then fit (fit (fit (fit v 0 8 10 200) 8 8 10 200) 16 8 10 200) 24 8 10 200
  else v

/-- The word that a write of v to register o of page p stores, where `old` is stored now. -/
def clampReg (p o : Nat) (old v : Word) : Word :=
  if o = 0x024 then fit v 0 20 10 1000000
  else if o < 0x040 then v
  else if p = Pg.tick then if o = 0x40 then keepIf (getF v 4 2 == 3) old v 4 2 else v
  else if p = Pg.hatch then clampHatch o v
  else if p = Pg.plate then if o = 0x50 then fit v 24 7 0 100 else v
  else if p = Pg.group then if o = 0x54 then fit (fit v 0 16 1 65535) 16 16 1 65535 else v
  else if p = Pg.node then
    if o = 0x58 then fit v 0 4 1 15 else if o = 0x5C then fit (fit v 24 8 1 255) 16 8 1 255 else v
  else if 0x10 ≤ p ∧ p ≤ 0x1F then clampFb o old v
  else if 0x30 ≤ p ∧ p ≤ 0x33 then
    if o = 0xBC then fit (fit v 8 5 1 31) 0 3 0 6 else if o = 0xC8 then fit v 16 16 1 65535 else v
  else if p = Pg.trace then if o = 0x40 ∧ getF v 8 8 = 0 then setF v 8 8 10 else v
  else if p = Pg.rtc then if o = 0x60 then fitInt v 0 12 (-2000) 2000 else v
  else if p = Pg.time then clampTime o old v
  else if p = Pg.sched then clampSched o v
  else if p = Pg.sw then clampSw o old v
  else if p = Pg.iu then if 0x84 ≤ o ∧ o ≤ 0xBC then fit (fit v 0 16 1 65535) 24 8 1 255 else v
  else if 0x49 ≤ p ∧ p ≤ 0x4C then if o = 0x4C then fit v 0 5 0 16 else v
  else if p = Pg.pcie then if o = 0x74 then fit (fit v 0 16 1 65535) 24 8 1 255 else v
  else if p = Pg.wit then if o = 0x44 then clampHb v else v
  else if p = Pg.age then clampAge o old v
  else if p = Pg.boot then
    if o = 0x44 then keepIf (getF v 0 5 == 0 || decide (24 < getF v 0 5)) old v 0 5 else v
  else if p = Pg.wdog then clampWdog o v
  else if p = Pg.io then clampIo o v
  else v

end Sys2Proof.Machine
end

