-- ==== Sys2Proof/Machine/Crypto.lean ====
section
/-! DEFINITION. The digests and the block cipher that rules of the spec name and that are fixed by their standards: SHA-256 and
SHA-384 (FIPS 180-4; R440, R338, R349, R358, R364), AES (FIPS 197) with CMAC (SP 800-38B; R134, R316), key wrap (RFC 3394;
R342) and GCM with a 96-bit nonce (SP 800-38D; R334).  Bytes are numbers below 256.  PRESUMED: log entry 7. -/

namespace Sys2Proof.Machine

/-- `n` big-endian bytes of v. -/
def toBe : Nat → Nat → List Nat
  | 0, _ => []
  | n + 1, v => v / 256 ^ n % 256 :: toBe n v

/-- The list cut into pieces of n; `fuel` bounds their number. -/
def pieces {α : Type} (n : Nat) : Nat → List α → List (List α)
  | 0, _ => []
  | _ + 1, [] => []
  | f + 1, x :: l => (x :: l).take n :: pieces n f ((x :: l).drop n)

/-! ### SHA-2 -/

/-- The largest r with r^k ≤ n, built from bit b down. -/
def rootFrom (k n : Nat) : Nat → Nat → Nat
  | 0, r => r
  | b + 1, r => rootFrom k n b (if (r + 2 ^ b) ^ k ≤ n then r + 2 ^ b else r)

/-- The first w bits of the fraction of the k-th root of p. -/
def rootBits (k w p : Nat) : Nat := rootFrom k (p * 2 ^ (k * w)) (w + 5) 0 % 2 ^ w

/-- The first 80 primes. -/
def primes80 : List Nat :=
  [2, 3, 5, 7, 11, 13, 17, 19, 23, 29, 31, 37, 41, 43, 47, 53, 59, 61, 67, 71, 73, 79, 83, 89, 97, 101, 103, 107, 109, 113,
    127, 131, 137, 139, 149, 151, 157, 163, 167, 173] ++
  [179, 181, 191, 193, 197, 199, 211, 223, 227, 229, 233, 239, 241, 251, 257, 263, 269, 271, 277, 281, 283, 293, 307, 311,
    313, 317, 331, 337, 347, 349, 353, 359, 367, 373, 379, 383, 389, 397, 401, 409]

/-- What differs between the two word sizes of SHA-2: bits of a word, rounds, and the rotations of Σ0, Σ1, σ0, σ1 (the last
amount of σ is a shift). -/
structure ShaKind where
  w : Nat
  rounds : Nat
  s0 : Nat × Nat × Nat
  s1 : Nat × Nat × Nat
  g0 : Nat × Nat × Nat
  g1 : Nat × Nat × Nat

/-- Words of 32 bits. -/
def sha32 : ShaKind := ⟨32, 64, (2, 13, 22), (6, 11, 25), (7, 18, 3), (17, 19, 10)⟩

/-- Words of 64 bits. -/
def sha64 : ShaKind := ⟨64, 80, (28, 34, 39), (14, 18, 41), (1, 8, 7), (19, 61, 6)⟩

/-- Rotation to the right in w bits. -/
def rotr (w x n : Nat) : Nat := x / 2 ^ n + x % 2 ^ n * 2 ^ (w - n)

/-- Σ: three rotations. -/
def shaBig (w : Nat) (r : Nat × Nat × Nat) (x : Nat) : Nat := (rotr w x r.1 ^^^ rotr w x r.2.1) ^^^ rotr w x r.2.2

/-- σ: two rotations and a shift. -/
def shaSmall (w : Nat) (r : Nat × Nat × Nat) (x : Nat) : Nat := (rotr w x r.1 ^^^ rotr w x r.2.1) ^^^ (x / 2 ^ r.2.2)

/-- The message schedule, latest word first, extended by n words. -/
def shaSchedule (k : ShaKind) : Nat → List Nat → List Nat
  | 0, l => l
  | n + 1, l =>
    let a := fun (i : Nat) => (l[i]?).getD 0
    shaSchedule k n ((shaSmall k.w k.g1 (a 1) + a 6 + shaSmall k.w k.g0 (a 14) + a 15) % 2 ^ k.w :: l)

/-- One round on the eight working variables. -/
def shaRound (k : ShaKind) (h : List Nat) (kw : Nat) : List Nat :=
  match h with
  | [a, b, c, d, e, f, g, x] =>
    let ch := (e &&& f) ^^^ ((2 ^ k.w - 1 - e) &&& g)
    let maj := ((a &&& b) ^^^ (a &&& c)) ^^^ (b &&& c)
    let t1 := x + shaBig k.w k.s1 e + ch + kw
    [(t1 + shaBig k.w k.s0 a + maj) % 2 ^ k.w, a, b, c, (d + t1) % 2 ^ k.w, e, f, g]
  | _ => h

/-- One block taken into the digest. -/
def shaBlock (k : ShaKind) (h : List Nat) (b : List Nat) : List Nat :=
  let words := (pieces (k.w / 8) 16 b).map ofBe
  let sched := (shaSchedule k (k.rounds - 16) words.reverse).reverse
  let r := (List.zipWith (fun p x => rootBits 3 k.w p + x) (primes80.take k.rounds) sched).foldl (shaRound k) h
  List.zipWith (fun x y => (x + y) % 2 ^ k.w) h r

/-- The message with its padding: bit 1, zeros, and the length in bits. -/
def shaPad (k : ShaKind) (m : List Nat) : List Nat :=
  let blk := 2 * k.w
  let len := k.w / 4
  let z := (2 * blk - (m.length + 1 + len) % blk) % blk
  m ++ 0x80 :: List.replicate z 0 ++ toBe len (8 * m.length)

/-- SHA-2 of a message from initial words, as bytes. -/
def sha2 (k : ShaKind) (init m : List Nat) : List Nat :=
  let p := shaPad k m
  ((pieces (2 * k.w) (p.length / (2 * k.w)) p).foldl (shaBlock k) init).flatMap (toBe (k.w / 8))

/-- SHA-256 of a byte list: 32 bytes. -/
def sha256 (m : List Nat) : List Nat := sha2 sha32 ((primes80.take 8).map (rootBits 2 32)) m

/-- SHA-384 of a byte list: 48 bytes. -/
def sha384 (m : List Nat) : List Nat := (sha2 sha64 (((primes80.drop 8).take 8).map (rootBits 2 64)) m).take 48

/-! ### AES -/

/-- Doubling in GF(2^8) with x^8 + x^4 + x^3 + x + 1. -/
def gfDouble (a : Nat) : Nat := if 128 ≤ a then (2 * a) % 256 ^^^ 0x1B else 2 * a

/-- The product in GF(2^8), over the bits of b from bit n − 1 down. -/
def gfMulFrom (a b : Nat) : Nat → Nat
  | 0 => 0
  | n + 1 => gfDouble (gfMulFrom a (b / 2) n) ^^^ (if b % 2 = 1 then a else 0)

/-- The product in GF(2^8). -/
def gfMul (a b : Nat) : Nat := gfMulFrom a b 8

/-- The inverse in GF(2^8), a^254; 0 for 0. -/
def gfInv (a : Nat) : Nat :=
  let a2 := gfMul a a
  let a4 := gfMul a2 a2
  let a8 := gfMul a4 a4
  let a16 := gfMul a8 a8
  let a32 := gfMul a16 a16
  let a64 := gfMul a32 a32
  let a128 := gfMul a64 a64
  gfMul a128 (gfMul a64 (gfMul a32 (gfMul a16 (gfMul a8 (gfMul a4 a2)))))

/-- Rotation of a byte to the left. -/
def rotl8 (x n : Nat) : Nat := (x * 2 ^ n) % 256 + x / 2 ^ (8 - n)

/-- The S-box. -/
def aesSub (a : Nat) : Nat :=
  let x := gfInv a
  ((((x ^^^ rotl8 x 1) ^^^ rotl8 x 2) ^^^ rotl8 x 3) ^^^ rotl8 x 4) ^^^ 0x63

/-- Two byte lists added. -/
def xorBytes (a b : List Nat) : List Nat := List.zipWith (· ^^^ ·) a b

/-- The key schedule, latest word first: `n` more words for a key of nk words; `i` is the number of the next word. -/
def aesExpand (nk : Nat) : Nat → Nat → Nat → List (List Nat) → List (List Nat)
  | 0, _, _, l => l
  | n + 1, i, rc, l =>
    let t := (l[0]?).getD []
    let t := if i % nk = 0 then xorBytes ((t.drop 1 ++ t.take 1).map aesSub) [rc, 0, 0, 0]
      else if nk = 8 ∧ i % nk = 4 then t.map aesSub else t
    aesExpand nk n (i + 1) (if i % nk = 0 then gfDouble rc else rc) (xorBytes ((l[nk - 1]?).getD []) t :: l)

/-- The round keys of a key of 16 or 32 bytes. -/
def aesKeys (key : List Nat) : List (List Nat) :=
  let nk := key.length / 4
  let words := (aesExpand nk (4 * (nk + 7) - nk) nk 1 (pieces 4 nk key).reverse).reverse
  (pieces 4 (nk + 7) words).map (·.flatten)

/-- SubBytes and ShiftRows; the state stands column by column. -/
def aesShift (s : List Nat) : List Nat :=
  (List.range 16).map fun i => aesSub ((s[(i + 4 * (i % 4)) % 16]?).getD 0)

/-- MixColumns of one column. -/
def aesMixCol (col : List Nat) : List Nat :=
  let a := fun (i : Nat) => (col[i % 4]?).getD 0
  (List.range 4).map fun i => ((gfMul (a i) 2 ^^^ gfMul (a (i + 1)) 3) ^^^ a (i + 2)) ^^^ a (i + 3)

/-- The rounds after the first key addition; the last has no MixColumns. -/
def aesRounds : List (List Nat) → List Nat → List Nat
  | [], s => s
  | [k], s => xorBytes (aesShift s) k
  | k :: ks, s => aesRounds ks (xorBytes ((pieces 4 4 (aesShift s)).flatMap aesMixCol) k)

/-- AES encryption of one block under a key of 16 or 32 bytes. -/
def aesBlock (key b : List Nat) : List Nat :=
  match aesKeys key with
  | [] => b
  | k :: ks => aesRounds ks (xorBytes b k)

/-! ### CMAC -/

/-- Doubling in GF(2^128) of a block. -/
def cmacDouble (b : List Nat) : List Nat :=
  let n := ofBe b
  toBe 16 (if 2 ^ 127 ≤ n then (2 * n) % 2 ^ 128 ^^^ 0x87 else 2 * n)

/-- AES-CMAC of a message: 16 bytes. -/
def aesCmac (key m : List Nat) : List Nat :=
  let k1 := cmacDouble (aesBlock key (List.replicate 16 0))
  let n := if m.length = 0 then 1 else (m.length + 15) / 16
  let last := m.drop (16 * (n - 1))
  let last := if last.length = 16 then xorBytes last k1
    else xorBytes (last ++ 0x80 :: List.replicate (15 - last.length) 0) (cmacDouble k1)
  aesBlock key (xorBytes last ((pieces 16 (n - 1) (m.take (16 * (n - 1)))).foldl
    (fun c b => aesBlock key (xorBytes c b)) (List.replicate 16 0)))

/-! ### Key wrap -/

/-- One pass over the halves of key wrap; `t` numbers the steps. -/
def wrapPass (key : List Nat) : Nat → List Nat → List (List Nat) → List Nat × List (List Nat)
  | _, a, [] => (a, [])
  | t, a, r :: rs =>
    let b := aesBlock key (a ++ r)
    let p := wrapPass key (t + 1) (xorBytes (b.take 8) (toBe 8 t)) rs
    (p.1, b.drop 8 :: p.2)

/-- The passes of key wrap over n halves. -/
def wrapPasses (key : List Nat) (n : Nat) : Nat → Nat → List Nat × List (List Nat) → List Nat × List (List Nat)
  | 0, _, p => p
  | j + 1, t, p => wrapPasses key n j (t + n) (wrapPass key t p.1 p.2)

/-- Key wrap of key data of whole 64-bit halves. -/
def aesWrap (key data : List Nat) : List Nat :=
  let h := pieces 8 (data.length / 8) data
  let r := wrapPasses key h.length 6 1 (List.replicate 8 0xA6, h)
  r.1 ++ r.2.flatten

/-! ### GCM -/

/-- The product of GCM's field, the leftmost bit of a block the lowest power; `x` is taken bit by bit, bit n − 1 next. -/
def ghashMul (x : Nat) : Nat → Nat → Nat → Nat
  | 0, _, z => z
  | n + 1, v, z =>
    ghashMul x n (if v % 2 = 1 then v / 2 ^^^ (0xE1 <<< 120) else v / 2) (if x.testBit n then z ^^^ v else z)

/-- GHASH of whole blocks under h. -/
def ghash (h : Nat) (l : List Nat) : Nat :=
  (pieces 16 (l.length / 16) l).foldl (fun y b => ghashMul (y ^^^ ofBe b) 128 h 0) 0

/-- Zeros up to a whole block. -/
def padBlock (l : List Nat) : List Nat := l ++ List.replicate ((16 - l.length % 16) % 16) 0

/-- The counter blocks' key stream from counter c, for n blocks. -/
def gcmStream (key nonce : List Nat) (c : Nat) : Nat → List Nat
  | 0 => []
  | n + 1 => aesBlock key (nonce ++ toBe 4 c) ++ gcmStream key nonce (c + 1) n

/-- The tag of GCM over the associated data and the ciphertext. -/
def gcmTag (key nonce aad ct : List Nat) : List Nat :=
  let h := ofBe (aesBlock key (List.replicate 16 0))
  let s := ghash h (padBlock aad ++ padBlock ct ++ toBe 8 (8 * aad.length) ++ toBe 8 (8 * ct.length))
  xorBytes (toBe 16 s) (gcmStream key nonce 1 1)

/-- GCM encryption and decryption share the key stream. -/
def gcmCrypt (key nonce m : List Nat) : List Nat := xorBytes m (gcmStream key nonce 2 ((m.length + 15) / 16))

/-- Authenticated encryption: the ciphertext and its tag. -/
def gcmSeal (key nonce aad m : List Nat) : List Nat :=
  let c := gcmCrypt key nonce m
  c ++ gcmTag key nonce aad c

/-- Authenticated decryption of a ciphertext with its tag; none when the tag fails. -/
def gcmOpen (key nonce aad l : List Nat) : Option (List Nat) :=
  let c := l.take (l.length - 16)
  if 16 ≤ l.length ∧ gcmTag key nonce aad c = l.drop (l.length - 16) then some (gcmCrypt key nonce c) else none

end Sys2Proof.Machine
end

