-- ==== Sys2Proof/Machine/Iu.lean ====
section
/-! DEFINITION. The interrupt unit: delivery, end of interrupt, stack faults, doorbells, coalescing (R275 to R282). -/

namespace Sys2Proof.Machine

/-- The stack of core c replaced. -/
def State.setStack (s : State) (c : Nat) (l : List (Nat × Nat)) : State :=
  { s with iu := { s.iu with stack := Tab.set (fun _ => []) s.iu.stack c l } }

/-- Core c is made to jump to offset `o` of its vector table (R277, R280). -/
def State.iuJump (s : State) (c o : Nat) : State :=
  { s with iu := { s.iu with
      vector := Tab.set (fun _ => none) s.iu.vector c (some (s.get (Fd.IUC_VBAR_BASE c) * 0x4000 + o)) } }

/-- The source that is delivered when the entry sequence of core c ends, R278: a source that is eligible now and has a
lower PRIO than the selected one, else the selected one, whose request may have fallen and which HOLD no longer stops;
a selected source that may no longer be delivered for another reason gives way to the best eligible one. DEDUCED: log
entry 124. -/
def State.iuPick (s : State) (c i : Nat) : Option Nat :=
  let b := s.iuBest c
  if s.srcMay c i && !s.srcActive i then
    match b with
    | none => some i
    | some j => if s.get (inBank Fd.IU_SRC_CFG_PRIO j) < s.get (inBank Fd.IU_SRC_CFG_PRIO i) then some j else some i
  else b

/-- Source i is delivered on core c, R277. -/
def State.iuDeliver (s : State) (c i : Nat) : State :=
  (s.setStack c ((i, s.get (inBank Fd.IU_SRC_CFG_PRIO i)) :: s.iuStack c)).iuJump c (0x20 * i)

/-- The entry sequence of core c ends, R278. DEDUCED: log entry 124. -/
def State.iuDelivery (s : State) (c : Nat) : State :=
  match s.iuEntry c with
  | none => s
  | some i =>
    let s := s.setEntry c none
    match s.iuPick c i with
    | none => s
    | some j => (s.iuDeliver c j).iuLook c

/-- STACK_FAULT of core c, R280: the fault is captured as in a capture register, the stack emptied, the fault vector
delivered and the event raised. DEDUCED: log entry 125. -/
def State.iuFault (s : State) (c src : Nat) : State :=
  let st := s.iuStack c
  let top := match st with | [] => 0 | t :: _ => t.1
  let s := if s.flag (Fd.IUC_FAULT_VALID c) then s.put (Fd.IUC_FAULT_OVF c) 1
    else ((((s.put (Fd.IUC_FAULT_VALID c) 1).put (Fd.IUC_FAULT_DEPTH c) st.length).put (Fd.IUC_FAULT_TOP c) top).put
      (Fd.IUC_FAULT_EOI_SRC c) src)
  let s := (s.setStack c []).iuJump c 0x2000
  let s := ((s.irq (Pg.iuc c) 0).irq Pg.iu 0).raise Ev.IU_STACK_FAULT Pg.iu [c, src, top, st.length]
  s.coalSettle.iuLookAll

/-- A write of EOI on core c, R279, R280. DEDUCED: log entry 51. -/
def State.iuEoi (s : State) (c src : Nat) : State :=
  match s.iuStack c with
  | [] => s.iuFault c src
  | t :: l => if t.1 = src then ((s.setStack c l).coalSettle).iuLook c else s.iuFault c src

/-- Doorbells set through IU.IRQ_SET, R281. DEDUCED: log entry 14. -/
def State.iuDoorbell (s : State) (m : Word) : State :=
  (List.range 32).foldl (fun t j =>
    if bitW m j then t.withReq (224 + j) (·.put ⟨Rg.IU_DOORBELL, j, 1⟩ 1) else t) s

/-- Configuration of the unit, or requests, have changed by a register access: groups settle and the unit selects. -/
def State.iuChanged (s : State) : State := s.coalSettle.iuLookAll

/-- The timer of group g has reached TIME: the group opens, R282. -/
def State.coalTimer (s : State) (g : Nat) : State :=
  let x := s.coal g
  if 1 ≤ g ∧ g ≤ 15 ∧ x.timer = true ∧ x.opened = false then
    ((s.setCoal g { x with opened := true }).coalSettle).iuLookAll
  else s

/-- CTRL.SRST of page IU clears DOORBELL, the coalescing state and the interrupt state, R301. -/
def State.iuSoftReset (s : State) : State :=
  { s.wr Rg.IU_DOORBELL 0 with iu := { s.iu with coal := [] } }

/-- CTRL.SRST of page IUCn empties its stack and clears FAULT, R302. -/
def State.iucSoftReset (s : State) (c : Nat) : State :=
  (((s.setStack c []).setEntry c none).wr (Rg.IUC_FAULT c) 0).iuChanged

/-! ### Words the unit computes on a read -/

/-- IUCn.VEC, R302. -/
def State.iuVec (s : State) (c : Nat) : Word :=
  match s.iuStack c with
  | [] => 0
  | t :: l => BitVec.ofNat 32 (2 ^ 31 + (l.length + 1) * 2 ^ 16 + t.2 * 256 + t.1)

/-- IUCn.STACKk, R302: entry 0 is the bottom. -/
def State.iuStackWord (s : State) (c k : Nat) : Word :=
  let l := (s.iuStack c).reverse
  BitVec.ofNat 32 (ofLe ((List.range 4).map fun i => match l[4 * k + i]? with | some e => e.1 | none => 0))

/-- IU.SRC_STAT of source i, R301. -/
def State.iuSrcStat (s : State) (i : Nat) : Word :=
  let core := match (List.range 4).find? (fun c => (s.iuStack c).any fun e => e.1 == i) with | some c => c | none => 0
  BitVec.ofNat 32 (b2n (s.srcReq i) * 2 ^ 31 + b2n (s.srcPend i) * 2 ^ 30 + b2n (s.srcActive i) * 2 ^ 29 + core * 2 ^ 24)

/-- IU.PENDk, R301. -/
def State.iuPendWord (s : State) (k : Nat) : Word :=
  (List.range 32).foldl (fun w i => if s.srcPend (32 * k + i) then w ||| BitVec.ofNat 32 (2 ^ i) else w) 0

/-- IU.COAL_STAT, R301. -/
def State.iuCoalStat (s : State) : Word :=
  (List.range 16).foldl (fun w g => if (s.coal g).opened then w ||| BitVec.ofNat 32 (2 ^ g) else w) 0

end Sys2Proof.Machine
end

