-- ==== Sys2Proof/Machine/Qm.lean ====
section
/-! DEFINITION. The queue manager: queues, pushes and pops, flushes, returns, notices (R283 to R292). -/

namespace Sys2Proof.Machine

/-- BASE and number of items of the system queues, R291. -/
def sysQueue (q : Nat) : Nat × Nat :=
  match q with
  | 0 => (0, 1024)
  | 1 => (128, 1024)
  | 2 => (256, 512)
  | 3 => (320, 512)
  | 4 => (384, 256)
  | 5 => (416, 256)
  | 6 => (448, 256)
  | _ => (480, 256)

/-- First block of queue q. -/
def State.qBase (s : State) (q : Nat) : Nat := if q < 8 then (sysQueue q).1 else s.get (inBank Fd.QM_Q_CFG_BASE q)

/-- Blocks of queue q. -/
def State.qBlocks (s : State) (q : Nat) : Nat :=
  if q < 8 then (sysQueue q).2 / 8 else s.get (inBank Fd.QM_Q_CFG_SIZE_M1 q) + 1

/-- Items that queue q can hold, R283. -/
def State.qCap (s : State) (q : Nat) : Nat := 8 * s.qBlocks q

/-- CONS of queue q, R290, R291. -/
def State.qCons (s : State) (q : Nat) : Nat := if q < 8 then 0xFE else s.get (inBank Fd.QM_Q_CFG2_CONS q)

/-- The queue manager runs: its domain is up (R291). -/
def State.qmUp (s : State) : Bool := s.pwr.appOn

/-- The items of queue q replaced; its source may rise or fall. -/
def State.setItems (s : State) (q : Nat) (l : List (List Word)) : State :=
  s.withReq (128 + q) fun t => { t with qm := { t.qm with items := Tab.set (fun _ => []) t.qm.items q l } }

/-- Key of a word of a queue for an initiator. -/
abbrev qwKey (ini q w : Nat) : Nat := (ini * 64 + q) * 8 + w

/-- Every part-written staging of queue q is voided (R287). -/
def State.qVoid (s : State) (q : Nat) : State :=
  (List.range 16).foldl (fun t ini =>
    let k := ini * 64 + q
    if Tab.get (fun _ => false) t.qm.part k then
      { t with qm := { t.qm with torn := Tab.set (fun _ => false) t.qm.torn k true } } else t) s

/-- Queue q is emptied at once, R287. DEDUCED: log entry 132. -/
def State.qFlush (s : State) (q : Nat) : State := ((s.setItems q []).qVoid q).coalSettle

/-- QMQ.CTRL.FLUSH: every enabled queue except queues 0 to 7, R287. -/
def State.qFlushAll (s : State) : State :=
  (List.range 64).foldl (fun t q => if 8 ≤ q && t.qOn q then t.qFlush q else t) s

/-- QMQ.CTRL.SRST: as FLUSH, and every staging and pop latch is cleared, R304. -/
def State.qmqSoftReset (s : State) : State :=
  let s := s.qFlushAll
  { s with qm := { s.qm with stage := [], part := [], torn := [], latch := [] } }

/-- The pointer copies of queue q are checked, R288; on a mismatch the queue is empty afterwards. DEDUCED: log entry
130. -/
def State.qCheck (s : State) (q : Nat) : State :=
  if s.qm.ptrBad.contains q then
    let lost := (s.qItems q).length
    let s := (s.setItems q []).coalSettle
    let s := { s with qm := { s.qm with ptrBad := s.qm.ptrBad.filter (· != q) } }
    ((s.add (inBank Fd.QM_Q_ERR_QERR q) 1).irq Pg.qm 0).raise Ev.QM_QERR Pg.qm [q, lost]
  else s

/-- A push to queue q was not stored, R284; QM_OVERFLOW at most once a second per queue, R300. -/
def State.qOverflow (s : State) (q : Nat) : State :=
  let s := (s.add (inBank Fd.QM_Q_ERR_OVF q) 1).irq Pg.qm 1
  let n := Tab.get (fun _ => 0) s.qm.ovfCnt q + 1
  if limitOk (Tab.get (fun _ => none) s.qm.ovfAt q) s.ns 1 then
    ({ s with qm := { s.qm with
        ovfAt := Tab.set (fun _ => none) s.qm.ovfAt q (some s.ns)
        ovfCnt := Tab.set (fun _ => 0) s.qm.ovfCnt q 0 } }).raise Ev.QM_OVERFLOW Pg.qm [q, n]
  else { s with qm := { s.qm with ovfCnt := Tab.set (fun _ => 0) s.qm.ovfCnt q n } }

/-- Bit 15 of word 0 is bit 7 of byte 1: ABORTED, R284. -/
def setAborted (it : List Word) (v : Bool) : List Word :=
  match it with
  | [] => []
  | w :: l => setF w 15 1 (b2n v) :: l

/-- A whole item is pushed to queue q, R284. DEDUCED: log entry 131. -/
def State.qPush (s : State) (q : Nat) (it : List Word) : State :=
  let s := s.qCheck q
  if getF (it.headD 0) 0 8 = 0xFF then s.add (inBank Fd.QM_Q_ERR_BAD q) 1
  else if !s.qOn q || decide (s.qCap q ≤ (s.qItems q).length) then s.qOverflow q
  else s.setItems q (s.qItems q ++ [setAborted it false])

/-- Staging of initiator ini for queue q cleared. -/
def State.qUnstage (s : State) (ini q : Nat) : State :=
  { s with qm := { s.qm with
      stage := Tab.clear (fun k => k / 8 == ini * 64 + q) s.qm.stage
      part := Tab.set (fun _ => false) s.qm.part (ini * 64 + q) false
      torn := Tab.set (fun _ => false) s.qm.torn (ini * 64 + q) false } }

/-- A write of ITEMq_Ww: words 0 to 6 are staged, R285. -/
def State.qStage (s : State) (ini q w : Nat) (v : Word) : State :=
  { s with qm := { s.qm with
      stage := Tab.set (fun _ => 0) s.qm.stage (qwKey ini q w) v
      part := Tab.set (fun _ => false) s.qm.part (ini * 64 + q) true } }

/-- A write of ITEMq_W7 commits the item, or is dropped as torn, R285, R287. -/
def State.qCommit (s : State) (ini q : Nat) (v : Word) : State :=
  if Tab.get (fun _ => false) s.qm.torn (ini * 64 + q) then
    (s.qUnstage ini q).add (inBank Fd.QM_Q_ERR_TORN q) 1
  else
    let it := (List.range 7).map (fun w => Tab.get (fun _ => 0) s.qm.stage (qwKey ini q w)) ++ [v]
    (s.qUnstage ini q).qPush q it

/-- The idle item, R284. -/
def idleItem : List Word := [0xFF, 0, 0, 0, 0, 0, 0, 0]

/-- Words 1 to 7 of an item latched for an initiator. -/
def State.qLatch (s : State) (ini q : Nat) (it : List Word) : State :=
  { s with qm := { s.qm with
      latch := (List.range 8).foldl (fun m w => Tab.set (fun _ => 0) m (qwKey ini q w) ((it[w]?).getD 0)) s.qm.latch } }

/-- A read of ITEMq_W0 pops the head, R285; the word it returns, and the state after it. -/
def State.qPop (s : State) (ini q : Nat) : Word × State :=
  let s := s.qCheck q
  match s.qOn q, s.qItems q with
  | true, it :: l =>
    let s := (s.setItems q l).qLatch ini q it
    let s := { s with qm := { s.qm with stalled := Tab.set (fun _ => false) s.qm.stalled q false } }
    (it.headD 0, s.coalSettle)
  | _, _ =>
    let s := { s with qm := { s.qm with stalled := Tab.set (fun _ => false) s.qm.stalled q false } }
    (0xFF, s.qLatch ini q idleItem)

/-- A read of ITEMq_Ww, w from 1 to 7, R285. -/
def State.qLatched (s : State) (ini q w : Nat) : Word := Tab.get (fun _ => 0) s.qm.latch (qwKey ini q w)

/-- DEPTHq, R304. -/
def State.qDepthWord (s : State) (q : Nat) : Word :=
  BitVec.ofNat 32 (b2n (Tab.get (fun _ => false) s.qm.stalled q) * 2 ^ 31 + (s.qItems q).length)

/-- The range of queue q fits and overlaps no other enabled queue, R283. -/
def State.qFits (s : State) (q : Nat) : Bool :=
  let a := s.qBase q
  let e := a + s.qBlocks q
  decide (e ≤ 4096) && !(List.range 64).any fun r =>
    r != q && s.qOn r && decide (a < s.qBase r + s.qBlocks r) && decide (s.qBase r < e)

/-- A write of Q_CFG of queue q, R283, R287, R290. -/
def State.qCfgWrite (s : State) (q : Nat) (v : Word) : State :=
  let flush := fun (t : State) => if bitW v 29 then t.qFlush q else t
  if q < 8 then flush s
  else
    let k := bank q Rg.QM_Q_CFG
    let old := s.rd k
    if bitW old 31 then
      let s := s.wr k ((old &&& 0x003F8FFF) ||| (v &&& 0x9FC00000))
      if bitW v 31 then flush s else ((s.setItems q []).coalSettle)
    else
      let s := s.wr k (v &&& 0x1FFF8FFF)
      if !bitW v 31 then s
      else if s.qFits q then
        flush (((s.put (inBank Fd.QM_Q_CFG_EN q) 1).setItems q []).put (Fd.statBit Pg.qm 8) 0)
      else s.put (Fd.statBit Pg.qm 8) 1

/-- A write of Q_CFG2 of queue q: CONS is fixed for system queues, and WMARK is at most 1,024, R291, R303. -/
def State.qCfg2Write (s : State) (q : Nat) (v : Word) : State :=
  let v := setF v 12 11 (min (getF v 12 11) 1024) &&& 0xFF7FFFFF
  let v := if q < 8 then setF v 24 8 0xFE else v
  (s.withReq (128 + q) fun t => t.wr (bank q Rg.QM_Q_CFG2) v).coalSettle

/-- Q_CFG and Q_CFG2 as read; queues 0 to 7 read their fixed values, R303. -/
def State.qCfgWord (s : State) (q : Nat) : Word :=
  if q < 8 then BitVec.ofNat 32 (3 * 2 ^ 30 + (s.qBlocks q - 1) * 2 ^ 15 + s.qBase q) else s.rd (bank q Rg.QM_Q_CFG)

/-- Q_CFG2 as read. -/
def State.qCfg2Word (s : State) (q : Nat) : Word :=
  let w := s.rd (bank q Rg.QM_Q_CFG2)
  if q < 8 then setF w 24 8 0xFE else w

/-- Queue q has not been popped for STALL × 10 ms, R289. DEDUCED: log entry 132. -/
def State.qStall (s : State) (q : Nat) : State :=
  let n := (s.qItems q).length
  if s.get (inBank Fd.QM_Q_CFG2_STALL q) ≠ 0 ∧ n ≠ 0 ∧ s.qOn q = true ∧ s.qmUp = true ∧
      Tab.get (fun _ => false) s.qm.stalled q = false ∧ q < 64 then
    (({ s with qm := { s.qm with stalled := Tab.set (fun _ => false) s.qm.stalled q true } }).irq Pg.qm 2).raise
      Ev.QM_STALL Pg.qm [q, n]
  else s

/-- The items of one queue whose consumer has gone, R290. DEDUCED: log entry 133. -/
def State.qAbort (s : State) (q : Nat) : State :=
  let l := s.qItems q
  if l.isEmpty then s
  else
    let r := s.get (inBank Fd.QM_Q_CFG_RET_Q q)
    let s := (s.setItems q []).coalSettle
    let room := if s.flag (inBank Fd.QM_Q_CFG_RET_EN q) && s.qOn r then s.qCap r - (s.qItems r).length else 0
    let back := (l.take room).map (setAborted · true)
    let s := s.setItems r (s.qItems r ++ back)
    let gone := l.length - back.length
    ((s.add (inBank Fd.QM_Q_SKIP_DROP q) gone).irq Pg.qm 3).raise Ev.QM_ABORTED Pg.qm
      [q, back.length, gone, s.qCons q]

/-- Page p is reset, or its domain goes down: queues that it consumes return their items, R290. DEDUCED: log entry
133. -/
def State.qAbortPage (s : State) (p : Nat) : State :=
  if !s.qmUp then s
  else (List.range 64).foldl (fun t q => if 8 ≤ q && t.qOn q && t.qCons q == p then t.qAbort q else t) s

/-- A notice for system queue q, R291, R292: counted in SKIP while the application domain is down. DEDUCED: log entry
134. -/
def State.postNotice (s : State) (q typ code index : Nat) (params : List Nat) : State :=
  if !s.qmUp then s.add (inBank Fd.QM_Q_SKIP_SKIP q) 1
  else
    let w := fun (n : Nat) => BitVec.ofNat 32 n
    let p := fun (i : Nat) => BitVec.ofNat 32 ((params[i]?).getD 0)
    s.qPush q [w (typ + code * 2 ^ 16), w index, w s.tick.num, w (s.tick.num / 2 ^ 32), p 0, p 1, p 2, p 3]

/-- The queue of an event code, R291. -/
def noticeQueue (code : Nat) : Nat :=
  let h := code / 256
  if h = 5 then 1 else if h = 4 then 2 else if h = 6 then 3 else if 1 ≤ h ∧ h ≤ 3 then 4
  else if h = 7 ∨ h = 8 then 5 else if h = 0x0D then 6 else 0

/-- The notice of a record, R292. DEDUCED: log entry 134. -/
def State.recNotice (s : State) (r : Rec) : State := s.postNotice (noticeQueue r.code) 1 r.code r.index (r.params.take 4)

/-- CTRL.SRST of page QM, R303. -/
def State.qmSoftReset (s : State) : State :=
  let s := (List.range 64).foldl (fun t q => (t.wr (bank q Rg.QM_Q_ERR) 0).wr (bank q Rg.QM_Q_SKIP) 0) s
  s.put (Fd.statBit Pg.qm 8) 0

end Sys2Proof.Machine
end

