-- ==== Sys2Proof/Machine/Rec.lean ====
section
/-! DEFINITION. The event recorder: hand-off, the primary log and its quotas, the fallback region, reading, application
records (R378 to R387). -/

namespace Sys2Proof.Machine

/-- Record slots of the primary log, R383. -/
def logSlots : Nat := 8388608

/-- Records of the fallback region, R384. -/
def fallbackSlots : Nat := 2048

/-- Bytes 0 to 55 of a record, R378. -/
def Rec.head (r : Rec) : List Nat :=
  let flags := r.sev + 4 * b2n r.fallback + 8 * b2n r.copied + 16 * b2n r.unsync
  leBytes 2 r.code ++ [flags, r.source % 256] ++ leBytes 4 r.index ++ leBytes 4 r.opsec ++ leBytes 3 r.pwrcyc ++ [0] ++
    leBytes 5 r.tick ++ [r.role, 0, 0] ++ (r.params.flatMap (leBytes 4)) ++ leBytes 4 r.utc ++ leBytes 8 0

/-- The 64 bytes of a record, R378. DEDUCED: log entry 138. -/
def Rec.bytes (r : Rec) : List Nat := r.head ++ leBytes 4 (crc32 r.head) ++ [0, 0, 0, 0xA5]

/-- The open EVENTS_LOST as a record with its final counts, R382, R395: the highest lost severity, at least MINOR.
DEDUCED: log entry 137. -/
def LostRec.close (l : LostRec) : Rec :=
  { l.base with
    sev := if l.crit ≠ 0 then 3 else if l.major ≠ 0 then 2 else 1
    params := [l.crit, l.major, l.minor, l.info, 0] }

/-- A record put in its place by index. -/
def recInsert (r : Rec) : List Rec → List Rec
  | [] => [r]
  | x :: t => if idxBefore r.index x.index then r :: x :: t else x :: recInsert r t

/-- Everything that waits in the ring, in index order; the EVENTS_LOST of slot 255 is closed. -/
def RecSt.waiting (c : RecSt) : List Rec :=
  match c.lost with
  | none => c.ring
  | some l => recInsert l.close c.ring

/-- The guard band hands the ring to the writer, R381, R382; records raised during a copy wait, R385. -/
def State.recHandOff (s : State) : State :=
  if s.rcd.copying then s
  else { s with rcd := { s.rcd with ring := [], lost := none, handed := s.rcd.handed ++ s.rcd.waiting } }

/-- The first record of a list that satisfies p taken out. -/
def takeFirst (p : Rec → Bool) : List Rec → Option (List Rec)
  | [] => none
  | r :: t => if p r then some t else (takeFirst p t).map (r :: ·)

/-- Records held of severity v. DEDUCED: log entry 136. -/
def sevCount (l : List Rec) (v : Nat) : Nat := (l.filter fun r => r.sev == v).length

/-- Reserve of severity v in records, R383. -/
def State.quotaRes (s : State) (v : Nat) : Nat :=
  65536 * (if v = 0 then s.get Fd.REC_QUOTA_INFO_RES else if v = 1 then s.get Fd.REC_QUOTA_MINOR_RES
    else if v = 2 then s.get Fd.REC_QUOTA_MAJOR_RES else 0)

/-- The record to overwrite in a full log of `cap` slots, R383: none when the new record is dropped. DEDUCED: log
entry 136. -/
def placeLog (res : Nat → Nat) (l : List Rec) (r : Rec) (cap : Nat) : Option (List Rec) :=
  if l.length < cap then some (l ++ [r])
  else
    let cand := fun v => decide (v ≤ r.sev) && decide (res v < sevCount l v)
    let base := if cand 0 || cand 1 || cand 2 || cand 3 then takeFirst (fun x => cand x.sev) l
      else takeFirst (fun x => x.sev == r.sev) l
    base.map (· ++ [r])

/-- A record of severity v is dropped, R383, R384. -/
def State.recDrop (s : State) (v : Nat) : State :=
  let s := (s.add ⟨Rg.REC_DROPPED, 0, 32⟩ 1).irq Pg.rec 3
  if limitOk s.rcd.dropAt s.ns 3600 then
    ({ s with rcd := { s.rcd with dropAt := some s.ns } }).raise Ev.LOG_DROPPED Pg.rec
      [s.get ⟨Rg.REC_DROPPED, 0, 32⟩, v]
  else s

/-- The highest stored index moves on. -/
def State.recStored (s : State) (i : Nat) : State :=
  let n := (i + 1) % 2 ^ 32
  if idxBefore s.nv.cnt.storedIdx n then
    { s with nv := { s.nv with cnt := { s.nv.cnt with storedIdx := n } } }
  else s

/-- Slots that an invalid record still takes once n valid ones are held: a slot is taken over from it when no other is free
(R378). DESIGN CHOICE: log entry 138. -/
def badLeft (bad n cap : Nat) : Nat := min bad (cap - n)

/-- A record is stored in the primary log. -/
def State.recToLog (s : State) (r : Rec) : State :=
  match placeLog s.quotaRes s.nv.log r logSlots with
  | none => (s.recDrop r.sev).recStored r.index
  | some l =>
    (({ s with nv := { s.nv with log := l, logBad := badLeft s.nv.logBad l.length logSlots } }).recStored r.index).recNotice r

/-- A record is stored in the MRAM fallback region, R384. -/
def State.recToFallback (s : State) (r : Rec) : State :=
  let r := { r with fallback := true }
  let l := if s.nv.fb.length < fallbackSlots then some (s.nv.fb ++ [r])
    else (takeFirst (fun x => decide (x.sev ≤ r.sev)) s.nv.fb).map (· ++ [r])
  match l with
  | none => (s.recDrop r.sev).recStored r.index
  | some l =>
    (({ s with nv := { s.nv with fb := l, fbBad := badLeft s.nv.fbBad l.length fallbackSlots } }).recStored r.index).recNotice r

/-- LOG_DEGRADED, R384. -/
abbrev Fd.logDegraded : Fld := Fd.statBit Pg.rec 8

/-- The primary log takes records, R384. -/
def State.logUp (s : State) : Bool := s.rcd.mounted && !s.flag Fd.logDegraded && !s.rcd.gasp

/-- The write of the oldest record handed over completes, R381, R384, R386. DEDUCED: log entry 138. -/
def State.recWriteDone (s : State) : State :=
  if s.rcd.copying then s
  else
    let next := match s.rcd.handed with
      | r :: t => some (r, { s.rcd with handed := t })
      | [] => if !s.rcd.gasp then none else match s.rcd.waiting with
        | r :: t => some (r, { s.rcd with ring := t, lost := none })
        | [] => none
    match next with
    | none => s
    | some (r, c) =>
      let s := { s with rcd := c }
      if s.logUp then s.recToLog r else s.recToFallback r

/-- A NAND write (1) or read (2) fails or a write times out (3), R384: the event's record comes first. DEDUCED: log
entry 135. -/
def State.logFail (s : State) (cause : Nat) : State :=
  if !s.rcd.mounted || s.flag Fd.logDegraded || s.rcd.gasp then s
  else
    let s := (s.put Fd.logDegraded 1).irq Pg.rec 1
    let r := s.mkRec Ev.LOG_DEGRADED Pg.rec [cause]
    if s.rcd.used < 255 then { s.takeIdx with rcd := { s.rcd with handed := r :: s.rcd.handed } } else s.raiseRec r

/-- The trial write of R385, tried while degraded: a success starts the copy. -/
def State.recTrial (s : State) (ok : Bool) : State :=
  if s.flag Fd.logDegraded && ok && !s.rcd.copying && !s.rcd.gasp then
    { s with rcd := { s.rcd with copying := true } }
  else s

/-- The partition is mounted: invalid records met are counted (R378), and the copy of R385 starts. -/
def State.recMount (s : State) : State :=
  let n := s.nv.logBad
  let m := s.nv.fbBad
  let s := { s with rcd := { s.rcd with mounted := true, copying := true } }
  if n + m = 0 then s else s.raise Ev.REC_INVALID Pg.rec [n, m]

/-- Power goes while a record is being written: it stands whole, or its slot holds a record that every reader skips (R378);
the spec leaves open which. DESIGN CHOICE: log entry 138. -/
def State.recTorn (s : State) : State :=
  match s.rcd.handed with
  | [] => s
  | r :: _ =>
    let whole := s.fresh.1.toNat % 2 = 0
    let s := s.fresh.2
    if whole then if s.logUp then s.recToLog r else s.recToFallback r
    else if s.logUp then { s with nv := { s.nv with logBad := badLeft (s.nv.logBad + 1) s.nv.log.length logSlots } }
    else { s with nv := { s.nv with fbBad := badLeft (s.nv.fbBad + 1) s.nv.fb.length fallbackSlots } }

/-- The copy of the fallback region completes, R385: COPIED is set, and a record already copied is found by its index. -/
def State.recRestored (s : State) : State :=
  if !s.rcd.copying then s
  else
    let n := s.nv.fb.length
    let s := s.nv.fb.foldl (fun t r =>
      if t.nv.log.any (fun x => x.index == r.index) then t
      else match placeLog t.quotaRes t.nv.log { r with copied := true } logSlots with
        | none => t.recDrop r.sev
        | some l => { t with nv := { t.nv with log := l } }) s
    let s := { s with nv := { s.nv with fb := [], fbBad := 0 }, rcd := { s.rcd with copying := false } }
    ((s.put Fd.logDegraded 0).irq Pg.rec 2).raise Ev.LOG_RESTORED Pg.rec [n]

/-- HOLDUP is entered: every record not written goes to the fallback region, R386. -/
def State.recGasp (s : State) : State :=
  let l := s.rcd.handed ++ s.rcd.waiting
  let s := { s with rcd := { s.rcd with ring := [], lost := none, handed := [], gasp := true, copying := false } }
  l.foldl (fun t r => t.recToFallback r) s

/-- REC.CTRL.FLUSH: records not handed over are discarded and counted, R382. -/
def State.recFlush (s : State) : State :=
  let l := s.rcd.ring
  l.foldl (fun t r => t.loseRec r.sev) { s with rcd := { s.rcd with ring := [] } }

/-- The recorder at a boot: records that entered the ring before it and reached no store are counted, R382. DEDUCED:
log entry 137. -/
def State.recBoot (s : State) : State :=
  let n := (s.nv.cnt.nextIdx + 2 ^ 32 - s.nv.cnt.storedIdx) % 2 ^ 32 - s.rcd.ring.length
  if n = 0 then s else s.raise Ev.EVENTS_LOST Pg.rec [0, 0, 0, 0, n]

/-- A write of QUOTA, R383. -/
def State.quotaWrite (s : State) (v : Word) : State :=
  if 96 < getF v 0 8 + getF v 8 8 + getF v 16 8 then s.put (Fd.statBit Pg.rec 9) 1
  else (s.wr Rg.REC_QUOTA (v &&& 0x00FFFFFF)).put (Fd.statBit Pg.rec 9) 0

/-- A write of APP_POST by initiator ini with a code of the application range, R380. -/
def State.appPost (s : State) (ini : Nat) (v : Word) : State :=
  s.raise ⟨getF v 0 16, getF v 16 2⟩ 0xFE
    ((List.range 5).map fun k => Tab.get (fun _ => 0) s.rcd.appParam (ini * 5 + k))

/-! ### Reading, R387 -/

/-- The record held at an index, in the log or the fallback region. -/
def State.recAt (s : State) (i : Nat) : Option Rec :=
  match s.nv.log.find? (fun r => r.index == i) with
  | some r => some r
  | none => s.nv.fb.find? fun r => r.index == i

/-- The next held index after i, up to NEXT_IDX − 1, in serial order. DEDUCED: log entry 139. -/
def State.recNext (s : State) (i : Nat) : Option Nat :=
  let span := (s.nv.cnt.nextIdx + 2 ^ 33 - 1 - i) % 2 ^ 32
  if 2 ^ 31 ≤ span then none
  else
    let d := fun (r : Rec) => (r.index + 2 ^ 32 - i) % 2 ^ 32
    let best := (s.nv.log ++ s.nv.fb).foldl (fun (b : Option Nat) r =>
      if d r = 0 ∨ span < d r then b
      else match b with
        | none => some (d r)
        | some x => some (min x (d r))) none
    best.map fun x => (i + x) % 2 ^ 32

/-- RD_SEL of an initiator. -/
def State.recSel (s : State) (ini : Nat) : Nat := Tab.get (fun _ => 0) s.rcd.rdSel ini

/-- RD_SEL of an initiator replaced. -/
def State.setRecSel (s : State) (ini i : Nat) : State :=
  { s with rcd := { s.rcd with rdSel := Tab.set (fun _ => 0) s.rcd.rdSel ini i } }

/-- NEXT_HELD of an initiator. -/
def State.nextHeld (s : State) (ini : Nat) : Bool := Tab.get (fun _ => 0) s.rcd.rdCfg ini % 2 == 1

/-- A write of RD_SEL, R387. -/
def State.recSelWrite (s : State) (ini i : Nat) : State :=
  if s.nextHeld ini && (s.recAt i).isNone then
    match s.recNext i with
    | some j => s.setRecSel ini j
    | none => s.setRecSel ini i
  else s.setRecSel ini i

/-- A read of RD_WIN0 latches the 16 words of the record, R387. -/
def State.recLatch (s : State) (ini : Nat) : State :=
  let b := match s.recAt (s.recSel ini) with
    | some r => r.bytes
    | none => []
  { s with rcd := { s.rcd with
      rdWin := (List.range 16).foldl (fun m w =>
        Tab.set (fun _ => 0) m (ini * 16 + w) (BitVec.ofNat 32 (leAt b (4 * w) 4))) s.rcd.rdWin } }

/-- After a read of RD_WIN15 with NEXT_HELD, RD_SEL moves on, R387. DEDUCED: log entry 139. -/
def State.recAdvance (s : State) (ini : Nat) : State :=
  if s.nextHeld ini then
    match s.recNext (s.recSel ini) with
    | some j => s.setRecSel ini j
    | none => s
  else s

/-- RD_STAT of an initiator, R396. -/
def State.recStat (s : State) (ini : Nat) : Word :=
  match s.recAt (s.recSel ini) with
  | none => 0
  | some r => if r.fallback && !r.copied then 0xC0000000 else 0x80000000

/-- CTRL.SRST of page REC, R396. -/
def State.recSoftReset (s : State) : State :=
  let s := s.recFlush
  let s := ((s.wr Rg.REC_LOST 0).wr Rg.REC_DROPPED 0).put (Fd.statBit Pg.rec 9) 0
  { s with rcd := { s.rcd with rdSel := [], rdWin := [] } }

/-! ### The user area (R31, R32) -/

/-- Bytes of the user area: 1,024 MB. -/
def userCap : Nat := 1024 * 2 ^ 20

/-- A customer application writes the file `name` of the user area: true and the new area, or a no-space error, which displaces
nothing (R32).  Applications write it through the application complex; no command of the table does. -/
def userWrite (area : List (Nat × List Nat)) (name : Nat) (bytes : List Nat) : Bool × List (Nat × List Nat) :=
  let rest := area.filter fun f => f.1 != name
  if (rest.map fun f => f.2.length).sum + bytes.length ≤ userCap then (true, rest ++ [(name, bytes)]) else (false, area)

end Sys2Proof.Machine
end

