-- ==== Sys2Proof/Machine/Net.lean ====
section
/-! DEFINITION. The ring, the local ports, ring protection and the head-end protocol (R257 to R272); the transparent clock
of R233. -/

namespace Sys2Proof.Machine

/-! ### Ports -/

/-- Port n (0 RING0, 1 RING1, 2 LAN0, 3 LAN1) is enabled (R25) and its domain is up (R21). DEDUCED: log entry 115. -/
def State.portOn (s : State) (n : Nat) : Bool := s.pwr.netOn && decide (n < 4) && s.flag (Fd.en (Pg.port n))

/-- Port n carries frames. -/
def State.portUp (s : State) (n : Nat) : Bool := s.portOn n && s.flag (Fd.PORT_LINK_UP n)

/-- PORT_LINK_UP: `mbps` is what the partner offers in auto-negotiation; a local port refuses 10 and 100 Mbit/s (R262). -/
def State.portLinkUp (s : State) (n mbps : Nat) : State :=
  if !s.portOn n || s.flag (Fd.PORT_LINK_UP n) then s
  else if 2 ≤ n && s.flag (Fd.PORT_MODE_AUTONEG n) && s.get (Fd.PORT_MODE_LINE n) = 0 && mbps != 1000 then s
  else (((s.put (Fd.PORT_LINK_UP n) 1).put (Fd.PORT_LINK_SIGNAL n) 1).irq (Pg.port n) 0).raise Ev.PORT_LINK_UP
    (Pg.port n) [n]

/-- A link loss, R270, R272. -/
def State.portLinkDown (s : State) (n : Nat) : State :=
  if s.flag (Fd.PORT_LINK_UP n) && decide (n < 4) && s.pwr.netOn then
    ((((s.put (Fd.PORT_LINK_UP n) 0).put (Fd.PORT_LINK_SIGNAL n) 0).add (whole (Rg.PORT_DOWN_CNT n)) 1).irq
      (Pg.port n) 1).raise Ev.PORT_LINK_DOWN (Pg.port n) [n]
  else s

/-! ### Ring protection (G.8032, R259 to R261) -/

/-- The ERPS state machine runs. -/
def State.erpsOn (s : State) : Bool := s.pwr.netOn && s.flag Fd.SW_ERPS_CFG_EN

/-- The ring protection state replaced. -/
def State.setErps (s : State) (e : Erps) : State := { s with net := { s.net with erps := e } }

/-- BLOCKED takes its value; a change flushes the filtering database (R259). -/
def State.erpsBlock (s : State) (m : Nat) : State :=
  if s.get Fd.SW_ERPS_STAT_BLOCKED = m then s
  else
    let s := s.put Fd.SW_ERPS_STAT_BLOCKED m
    ({ s with net := { s.net with mac := [] } }).add (whole Rg.SW_FLUSH_CNT) 1 |>.irq Pg.sw 1

/-- STATE takes its value. PROTECTION starts the count of RING_RESTORED, which IDLE ends. DEDUCED: log entry 111. -/
def State.erpsTo (s : State) (st : Nat) : State :=
  let s := if s.get Fd.SW_ERPS_STAT_STATE = st then s else (s.put Fd.SW_ERPS_STAT_STATE st).irq Pg.sw 0
  if st = 2 ∧ s.net.erps.protAt.isNone then s.setErps { s.net.erps with protAt := some s.ms }
  else if st = 1 then
    match s.net.erps.protAt with
    | none => s
    | some t => (s.setErps { s.net.erps with protAt := none }).raise Ev.RING_RESTORED Pg.sw [(s.ms - t) / 1000]
  else s

/-- The R-APS message the module sends. -/
def State.erpsTx (s : State) (k : Option RapsKind) : State := s.setErps { s.net.erps with tx := k }

/-- The R-APS frame that ring port n sends while there is one, R258, R259. -/
def State.rapsFrame (s : State) (n : Nat) : Option RapsOut :=
  s.net.erps.tx.map fun k =>
    ⟨k, portMac n, s.get Fd.SW_VLAN_CFG_RAPS_VID, s.get Fd.SW_ERPS_CFG_MEL, s.get Fd.SW_ERPS_CFG_RING_ID, baseMac⟩

/-- The ring port on the RPL, as a mask. -/
def State.rplMask (s : State) : Nat := 2 ^ s.get Fd.SW_ERPS_CFG_RPL_PORT

/-- RPL owner. -/
def State.rplOwner (s : State) : Bool := s.get Fd.SW_ERPS_CFG_ROLE == 1

/-- RPL owner or neighbour. -/
def State.onRpl (s : State) : Bool := s.get Fd.SW_ERPS_CFG_ROLE == 1 || s.get Fd.SW_ERPS_CFG_ROLE == 2

/-- The revertive RPL owner starts its wait-to-restore. PRESUMED: log entry 110. -/
def State.startWtr (s : State) : State :=
  if s.rplOwner && s.flag Fd.SW_ERPS_CFG_REVERTIVE then s.setErps { s.net.erps with wtr := some s.ms } else s

/-- Wait-to-restore stops. -/
def State.stopWtr (s : State) : State := s.setErps { s.net.erps with wtr := none }

/-- WTR_REM in seconds. -/
def State.wtrRem (s : State) : Nat :=
  match s.net.erps.wtr with
  | none => 0
  | some t => 60 * s.get Fd.SW_ERPS_TMR_WTR - (s.ms - t) / 1000

/-- The state machine starts over in INIT: both ring ports block and the guard timer runs, R261; a ring port that is
disabled counts as a signal fail. PRESUMED: log entry
110. -/
def State.erpsStart (s : State) : State :=
  let off := fun (n : Nat) => !s.portOn n || bitN s.net.erps.present n
  let present := setBitN (setBitN 0 0 (off 0)) 1 (off 1)
  let acted := if s.get Fd.SW_ERPS_TMR_HOLDOFF = 0 then present else 0
  let e : Erps := { Erps.init with present, acted, hold := present - acted, guard := true, tx := some .nr }
  ((s.setErps e).erpsBlock 3).erpsTo 0

/-- The end of INIT: the RPL is blocked by its owner and its neighbour, RING0 by a plain ring node; a signal fail stays
blocked. -/
def State.erpsInitDone (s : State) : State :=
  if s.net.erps.acted ≠ 0 then (s.erpsBlock s.net.erps.acted).erpsTo 2 |>.erpsTx (some .sf)
  else (((s.erpsBlock (if s.onRpl then s.rplMask else 1)).erpsTx (some .nr)).startWtr).erpsTo 5

/-- A confirmed signal fail is acted on, R259, with RING_SF. A standing forced switch outranks it (R261). DEDUCED: log
entry 111. -/
def State.erpsSf (s : State) (n : Nat) : State :=
  let e := { s.net.erps with acted := setBitN s.net.erps.acted n true, hold := setBitN s.net.erps.hold n false }
  let s := s.setErps e
  let st := s.get Fd.SW_ERPS_STAT_STATE
  let s := if st = 0 ∨ st = 4 then s
    else ((s.stopWtr.erpsBlock e.acted).erpsTx (some .sf)).erpsTo 2
  s.raise Ev.RING_SF Pg.sw [n, s.get Fd.SW_ERPS_STAT_STATE]

/-- RING_SF: a signal fail on ring port n, confirmed for 1 ms; hold-off delays it. DEDUCED: log entry 111. -/
def State.ringSf (s : State) (n : Nat) : State :=
  if !s.pwr.netOn || decide (2 ≤ n) || bitN s.net.erps.present n then s
  else
    let s := (s.put (Fd.PORT_LINK_SIGNAL n) 0).setErps
      { s.net.erps with present := setBitN s.net.erps.present n true }
    if !s.erpsOn then s
    else if s.get Fd.SW_ERPS_TMR_HOLDOFF ≠ 0 then
      s.setErps { s.net.erps with hold := setBitN s.net.erps.hold n true }
    else s.erpsSf n

/-- HOLDOFF_EXPIRE: a signal fail still present is acted on. -/
def State.holdoffExpire (s : State) (n : Nat) : State :=
  if !s.erpsOn || !bitN s.net.erps.hold n then s
  else if bitN s.net.erps.present n then s.erpsSf n
  else s.setErps { s.net.erps with hold := setBitN s.net.erps.hold n false }

/-- RING_SIGNAL_RESTORE: R-APS(NR) goes out, the port stays blocked, the guard timer starts, R259. -/
def State.ringRestore (s : State) (n : Nat) : State :=
  if !s.pwr.netOn || decide (2 ≤ n) || !bitN s.net.erps.present n then s
  else
    let e := s.net.erps
    let acted := bitN e.acted n
    let s := (s.put (Fd.PORT_LINK_SIGNAL n) 1).setErps
      { e with present := setBitN e.present n false, hold := setBitN e.hold n false, acted := setBitN e.acted n false }
    if !s.erpsOn || !acted || s.get Fd.SW_ERPS_STAT_STATE != 2 then s
    else if s.net.erps.acted ≠ 0 then s.erpsBlock s.net.erps.acted
    else
      (((s.setErps { s.net.erps with guard := true }).erpsTx (some .nr)).startWtr).erpsTo 5

/-- The RPL is blocked again and ring protection idles: wait-to-restore ends, or Clear at the owner. -/
def State.erpsRevert (s : State) : State :=
  (((s.stopWtr.erpsBlock s.rplMask).erpsTx (some .nrRb))).erpsTo 1

/-- WTR_EXPIRE at the RPL owner. -/
def State.wtrExpire (s : State) : State :=
  if s.erpsOn && s.net.erps.wtr.isSome && s.rplOwner && s.get Fd.SW_ERPS_STAT_STATE = 5 then s.erpsRevert else s

/-- GUARD_EXPIRE. -/
def State.guardExpire (s : State) : State :=
  if s.net.erps.guard then s.setErps { s.net.erps with guard := false } else s

/-- Ports that signal fails do not hold open: unblocked but for those. -/
def State.erpsOpen (s : State) : State := (s.erpsBlock s.net.erps.acted).erpsTx none

/-- An accepted R-APS message acts on the state, by the state machine of G.8032 with the features of R259. PRESUMED:
log entry 110. -/
def State.rapsAct (s : State) (m : RapsMsg) : State :=
  let st := s.get Fd.SW_ERPS_STAT_STATE
  let loc := s.net.erps.acted != 0
  match m.kind with
  | .fs =>
    if st = 4 then s else (s.stopWtr.erpsOpen).erpsTo 4
  | .sf =>
    if st = 4 ∨ st = 2 then s else (s.stopWtr.erpsOpen).erpsTo 2
  | .ms =>
    if st = 1 ∨ st = 5 then (s.stopWtr.erpsOpen).erpsTo 3
    else if st = 3 ∧ s.net.erps.tx = some .ms then
      (((s.setErps { s.net.erps with guard := true }).erpsTx (some .nr)).startWtr).erpsTo 5
    else s
  | .nr =>
    let yield := decide (baseMac < m.nodeId)
    if st = 1 then if yield && !s.onRpl then s.erpsOpen else s
    else if st = 5 then if yield then s.erpsOpen else s
    else if (st = 2 ∧ !loc) ∨ (st = 3 ∧ s.net.erps.tx ≠ some .ms) ∨ (st = 4 ∧ s.net.erps.tx ≠ some .fs) then
      s.startWtr.erpsTo 5
    else s
  | .nrRb =>
    if st = 1 then if s.onRpl then s.erpsBlock s.rplMask else s.erpsOpen
    else if st = 5 ∨ (st = 2 ∧ !loc) ∨ (st = 3 ∧ s.net.erps.tx ≠ some .ms) ∨ (st = 4 ∧ s.net.erps.tx ≠ some .fs) then
      let s := s.stopWtr
      let s := if s.onRpl then (s.erpsBlock s.rplMask).erpsTx (if s.rplOwner then some .nrRb else none) else s.erpsOpen
      s.erpsTo 1
    else s

/-- RAPS_RECEIVED. PRESUMED: log entry 110. -/
def State.rapsReceived (s : State) (m : RapsMsg) : State :=
  if !s.erpsOn || s.net.erps.guard || m.ringId != s.get Fd.SW_ERPS_CFG_RING_ID ||
      m.mel != s.get Fd.SW_ERPS_CFG_MEL then s
  else
    let s := if s.get Fd.SW_ERPS_STAT_STATE = 0 then s.erpsInitDone else s
    s.rapsAct m

/-- A command of ERPS_CMD has its result, R270, R271. -/
def State.erpsCmdDone (s : State) (cmd : Nat) (refused : Bool) : State :=
  ((s.put Fd.SW_ERPS_STAT_CMD_ERR (b2n refused)).irq Pg.sw 2).raise Ev.ERPS_CMD_DONE Pg.sw [cmd, b2n refused]

/-- A write of ERPS_CMD: 1 forced switch, 2 manual switch, 3 clear, R261. PRESUMED: log entry 110. DEDUCED: log entry
112. -/
def State.erpsCmd (s : State) (v : Word) : State :=
  let cmd := getF v 0 2
  let n := getF v 8 1
  let st := s.get Fd.SW_ERPS_STAT_STATE
  let e := s.net.erps
  if cmd = 0 then s
  else if !s.erpsOn then s.erpsCmdDone cmd true
  else if cmd = 1 then
    let other := if bitN e.acted (1 - n) || bitN e.present (1 - n) then 2 ^ (1 - n) else 0
    (((s.stopWtr.erpsBlock (2 ^ n + other)).erpsTx (some .fs)).erpsTo 4).erpsCmdDone cmd false
  else if cmd = 2 then
    if e.present ≠ 0 ∨ e.acted ≠ 0 ∨ (st ≠ 1 ∧ st ≠ 5) then s.erpsCmdDone cmd true
    else (((s.stopWtr.erpsBlock (2 ^ n)).erpsTx (some .ms)).erpsTo 3).erpsCmdDone cmd false
  else
    let s :=
      if (st = 4 ∧ e.tx = some .fs) ∨ (st = 3 ∧ e.tx = some .ms) then
        if e.acted ≠ 0 then (s.erpsBlock e.acted).erpsTx (some .sf) |>.erpsTo 2
        else (((s.setErps { s.net.erps with guard := true }).erpsTx (some .nr)).startWtr).erpsTo 5
      else if st = 5 ∧ s.rplOwner then s.erpsRevert
      else s
    s.erpsCmdDone cmd false

/-- After ERPS_CFG has changed from `old`, R261. -/
def State.erpsCfgChanged (s : State) (old : Word) : State :=
  if s.rd Rg.SW_ERPS_CFG = old then s
  else if s.flag Fd.SW_ERPS_CFG_EN then s.erpsStart
  else
    let e := s.net.erps
    ((s.setErps { Erps.init with present := e.present }).erpsBlock 0).put Fd.SW_ERPS_STAT_STATE 0

/-- CTRL.EN of port n goes to 0: its link goes down; a ring port counts as a signal fail while ERPS runs (R261). -/
def State.portDisable (s : State) (n : Nat) : State :=
  let s := (s.put (Fd.PORT_LINK_UP n) 0).put (Fd.PORT_LINK_SIGNAL n) 0
  if decide (n < 2) && s.erpsOn then s.ringSf n else s

/-- CTRL.SRST of a port page takes the link down, R272. -/
def State.portSoftReset (s : State) (n : Nat) : State :=
  let s := (s.put (Fd.PORT_LINK_UP n) 0).put (Fd.PORT_LINK_SIGNAL n) 0
  (((s.wr (Rg.PORT_RX_FRAMES n) 0).wr (Rg.PORT_TX_FRAMES n) 0).wr (Rg.PORT_RX_ERR n) 0).wr (Rg.PORT_DOWN_CNT n) 0

/-- CTRL.SRST of page SW clears the counts, R271. -/
def State.swSoftReset (s : State) : State := (s.wr Rg.SW_FLUSH_CNT 0).wr Rg.SW_DROP 0

/-- RING_SFP: an SFP+ module is inserted or removed; removal is a signal fail, R261. -/
def State.ringSfp (s : State) (n : Nat) (inserted fault : Bool) : State :=
  if decide (2 ≤ n) || !s.pwr.netOn then s
  else
    let s := (s.put (Fd.PORT_LINK_SFP_PRESENT n) (b2n inserted)).put (Fd.PORT_LINK_TX_FAULT n) (b2n fault)
    if !s.portOn n then s
    else
      let s := (s.irq (Pg.port n) 2).raise Ev.RING_SFP (Pg.port n) [n, b2n inserted]
      if inserted then s else s.ringSf n

/-! ### Forwarding -/

/-- Key of a MAC entry. -/
def macKey (vid mac : Nat) : Nat := vid * 2 ^ 48 + mac

/-- The port that an address was learned at. -/
def State.macPort (s : State) (vid mac : Nat) : Option Nat :=
  ((Tab.get (fun _ => none) s.net.mac (macKey vid mac)).map Prod.fst)

/-- A unicast address: the group bit of its first byte is 0. -/
def unicast (mac : Nat) : Bool := mac / 2 ^ 40 % 2 == 0

/-- Learning, R257: 8,192 entries. -/
def State.macLearn (s : State) (vid mac port : Nat) : State :=
  let known := (Tab.get (fun _ => none) s.net.mac (macKey vid mac)).isSome
  if !unicast mac || (!known && decide (8192 ≤ s.net.mac.length)) then s
  else { s with net := { s.net with
      mac := Tab.set (fun _ => none) s.net.mac (macKey vid mac) (some (port, s.ms)) } }

/-- MAC_AGE: an entry that no frame has refreshed for 300 s is dropped, R257. -/
def State.macAge (s : State) (vid mac : Nat) : State :=
  match Tab.get (fun _ => none) s.net.mac (macKey vid mac) with
  | none => s
  | some e =>
    if s.pwr.light && decide (s.ms + s.pms < e.2 + 300000) then s
    else { s with net := { s.net with mac := Tab.set (fun _ => none) s.net.mac (macKey vid mac) none } }

/-- Egress port p passes frames: the internal port (4) while the application domain is up, a ring port that is not
blocked. -/
def State.egressOk (s : State) (p : Nat) : Bool :=
  if p = 4 then s.pwr.appOn
  else s.portUp p && !(decide (p < 2) && bitN (s.get Fd.SW_ERPS_STAT_BLOCKED) p)

/-- The ports in the ring VLAN, R257. DEDUCED: log entry 113. -/
def State.ringMembers (s : State) : List Nat := if s.flag Fd.SW_SW_CFG_LAN_BRIDGE then [0, 1, 2, 3, 4] else [0, 1, 4]

/-- Where a frame goes, before blocked and absent ports are taken out, and its VLAN there. DEDUCED: log entries 113,
116. -/
def State.frameRoute (s : State) (p : Nat) (f : NetFrame) : List Nat × Option Nat :=
  let ring := s.get Fd.SW_VLAN_CFG_RING_VID
  let mine := f.dst == baseMac
  match f.vid with
  | none =>
    if p = 2 ∨ p = 3 then
      if mine then ([4], none)
      else if s.flag Fd.SW_SW_CFG_LAN_BRIDGE then
        match if unicast f.dst then s.macPort ring f.dst else none with
        | some q => if q = p then ([], some ring) else ([q], some ring)
        | none => (s.ringMembers.filter (· != p), some ring)
      else ([4], none)
    else ([4].filter (· != p), none)
  | some v =>
    if mine then ([4].filter (· != p), some v)
    else
      let members := if v = ring then s.ringMembers else [0, 1, 4]
      match if unicast f.dst then s.macPort v f.dst else none with
      | some q => if q = p then ([], some v) else ([q], some v)
      | none => (members.filter (· != p), some v)

/-- A frame is ring transit, which is cut through: it enters a ring port in the ring VLAN and does not end at the
module. DEDUCED: log entry 114. -/
def State.ringTransit (s : State) (p : Nat) (f : NetFrame) : Bool :=
  decide (p < 2) && f.vid == some (s.get Fd.SW_VLAN_CFG_RING_VID) && f.dst != baseMac

/-- A frame from port p leaves by the ports of `egress`, R257; the transparent clock adds its residence time (R233). -/
def State.swSend (s : State) (p : Nat) (f : NetFrame) (vid : Option Nat) (egress : List Nat) : State :=
  if egress.isEmpty then s
  else
    let prio := if f.raps || (f.ptp == 1 || f.ptp == 2) then 7
      else if f.vid.isNone && decide (p < 4) then s.get (Fd.PORT_PORT_CFG_DEF_PCP p) else f.pcp % 8
    let tc := s.flag Fd.TIME_TC_CFG_EN && decide (p < 4) && (f.ptp == 1 || f.ptp == 2) && decide (f.carrier < 3) &&
      egress.any (· < 4)
    let s := egress.foldl (fun t q => if q < 4 then t.add (whole (Rg.PORT_TX_FRAMES q)) 1 else t) s
    { s with net := { s.net with
        out := some ⟨egress, prio, vid, if tc then f.res else 0, if tc then some (ptpFix f.carrier) else none⟩ } }

/-- SW_FRAME_FORWARD: port p (4 the internal port) receives a frame, R233, R257. DEDUCED: log entries 114, 115,
116. -/
def State.swFrame (s : State) (p : Nat) (f : NetFrame) : State :=
  let inOk := if p = 4 then s.pwr.appOn else s.portUp p
  if !s.pwr.netOn || !s.flag (Fd.en Pg.sw) || !inOk || decide (4 < p) then s
  else
    let s := if p < 4 then s.add (whole (Rg.PORT_RX_FRAMES p)) 1 else s
    let cut := s.ringTransit p f && s.flag Fd.SW_SW_CFG_CUT_THRU
    let s := if !f.fcsOk && decide (p < 4) then s.add (whole (Rg.PORT_RX_ERR p)) 1 else s
    if !f.fcsOk && !cut then s
    else if f.vid.isNone && !f.raps && decide (p < 4) && s.flag (Fd.PORT_PORT_CFG_DROP_UNTAGGED p) then s
    else if decide (p < 2) && !f.raps && bitN (s.get Fd.SW_ERPS_STAT_BLOCKED) p then s
    else
      let (dest, vid) := if f.raps then ((if p = 4 then [0, 1] else if p < 2 then [1 - p] else []), f.vid) else s.frameRoute p f
      let dest := if s.ringTransit p f && !unicast f.dst then dest ++ (if dest.contains 4 then [] else [4]) else dest
      let s := match vid with
        | some v => s.macLearn v f.src p
        | none => s
      let egress := dest.filter s.egressOk
      let lost := if f.raps then decide (1 < p ∧ p < 4) else egress.isEmpty || (dest.contains 4 && !s.pwr.appOn)
      let s := if lost then s.add (whole Rg.SW_DROP) 1 else s
      s.swSend p f vid egress

/-! ### LSP (R264 to R269) -/

/-- The session with a peer. DEDUCED: log entry 117. -/
def State.sess (s : State) (k : Nat) : Option Session := Tab.get (fun _ => none) s.net.sess k

/-- The session with a peer replaced. -/
def State.setSess (s : State) (k : Nat) (o : Option Session) : State :=
  { s with net := { s.net with sess := Tab.set (fun _ => none) s.net.sess k o } }

/-- Place of an address in a list. -/
def placeOf (a : Nat) : List Nat → Nat → Option Nat
  | [], _ => none
  | x :: t, i => if x = a then some i else placeOf a t (i + 1)

/-- The peer that an address belongs to: 0 to 3 head-end, 4 UPSTREAM and 6 PARTNER (as client or server), 5
DOWNSTREAM. DEDUCED: log entry 117. -/
def State.peerOf (s : State) (a : Nat) : Option Nat :=
  match placeOf a (s.net.ip.peers.take 4) 0 with
  | some k => some k
  | none =>
    if s.net.ip.upstream = some a then some 4
    else if s.net.ip.downstream = some a then some 5
    else if s.net.ip.partner = some a then some 6 else none

/-- Stored records from index c on that reach EV_MIN, in recorder order; a copy counts once. DESIGN CHOICE: log entry
118. -/
def State.eventsFrom (s : State) (c : Nat) : List Rec :=
  let all := s.nv.log ++ s.nv.fb.filter fun r => !s.nv.log.any fun x => x.index == r.index
  let l := all.filter fun r => !idxBefore r.index c && decide (s.net.ip.evMin ≤ r.sev)
  l.foldl (fun t r => recInsert r t) []

/-! #### Messages, R265 -/

/-- An LSP message taken apart: its header fields, big-endian, and its payload. -/
structure LspMsg where
  ver : Nat
  typ : Nat
  flags : Nat
  reqId : Nat
  seq : Nat
  len : Nat
  body : List Nat
deriving DecidableEq, Repr

/-- The header of 16 bytes; none for a record that is shorter. -/
def lspParse (m : List Nat) : Option LspMsg :=
  if m.length < 16 then none
  else some {
    ver := ofBe (m.take 1), typ := ofBe ((m.drop 1).take 1), flags := ofBe ((m.drop 2).take 2)
    reqId := ofBe ((m.drop 4).take 4), seq := ofBe ((m.drop 8).take 4), len := ofBe ((m.drop 12).take 2), body := m.drop 16 }

/-- The bytes of a message that the module sends. -/
def lspBytes (typ reqId seq : Nat) (body : List Nat) : List Nat :=
  [1, typ, 0, 0] ++ beBytes 4 reqId ++ beBytes 4 seq ++ beBytes 2 body.length ++ [0, 0] ++ body

/-- An ERROR message, R265: 1 BAD_VERSION, 2 BAD_TYPE, 3 BAD_LENGTH, 4 BUSY. -/
def lspError (reqId code : Nat) : List Nat := lspBytes 0x3F reqId 0 (beBytes 2 code)

/-- A message leaves on the session with peer k. -/
def State.lspOut (s : State) (k : Nat) (m : List Nat) : State :=
  match s.sess k with
  | none => s
  | some x => s.setSess k (some { x with lastTx := s.ms, sent := m })

/-! #### The event stream, R268 -/

/-- An EVENT message leaves; it is numbered on from the latest. DESIGN CHOICE: log entry 210. -/
def State.eventOut (s : State) (k : Nat) (x : Session) (cursor : Nat) (l : List Rec) : State :=
  let body := l.flatMap Rec.bytes
  let m : EvMsg := ⟨x.nextSeq, l.map (·.index), s.ms, body⟩
  s.setSess k (some { x with
    nextSeq := x.nextSeq + 1, cursor := cursor, msgs := x.msgs ++ [m], lastTx := s.ms, sent := lspBytes 0x10 0 x.nextSeq body })

/-- EVENT messages go out while fewer than 8 are unacknowledged, at most 18 records each, R268. -/
def State.lspSend (s : State) (k : Nat) : Nat → State
  | 0 => s
  | n + 1 =>
    match s.sess k with
    | none => s
    | some x =>
      if decide (4 ≤ k) || decide (8 ≤ x.msgs.length) then s
      else
        let l := (s.eventsFrom x.cursor).take 18
        match l.getLast? with
        | none => s
        | some r => (s.eventOut k x ((r.index + 1) % 2 ^ 32) l).lspSend k n

/-- Records that have been stored go out on every session. -/
def State.lspSendAll (s : State) : State := (((s.lspSend 0 8).lspSend 1 8).lspSend 2 8).lspSend 3 8

/-- The first index that the log or the fallback region holds, from index c on. -/
def State.firstHeld (s : State) (c : Nat) : Option Nat :=
  (s.nv.log ++ s.nv.fb).foldl (fun b r =>
    if idxBefore r.index c then b
    else match b with
      | some i => if idxBefore r.index i then some r.index else b
      | none => some r.index) none

/-- The index a session starts from: after the last acknowledged record, or the oldest record held. -/
def State.lspStart (s : State) (k : Nat) : Nat :=
  match Tab.get (fun _ => none) s.net.acked k with
  | some i => i
  | none => (s.firstHeld ((s.nv.cnt.nextIdx + 2 ^ 31 + 1) % 2 ^ 32)).getD s.nv.cnt.nextIdx

/-- A stream that resumes at an index no longer held first sends an EVENTS_LOST of its own, R268, R387: SOURCE 0xFD, PARAM5 the
indices skipped. DESIGN CHOICE: log entry 210. -/
def State.lspResume (s : State) (k : Nat) : State :=
  match s.sess k, s.firstHeld (s.lspStart k) with
  | some x, some i =>
    let skip := (i + 2 ^ 32 - x.cursor) % 2 ^ 32
    if skip = 0 ∨ 4 ≤ k then s
    else s.eventOut k x i [{ s.mkRec Ev.EVENTS_LOST 0xFD [0, 0, 0, 0, skip] with index := x.cursor }]
  | _, _ => s

/-- What the module supports of DTLS, R264: version 1.3, its two AES-GCM suites, certificates. -/
def DtlsHello.suite (h : DtlsHello) : Option Nat :=
  if h.v13 && !h.psk then [0x1301, 0x1302].find? h.suites.contains else none

/-- DTLS_HANDSHAKE: a peer completes a handshake, or its certificate fails, R264; a handshake that asks for what is not supported
is refused. An address that no setting names gets no response, and is reported (R270). DEDUCED: log entry 117. -/
def State.dtlsHandshake (s : State) (h : DtlsHello) : State :=
  if !s.pwr.appOn || !s.pwr.netOn then s
  else match s.peerOf h.addr, h.suite with
    | none, _ => s.raise Ev.LSP_AUTH_FAIL Pg.sw [0xFF]
    | some _, none => s
    | some k, some suite =>
      if !h.certOk then s.raise Ev.LSP_AUTH_FAIL Pg.sw [k]
      else
        let s := match s.sess k with
          | some _ => s.raise Ev.LSP_SESSION_DOWN Pg.sw [k, 2]
          | none => s
        let s := s.setSess k (some ⟨suite, s.ms, s.ms, 1, s.lspStart k, [], []⟩)
        ((s.raise Ev.LSP_SESSION_UP Pg.sw [k]).lspResume k).lspSend k 8

/-- EVENT_ACK up to `seq`. -/
def State.eventAck (s : State) (k seq : Nat) : State :=
  match s.sess k with
  | none => s
  | some x =>
    let x := { x with lastRx := s.ms }
    if x.nextSeq ≤ seq then s.setSess k (some x)
    else
      let done := x.msgs.filter fun m => decide (m.seq ≤ seq)
      let s := s.setSess k (some { x with msgs := x.msgs.filter fun m => decide (seq < m.seq) })
      let s := match done.getLast?.bind (fun m => m.recs.getLast?) with
        | none => s
        | some i => { s with net := { s.net with
            acked := Tab.set (fun _ => none) s.net.acked k (some ((i + 1) % 2 ^ 32)) } }
      s.lspSend k 8

/-- LSP_EVENT_RESEND. -/
def State.eventResend (s : State) (k seq : Nat) : State :=
  match s.sess k with
  | none => s
  | some x => match x.msgs.find? (fun m => m.seq == seq) with
    | some e =>
      ((s.setSess k (some { x with
        msgs := x.msgs.map fun m => if m.seq = seq then { m with sentAt := s.ms } else m })).lspOut k
          (lspBytes 0x10 0 e.seq e.body)).lspSend k 8
    | none => s

/-- KEEPALIVE. -/
def State.keepalive (s : State) (k : Nat) : State := s.lspOut k (lspBytes 0x30 0 0 [])

/-- KEEPALIVE_RECEIVED, or any message of the peer. -/
def State.heardPeer (s : State) (k : Nat) : State :=
  match s.sess k with
  | none => s
  | some x => s.setSess k (some { x with lastRx := s.ms })

/-- LSP_SESSION_DOWN: nothing from the peer for 30 s, or its DTLS alert, R269, R270. -/
def State.sessionDown (s : State) (k : Nat) (alert : Bool) : State :=
  match s.sess k with
  | none => s
  | some _ => (s.setSess k none).raise Ev.LSP_SESSION_DOWN Pg.sw [k, if alert then 3 else 1]

/-- The application domain restarts: every session ends and the IP settings take effect, R263, R269. DEDUCED: log
entries 119, 121. -/
def State.lspRestart (s : State) : State :=
  { s with net := { s.net with sess := [], store := [], ip := s.nv.ip } }

/-- The network domain restarts: links down, table flushed, ring protection over. -/
def State.netRestart (s : State) : State := { s with net := { s.net with mac := [], out := none, erps := .init } }

end Sys2Proof.Machine
end

