-- ==== Sys2Proof/Machine/Pcie.lean ====
section
/-! DEFINITION. The PCIe endpoint: host doorbells, completion queues, moderation, the sleeping host, resets (R293 to
R299). -/

namespace Sys2Proof.Machine

/-- Completion queue k beside its registers. -/
def State.cq (s : State) (k : Nat) : CqSt := Tab.get (fun _ => CqSt.init) s.pcie.cq k

/-- Completion queue k replaced. -/
def State.setCq (s : State) (k : Nat) (x : CqSt) : State :=
  { s with pcie := { s.pcie with cq := Tab.set (fun _ => CqSt.init) s.pcie.cq k x } }

/-- Host doorbells set, R295. -/
def State.hdbSet (s : State) (m : Word) : State :=
  (List.range 8).foldl (fun t k => if bitW m k then t.withReq (192 + k) (·.put ⟨Rg.PCIE_HDB, k, 1⟩ 1) else t) s

/-- The host is asleep, R298. -/
def State.hostAsleep (s : State) : Bool := s.flag Fd.PCIE_LINK_L1 || s.flag Fd.PCIE_LINK_D3HOT

/-- Entries and messages can go to the host now. -/
def State.hostUp (s : State) : Bool := s.flag Fd.PCIE_LINK_UP && !s.hostAsleep

/-- Completion queue k is in use. -/
def State.cqOn (s : State) (k : Nat) : Bool := s.flag (inBank Fd.PCIE_CQ_CFG_EN k)

/-- The ring of completion queue k is full, R296. -/
def State.cqFull (s : State) (k : Nat) : Bool :=
  let n := s.get (inBank Fd.PCIE_CQ_CFG_SIZE k)
  (s.get (inBank ⟨Rg.PCIE_CQ_TAIL, 0, 12⟩ k) + 1) % n == s.get (inBank ⟨Rg.PCIE_CQ_HEAD, 0, 12⟩ k) % n

/-- Four words written to host memory from byte address a up. -/
def State.hostWrite (s : State) (a : Nat) (ws : List Word) : State :=
  { s with pcie := { s.pcie with
      hostMem := (List.range 4).foldl (fun m i => Tab.set (fun _ => 0) m (a + 4 * i) ((ws[i]?).getD 0)) s.pcie.hostMem } }

/-- Word 3 of an entry with bit 31 replaced by PHASE, R296. -/
def withPhase (ws : List Word) (ph : Bool) : List Word :=
  (List.range 4).map fun i => if i = 3 then setF ((ws[i]?).getD 0) 31 1 (b2n ph) else (ws[i]?).getD 0

/-- An entry is written at TAIL of completion queue k; TAIL advances, and PHASE changes at the wrap, R296. DEDUCED:
log entry 126. -/
def State.cqWrite (s : State) (k : Nat) (ws : List Word) : State :=
  let base := (s.rd (bank k Rg.PCIE_CQ_BASE_HI)).toNat * 2 ^ 32 + (s.rd (bank k Rg.PCIE_CQ_BASE_LO)).toNat
  let t := s.get (inBank ⟨Rg.PCIE_CQ_TAIL, 0, 12⟩ k)
  let n := s.get (inBank Fd.PCIE_CQ_CFG_SIZE k)
  let x := s.cq k
  let s := s.hostWrite (base + 16 * t) (withPhase ws x.phase)
  let t' := if n ≤ t + 1 then 0 else t + 1
  (s.put (inBank ⟨Rg.PCIE_CQ_TAIL, 0, 12⟩ k) t').setCq k { x with phase := if t' = 0 then !x.phase else x.phase }

/-- A post to completion queue k was refused, R296; PCIE_CQ_OVF at most once a second per queue, R300. -/
def State.cqRefuse (s : State) (k : Nat) : State :=
  let s := (s.add (inBank ⟨Rg.PCIE_CQ_OVF, 0, 16⟩ k) 1).irq Pg.pcie 2
  let x := s.cq k
  if limitOk x.ovfAt s.ns 1 then
    (s.setCq k { x with ovfAt := some s.ns, ovfCnt := 0 }).raise Ev.PCIE_CQ_OVF Pg.pcie [k, x.ovfCnt + 1]
  else s.setCq k { x with ovfCnt := x.ovfCnt + 1 }

/-- CPL_STAT of an initiator. -/
def State.setCplStat (s : State) (ini v : Nat) : State :=
  { s with pcie := { s.pcie with stat := Tab.set (fun _ => 0) s.pcie.stat ini v } }

/-- An accepted entry counts towards the next message: the timer starts at the first, and the message is due at COUNT,
R297. -/
def State.cqCount (s : State) (k : Nat) : State :=
  let x := s.cq k
  let n := x.unsig + 1
  s.setCq k { x with
    unsig := n
    timer := x.timer || x.unsig == 0
    due := x.due || decide (s.get (inBank Fd.PCIE_MOD_CFG_COUNT k) ≤ n) }

/-- A write of CPL_CMD posts the staged words of the initiator to completion queue k, R296. -/
def State.cplPost (s : State) (ini k : Nat) : State :=
  let ws := (List.range 4).map fun i => Tab.get (fun _ => 0) s.pcie.stage (ini * 4 + i)
  let x := s.cq k
  if !s.cqOn k then (s.cqRefuse k).setCplStat ini 1
  else if s.hostUp && x.held.isEmpty && !s.cqFull k then ((s.cqWrite k ws).cqCount k).setCplStat ini 0
  else if x.held.length < 64 then ((s.setCq k { x with held := x.held ++ [ws] }).cqCount k).setCplStat ini 0
  else (s.cqRefuse k).setCplStat ini 2

/-- The oldest held entry of completion queue k is written when there is room and the host can take it, R296. -/
def State.cqEntryWrite (s : State) (k : Nat) : State :=
  let x := s.cq k
  match x.held with
  | [] => s
  | e :: l => if s.hostUp && s.cqOn k && !s.cqFull k then (s.setCq k { x with held := l }).cqWrite k e else s

/-- Held entries of completion queue k are written, as many as fit. DEDUCED: log entry 126. -/
def State.cqDrain (s : State) (k : Nat) : State := (List.range 64).foldl (fun t _ => t.cqEntryWrite k) s

/-- A message of a vector leaves, or its pending bit is set while the host masks it, R297. PRESUMED: log entry 127. -/
def State.msixFire (s : State) (v : Nat) : State :=
  if Tab.get (fun _ => false) s.pcie.unmasked v then
    { s with pcie := { s.pcie with
        pba := Tab.set (fun _ => false) s.pcie.pba v false
        sent := Tab.mod (fun _ => 0) s.pcie.sent v (· + 1) } }
  else { s with pcie := { s.pcie with pba := Tab.set (fun _ => false) s.pcie.pba v true } }

/-- A due message of completion queue k is sent once every counted entry is in the ring and the host can take it; the
count and the timer restart, R297. PRESUMED: log entry 127. -/
def State.msixSend (s : State) (k : Nat) : State :=
  let x := s.cq k
  if x.due && x.held.isEmpty && s.hostUp then
    (s.setCq k { x with unsig := 0, timer := false, due := false }).msixFire (s.get (inBank Fd.PCIE_CQ_CFG_VECTOR k))
  else s

/-- The moderation timer of completion queue k expires, R297, R298. -/
def State.modExpire (s : State) (k : Nat) : State :=
  let x := s.cq k
  if x.timer then
    let s := s.setCq k { x with timer := false, due := true }
    if s.hostAsleep && s.flag ⟨Rg.PCIE_WAKE_ON_CPL, 0, 1⟩ then { s with pcie := { s.pcie with wake := true } } else s
  else s

/-- The host clears the mask of a vector; a pending message goes out, R297. PRESUMED: log entry 127. -/
def State.msixUnmask (s : State) (v : Nat) : State :=
  if 16 ≤ v then s
  else
    let s := { s with pcie := { s.pcie with unmasked := Tab.set (fun _ => false) s.pcie.unmasked v true } }
    if Tab.get (fun _ => false) s.pcie.pba v && s.hostUp then s.msixFire v else s

/-- The link enters L1 or the function D3hot, R298. -/
def State.hostSleep (s : State) (l1 d3 : Bool) : State :=
  let s := if l1 then s.put Fd.PCIE_LINK_L1 1 else s
  if d3 then s.put Fd.PCIE_LINK_D3HOT 1 else s

/-- The link is in L0; `d0`: the function is in D0.  With both, held entries go out in order, then pending messages,
R298. -/
def State.hostWake (s : State) (d0 : Bool) : State :=
  let s := s.put Fd.PCIE_LINK_L1 0
  let s := if d0 then s.put Fd.PCIE_LINK_D3HOT 0 else s
  if s.hostUp then
    let s := { s with pcie := { s.pcie with wake := false } }
    let s := (List.range 8).foldl (fun t k => t.cqDrain k) s
    let s := (List.range 8).foldl (fun t k => t.msixSend k) s
    (List.range 16).foldl (fun t v =>
      if Tab.get (fun _ => false) t.pcie.pba v && Tab.get (fun _ => false) t.pcie.unmasked v then t.msixFire v else t) s
  else s

/-- What PERST_N (1), a hot reset (2) and a function-level reset (3) do, R299; every vector is masked again. DEDUCED:
log entry 128; PRESUMED: log entry 127. -/
def State.pcieClear (s : State) (cause : Nat) : State :=
  let n := (List.range 8).foldl (fun a k => a + (s.cq k).held.length) 0
  let s := (List.range 8).foldl (fun t k =>
    let x := t.cq k
    (t.put (inBank Fd.PCIE_CQ_CFG_EN k) 0).setCq k { CqSt.init with ovfAt := x.ovfAt, ovfCnt := x.ovfCnt }) s
  let s := (s.wr Rg.PCIE_HDB 0).coalSettle
  let s := { s with pcie := { s.pcie with wake := false, pba := [], unmasked := [] } }
  let s := if cause = 1 then s.put Fd.PCIE_LINK_PERST 1 else s
  ((s.irq Pg.pcie 1).raise Ev.PCIE_RESET Pg.pcie [cause, n]).qAbortPage Pg.pcie

/-- A reset of the endpoint from its port, R299; nothing while the port is disabled (R25). -/
def State.pcieReset (s : State) (cause : Nat) : State :=
  if s.flag (Fd.en Pg.pcie) = false then s else s.pcieClear cause

/-- The link comes up with a speed and a width (R305 codes), or goes down. DEDUCED: log entry 128. -/
def State.pcieLink (s : State) (up : Bool) (speed width : Nat) : State :=
  if up && !s.flag (Fd.en Pg.pcie) then s
  else
    let s := s.put Fd.PCIE_LINK_UP (b2n up)
    let s := if up then ((s.put Fd.PCIE_LINK_SPEED speed).put Fd.PCIE_LINK_WIDTH width).put Fd.PCIE_LINK_PERST 0
      else (((s.put Fd.PCIE_LINK_SPEED 0).put Fd.PCIE_LINK_WIDTH 0).put Fd.PCIE_LINK_L1 0)
    (s.irq Pg.pcie 0).raise Ev.PCIE_LINK Pg.pcie [b2n up, speed, width]

/-- A write of CQ_CFG of completion queue k: SIZE within 16 to 4,096; setting EN clears TAIL and sets PHASE, R305. -/
def State.cqCfgWrite (s : State) (k : Nat) (v : Word) : State :=
  let on := s.cqOn k
  let s := s.wr (bank k Rg.PCIE_CQ_CFG) (setF (v &&& 0x800F1FFF) 0 13 (max 16 (min (getF v 0 13) 4096)))
  if s.cqOn k && !on then (s.wr (bank k Rg.PCIE_CQ_TAIL) 0).setCq k { s.cq k with phase := true } else s

/-- CQ_STAT of completion queue k, R305. -/
def State.cqStatWord (s : State) (k : Nat) : Word :=
  let x := s.cq k
  BitVec.ofNat 32 (b2n x.due * 2 ^ 31 + b2n x.timer * 2 ^ 30 + x.held.length * 2 ^ 16 + min x.unsig 255)

end Sys2Proof.Machine
end

