-- ==== Sys2Proof/Machine/Calendar.lean ====
section
/-! DEFINITION. The Gregorian calendar, in days since 2000-01-01 (R239, R240). -/

namespace Sys2Proof.Machine

/-- Day number of a date: days since 2000-01-01. -/
def dayOfDate (y m d : Int) : Int :=
  let y := if m ≤ 2 then y - 1 else y
  let era := y.fdiv 400
  let yoe := y - era * 400
  let doy := (153 * (if m ≤ 2 then m + 9 else m - 3) + 2) / 5 + d - 1
  let doe := yoe * 365 + yoe / 4 - yoe / 100 + doy
  era * 146097 + doe - 730425

/-- Year, month and day of a day number. -/
def dateOfDay (n : Int) : Int × Int × Int :=
  let z := n + 730425
  let era := z.fdiv 146097
  let doe := z - era * 146097
  let yoe := (doe - doe / 1460 + doe / 36524 - doe / 146096) / 365
  let doy := doe - (365 * yoe + yoe / 4 - yoe / 100)
  let mp := (5 * doy + 2) / 153
  let d := doy - (153 * mp + 2) / 5 + 1
  let m := if mp < 10 then mp + 3 else mp - 9
  let y := yoe + era * 400
  (if m ≤ 2 then y + 1 else y, m, d)

/-- Calendar weekday of a day number, 0 for Sunday: 2000-01-01 was a Saturday. -/
def weekdayOf (n : Int) : Int := (n + 6) % 7

/-- The day of a year on which the `week`-th weekday `wd` of a month falls; week 5 is the last. -/
def nthWeekday (y m week wd : Int) : Int :=
  let d1 := dayOfDate y m 1
  let next := if m = 12 then dayOfDate (y + 1) 1 1 else dayOfDate y (m + 1) 1
  let first := d1 + (wd - weekdayOf d1) % 7
  let d := first + 7 * (week - 1)
  if next ≤ d then d - 7 else d

/-- Leap year. -/
def isLeap (y : Nat) : Bool := y % 4 == 0 && (y % 100 != 0 || y % 400 == 0)

/-- Days of a month. -/
def monthDays (y m : Nat) : Nat :=
  if m = 2 then (if isLeap y then 29 else 28) else if m = 4 ∨ m = 6 ∨ m = 9 ∨ m = 11 then 30 else 31

end Sys2Proof.Machine
end

