-- ==== Sys2Proof/Machine/Hatch.lean ====
section
/-! DEFINITION. Hatch: the street graph and its loading (R74 to R78), detections (R79 to R85), pulses (R86 to R90),
light profiles and rendering (R91 to R93), the digest (R95). -/

namespace Sys2Proof.Machine

/-! ### Sorting -/

/-- x put before the first element that must not stand before it. -/
def insertBy {α : Type} (before : α → α → Bool) (x : α) : List α → List α
  | [] => [x]
  | y :: t => if before x y then x :: y :: t else y :: insertBy before x t

/-- A stable sort: of two elements that `before` does not order, the earlier stays first. -/
def sortBy {α : Type} (before : α → α → Bool) (l : List α) : List α :=
  l.reverse.foldl (fun acc x => insertBy (fun a b => !before b a) x acc) []

/-! ### Graph records (R74) -/

def Graph.vtxRec (g : Graph) (v : Nat) : Word := Tab.get (fun _ => 0) g.vtx v
def Graph.edgeRec (g : Graph) (e : Nat) : EdgeRec := Tab.get (fun _ => ⟨0, 0, 0⟩) g.edge e
def Graph.attRec (g : Graph) (i : Nat) : Word := Tab.get (fun _ => 0) g.att i
def Graph.sensRec (g : Graph) (i : Nat) : SensRec := Tab.get (fun _ => ⟨0, 0⟩) g.sens i

def Graph.uturnOk (g : Graph) (v : Nat) : Bool := bitW (g.vtxRec v) 18
def Graph.outCnt (g : Graph) (v : Nat) : Nat := getF (g.vtxRec v) 14 4
def Graph.outFirst (g : Graph) (v : Nat) : Nat := getF (g.vtxRec v) 0 14
def Graph.toVtx (g : Graph) (e : Nat) : Nat := getF (g.edgeRec e).w0 16 12
def Graph.fromVtx (g : Graph) (e : Nat) : Nat := getF (g.edgeRec e).w0 0 12
def Graph.turnW (g : Graph) (e : Nat) : Nat := getF (g.edgeRec e).w1 24 8
def Graph.bearing (g : Graph) (e : Nat) : Nat := getF (g.edgeRec e).w1 16 8
def Graph.length (g : Graph) (e : Nat) : Nat := getF (g.edgeRec e).w1 0 16
def Graph.attFirst (g : Graph) (e : Nat) : Nat := getF (g.edgeRec e).w2 16 14
def Graph.attCnt (g : Graph) (e : Nat) : Nat := getF (g.edgeRec e).w2 8 6
def Graph.classMask (g : Graph) (e : Nat) : Nat := getF (g.edgeRec e).w2 0 8
def Graph.attOffset (g : Graph) (i : Nat) : Nat := getF (g.attRec i) 16 16
def Graph.attNode (g : Graph) (i : Nat) : Nat := getF (g.attRec i) 0 12

/-- The outgoing edges of a vertex, in table order. -/
def Graph.outEdges (g : Graph) (v : Nat) : List Nat := (List.range (g.outCnt v)).map (g.outFirst v + ·)

/-- The in-edge list of a vertex, in edge-index order (R77). -/
def Graph.inEdges (g : Graph) (v : Nat) : List Nat := (List.range g.nEdge).filter (fun e => g.toVtx e == v)

/-- The attachments of an edge, in table order. -/
def Graph.attsOf (g : Graph) (e : Nat) : List Nat := (List.range (g.attCnt e)).map (g.attFirst e + ·)

/-- The reverse of the bound edge: the first outgoing edge of its TO_VTX that ends at its FROM_VTX (R75). -/
def Graph.reverse (g : Graph) (e : Nat) : Option Nat :=
  (g.outEdges (g.toVtx e)).find? (fun o => g.toVtx o == g.fromVtx e)

/-- The stored bytes of the four tables, in the order of R76. -/
def Graph.bytes (g : Graph) : List Nat :=
  ((List.range g.nVtx).flatMap fun i => leBytes 4 (g.vtxRec i).toNat) ++
  ((List.range g.nEdge).flatMap fun i =>
    let r := g.edgeRec i
    leBytes 4 r.w0.toNat ++ leBytes 4 r.w1.toNat ++ leBytes 4 r.w2.toNat) ++
  ((List.range g.nAtt).flatMap fun i => leBytes 4 (g.attRec i).toNat) ++
  ((List.range g.nSens).flatMap fun i =>
    let r := g.sensRec i
    leBytes 4 r.w0.toNat ++ leBytes 4 r.w1.toNat)

/-- The CRC of the tables (R76). -/
def Graph.crcOf (g : Graph) : Nat := crc32 g.bytes

/-! ### Validation (R77) -/

/-- A failed check: its ERR code, and the table and index of the failing record. -/
structure GraphErr where
  err : Nat
  table : Nat
  index : Nat
deriving DecidableEq, Repr

/-- The first record below a count that fails a check. -/
def firstBad (n : Nat) (bad : Nat → Bool) : Option Nat := (List.range n).find? bad

/-- A failing record turned into the error it is shown as. -/
def badAt (err table n : Nat) (bad : Nat → Bool) : Option GraphErr :=
  (firstBad n bad).map fun i => ⟨err, table, i⟩

/-- 0x01 COUNT. -/
def Graph.checkCount (g : Graph) : Option GraphErr :=
  if g.nVtx > 4096 then some ⟨1, 0, 0⟩
  else if g.nEdge > 16384 ∨ (g.nVtx = 0 ∧ g.nEdge ≠ 0) then some ⟨1, 1, 0⟩
  else if g.nAtt > 16384 ∨ (g.nVtx = 0 ∧ g.nAtt ≠ 0) then some ⟨1, 2, 0⟩
  else if g.nSens > 1024 ∨ (g.nVtx = 0 ∧ g.nSens ≠ 0) then some ⟨1, 3, 0⟩
  else none

/-- 0x02 RSV_BITS. -/
def Graph.checkRsv (g : Graph) : Option GraphErr :=
  (badAt 2 0 g.nVtx fun i => (g.vtxRec i &&& 0xFFF80000) != 0) <|>
  (badAt 2 1 g.nEdge fun i => ((g.edgeRec i).w0 &&& 0xF000F000) != 0 || ((g.edgeRec i).w2 &&& 0xC000C080) != 0) <|>
  (badAt 2 2 g.nAtt fun i => (g.attRec i &&& 0x0000F000) != 0) <|>
  (badAt 2 3 g.nSens fun i => ((g.sensRec i).w0 &&& 0xC000F000) != 0 || ((g.sensRec i).w1 &&& 0x80000000) != 0)

/-- 0x03 VTX_RANGE. -/
def Graph.checkRange (g : Graph) : Option GraphErr :=
  badAt 3 1 g.nEdge fun i => decide (g.fromVtx i ≥ g.nVtx) || decide (g.toVtx i ≥ g.nVtx)

/-- Edges before the run of vertex v, when the runs stand in vertex order. -/
def Graph.runStart (g : Graph) (v : Nat) : Nat := ((List.range v).map g.outCnt).sum

/-- 0x04 EDGE_ORDER. DEDUCED: log entry 38. -/
def Graph.checkOrder (g : Graph) : Option GraphErr :=
  (badAt 4 1 g.nEdge fun i => decide (0 < i) && decide (g.fromVtx i < g.fromVtx (i - 1))) <|>
  (badAt 4 0 g.nVtx fun v => g.outCnt v != 0 && g.outFirst v != g.runStart v) <|>
  (if g.runStart g.nVtx = g.nEdge then none else some ⟨4, 0, g.nVtx - 1⟩) <|>
  (badAt 4 0 g.nVtx fun v => (g.outEdges v).any fun e => g.fromVtx e != v)

/-- 0x05 DEGREE. -/
def Graph.checkDegree (g : Graph) : Option GraphErr :=
  badAt 5 0 g.nVtx fun v => decide (g.outCnt v > 8) || decide ((g.inEdges v).length > 8)

/-- 0x06 LENGTH. -/
def Graph.checkLength (g : Graph) : Option GraphErr := badAt 6 1 g.nEdge fun e => g.length e == 0

/-- Attachments before the range of edge e, when the ranges stand in edge order. DEDUCED: log entry 39. -/
def Graph.attStart (g : Graph) (e : Nat) : Nat := ((List.range e).map g.attCnt).sum

/-- 0x07 ATT_LAYOUT. DEDUCED: log entries 38, 39. -/
def Graph.checkAtt (g : Graph) : Option GraphErr :=
  (badAt 7 1 g.nEdge fun e => g.attCnt e != 0 && g.attFirst e != g.attStart e) <|>
  (if g.attStart g.nEdge = g.nAtt then none else some ⟨7, 1, g.nEdge - 1⟩)

/-- 0x08 ATT_OFFSET, taken edge by edge. -/
def Graph.checkAttOfs (g : Graph) : Option GraphErr :=
  badAt 8 2 g.nAtt fun i =>
    (List.range g.nEdge).any fun e => (g.attsOf e).contains i && decide (g.attOffset i > g.length e)

/-- A node table index that names a record, not a node (R29). -/
def recordIndex (i : Nat) : Bool := i % 256 == 0 || i % 256 == 255

/-- 0x09 NODE_INDEX. -/
def Graph.checkNode (g : Graph) : Option GraphErr :=
  (badAt 9 2 g.nAtt fun i => recordIndex (g.attNode i)) <|>
  (badAt 9 3 g.nSens fun i => recordIndex (getF (g.sensRec i).w0 0 12))

/-- 0x0A SENSOR. -/
def Graph.checkSens (g : Graph) : Option GraphErr :=
  badAt 10 3 g.nSens fun i =>
    let r := g.sensRec i
    let e := getF r.w0 16 14
    decide (e ≥ g.nEdge) || decide (getF r.w1 0 16 > g.length e) || decide (getF r.w1 16 8 > 64) ||
      (decide (0 < i) && decide (getF r.w0 0 12 ≤ getF (g.sensRec (i - 1)).w0 0 12))

/-- 0x0B CRC. -/
def Graph.checkCrc (g : Graph) : Option GraphErr :=
  if g.crcOf = g.crc.toNat then none else some ⟨11, 0, 0⟩

/-- The first failing check in table order, R77; none: the bank is accepted. DEDUCED: log entry 38. -/
def Graph.check (g : Graph) : Option GraphErr :=
  g.checkCount <|> g.checkRsv <|> g.checkRange <|> g.checkOrder <|> g.checkDegree <|> g.checkLength <|> g.checkAtt <|>
  g.checkAttOfs <|> g.checkNode <|> g.checkSens <|> g.checkCrc

/-! ### Loading (R76 to R78) -/

/-- GRAPH_STAT.STATE: 0 IDLE, 1 OPEN, 2 VALIDATING, 3 PENDING, 4 PERSISTING, 5 REFUSED. -/
def State.graphState (s : State) : Nat := s.get Fd.HATCHG_GRAPH_STAT_STATE

/-- ERR, ERR_TABLE and ERR_INDEX show the latest error. -/
def State.graphErr (s : State) (e : GraphErr) : State :=
  ((s.put Fd.HATCHG_GRAPH_STAT_ERR e.err).put Fd.HATCHG_GRAPH_STAT_ERR_TABLE e.table).put
    Fd.HATCHG_GRAPH_STAT_ERR_INDEX e.index

/-- The load bank cleared, any validation or pending swap abandoned, and the load state set. -/
def State.graphClear (s : State) (st : Nat) : State :=
  ({ s with hatch := { s.hatch with load := .empty, valid := none } }.graphErr ⟨0, 0, 0⟩).put
    Fd.HATCHG_GRAPH_STAT_STATE st

/-- GRAPH_CTRL.CMD = OPEN: refused with BUSY only while PERSISTING (table after R78). -/
def State.graphOpen (s : State) : State :=
  if s.graphState = 4 then s.graphErr ⟨12, 0, 0⟩ else s.graphClear 1

/-- GRAPH_CTRL.CMD = ABORT. -/
def State.graphAbort (s : State) : State :=
  if s.graphState = 4 then s.graphErr ⟨12, 0, 0⟩ else if s.graphState = 0 then s else s.graphClear 0

/-- GRAPH_CTRL.CMD = COMMIT: validation starts on the load bank with the counts and the CRC as they stand (R77). -/
def State.graphCommit (s : State) : State :=
  let st := s.graphState
  if st = 2 ∨ st = 3 ∨ st = 4 then s.graphErr ⟨12, 0, 0⟩
  else if st = 0 ∨ st = 5 then s.graphErr ⟨13, 0, 0⟩
  else
    let g : Graph := { s.hatch.load with
      nVtx := getF (s.rd Rg.HATCHG_VTX_CNT) 0 13, nEdge := getF (s.rd Rg.HATCHG_EDGE_CNT) 0 15,
      nAtt := getF (s.rd Rg.HATCHG_ATT_CNT) 0 15, nSens := getF (s.rd Rg.HATCHG_SENS_CNT) 0 11,
      crc := s.rd Rg.HATCHG_GRAPH_CRC, seq := 0 }
    { s with hatch := { s.hatch with valid := some g } }.put Fd.HATCHG_GRAPH_STAT_STATE 2

/-- GRAPH_CTRL.CMD by its code; 0 has no effect. -/
def State.graphCtrl (s : State) (cmd : Nat) : State :=
  if cmd = 1 then s.graphOpen else if cmd = 2 then s.graphCommit else if cmd = 3 then s.graphAbort else s

/-- The window whose write stores a record of a table: LOAD_WIN0 for vertices and attachments, LOAD_WIN2 for edges,
LOAD_WIN1 for sensor bindings. -/
def lastWin (table : Nat) : Nat := if table = 1 then 2 else if table = 3 then 1 else 0

/-- The count register's value for a table. -/
def State.loadCount (s : State) (table : Nat) : Nat :=
  if table = 0 then getF (s.rd Rg.HATCHG_VTX_CNT) 0 13 else if table = 1 then getF (s.rd Rg.HATCHG_EDGE_CNT) 0 15
  else if table = 2 then getF (s.rd Rg.HATCHG_ATT_CNT) 0 15 else getF (s.rd Rg.HATCHG_SENS_CNT) 0 11

/-- A write of LOAD_WINk: kept for reading back; the last word of a record stores it and increments INDEX; while STATE
is not OPEN, or with INDEX not below the table's count, it is dropped with NOT_OPEN (table after R78).  After record 16,383
the 14 bits of INDEX wrap to 0, which the spec leaves open. DESIGN CHOICE: log entry 195. -/
def State.loadWin (s : State) (k : Nat) (v : Word) : State :=
  let t := s.get Fd.HATCHG_LOAD_SEL_TABLE
  let i := s.get Fd.HATCHG_LOAD_SEL_INDEX
  if s.graphState ≠ 1 ∨ s.loadCount t ≤ i then s.graphErr ⟨13, t, i⟩
  else
    let s := s.wr (Rg.HATCHG_LOAD_WIN k) v
    if k ≠ lastWin t then s
    else
      let w := fun j => s.rd (Rg.HATCHG_LOAD_WIN j)
      let g := s.hatch.load
      let g := if t = 0 then { g with vtx := Tab.set (fun _ => 0) g.vtx i (w 0) }
        else if t = 1 then { g with edge := Tab.set (fun _ => ⟨0, 0, 0⟩) g.edge i ⟨w 0, w 1, w 2⟩ }
        else if t = 2 then { g with att := Tab.set (fun _ => 0) g.att i (w 0) }
        else { g with sens := Tab.set (fun _ => ⟨0, 0⟩) g.sens i ⟨w 0, w 1⟩ }
      { s with hatch := { s.hatch with load := g } }.addWrap Fd.HATCHG_LOAD_SEL_INDEX 1

/-- Validation ends, outside the Hatch compute window (R77): the bank becomes PENDING, or it is refused whole with its first
failing check. -/
def State.graphValidated (s : State) : State :=
  if s.graphState ≠ 2 ∨ (s.tick.winOpen = true ∧ 500000 ≤ s.tick.ofs) then s
  else match s.hatch.valid with
    | none => s
    | some g =>
      match g.check with
      | none => s.put Fd.HATCHG_GRAPH_STAT_STATE 3
      | some e =>
        let s := { s with hatch := { s.hatch with valid := none } }
        (((s.graphErr e).put Fd.HATCHG_GRAPH_STAT_STATE 5).irq Pg.hatchG 1).raise Ev.HATCH_GRAPH_REFUSED Pg.hatchG
          [e.err, e.table, e.index]

/-- The number of active pulses. -/
def HatchSt.pulseCount (h : HatchSt) : Nat := h.pulses.length

/-- A graph becomes active: the ACT registers show it, every pulse is dropped, HATCH_GRAPH_LOADED is raised (R78). -/
def State.graphActivate (s : State) (g : Graph) : State :=
  let dropped := s.hatch.pulseCount
  let s := { s with hatch := { s.hatch with act := g, pulses := [] } }
  let s := ((s.wr Rg.HATCHG_ACT_CRC g.crc).wr Rg.HATCHG_ACT_VTX (BitVec.ofNat 32 g.nVtx)).wr Rg.HATCHG_ACT_EDGE
    (BitVec.ofNat 32 g.nEdge)
  let s := s.wr Rg.HATCHG_ACT_SEQ (BitVec.ofNat 32 g.seq)
  s.raise Ev.HATCH_GRAPH_LOADED Pg.hatchG [g.crc.toNat, g.nVtx, g.nEdge, dropped, g.seq]

/-- The bank swap at an edge: a PENDING bank becomes active with the next sequence number and is written to MRAM in
state PERSISTING (R78). -/
def State.graphSwap (s : State) : State :=
  if s.graphState ≠ 3 then s
  else match s.hatch.valid with
    | none => s
    | some g =>
      let s := (s.graphActivate { g with seq := (s.hatch.act.seq + 1) % 2 ^ 32 }).irq Pg.hatchG 0
      let s := { s with hatch := { s.hatch with valid := none, load := .empty } }
      (s.graphErr ⟨0, 0, 0⟩).put Fd.HATCHG_GRAPH_STAT_STATE 4

/-- The MRAM write of the new graph completes: the older of the two copies is replaced (R78). -/
def State.graphPersisted (s : State) : State :=
  if s.graphState ≠ 4 then s
  else
    let g := s.hatch.act
    let nv := if s.nv.graphTurn then { s.nv with graph1 := some g, graphTurn := false }
      else { s.nv with graph0 := some g, graphTurn := true }
    { s with nv := nv }.put Fd.HATCHG_GRAPH_STAT_STATE 0

/-- A graph copy in MRAM is valid when its tables pass every check with its stored CRC (R78). -/
def graphCopyOk (g : Option Graph) : Option Graph :=
  g.bind fun x => if x.check.isNone then some x else none

/-- The valid copy with the higher sequence number (R78). -/
def NonVol.graphBoot (n : NonVol) : Option Graph :=
  match graphCopyOk n.graph0, graphCopyOk n.graph1 with
  | some a, some b => if b.seq < a.seq then some a else some b
  | some a, none => some a
  | none, some b => some b
  | none, none => none

/-! ### The run (R72) -/

/-- What a run reads of the configuration snapshot (R71). -/
structure HatchCfg where
  pms : Nat
  dropW : Nat
  horizon : Nat
  detMax : Nat
  hypMax : Nat
  prof : Nat → Fld → Nat

/-- The profile field of a class, from the snapshot (R91). DEDUCED: log entry 41. -/
def State.hatchCfg (s : State) : HatchCfg :=
  { pms := s.pms, dropW := s.snapGet Fd.HATCH_DROP_W_DROP_W, horizon := s.snapGet Fd.HATCH_HORIZON_HORIZON,
    detMax := s.snapGet Fd.HATCH_LIMITS_DET_MAX, hypMax := s.snapGet Fd.HATCH_LIMITS_HYP_MAX_P,
    prof := fun _ f => s.snapGet f }

/-- The split of weight w arriving at the end of edge e for class c, R88. -/
def Graph.split (g : Graph) (e w c : Nat) : List (Nat × Nat) :=
  let v := g.toVtx e
  let el := (g.outEdges v).filter fun o =>
    (g.classMask o).testBit c && decide (g.turnW o > 0) && (g.uturnOk v || g.toVtx o != g.fromVtx e)
  let sum := (el.map g.turnW).sum
  let parts := el.map fun o => (o, w * g.turnW o / sum)
  let rem := w - (parts.map (·.2)).sum
  let big := (el.map g.turnW).foldl max 0
  match el.find? (fun o => g.turnW o == big) with
  | none => []
  | some o => parts.map fun p => if p.1 = o then (p.1, p.2 + rem) else p

/-- Edge, then position. -/
def Hyp.before (a b : Hyp) : Bool := decide (a.edge < b.edge) || (a.edge == b.edge && decide (a.pos < b.pos))

/-- Weight descending, then edge ascending, then position ascending (R89). -/
def Hyp.heavier (a b : Hyp) : Bool := decide (a.w > b.w) || (a.w == b.w && a.before b)

/-- A run of entries closed into one hypothesis: summed weight up to 32,768, position of the heaviest member (R89). -/
def closeRun (run : List Hyp) : List Hyp :=
  match run with
  | [] => []
  | h :: t =>
    let best := t.foldl (fun m x => if m.w < x.w then x else m) h
    [⟨h.edge, best.pos, min 32768 ((h :: t).map (·.w)).sum⟩]

/-- Sorted entries taken into runs: `run` is the run being built, in order. -/
def mergeRuns : List Hyp → List Hyp → List Hyp
  | run, [] => closeRun run
  | run, x :: t =>
    match run with
    | [] => mergeRuns [x] t
    | h :: _ => if x.edge = h.edge ∧ x.pos ≤ h.pos + 25600 then mergeRuns (run ++ [x]) t
      else closeRun run ++ mergeRuns [x] t

/-- Merge of R89. -/
def mergeHyps (l : List Hyp) : List Hyp := mergeRuns [] (sortBy Hyp.before l)

/-- Cap of R89. -/
def capHyps (n : Nat) (l : List Hyp) : List Hyp := sortBy Hyp.before ((sortBy Hyp.heavier l).take n)

/-- Where one hypothesis goes in a step, R87. -/
def stepHyp (g : Graph) (c : HatchCfg) (cls adv dstep : Nat) (h : Hyp) : List Hyp :=
  let w := h.w - dstep
  if w < c.dropW then []
  else
    let pos := h.pos + adv
    let len := g.length h.edge * 256
    if pos < len then [⟨h.edge, pos, w⟩]
    else ((g.split h.edge w cls).filter fun p => !decide (p.2 < c.dropW)).map fun p =>
      ⟨p.1, min (pos - len) (g.length p.1 * 256 - 1), p.2⟩

/-- One step of a pulse (R87); none: the pulse ends. -/
def stepPulse (g : Graph) (c : HatchCfg) (p : Pulse) : Option Pulse :=
  let adv := (p.speed * c.pms * 256 + 500) / 1000
  let dstep := (c.prof p.cls (Fd.HATCH_PROFILE_DECAY_PS p.cls) * c.pms + 500) / 1000
  let work := capHyps c.hypMax (mergeHyps (p.hyps.flatMap (stepHyp g c p.cls adv dstep)))
  let age := p.age + 1
  let maxAge := max 1 (c.prof p.cls (Fd.HATCH_PROFILE_MAX_AGE p.cls)) * (1000 / c.pms)
  if work.isEmpty ∨ maxAge ≤ age then none
  else some { p with hyps := work, age := age, refresh := min (p.refresh + 1) 65535 }

/-- k steps of a pulse. -/
def stepPulseN (g : Graph) (c : HatchCfg) : Nat → Pulse → Option Pulse
  | 0, p => some p
  | k + 1, p => (stepPulse g c p).bind (stepPulseN g c k)

/-- Stage 1: every active pulse advanced by k steps, in slot order. -/
def stepAll (g : Graph) (c : HatchCfg) (k : Nat) (t : Tab (Option Pulse)) : Tab (Option Pulse) :=
  t.filterMap fun (i, p) => (p.bind (stepPulseN g c k)).map fun q => (i, some q)

/-- Serial-number order of 16-bit sequence numbers. -/
def seqBefore (a b : Nat) : Bool := a != b && decide ((b + 65536 - a) % 65536 < 32768)

/-- Canonical order of R81. -/
def Detection.before (a b : Detection) : Bool :=
  decide (a.rxTick < b.rxTick) || (a.rxTick == b.rxTick &&
    (decide (a.bus < b.bus) || (a.bus == b.bus && seqBefore a.rxSeq b.rxSeq)))

/-- CLASS of a detection. -/
def Detection.cls (d : Detection) : Nat := d.flags % 8
def Detection.hdgValid (d : Detection) : Bool := d.flags.testBit 3
def Detection.spdValid (d : Detection) : Bool := d.flags.testBit 4
def Detection.rngValid (d : Detection) : Bool := d.flags.testBit 5

/-- The sensor binding for a node, if the graph has one. -/
def Graph.binding (g : Graph) (node : Nat) : Option SensRec :=
  ((List.range g.nSens).map g.sensRec).find? fun r => getF r.w0 0 12 == node

/-- A candidate edge with its launch position in whole cm and its share of the launch weight (R84). -/
structure Cand where
  edge : Nat
  x : Nat
  share : Nat

/-- Difference of heading and bearing in bearing steps, R84. -/
def hdgDiff (h b : Nat) : Nat :=
  let d := (h + 256 - b % 256) % 256
  min d (256 - d)

/-- Launch weight, R84. -/
def launchW (conf : Nat) : Nat := (conf * 32768 + 127) / 255

/-- The candidate edges of a detection with positions and shares, R84. DEDUCED: log entry 40. -/
def Graph.candidates (g : Graph) (d : Detection) (b : SensRec) : List Cand :=
  let e := getF b.w0 16 14
  let x : Int := (getF b.w1 0 16 : Nat) + (if d.rngValid then d.range else 0)
  let xb : Nat := (max 0 (min x (g.length e : Nat))).toNat
  let ok := fun i => (g.classMask i).testBit d.cls
  let near := fun i => !d.hdgValid || decide (hdgDiff d.heading (g.bearing i) ≤ getF b.w1 16 8)
  let cb := if ok e && near e then [(e, xb)] else []
  let cr := match g.reverse e with
    | none => []
    | some r => if ok r && near r then [(r, g.length r - xb)] else []
  let w0 := launchW d.conf
  match cb, cr with
  | [a], [r] => [⟨a.1, a.2, w0 - w0 / 2⟩, ⟨r.1, r.2, w0 / 2⟩]
  | [a], _ => [⟨a.1, a.2, w0⟩]
  | _, [r] => [⟨r.1, r.2, w0⟩]
  | _, _ => []

/-- Distance of two whole-cm positions. -/
def cmDist (a b : Nat) : Nat := max a b - min a b

/-- The candidate a hypothesis lies on, within the gate (R83). -/
def gateCand (gate : Nat) (cs : List Cand) (h : Hyp) : Option Cand :=
  cs.find? fun c => h.edge == c.edge && decide (cmDist (h.pos / 256) c.x ≤ gate * 10)

/-- A pulse a detection may associate with, R83. -/
def assocOk (c : HatchCfg) (d : Detection) (cs : List Cand) (p : Pulse) : Bool :=
  p.sensor == d.node % 4096 && p.cls == d.cls &&
  decide (p.refresh ≤ c.prof d.cls (Fd.HATCH_PROFILE_ASSOC_T d.cls) * 1000 / (16 * c.pms)) &&
  p.hyps.any fun h => (gateCand (c.prof d.cls (Fd.HATCH_PROFILE_GATE d.cls)) cs h).isSome

/-- Association of R83. -/
def associate (c : HatchCfg) (d : Detection) (cs : List Cand) (speed : Nat) (p : Pulse) : Pulse :=
  { p with
    hyps := p.hyps.map fun h =>
      match gateCand (c.prof d.cls (Fd.HATCH_PROFILE_GATE d.cls)) cs h with
      | some k => { h with w := max h.w k.share }
      | none => h
    speed := (p.speed + speed + 1) / 2, refresh := 0 }

/-- The lowest free slot of a slot table sorted by slot, from slot i on. -/
def freeSlot : Nat → Tab (Option Pulse) → Nat
  | i, [] => i
  | i, (j, _) :: t => if j = i then freeSlot (i + 1) t else i

/-- Total weight of a pulse. -/
def Pulse.total (p : Pulse) : Nat := (p.hyps.map (·.w)).sum

/-- The pulse with the smallest total weight, the highest slot on a tie (R85). -/
def lightest : Tab (Option Pulse) → Option (Nat × Nat)
  | [] => none
  | (i, p) :: t =>
    let w := (p.map Pulse.total).getD 0
    match lightest t with
    | none => some (i, w)
    | some (j, v) => if w < v then some (i, w) else some (j, v)

/-- A run's result with one more rejection. -/
def HatchRun.reject (r : HatchRun) (why node : Nat) : HatchRun := { r with rejects := r.rejects ++ [(why, node)] }

/-- A reserved bit of a detection record is 1, R82 FORMAT. -/
def Detection.badFormat (d : Detection) : Bool :=
  d.typ != 1 || decide (d.flags / 64 % 4 ≠ 0) || decide (d.node / 4096 ≠ 0) || d.rsv != 0

/-- Launch of a new pulse in a slot: placed, then advanced by one step (R84). -/
def launch (g : Graph) (c : HatchCfg) (d : Detection) (placed : List Cand) (speed slot : Nat) (r : HatchRun) :
    HatchRun :=
  let p : Pulse := {
    speed := speed, cls := d.cls, sensor := d.node % 4096, age := 0, refresh := 0,
    hyps := sortBy Hyp.before (placed.map fun k => ⟨k.edge, min (k.x * 256) (g.length k.edge * 256 - 1), k.share⟩) }
  { r with pulses := Tab.set (fun _ => none) r.pulses slot (stepPulse g c p), launch := r.launch + 1 }

/-- One detection taken: the checks of R82 in order, association (R83), launch (R84), eviction (R85). -/
def takeDet (g : Graph) (c : HatchCfg) (r : HatchRun) (d : Detection) : HatchRun :=
  let n := d.node % 4096
  if d.badFormat then r.reject 1 n
  else match g.binding n with
  | none => r.reject 2 n
  | some b =>
    if d.cls = 7 ∨ c.prof d.cls (Fd.HATCH_PROFILE_EN d.cls) = 0 ∨ (getF b.w1 24 8).testBit d.cls = false then
      r.reject 3 n
    else
      let cs := g.candidates d b
      let w0 := launchW d.conf
      if cs.isEmpty then r.reject 4 n
      else if w0 < c.dropW then r.reject 5 n
      else
        let speed := if d.spdValid then d.speed else c.prof d.cls (Fd.HATCH_PROFILE_DEF_SPEED d.cls)
        match r.pulses.find? fun (_, p) => (p.map (assocOk c d cs)).getD false with
        | some (i, p) =>
          { r with pulses := Tab.set (fun _ => none) r.pulses i (p.map (associate c d cs speed)), assoc := r.assoc + 1 }
        | none =>
          let placed := cs.filter fun k => !decide (k.share < c.dropW)
          if placed.isEmpty then r.reject 5 n
          else
            let slot := freeSlot 0 r.pulses
            if slot < 2048 then launch g c d placed speed slot r
            else match lightest r.pulses with
              | none => r.reject 6 n
              | some (i, w) =>
                if w < w0 then
                  launch g c d placed speed i { r with evicts := r.evicts ++ [(i, w, w0)] }
                else r.reject 6 n

/-- Every hypothesis with its slot, R90. -/
def allHyps (t : Tab (Option Pulse)) : List (Nat × Hyp) :=
  t.flatMap fun (i, p) => ((p.map (·.hyps)).getD []).map fun h => (i, h)

/-- The order in which the global cap removes, R90. -/
def removedFirst (a b : Nat × Hyp) : Bool :=
  decide (a.2.w < b.2.w) || (a.2.w == b.2.w && (decide (a.1 > b.1) || (a.1 == b.1 &&
    (decide (a.2.edge > b.2.edge) || (a.2.edge == b.2.edge && decide (a.2.pos > b.2.pos))))))

/-- One hypothesis of a slot removed; a pulse left with none ends. -/
def removeHyp (t : Tab (Option Pulse)) (x : Nat × Hyp) : Tab (Option Pulse) :=
  match Tab.get (fun _ => none) t x.1 with
  | none => t
  | some p =>
    let hs := p.hyps.erase x.2
    Tab.set (fun _ => none) t x.1 (if hs.isEmpty then none else some { p with hyps := hs })

/-- Stage 3: the global cap of 8,192 hypotheses, R90. -/
def globalCap (r : HatchRun) : HatchRun :=
  let all := allHyps r.pulses
  if all.length ≤ 8192 then r
  else
    let gone := (sortBy removedFirst all).take (all.length - 8192)
    let t := gone.foldl removeHyp r.pulses
    { r with pulses := t, capped := gone.length, ended := r.pulses.length - t.length }

/-! ### Rendering (R92) -/

/-- The shape of a profile: full to R/2, linear to 0 at R. -/
def shape (r d : Nat) : Nat := if r = 0 ∨ r ≤ d then 0 else min 32768 ((r - d) * 65536 / r)

/-- The largest value emitted to a node so far. -/
def emit (peak : Nat) (t : Tab Nat) (node s w : Nat) : Tab Nat :=
  let v := (peak * ((s * w + 16384) / 32768) + 16384) / 32768
  Tab.set (fun _ => 0) t node (max (Tab.get (fun _ => 0) t node) v)

/-- Light ahead beyond an edge: `hops` successors further at most, R92. -/
def renderAhead (g : Graph) (dropW peak a cls : Nat) : Nat → Nat → Nat → Nat → Tab Nat → Tab Nat
  | 0, _, _, _, t => t
  | hops + 1, e, base, w, t =>
    if a ≤ base then t
    else (g.split e w cls).foldl (fun t (ce, cw) =>
      if cw < dropW then t
      else
        let t := (g.attsOf ce).foldl (fun t i => emit peak t (g.attNode i) (shape a (base + g.attOffset i)) cw) t
        renderAhead g dropW peak a cls hops ce (base + g.length ce) cw t) t

/-- One hypothesis rendered, R92. -/
def renderHyp (g : Graph) (c : HatchCfg) (p : Pulse) (t : Tab Nat) (h : Hyp) : Tab Nat :=
  let pf := fun f => c.prof p.cls f
  let t16 := min (pf (Fd.HATCH_PROFILE_AHEAD_T p.cls)) c.horizon
  let a := max (pf (Fd.HATCH_PROFILE_AHEAD_MIN p.cls)) ((p.speed * t16 + 8) / 16)
  let b := pf (Fd.HATCH_PROFILE_BEHIND p.cls)
  let peak := pf (Fd.HATCH_PROFILE_PEAK p.cls)
  let x := h.pos / 256
  let t := (g.attsOf h.edge).foldl (fun t i =>
    let o := g.attOffset i
    if x ≤ o then emit peak t (g.attNode i) (shape a (o - x)) h.w
    else emit peak t (g.attNode i) (shape b (x - o)) h.w) t
  let t := renderAhead g c.dropW peak a p.cls 4 h.edge (g.length h.edge - x) h.w t
  if x < b then
    (g.inEdges (g.fromVtx h.edge)).foldl (fun t ie =>
      (g.attsOf ie).foldl (fun t i =>
        emit peak t (g.attNode i) (shape b (x + g.length ie - g.attOffset i)) h.w) t) t
  else t

/-- Stage 4: the contribution buffer of every pulse. -/
def render (g : Graph) (c : HatchCfg) (ps : Tab (Option Pulse)) : Tab Nat :=
  ps.foldl (fun t (_, p) => match p with
    | none => t
    | some q => q.hyps.foldl (renderHyp g c q) t) []

/-- The whole run of R72 from Hatch's state, the frozen detections and k. -/
def hatchRun (g : Graph) (c : HatchCfg) (k : Nat) (ps : Tab (Option Pulse)) (frozen : List Detection) : HatchRun :=
  let dets := sortBy Detection.before frozen
  let r : HatchRun := {
    pulses := stepAll g c k ps, contrib := [], left := dets.drop c.detMax, launch := 0, assoc := 0,
    rejects := [], evicts := [], capped := 0, ended := 0 }
  let r := globalCap ((dets.take c.detMax).foldl (takeDet g c) r)
  { r with contrib := render g c r.pulses }

/-! ### The digest (R86, R95) -/

/-- The hypotheses of all pulses in slot order, each a 64-bit word. -/
def Hyp.word (h : Hyp) : Nat := h.w * 2 ^ 48 + h.edge * 2 ^ 34 + h.pos

/-- The 16 bytes of a pulse slot whose first hypothesis stands at index `first`. -/
def Pulse.bytes (p : Pulse) (first : Nat) : List Nat :=
  leBytes 2 p.speed ++ leBytes 2 first ++ [p.hyps.length % 256, p.cls] ++ leBytes 2 p.sensor ++ leBytes 4 p.age ++
  leBytes 2 p.refresh ++ [0, 0]

/-- The bytes of the slots from slot i on, n slots in all. -/
def slotBytes : Nat → Nat → Nat → Tab (Option Pulse) → List Nat
  | 0, _, _, _ => []
  | n + 1, i, first, t =>
    match Tab.get (fun _ => none) t i with
    | none => List.replicate 16 0 ++ slotBytes n (i + 1) first t
    | some p => p.bytes first ++ slotBytes n (i + 1) (first + p.hyps.length) t

/-- HATCH.DIGEST of a state and its contribution buffer. -/
def digest (ps : Tab (Option Pulse)) (contrib : Tab Nat) : Nat :=
  let hyps := (allHyps ps).map (·.2.word)
  crc32 (slotBytes 2048 0 0 ps ++
    ((List.range 8192).flatMap fun i => leBytes 8 ((hyps[i]?).getD 0)) ++
    ((List.range 4096).flatMap fun i => leBytes 2 (Tab.get (fun _ => 0) contrib i)))

/-! ### What a completed run does to the page (R95, R98, R99) -/

/-- The page counter of a rejection reason. -/
def rejFld (why : Nat) : Fld :=
  if why = 1 then Fd.HATCH_DET_REJ2_FORMAT else if why = 2 then Fd.HATCH_DET_REJ_UNBOUND
  else if why = 3 then Fd.HATCH_DET_REJ_CLASS else if why = 4 then Fd.HATCH_DET_REJ_HEADING
  else if why = 5 then Fd.HATCH_DET_REJ2_WEIGHT else Fd.HATCH_DET_REJ_FULL

/-- A rejection is counted, and its event raised at most once per reason per second (R82, R98). -/
def State.hatchReject (s : State) (why node : Nat) : State :=
  let s := (s.add (rejFld why) 1).irq Pg.hatch 1
  let n := Tab.get (fun _ => 0) s.hatch.rejCnt why + 1
  if limitOk (Tab.get (fun _ => none) s.hatch.rejAt why) s.ns 1 then
    let s := { s with hatch := { s.hatch with
      rejCnt := Tab.set (fun _ => 0) s.hatch.rejCnt why 0,
      rejAt := Tab.set (fun _ => none) s.hatch.rejAt why (some s.ns) } }
    s.raise Ev.HATCH_DET_REJECT Pg.hatch [why, node, n]
  else { s with hatch := { s.hatch with rejCnt := Tab.set (fun _ => 0) s.hatch.rejCnt why n } }

/-- Hatch drops every pulse, hypothesis and queued detection, and clears the contribution buffer (R59, R97). -/
def State.hatchDrop (s : State) : State :=
  { s with hatch := { s.hatch with pulses := [], contrib := [], inq := [], frozen := [], run := none } }

/-- The run in progress completes (R72 stage 5, R95): state, buffer, counters, digest and events. -/
def State.hatchCommit (s : State) (us : Nat) : State :=
  match s.hatch.run with
  | none => s
  | some r =>
    let s := { s with
      hatch := { s.hatch with pulses := r.pulses, contrib := r.contrib, frozen := r.left, run := none },
      tick := { s.tick with runDone := true } }
    let hyps := (allHyps r.pulses).length
    let s := (s.put Fd.HATCH_PULSE_CNT_CUR (r.pulses.length % 4096)).put Fd.HATCH_HYP_CNT_CUR hyps
    let s := s.put Fd.HATCH_PULSE_CNT_PEAK (max (s.get Fd.HATCH_PULSE_CNT_PEAK) r.pulses.length)
    let s := s.put Fd.HATCH_HYP_CNT_PEAK (max (s.get Fd.HATCH_HYP_CNT_PEAK) hyps)
    let s := (s.add Fd.HATCH_DET_CNT_LAUNCH r.launch).add Fd.HATCH_DET_CNT_ASSOC r.assoc
    let s := s.put Fd.HATCH_DET_DEFER_DEFER (min r.left.length 1023)
    let s := (s.put Fd.HATCH_RUN_US_K s.tick.k).put Fd.HATCH_RUN_US_US (min us 65535)
    let s := s.put Fd.HATCH_RUN_MAX_US (max (s.get Fd.HATCH_RUN_MAX_US) (min us 65535))
    let s := s.put Fd.HATCH_DIGEST_DIGEST (digest r.pulses r.contrib)
    let s := r.rejects.foldl (fun s (w, n) => s.hatchReject w n) s
    let s := r.evicts.foldl (fun s (i, w, w0) =>
      ((s.add Fd.HATCH_DROP_CNT_EVICTED 1).irq Pg.hatch 2).raise Ev.HATCH_PULSE_EVICT Pg.hatch [i, w, w0]) s
    let s := if r.capped = 0 then s else
      ((s.add Fd.HATCH_DROP_CNT_CAPPED r.capped).irq Pg.hatch 3).raise Ev.HATCH_HYP_CAP Pg.hatch [r.capped, r.ended]
    let s := if r.left.isEmpty ∨ limitOk s.hatch.deferAt s.ns 1 = false then s else
      { s with hatch := { s.hatch with deferAt := some s.ns } }.raise Ev.HATCH_DET_DEFER Pg.hatch [r.left.length]
    (s.put (Fd.statBit Pg.hatch 8) 0).irq Pg.hatch 0

/-- A run in progress is aborted (R58): its state stays as at the edge and its frozen detections join the next set.
DEDUCED: log entry 29. -/
def State.hatchAbort (s : State) (us : Nat) : State :=
  let s := if s.hatch.run.isSome then
      let s := (s.put Fd.HATCH_RUN_US_K s.tick.k).put Fd.HATCH_RUN_US_US (min us 65535)
      s.put Fd.HATCH_RUN_MAX_US (max (s.get Fd.HATCH_RUN_MAX_US) (min us 65535))
    else s
  { s with hatch := { s.hatch with run := none } }.put (Fd.statBit Pg.hatch 8) 0

/-- The counters of the HATCH page, reset by a soft reset (R97). -/
def State.hatchZero (s : State) : State :=
  [Rg.HATCH_PULSE_CNT, Rg.HATCH_HYP_CNT, Rg.HATCH_DET_CNT, Rg.HATCH_DET_REJ, Rg.HATCH_DET_REJ2, Rg.HATCH_DET_DEFER,
   Rg.HATCH_RUN_US, Rg.HATCH_RUN_MAX, Rg.HATCH_DIGEST, Rg.HATCH_DROP_CNT].foldl (fun s a => s.wr a 0) s

/-- A run in progress ends before its window does: a flush, a soft reset, the block watchdog or a halt aborts it.  RUN_US
takes its duration (R96), which no command carries: a free value within the window (R52). DESIGN CHOICE: log entry 29. -/
def State.hatchStop (s : State) : State :=
  if s.hatch.run.isSome then
    let us := s.fresh.1.toNat % (400 * s.pms - 499)
    let s := s.fresh.2.hatchAbort us
    { s with hatch := { s.hatch with cut := us } }
  else s.hatchAbort 0

/-- CTRL.FLUSH or CTRL.SRST reaches Hatch (R97): inside the window with a run in progress it aborts the run, and the
tick counts as an overrun. DEDUCED: log entry 29. -/
def State.hatchFlush (s : State) : State := s.hatchStop.hatchDrop

end Sys2Proof.Machine
end

