-- ==== Sys2Proof/Machine/Plate.lean ====
section
/-! DEFINITION. Plate and the lamp groups: frame memory (R101, R102), compose (R103 to R109), group failure rules (R110 to
R113, R117), the Trace chip that compose applies (R201, R202). -/

namespace Sys2Proof.Machine

/-! ### Node table entries -/

/-- The entry at a node table index. -/
def State.nodeAt (s : State) (i : Nat) : Node := Tab.get (fun _ => Node.free) s.node.table i

/-- The entry at an index replaced. -/
def State.setNode (s : State) (i : Nat) (n : Node) : State :=
  { s with node := { s.node with table := Tab.set (fun _ => Node.free) s.node.table i n } }

/-- The MRAM copy of an entry refreshed from the live table (R34). -/
def State.copyNode (s : State) (i : Nat) : State :=
  { s with nv := { s.nv with
      nodes := Tab.set (fun _ => Node.free) s.nv.nodes i (s.nodeAt i), nodeBad := Tab.set (fun _ => 0) s.nv.nodeBad i 0 } }

def Node.isLantern (n : Node) : Bool := n.ident.kind.testBit 0
def Node.isSensor (n : Node) : Bool := n.ident.kind.testBit 1
def Node.comloss (n : Node) : Bool := n.dyn.link.testBit 0
def Node.latched (n : Node) : Bool := n.dyn.link.testBit 3

/-- A commissioned lantern node (R160). -/
def Node.commLantern (n : Node) : Bool := n.ident.state == 4 && n.isLantern

/-- A member for the failure rules: COMMISSIONED or QUARANTINED with KIND.LANTERN (R110). -/
def Node.member (n : Node) : Bool := (n.ident.state == 4 || n.ident.state == 5) && n.isLantern

/-- An active lamp failure: codes 1, 2, 3 or 5 (R174). -/
def Node.lampFail (n : Node) : Bool := n.dyn.fault &&& 0x17 != 0

/-- The group a member belongs to. -/
def Node.grp (n : Node) : Nat := n.ident.group % 512

/-- A LINK bit set or cleared. -/
def Node.setLink (n : Node) (b : Nat) (v : Bool) : Node :=
  { n with dyn := { n.dyn with link := setBitN n.dyn.link b v } }

/-! ### Group configuration and contactor state -/

/-- A group's configuration field from the snapshot (R53 step 4, R110). -/
def State.grpCfg (s : State) (g : Nat) (f : Fld) : Nat := s.snapGet (inBank f g)

/-- A contactor driver. -/
def State.co (s : State) (j : Nat) : Co := Tab.get (fun _ => Co.init) s.io.co j

/-- A contactor driver replaced. -/
def State.setCo (s : State) (j : Nat) (c : Co) : State :=
  { s with io := { s.io with co := Tab.set (fun _ => Co.init) s.io.co j c } }

/-- co_off of R117: the feeding contactor is sensed OFF at the edge. -/
def State.coOff (s : State) (g : Nat) : Bool :=
  s.grpCfg g Fd.GROUP_GRP_MODE_CO_EN == 1 && !(s.co (s.grpCfg g Fd.GROUP_GRP_MODE_CO)).on

/-- EVAL_HOLD of R117. DEDUCED: log entry 48. -/
def State.evalHold (s : State) (g : Nat) : Bool :=
  s.grpCfg g Fd.GROUP_GRP_MODE_CO_EN == 1 && (s.co (s.grpCfg g Fd.GROUP_GRP_MODE_CO)).hold != 0

/-- A member is failed at the edge (R111, R117). -/
def State.memberFailed (s : State) (n : Node) : Bool :=
  n.member && !s.coOff n.grp && !s.evalHold n.grp &&
  (n.lampFail || (n.comloss && s.grpCfg n.grp Fd.GROUP_GRP_MODE_COMLOSS_FAIL == 1))

/-- The failed members of a group, in index order. -/
def State.failedOf (s : State) (g : Nat) : List Nat :=
  s.node.table.filterMap fun (i, n) => if n.grp = g ∧ s.memberFailed n then some i else none

/-- GRP_STAT.MEMBERS: commissioned lantern nodes in the group. -/
def State.membersOf (s : State) (g : Nat) : Nat :=
  (s.node.table.filter fun (_, n) => n.commLantern && n.grp == g).length

/-- A group's compose state. -/
def State.grpSt (s : State) (g : Nat) : GrpSt := Tab.get (fun _ => GrpSt.init) s.plate.grp g

/-- GRP_STAT of a group (R120). -/
def State.grpStat (s : State) (g : Nat) : Word :=
  BitVec.ofNat 32 (b2n (s.grpSt g).broken * 2 ^ 31 + b2n (s.coOff g) * 2 ^ 30 + b2n (s.evalHold g) * 2 ^ 29 +
    (s.failedOf g).length % 8192 * 65536 + s.membersOf g % 8192)

/-! ### The Trace chip (R201, R202) -/

/-- The base sequence from a window of its seven bits. -/
def chipSeq : Nat → List Bool → List Bool
  | 0, _ => []
  | n + 1, w =>
    let a := (w[0]?).getD false
    let b := (w[1]?).getD false
    a :: chipSeq n (w.drop 1 ++ [a != b])

/-- a[0..126] of R201. -/
def chipBase : List Bool := chipSeq 127 (List.replicate 7 true)

/-- a[m mod 127]. -/
def chipAt (m : Nat) : Bool := (chipBase[m % 127]?).getD false

/-- A Trace slot. -/
def State.slot (s : State) (k : Nat) : TraceSlot := Tab.get (fun _ => TraceSlot.init) s.met.slot k

/-- A Trace slot replaced. -/
def State.setSlot (s : State) (k : Nat) (t : TraceSlot) : State :=
  { s with met := { s.met with slot := Tab.set (fun _ => TraceSlot.init) s.met.slot k t } }

/-- The running slot that traces node i in the present tick, with its chip number. -/
def State.traceOf (s : State) (i : Nat) : Option (Nat × Nat) :=
  (s.met.slot.find? fun (_, t) => t.state == 1 && t.node == i && decide (t.start ≤ s.tick.num) &&
    decide (s.tick.num < t.start + 127)).map fun (k, t) => (k, s.tick.num - t.start)

/-! ### Compose arithmetic (R104, R106) -/

/-- The lumen factor of R106. -/
def State.lumen (s : State) (n : Node) : Nat :=
  if s.snapGet Fd.PLATE_LF_CFG_EN = 0 then 32768
  else
    let bh := if n.dyn.link.testBit 1 then n.dyn.burnH else 0
    let tref : Int := (s.snapGet Fd.PLATE_LF_CFG_TREF : Nat)
    let tmp : Int := if n.dyn.temp % 256 = 128 then tref else signed 8 n.dyn.temp
    let age := 32768 - min 16384 (bh * s.snapGet Fd.PLATE_LF_CFG_DEP_PER_KH / 1000)
    let tmpf := 32768 - min 8192 ((max 0 (tmp - tref)).toNat * s.snapGet Fd.PLATE_LF_CFG_TEMP_COEF)
    (age * tmpf + 16384) / 32768

/-- A ramp rate in levels per compose (R104). -/
def rampStep (rate pms : Nat) : Nat := max 1 ((rate * 16 * pms + 500) / 1000)

/-- The level after one step of a ramp (R104). -/
def rampTo (l t up dn : Nat) : Nat := if l < t then min t (l + up) else max t (l - dn)

/-- The frame memory entry of a drive at a dimming depth (R104). -/
def quantise (dv depth : Nat) : Nat :=
  let dep := max 8 (min depth 16)
  let sh := 16 - dep
  let c := min ((dv + 2 ^ sh / 2) / 2 ^ sh) (2 ^ dep - 1)
  (if 0 < dv ∧ c = 0 then 1 else c) * 2 ^ sh

/-- The drive that gives a level at a lumen factor, before the cap (R104). -/
def driveOf (l lf : Nat) : Nat := if l = 0 then 0 else (l * 32768 + lf / 2) / lf

/-- What compose makes of one node: level, entry, whether its cap cut its drive, and its chip if it is traced. -/
structure Composed where
  l : Nat
  entry : Nat
  capped : Bool
  chip : Option (Nat × Bool)

/-- The base level of a group held by the schedule engine (R103, R251). -/
def State.baseLvl (s : State) (g : Nat) : Nat := Tab.get (fun _ => 0) s.sched.base g

/-- Compose of one commissioned lantern node (R104, R202); `broken` and `latched` are as the group update left them.
DEDUCED: log entry 47. -/
def State.composeNode (s : State) (i : Nat) (n : Node) (broken latched : Bool) : Composed :=
  let g := n.grp
  let hc := if s.mode = 1 then Tab.get (fun _ => 0) s.hatch.contrib i else 0
  let t0 := min (max (max (s.baseLvl g) hc) (s.grpCfg g ⟨Rg.GROUP_GRP_MIN, 0, 16⟩)) (s.grpCfg g ⟨Rg.GROUP_GRP_MAX, 0, 16⟩)
  let t1 := if broken then s.grpCfg g ⟨Rg.GROUP_FAIL_LVL, 0, 16⟩ else t0
  let st1 := broken && s.grpCfg g Fd.GROUP_GRP_MODE_FAIL_STEP == 1
  let dark := latched || s.coOff g
  let t := if dark then 0 else t1
  let step := dark || st1
  let up := rampStep (s.grpCfg g Fd.GROUP_GRP_RAMP_RAMP_UP) s.pms
  let dn := rampStep (s.grpCfg g Fd.GROUP_GRP_RAMP_RAMP_DN) s.pms
  let l := if step then t else rampTo n.dyn.l t up dn
  let full := driveOf l (s.lumen n)
  let cap := min n.ident.driveCap 65535
  let dv := min full cap
  let low := decide (cap < full)
  match s.traceOf i with
  | none => ⟨l, quantise dv n.ident.depth, low, none⟩
  | some (k, j) =>
    if s.snapGet Fd.TRACE_CFG_MIN_LVL ≤ l ∧ step = false then
      let m := (dv * 983 + 16384) / 32768
      let dv := if chipAt (j + 8 * (k % 16)) then min (dv + m) cap else dv - m
      ⟨l, quantise dv n.ident.depth, low, some (k, true)⟩
    else ⟨l, quantise dv n.ident.depth, low, some (k, false)⟩

/-! ### Group update (R112, R113) -/

/-- Group g updated at a compose: its new state and the event it raises. DEDUCED: log entry 46. -/
def State.composeGroup (s : State) (g : Nat) : GrpSt × List Raise :=
  let st := s.grpSt g
  let failed := s.failedOf g
  if s.grpCfg g Fd.GROUP_GRP_MODE_MODE = 1 then
    if st.broken then
      if s.plate.brkFrz.contains g ∧ failed.isEmpty then
        (GrpSt.init, [⟨Ev.GROUP_RESTORED, Pg.group, [g, st.spent]⟩])
      else ({ st with spent := st.spent + 1 }, [])
    else if failed.isEmpty then (GrpSt.init, [])
    else ({ broken := true, spent := 1 }, [⟨Ev.GROUP_BROKEN, Pg.group, [g, failed.headD 0, failed.length]⟩])
  else if st.broken then (GrpSt.init, [⟨Ev.GROUP_RESTORED, Pg.group, [g, st.spent]⟩])
  else (GrpSt.init, [])

/-- A frozen LATCH_CLR names this member (R113). -/
def State.latchCleared (s : State) (i : Nat) (n : Node) : Bool :=
  s.plate.latFrz.any fun r => r.group == n.grp && (r.all || r.node == i)

/-- The latch of a member after the group update, and the event it raises (R112, R113). -/
def State.composeLatch (s : State) (i : Nat) (n : Node) : Bool × List Raise :=
  if s.grpCfg n.grp Fd.GROUP_GRP_MODE_MODE = 2 then
    if s.memberFailed n then
      (true, if n.latched then [] else [⟨Ev.LAMP_LATCHED_OFF, Pg.group, [i, n.grp]⟩])
    else (n.latched && !s.latchCleared i n, [])
  else (false, [])

/-- The groups whose state can change or stand: those that are broken and those with a failed member. -/
def State.liveGroups (s : State) : List Nat :=
  (List.range 512).filter fun g => (s.grpSt g).broken || !(s.failedOf g).isEmpty

/-- Compose into working copies (R104, R108). -/
def State.compose (s : State) : ComposeWork :=
  let gr := s.liveGroups.map fun g => (g, s.composeGroup g)
  let grp : Tab GrpSt := gr.foldl (fun t (g, st, _) => Tab.set (fun _ => GrpSt.init) t g st) []
  let mem := s.node.table.filter fun (_, n) => n.member
  let lat := mem.map fun (i, n) => (i, n, s.composeLatch i n)
  let cmp := lat.filterMap fun (i, n, l, _) =>
    if n.commLantern then some (i, n, s.composeNode i n (Tab.get (fun _ => GrpSt.init) grp n.grp).broken l) else none
  let nodes := lat.map fun (i, n, l, _) =>
    (i, match cmp.find? fun c => c.1 == i with
      | some (_, _, c) => ({ n with dyn := { n.dyn with l := c.l } } : Node).setLink 3 l
      | none => n.setLink 3 l)
  let capped := cmp.filter fun (_, _, c) => c.capped
  { back := cmp.foldl (fun t (i, _, c) => Tab.set (fun _ => 0) t i c.entry) []
    nodes := nodes
    grp := grp
    chips := cmp.filterMap fun (_, _, c) => c.chip
    capCnt := capped.length
    capLow := (capped.map (·.1)).headD 0
    raises := (gr.flatMap fun (_, _, r) => r) ++ lat.flatMap fun (_, _, _, r) => r }

/-! ### Frame memory (R101, R109) -/

/-- CRC-32 over the 4,096 entries of a buffer, each as 2 bytes little-endian (R109). -/
def bufCsum (b : Tab Nat) : Nat := crc32 ((List.range 4096).flatMap fun i => leBytes 2 (Tab.get (fun _ => 0) b i))

/-- The front buffer. -/
def State.front (s : State) : Tab Nat := if s.get Fd.PLATE_BUF_SEL_FRONT = 0 then s.plate.buf0 else s.plate.buf1

/-- The back buffer; during a compose, the entries composed so far (R119). -/
def State.back (s : State) : Tab Nat :=
  match s.plate.work with
  | some w => w.back
  | none => if s.get Fd.PLATE_BUF_SEL_FRONT = 0 then s.plate.buf1 else s.plate.buf0

/-- The indices at which two buffers differ. -/
def bufDiff (a b : Tab Nat) : List Nat :=
  (a.filterMap fun (i, v) => if Tab.get (fun _ => 0) b i = v then none else some i) ++
  (b.filterMap fun (i, _) => if (a.map (·.1)).contains i then none else some i)

/-- The swap of R53 step 3 with its change marks (R101); the pending checksum becomes readable (R109). -/
def State.plateSwap (s : State) : State :=
  let d := bufDiff s.front s.back
  let marks := d.foldl (fun t i => Tab.set (fun _ => false) t i true) s.plate.marks
  let s := { s with plate := { s.plate with marks := marks } }
  let s := s.put Fd.PLATE_BUF_SEL_FRONT (1 - s.get Fd.PLATE_BUF_SEL_FRONT)
  let s := (s.wr Rg.PLATE_CSUM s.plate.csum).put ⟨Rg.PLATE_CHG_CNT, 0, 13⟩ d.length
  (s.addWrap (whole Rg.PLATE_SWAP_CNT) 1).irq Pg.plate 0

/-- Compose starts (R104): in NORMAL mode not in an overrun tick (R61), in the other modes in every tick. -/
def State.composeStart (s : State) : State :=
  { s with plate := { s.plate with work := some s.compose } }.put (Fd.statBit Pg.plate 8) 1

/-- The interrupt bit of a group event (R120). -/
def groupIrq (e : Ev) : Nat := if e = Ev.GROUP_BROKEN then 0 else if e = Ev.GROUP_RESTORED then 1 else 2

/-- The working copy of one node committed: its level and its latch (R108).  A changed latch is copied at once (R34). -/
def State.commitNode (s : State) (i : Nat) (w : Node) : State :=
  let n := s.nodeAt i
  let t := s.setNode i (({ n with dyn := { n.dyn with l := w.dyn.l } } : Node).setLink 3 w.latched)
  if n.latched = w.latched then t else t.copyNode i

/-- A chip of a traced node recorded: whether it was applied (R202). -/
def State.recordChip (s : State) (k : Nat) (ok : Bool) : State :=
  let t := s.slot k
  s.setSlot k { t with chips := t.chips ++ [ok] }

/-- Compose completes in `us` µs: the working copies are committed and the checksum is pending (R108, R109). DEDUCED:
log entries 45, 150. -/
def State.composeDone (s : State) (us : Nat) : State :=
  match s.plate.work with
  | none => s
  | some w =>
    let s := { s with
      plate := { s.plate with
        work := none, grp := w.grp, csum := BitVec.ofNat 32 (bufCsum w.back), brkFrz := [], latFrz := []
        buf0 := if s.get Fd.PLATE_BUF_SEL_FRONT = 0 then s.plate.buf0 else w.back
        buf1 := if s.get Fd.PLATE_BUF_SEL_FRONT = 0 then w.back else s.plate.buf1 }
      tick := { s.tick with composeDone := true } }
    let s := w.nodes.foldl (fun s (i, n) => s.commitNode i n) s
    let s := w.chips.foldl (fun s (k, ok) => s.recordChip k ok) s
    let s := w.raises.foldl (fun s r => (s.irq Pg.group (groupIrq r.ev)).raise r.ev r.src r.params) s
    let s := (s.put ⟨Rg.PLATE_CAP_CNT, 0, 13⟩ w.capCnt).put ⟨Rg.PLATE_COMP_US, 0, 16⟩ (min us 65535)
    let s := (s.put (Fd.statBit Pg.plate 8) 0).irq Pg.plate 1
    if w.capCnt = 0 then s
    else
      let s := s.irq Pg.plate 2
      if limitOk s.plate.cappedAt s.ns 3600 then
        { s with plate := { s.plate with cappedAt := some s.ns } }.raise Ev.DRIVE_CAPPED Pg.plate [w.capCnt, w.capLow]
      else s

/-- Compose abandoned at 0.50 P (R62): no trace but the counter, the event and the interrupt bit. DEDUCED: log entry
45. -/
def State.composeMiss (s : State) (nodes : Nat) : State :=
  let s := { s with plate := { s.plate with work := none } }.put (Fd.statBit Pg.plate 8) 0
  ((s.add Fd.TICK_MISS_COMPOSE_MISS 1).outcomeIrq 4).raise Ev.TICK_COMPOSE_MISS Pg.tick [nodes]

/-- A read of PLATE.WIN and what AUTOINC does (R119). DEDUCED: log entry 44. -/
def State.plateWin (s : State) : Word × State :=
  let i := s.get Fd.PLATE_WIN_SEL_INDEX / 2 * 2
  let b := if s.flag Fd.PLATE_WIN_SEL_BUF then s.back else s.front
  let e := fun j => Tab.get (fun _ => 0) b j
  let s' := if s.flag Fd.PLATE_WIN_SEL_AUTOINC then s.put Fd.PLATE_WIN_SEL_INDEX ((i + 2) % 4096) else s
  (BitVec.ofNat 32 (e (i + 1) * 65536 + e i), s')

/-- A write of 1 bits to BROKENk: each requests the clear of R113. -/
def State.brokenClear (s : State) (k : Nat) (v : Word) : State :=
  let gs := ((List.range 32).filter fun j => bitW v j).map (32 * k + ·)
  { s with plate := { s.plate with brkReq := s.plate.brkReq ++ gs } }

/-- A write of LATCH_CLR for the group of GRP_SEL (R113, R120). -/
def State.latchClr (s : State) (v : Word) : State :=
  let r : LatchReq := { group := s.get ⟨Rg.GROUP_GRP_SEL, 0, 9⟩, all := bitW v 31, node := getF v 0 12 }
  { s with plate := { s.plate with latReq := s.plate.latReq ++ [r] } }

/-- BROKENk as read. -/
def State.brokenWord (s : State) (k : Nat) : Word :=
  BitVec.ofNat 32 (((List.range 32).filter fun j => (s.grpSt (32 * k + j)).broken).foldl (fun a j => a + 2 ^ j) 0)

/-! ### Contactors (R114 to R117, R184, R441) -/

/-- COj.LEN, the pulse length in ms. -/
def State.coLen (s : State) (j : Nat) : Nat :=
  getF (s.rd (if j < 4 then Rg.IO_CO_PULSE0 else Rg.IO_CO_PULSE1)) (8 * (j % 4)) 8

/-- The contact state that the feedback input shows: closed is ON, inverted by FB_INV (R184). -/
def State.coFeedback (s : State) (j : Nat) : Bool := bitN s.io.coFb j != bitN (s.get Fd.IO_CO_CFG_FB_INV) j

/-- A driver may pulse: its enable, the role and the power state (R116, R184). -/
def State.coMayPulse (s : State) (j : Nat) : Bool :=
  bitN (s.get Fd.IO_CO_CFG_EN) j && s.transmits && (s.pwr.state == .run || s.pwr.state == .low)

/-- The drivers whose coil is energised. -/
def State.coPulsing (s : State) : List Nat := (List.range 8).filter fun j => (s.co j).phase == .pulse

/-- A driver is in its sequence: a pulse or a wait for the feedback is in progress (R115). DEDUCED: log entries 50,
186. -/
def Co.busy (c : Co) : Bool := c.phase == .pulse || c.phase == .await || c.phase == .retry

/-- A request sets the commanded state (R114); a change asks for a sequence, at once or when the present one ends, which
keeps its own source (R118).  DEDUCED: log entries 49, 186. -/
def State.coRequest (s : State) (r : CoReq) : State :=
  let c := s.co r.co
  if c.cmd = r.on then s
  else if c.busy then s.setCo r.co { c with cmd := r.on, newSrc := r.src, changed := true }
  else s.setCo r.co { c with cmd := r.on, src := r.src, phase := .queued, target := r.on, second := false }

/-- The frozen requests wait for the first edge in RUN or LOW (R116). -/
def State.coWaits (s : State) : Bool := !(s.pwr.state == .run || s.pwr.state == .low)

/-- CO_CMD: a request for each selected contactor; during its sequence it acts at once (R114, R115). -/
def State.coCmdWrite (s : State) (v : Word) : State :=
  ((List.range 8).filter fun j => bitW v (8 + j)).foldl (fun s j =>
    let r : CoReq := { co := j, on := bitW v j, src := 1 }
    if (s.co j).busy then s.coRequest r
    else { s with io := { s.io with coReq := s.io.coReq ++ [r] } }) s

/-- The frozen requests go without effect: those of the first edge after a MODULE reset (R441). -/
def State.coDrop (s : State) : State := { s with io := { s.io with coFrozen := [] } }

/-- At an edge: the frozen requests of each contactor are taken in order; the last one sets the commanded state. -/
def State.coApply (s : State) : State :=
  let last := fun j => (s.io.coFrozen.filter fun r => r.co == j).getLast?
  if s.coWaits then s
  else
    ((List.range 8).foldl (fun s j => match last j with
      | some r => s.coRequest r
      | none => s) s).coDrop

/-- The sensed states as frozen at an edge, contactor j's being `f j`: a change to ON starts the hold of R117, which covers
30,000 / P edges from this one on, and OFF ends it. -/
def State.coFreezeAs (s : State) (f : Nat → Bool) : State :=
  (List.range 8).foldl (fun s j =>
    let c := s.co j
    let hold := if f j ∧ c.on = false then 30000 / s.pms else if f j then c.hold - 1 else 0
    s.setCo j { c with on := f j, hold := hold }) s

/-- The module's own sensed states frozen; UNKNOWN counts as ON (R117). -/
def State.coFreeze (s : State) : State := s.coFreezeAs fun j => (s.co j).sensed != some false

/-- The first edge after a MODULE reset: every sensed state is read, and the commanded states follow (R441).  A reading of
ON counts as a change when this edge freezes it (R117). -/
def State.coInitialRead (s : State) : State :=
  (List.range 8).foldl (fun s j =>
    let on := s.coFeedback j
    s.setCo j { s.co j with sensed := some on, cmd := on, on := false, phase := .idle }) s

/-- The drivers are off in any role but ACTIVE and SOLO: a pulse in progress is cut short, and its feedback is read as
after any pulse (R116, R324). -/
def State.coCut (s : State) : State :=
  s.coPulsing.foldl (fun s j => s.setCo j { s.co j with phase := .await }) s

/-- A pulse starts: the driver's turn has come and fewer than two coils are energised (R115). -/
def State.coStart (s : State) (j : Nat) : State :=
  let first := ((List.range 8).find? fun i => ((s.co i).phase == .queued) && s.coMayPulse i) == some j
  if first ∧ s.coPulsing.length < 2 ∧ (s.co j).phase = .queued ∧ s.coMayPulse j then
    s.setCo j { s.co j with phase := .pulse }
  else s

/-- The pulse ends; the feedback is awaited for 100 ms. -/
def State.coEnd (s : State) (j : Nat) : State :=
  if (s.co j).phase = .pulse then s.setCo j { s.co j with phase := .await } else s

/-- A sequence ends: a change of the commanded state during it starts a new one when it differs from the sensed state.
DEDUCED: log entry 49. -/
def Co.seqEnd (c : Co) : Co :=
  if c.changed ∧ c.sensed ≠ some c.cmd then
    { c with phase := .queued, target := c.cmd, second := false, changed := false, src := c.newSrc }
  else { c with phase := .idle, second := false, changed := false }

/-- A driver replaced, with IO's interrupt bit when its sensed state changes (R187). -/
def State.senseCo (s : State) (j : Nat) (c : Co) : State :=
  if (s.co j).sensed = c.sensed then s.setCo j c else (s.setCo j c).irq Pg.io 4

/-- The feedback is read 100 ms after the pulse (R115): CO_SWITCHED, the retry, or CO_FAIL. -/
def State.coRead (s : State) (j : Nat) : State :=
  let c := s.co j
  if c.phase ≠ .await then s
  else
    let fb := s.coFeedback j
    if fb = c.target then
      let s := s.senseCo j ({ c with sensed := some fb } : Co).seqEnd
      s.raise Ev.CO_SWITCHED Pg.group [j, b2n fb, c.src]
    else if c.second then
      let s := s.senseCo j ({ c with sensed := none } : Co).seqEnd
      (s.irq Pg.group 3).raise Ev.CO_FAIL Pg.group [j, b2n c.cmd, b2n fb]
    else s.setCo j { c with phase := .retry }

/-- One second later the module pulses once more (R115). -/
def State.coRetry (s : State) (j : Nat) : State :=
  let c := s.co j
  if c.phase = .retry ∧ s.coMayPulse j ∧ s.coPulsing.length < 2 then
    s.setCo j { c with phase := .pulse, second := true }
  else s

/-- What the feedback shows becomes the sensed state where no pulse or feedback wait is in progress; a change raises
CO_EXTERNAL, which a disabled driver does not (R25, R116).  Before the first edge the state stays UNKNOWN (R441).
DEDUCED: log entry 197. -/
def State.coSense (s : State) (j : Nat) : State :=
  let c := s.co j
  let on := s.coFeedback j
  if s.tick.booted = false ∨ c.phase = .pulse ∨ c.phase = .await ∨ c.sensed = some on then s
  else
    let s := s.senseCo j { c with sensed := some on }
    if bitN (s.get Fd.IO_CO_CFG_EN) j then (s.irq Pg.group 4).raise Ev.CO_EXTERNAL Pg.group [j, b2n on] else s

/-- IO.CO_CMD as read: the commanded states in ON. -/
def State.coCmdWord (s : State) : Word :=
  BitVec.ofNat 32 (((List.range 8).filter fun j => (s.co j).cmd).foldl (fun a j => a + 2 ^ j) 0)

/-- IO.CO_FB as read. -/
def State.coFbWord (s : State) : Word :=
  let bits := fun (p : Co → Bool) => ((List.range 8).filter fun j => p (s.co j)).foldl (fun a j => a + 2 ^ j) 0
  BitVec.ofNat 32 (bits (fun c => c.sensed.isNone) * 65536 + bits Co.busy * 256 + bits (fun c => c.sensed == some true))

end Sys2Proof.Machine
end

