-- ==== Sys2Proof/Machine/Sign.lean ====
section
/-! DEFINITION. The signature schemes that rules of the spec name and that are fixed by their standards: ECDSA on P-384 with
SHA-384 (FIPS 186-5; R333, R334, R338, R349, R364) and the verification of ML-DSA-65 in its pure form with an empty context
(FIPS 204; R338, R358), with the extendable-output functions SHAKE128 and SHAKE256 (FIPS 202).  PRESUMED: log
entry 7. -/

namespace Sys2Proof.Machine

/-- a to the power e modulo m, over `n` bits of e. -/
def powMod (m : Nat) : Nat → Nat → Nat → Nat
  | 0, _, _ => 1 % m
  | n + 1, a, e => let h := powMod m n (a * a % m) (e / 2)
    if e % 2 = 1 then a * h % m else h

/-! ### ECDSA on P-384 -/

/-- The prime of the field. -/
def p384 : Nat := 2 ^ 384 - 2 ^ 128 - 2 ^ 96 + 2 ^ 32 - 1

/-- The order of the base point. -/
def p384n : Nat := 0xffffffffffffffffffffffffffffffffffffffffffffffffc7634d81f4372ddf581a0db248b0a77aecec196accc52973

/-- The constant b of the curve y² = x³ − 3x + b. -/
def p384b : Nat := 0xb3312fa7e23ee7e4988e056be3f82d19181d9c6efe8141120314088f5013875ac656398d8a2ed19d2a85c8edd3ec2aef

/-- The base point. -/
def p384g : Option (Nat × Nat) := some
  (0xaa87ca22be8b05378eb1c71ef320ad746e1d3b628ba79b9859f741e082542a385502f25dbf55296c3a545e3872760ab7,
   0x3617de4a96262c6f5d9e98bf9292dc29f8f41dbd289a147ce9da3113b5f0b8c00a60b1ce1d7e819d7a431d7c90ea0e5f)

/-- The inverse modulo a prime of 384 bits. -/
def inv384 (m a : Nat) : Nat := powMod m 384 a (m - 2)

/-- The point of slope l through a, and its third intersection mirrored. -/
def ecSlope (l x1 y1 x2 : Nat) : Option (Nat × Nat) :=
  let x := (l * l + 2 * p384 - x1 - x2) % p384
  some (x, (l * (x1 + p384 - x) + p384 - y1) % p384)

/-- The sum of two points; none is the point at infinity. -/
def ecAdd : Option (Nat × Nat) → Option (Nat × Nat) → Option (Nat × Nat)
  | none, q => q
  | p, none => p
  | some (x1, y1), some (x2, y2) =>
    if x1 = x2 then
      if (y1 + y2) % p384 = 0 then none
      else ecSlope ((3 * x1 * x1 + p384 - 3) * inv384 p384 (2 * y1) % p384) x1 y1 x1
    else ecSlope ((y2 + p384 - y1) * inv384 p384 (x2 + p384 - x1) % p384) x1 y1 x2

/-- The multiple of a point by the low n bits of k. -/
def ecMul : Nat → Nat → Option (Nat × Nat) → Option (Nat × Nat)
  | 0, _, _ => none
  | n + 1, k, p => let q := ecMul n (k / 2) (ecAdd p p)
    if k % 2 = 1 then ecAdd p q else q

/-- A public key of 97 bytes, 0x04 and both coordinates, as a point of the curve; none when it is none. PRESUMED: log entry
159. -/
def ecPoint (l : List Nat) : Option (Nat × Nat) :=
  let x := ofBe ((l.drop 1).take 48)
  let y := ofBe (l.drop 49)
  if l.length = 97 ∧ l.head? = some 4 ∧ x < p384 ∧ y < p384 ∧ (y * y + 3 * x) % p384 = (x * x * x + p384b) % p384 then
    some (x, y) else none

/-- The private key, or the number used once, that a free number stands for: 1 to n − 1. -/
def ecScalar (v : Nat) : Nat := 1 + v % (p384n - 1)

/-- The public key of a private key, 97 bytes. -/
def ecPub (d : Nat) : List Nat :=
  match ecMul 384 d p384g with
  | some (x, y) => 4 :: toBe 48 x ++ toBe 48 y
  | none => []

/-- The signature r, s of a message under private key d with the number k used once. -/
def ecSign (d k : Nat) (m : List Nat) : List Nat :=
  let r := match ecMul 384 k p384g with | some (x, _) => x % p384n | none => 0
  toBe 48 r ++ toBe 48 (inv384 p384n k * (ofBe (sha384 m) + r * d) % p384n)

/-- A signature of 96 bytes verifies under a public key. -/
def ecVerify (pub m sig : List Nat) : Bool :=
  let r := ofBe (sig.take 48)
  let s := ofBe (sig.drop 48)
  match ecPoint pub with
  | none => false
  | some q =>
    sig.length == 96 && decide (0 < r) && decide (r < p384n) && decide (0 < s) && decide (s < p384n) &&
      (let w := inv384 p384n s
       match ecAdd (ecMul 384 (ofBe (sha384 m) * w % p384n) p384g) (ecMul 384 (r * w % p384n) (some q)) with
       | some (x, _) => x % p384n == r
       | none => false)

/-! ### SHAKE -/

/-- Rotation to the left in 64 bits. -/
def rotl64 (x n : Nat) : Nat := x * 2 ^ n % 2 ^ 64 + x / 2 ^ (64 - n)

/-- The rotations of ρ, lane (x, y) at x + 5y. -/
def keccakRot : List Nat :=
  [0, 1, 62, 28, 27, 36, 44, 6, 55, 20, 3, 10, 43, 25, 39, 41, 45, 15, 21, 8, 18, 2, 61, 56, 14]

/-- The constants of ι. -/
def keccakRc : List Nat :=
  [0x1, 0x8082, 0x800000000000808A, 0x8000000080008000, 0x808B, 0x80000001, 0x8000000080008081, 0x8000000000008009, 0x8A, 0x88,
    0x80008009, 0x8000000A, 0x8000808B, 0x800000000000008B, 0x8000000000008089, 0x8000000000008003, 0x8000000000008002,
    0x8000000000000080, 0x800A, 0x800000008000000A, 0x8000000080008081, 0x8000000000008080, 0x80000001, 0x8000000080008008]

/-- One round of Keccak-f[1600] on 25 lanes. -/
def keccakRound (a : List Nat) (rc : Nat) : List Nat :=
  let g := fun (l : List Nat) (i : Nat) => (l[i]?).getD 0
  let c := (List.range 5).map fun x => (((g a x ^^^ g a (x + 5)) ^^^ g a (x + 10)) ^^^ g a (x + 15)) ^^^ g a (x + 20)
  let d := (List.range 5).map fun x => g c ((x + 4) % 5) ^^^ rotl64 (g c ((x + 1) % 5)) 1
  let b := (List.range 25).map fun i =>
    let j := (i % 5 + 3 * (i / 5)) % 5 + 5 * (i % 5)
    rotl64 (g a j ^^^ g d (j % 5)) (g keccakRot j)
  let r := (List.range 25).map fun i =>
    let y := 5 * (i / 5)
    g b i ^^^ ((2 ^ 64 - 1 - g b ((i + 1) % 5 + y)) &&& g b ((i + 2) % 5 + y))
  match r with
  | [] => []
  | x :: l => (x ^^^ rc) :: l

/-- Keccak-f[1600]. -/
def keccak (a : List Nat) : List Nat := keccakRc.foldl keccakRound a

/-- n blocks of `rate` bytes squeezed. -/
def shakeOut (rate : Nat) : Nat → List Nat → List Nat
  | 0, _ => []
  | n + 1, a => ((a.take (rate / 8)).flatMap (leBytes 8)) ++ shakeOut rate n (keccak a)

/-- n blocks of the output of SHAKE128 (rate 168) or SHAKE256 (rate 136) on a message. -/
def shake (rate n : Nat) (m : List Nat) : List Nat :=
  let z := rate - 1 - m.length % rate
  let p := m ++ (if z = 0 then [0x9F] else 0x1F :: List.replicate (z - 1) 0 ++ [0x80])
  let a := (pieces rate (p.length / rate) p).foldl (fun a b =>
    keccak (List.zipWith (· ^^^ ·) a ((pieces 8 (rate / 8) b).map ofLe ++ List.replicate (25 - rate / 8) 0)))
      (List.replicate 25 0)
  shakeOut rate n a

/-- 64 bytes of SHAKE256. -/
def shake64 (m : List Nat) : List Nat := (shake 136 1 m).take 64

/-! ### ML-DSA-65 -/

/-- The modulus q. -/
def dsaQ : Nat := 8380417

/-- Eight bits reversed. -/
def bitRev8 (i : Nat) : Nat := (List.range 8).foldl (fun r b => 2 * r + i / 2 ^ b % 2) 0

/-- The powers of 1753 at which the transform evaluates a polynomial. -/
def dsaZetas : List Nat := (List.range 256).map fun i => powMod dsaQ 10 1753 (2 * bitRev8 i + 1)

/-- The number-theoretic transform of a polynomial of 256 coefficients. -/
def ntt (w : List Nat) : List Nat := dsaZetas.map fun z => w.foldr (fun c acc => (c + z * acc) % dsaQ) 0

/-- `n` coefficients of the inverse transform, from the lowest; z are the inverses of the points, h the terms of the next
coefficient. -/
def nttInvFrom (z : List Nat) : Nat → List Nat → List Nat
  | 0, _ => []
  | n + 1, h => h.foldl (fun a x => (a + x) % dsaQ) 0 * powMod dsaQ 23 256 (dsaQ - 2) % dsaQ ::
      nttInvFrom z n (List.zipWith (fun x y => x * y % dsaQ) h z)

/-- The inverse transform. -/
def nttInv (w : List Nat) : List Nat := nttInvFrom (dsaZetas.map fun z => powMod dsaQ 23 z (dsaQ - 2)) 256 w

/-- Entry (r, s) of the matrix expanded from seed rho, in the transformed domain. -/
def dsaEntry (rho : List Nat) (r s : Nat) : List Nat :=
  ((pieces 3 1000 (shake 168 12 (rho ++ [s, r]))).map (fun b => ofLe b % 2 ^ 23)).filter (fun x => decide (x < dsaQ)) |>.take 256

/-- The values of w bits packed into bytes, n of them. -/
def unpackBits (w n : Nat) (l : List Nat) : List Nat :=
  let v := ofLe l
  (List.range n).map fun i => v / 2 ^ (w * i) % 2 ^ w

/-- The ball's next coefficient: the first byte up to i, and the bytes after it. -/
def ballByte (i : Nat) : List Nat → Nat × List Nat
  | [] => (0, [])
  | b :: l => if b ≤ i then (b, l) else ballByte i l

/-- SampleInBall from coefficient `256 - n` on: sign bits, bytes left, polynomial. -/
def ballFrom (signs : Nat) : Nat → List Nat → List Nat → List Nat
  | 0, _, poly => poly
  | n + 1, l, poly =>
    let i := 255 - n
    let p := ballByte i l
    let moved := poly.set i ((poly[p.1]?).getD 0)
    ballFrom signs n p.2 (moved.set p.1 (if signs.testBit (i + 49 - 256) then dsaQ - 1 else 1))

/-- The challenge polynomial of a challenge hash. -/
def sampleInBall (ct : List Nat) : List Nat :=
  let b := shake 136 4 ct
  ballFrom (ofLe (b.take 8)) 49 (b.drop 8) (List.replicate 256 0)

/-- The positions that the hint of one polynomial names rise. -/
def rising : List Nat → Bool
  | a :: b :: l => decide (a < b) && rising (b :: l)
  | _ => true

/-- The hint bits of polynomial k on, for n polynomials; none when the encoding is bad. -/
def hintRows (y : List Nat) : Nat → Nat → Nat → Option (List (List Nat))
  | 0, _, first => if (y.take 55).drop first |>.all (· == 0) then some [] else none
  | n + 1, k, first =>
    let e := byteAt y (55 + k)
    let row := (y.take e).drop first
    if e < first ∨ 55 < e ∨ rising row = false then none else (hintRows y n (k + 1) e).map (row :: ·)

/-- UseHint of one coefficient: its high part, corrected by the hint. -/
def useHint (h : Bool) (r : Nat) : Nat :=
  let g := 523776
  let r0 := r % g
  let pos := decide (0 < r0) && decide (r0 ≤ g / 2)
  let r1 := if r0 ≤ g / 2 then r / g else r / g + 1
  let pos := if r1 = 16 then false else pos
  let r1 := r1 % 16
  if !h then r1 else if pos then (r1 + 1) % 16 else (r1 + 15) % 16

/-- A signature of 3,309 bytes verifies under an ML-DSA-65 public key of 1,952 bytes. -/
def dsaVerify (pk m sig : List Nat) : Bool :=
  let rho := pk.take 32
  let t1 := (pieces 320 6 (pk.drop 32)).map (unpackBits 10 256)
  let ct := sig.take 48
  let z := (pieces 640 5 ((sig.drop 48).take 3200)).map fun b => (unpackBits 20 256 b).map fun (v : Nat) => (2 ^ 19 : Int) - (v : Int)
  match hintRows (sig.drop 3248) 6 0 0 with
  | none => false
  | some h =>
    let mu := shake64 (shake64 pk ++ [0, 0] ++ m)
    let c := ntt (sampleInBall ct)
    let zn := z.map fun p => ntt (p.map fun v => (v % (dsaQ : Int)).toNat)
    let w1 := (List.range 6).flatMap fun r =>
      let az := zn.zipIdx.foldl (fun a p => List.zipWith (fun x y => (x + y) % dsaQ) a
        (List.zipWith (fun x y => x * y % dsaQ) (dsaEntry rho r p.2) p.1)) (List.replicate 256 0)
      let t := ntt (((t1[r]?).getD []).map (· * 2 ^ 13))
      let w := nttInv (List.zipWith (fun a p => (a + (dsaQ - p.1 * p.2 % dsaQ)) % dsaQ) az (List.zip c t))
      let row := (h[r]?).getD []
      w.zipIdx.map fun x => useHint (row.contains x.2) x.1
    let enc := (pieces 2 768 w1).map fun p => (p.headD 0) + 16 * (p.getLastD 0)
    pk.length == 1952 && sig.length == 3309 &&
      z.all (fun p => p.all fun v => decide (v.natAbs < 2 ^ 19 - 196)) && ((shake 136 1 (mu ++ enc)).take 48 == ct)

/-! ### Keys as Ground holds them -/

/-- The P-384 half of an anchor pair, or a public key by itself. PRESUMED: log entry 159. -/
def ecHalf (mat : Nat) : List Nat := leBytes 97 mat

/-- The ML-DSA-65 half of an anchor pair. PRESUMED: log entry 159. -/
def pqHalf (mat : Nat) : List Nat := leBytes 1952 (mat / 2 ^ (8 * 97))

/-- The key material of a slot as a private key: 48 bytes, the first most significant. PRESUMED: log entry 159. -/
def ecPriv (mat : Nat) : Nat := ofBe (leBytes 48 mat)

end Sys2Proof.Machine
end

