-- ==== Sys2Proof/Machine/Ground.lean ====
section
/-! DEFINITION. Ground: key slots and requests (R332 to R337), key-update messages (R338 to R340), zeroize (R341), tamper
(R345 to R347), lifecycle (R348), debug (R349, R350), the command mailbox (R352). -/

namespace Sys2Proof.Machine

/-! ### Slots (R332, R334) -/

/-- A key slot. -/
def State.key (s : State) (i : Nat) : KeySlot := Tab.get KeySlot.made s.nv.keys.slots i

/-- A key slot replaced. -/
def State.setKey (s : State) (i : Nat) (k : KeySlot) : State :=
  { s with nv := { s.nv with keys := { s.nv.keys with slots := Tab.set KeySlot.made s.nv.keys.slots i k } } }

/-- The class of a slot: 0 IDENTITY, 1 OWNER, 2 OPERATIONAL, 3 reserved (R332). -/
def slotClass (i : Nat) : Nat :=
  if i < 2 then 0 else if i < 4 then 1 else if i = 12 ∨ i = 13 then 1 else if i = 14 ∨ i = 15 then 3 else 2

/-- The type that a fixed slot takes (R332); none for user slots. -/
def slotType (i : Nat) : Option Nat :=
  if i < 2 ∨ i = 3 ∨ i = 4 ∨ i = 5 then some 2 else if i = 2 ∨ i = 12 then some 5
  else if i = 6 ∨ (16 ≤ i ∧ i < 32) then some 1 else if i = 7 then some 3
  else if (8 ≤ i ∧ i < 12) ∨ i = 13 then some 4 else none

/-- The usage bits of SLOT_STAT: fixed for slots 0 to 31, the WRITE's for user slots (R334, R352). -/
def State.slotUsage (s : State) (i : Nat) : Nat :=
  if i = 1 ∨ i = 3 then 1024 else if i = 5 then 2 else if i = 6 then 4 else if i = 7 then 8
  else if 8 ≤ i ∧ i < 12 then 16 else if i = 12 then 32 else if i = 13 then 64
  else if 16 ≤ i ∧ i < 32 then 1 else if i < 32 then 0 else (s.key i).usage

/-- SLOT_STAT of a slot (R352). -/
def State.slotStat (s : State) (i : Nat) : Word :=
  let k := s.key i
  let par := if 127 < k.parent then 256 else k.parent
  BitVec.ofNat 32 (k.state % 4 * 2 ^ 30 + slotClass i * 2 ^ 28 + k.typ % 8 * 2 ^ 25 + par * 65536 +
    s.slotUsage i % 65536)

/-- The lifecycle state leaves only the IDENTITY slots usable, or none (R350). -/
def State.keysOff (s : State) : Bool := s.nv.keys.lc == 0 || s.nv.keys.lc == 3 || s.nv.keys.lc == 4

/-- Why a request on a slot is refused: the lock is checked before the slot, and the slot before its usage (R334, R346);
0 when it is not. DEDUCED: log entry 156. -/
def State.slotRefusal (s : State) (i use : Nat) : Nat :=
  if s.ground.locked ∧ slotClass i = 2 then 14
  else if (s.key i).state = 2 then 13
  else if (s.key i).state = 0 then 15
  else if s.slotUsage i / 2 ^ use % 2 = 0 ∨ (s.key i).state ≠ 1 ∨ (s.keysOff ∧ slotClass i ≠ 0) then 12
  else 0

/-- The key of an AES slot, as bytes. -/
def KeySlot.aes (k : KeySlot) : List Nat := leBytes (if k.typ = 2 then 32 else 16) k.mat

/-- TAG_CNT counts a tag request as served or refused. -/
def State.countTag (s : State) (ok : Bool) : State :=
  if ok then s.add ⟨Rg.GROUND_TAG_CNT, 0, 16⟩ 1 else s.add ⟨Rg.GROUND_TAG_CNT, 16, 16⟩ 1

/-- A bus has a session key in place (R336). -/
def State.busKeyed (s : State) (b : Nat) : Bool := (s.key (16 + b)).state == 1 && !s.ground.locked

/-- The key that tags frames of bus b: the old session key while a rollout runs (R343). -/
def State.busKey (s : State) (b : Nat) : Nat :=
  Tab.get (fun _ => (s.key (16 + b)).mat) s.ground.oldKey b

/-- Ground's answer to FBCb's tag request over a message (R134, R136, R335). DEDUCED: log entries 57, 156. -/
def State.tagAnswer (s : State) (b : Nat) (msg : List Nat) : TagAnswer × State :=
  if s.ground.bypassed then (.refused 5, s)
  else match s.slotRefusal (16 + b) 0 with
    | 0 => (.tag ((aesCmac (leBytes 16 (s.busKey b)) msg).take 4), s.countTag true)
    | 13 => (.refused 1, s.countTag false)
    | 14 => (.refused 2, s.countTag false)
    | _ => (.refused 3, s.countTag false)

/-- BUS0 to BUS15 derived from SEG (R336); at a Ground start the revoked slots stay revoked. DESIGN CHOICE: log entry
68. -/
def State.deriveBuses (s : State) (start : Bool) : State :=
  let seg := s.key 4
  (List.range 16).foldl (fun s b =>
    let k := s.key (16 + b)
    if k.state = 3 ∨ (start ∧ k.state = 2) then s
    else s.setKey (16 + b) { k with
      state := 1, typ := 1, parent := 4, gen := seg.gen
      mat := ofLe (aesCmac (leBytes 32 seg.mat) ([2, b, seg.gen % 256, seg.gen / 256 % 256] ++ List.replicate 12 0)) }) s

/-- K_node of a UID, derived from NODE_MASTER (R342). -/
def State.nodeKey (s : State) (uid : Nat) : Nat :=
  ofLe (aesCmac (leBytes 32 (s.key 5).mat) ([1] ++ leBytes 6 uid ++ List.replicate 9 0))

/-! ### Revocation and zeroize (R337, R341) -/

/-- The children of the listed slots. -/
def State.children (s : State) (l : List Nat) : List Nat :=
  (List.range 128).filter fun i => (s.key i).state != 0 && l.contains (s.key i).parent && !l.contains i

/-- A set of slots closed under children, in n rounds. -/
def State.closure (s : State) : Nat → List Nat → List Nat
  | 0, l => l
  | n + 1, l => let c := s.children l
    if c.isEmpty then l else s.closure n (l ++ c)

/-- REVOKE: the slot and every descendant become REVOKED (R337). -/
def State.revoke (s : State) (i : Nat) : State :=
  let l := s.closure 128 [i]
  let s := l.foldl (fun s j => if (s.key j).state = 3 then s else s.setKey j { s.key j with state := 2 }) s
  s.raise Ev.KEY_REVOKED Pg.ground [i, l.length - 1]

/-- A slot whose zeroize ends: EMPTY, or FAULTY when it does not read back zeros (R341). -/
def State.zeroSlot (s : State) (i : Nat) : State :=
  if (s.key i).state = 3 then s
  else if Config.stuckSlot i then
    (s.setKey i { state := 3 }).raise Ev.ZEROIZE_FAIL Pg.ground [i]
  else s.setKey i { state := 0 }

/-- A tag request that runs on a listed slot is aborted: the bus gets ABORTED, which it treats as a timeout (R341,
R347). -/
def State.abortTags (s : State) (l : List Nat) : State :=
  (List.range 16).foldl (fun s b =>
    let f := Tab.get (fun _ => FbSt.init) s.fb b
    match f.req with
    | some (t, .tag _) =>
      if l.contains (16 + b) then
        { s with fb := Tab.set (fun _ => FbSt.init) s.fb b { f with req := some (t, .refused 10) } }.raise
          Ev.KEY_OP_ABORT Pg.ground [16 + b, Pg.fb b]
      else s
    | _ => s) s

/-- Bytes of input words. -/
def wordBytes (l : List Word) : List Nat := l.flatMap fun w => leBytes 4 w.toNat

/-- The slot that the running mailbox command names: its first input word. DEDUCED: log entry 160. -/
def State.mbxSlot (s : State) : Nat := (s.ground.taken.headD 0).toNat % 128

/-- A key operation of the mailbox that runs is aborted: its output is never released, and no operation of a key-update
message that is being checked applies (R347). -/
def State.abortMbx (s : State) : State :=
  match s.ground.cmd with
  | none => s
  | some c =>
    if c = 7 ∨ s.ground.result = some 10 ∨ (c = 1 ∧ s.ground.result.isSome) then s
    else
      let s := { s with ground := { s.ground with result := some 10, out := [] } }.put Fd.GROUND_MBX_STAT_OUT_CNT 0
      if c = 1 then s.raise Ev.KEY_UPDATE_REJECT Pg.ground [10, leAt (wordBytes s.ground.taken) 24 4, 0]
      else s.raise Ev.KEY_OP_ABORT Pg.ground [s.mbxSlot, 0xFE]

/-- Slots zeroized for a cause; a request that runs on one of them is aborted (R341). -/
def State.zeroize (s : State) (l : List Nat) (cause : Nat) : State :=
  let s := s.abortTags l
  let s := if s.ground.cmd.any (fun c => decide (c ≠ 1)) && l.contains s.mbxSlot then s.abortMbx else s
  let s := l.foldl State.zeroSlot s
  let s := { s with ground := { s.ground with oldKey := s.ground.oldKey.filter fun (b, _) => !l.contains (16 + b) } }
  s.raise Ev.KEY_ZEROIZED Pg.ground [l.headD 0, l.length, cause]

/-- The OPERATIONAL slots. -/
def operational : List Nat := (List.range 128).filter fun i => slotClass i == 2
/-- The OPERATIONAL and OWNER slots. -/
def operOwner : List Nat := (List.range 128).filter fun i => slotClass i == 2 || slotClass i == 1

/-! ### Debug level (R349, R350) -/

/-- The debug level changes. -/
def State.dbgLevel (s : State) (new : Nat) (zeroed : Bool) : State :=
  let old := s.get Fd.DBG_LEVEL_CUR
  if old = new then s
  else
    ((s.put Fd.DBG_LEVEL_CUR new).irq Pg.dbg 0).raise Ev.DBG_LEVEL Pg.dbg [old, new, b2n zeroed]

/-- A level may be held in the power state (R350): every level in RUN, FULL only in LOW, none below. -/
def levelOk (p : PowerState) (level : Nat) : Bool :=
  level == 0 || p == .run || (p == .low && level == 2)

/-- Entry to a power state that the combined table marks as OFF for the level in force ends the session (R350). -/
def State.dbgPower (s : State) : State :=
  if levelOk s.pwr.state (s.get Fd.DBG_LEVEL_CUR) then s else s.dbgLevel 0 false

/-- DBG.CMD NEW_CHAL: 32 fresh bytes, valid for 60 s and one use, unless the lockout runs. DESIGN CHOICE: log entry
161. -/
def State.dbgNewChal (s : State) : State :=
  if s.flag Fd.DBG_LEVEL_LOCKOUT then s
  else
    let s := (List.range 8).foldl (fun s k => let r := s.fresh
      r.2.wr (Rg.DBG_CHAL k) r.1) s
    { s with ground := { s.ground with chalAt := some s.sec } }.put Fd.DBG_LEVEL_CHAL_VALID 1

/-- The challenge is void. -/
def State.dbgVoid (s : State) : State :=
  { s with ground := { s.ground with chalAt := none } }.put Fd.DBG_LEVEL_CHAL_VALID 0

/-- The device UID as 16 bytes. -/
def uidBytes : List Nat := (List.range 4).flatMap fun i => leBytes 4 (Config.uid i).toNat

/-- The lifecycle state: 0 BLANK, 1 PROVISIONED, 2 DEPLOYED, 3 RMA, 4 SCRAPPED. -/
def State.lc (s : State) : Nat := s.nv.keys.lc

/-- What a debug response signs (R349). -/
def State.dbgMsg (s : State) (level : Nat) : List Nat :=
  uidBytes ++ ((List.range 8).flatMap fun k => leBytes 4 (s.rd (Rg.DBG_CHAL k)).toNat) ++ [level, s.lc]

/-- The response written to RESP0 to RESP23. -/
def State.dbgResp (s : State) : List Nat :=
  (List.range 24).flatMap fun k => leBytes 4 (Tab.get (fun _ => (0 : Word)) s.ground.resp k).toNat

/-- The response passes (R349): the manufacturing anchor in BLANK and RMA, DBG_ANCHOR in PROVISIONED and DEPLOYED,
none needed in SCRAPPED. -/
def State.dbgAuth (s : State) (level : Nat) : Bool :=
  if s.lc = 4 then true
  else s.flag Fd.DBG_LEVEL_CHAL_VALID &&
    (if s.lc = 0 ∨ s.lc = 3 then ecVerify (ecHalf Config.mfrAnchor) (s.dbgMsg level) s.dbgResp
     else (s.key 13).state == 1 && ecVerify (ecHalf (s.key 13).mat) (s.dbgMsg level) s.dbgResp)

/-- DBG.CMD REQUEST; each fourth failure in a row starts the lockout (R349). DESIGN CHOICE: log entry 211. -/
def State.dbgRequest (s : State) (level : Nat) : State :=
  if level = 0 ∨ 2 < level then s
  else if levelOk s.pwr.state level = false then s.put Fd.DBG_LEVEL_RESULT 3
  else if s.dbgAuth level then
    let s := s.dbgVoid
    let wipe := level == 2 && s.lc == 2
    let s := if wipe then s.zeroize operational 3 else s
    ((s.put Fd.DBG_LEVEL_RESULT 1).put Fd.DBG_LEVEL_FAILS 0).dbgLevel level wipe
  else
    let s := s.dbgVoid
    let n := s.get Fd.DBG_LEVEL_FAILS + 1
    let s := (s.put Fd.DBG_LEVEL_FAILS (min n 255)).put Fd.DBG_LEVEL_RESULT 2
    let s := if n % 4 = 0 then
        { s with ground := { s.ground with lockAt := some s.sec } }.put Fd.DBG_LEVEL_LOCKOUT 1
      else s
    s.raise Ev.DBG_AUTH_FAIL Pg.dbg [n]

/-- A challenge expires after 60 s. -/
def State.dbgChalExpire (s : State) : State :=
  match s.ground.chalAt with
  | some t => if t + 60 ≤ s.sec then s.dbgVoid else s
  | none => s

/-- The 60 s lockout ends; the failures in a row stay counted. DESIGN CHOICE: log entry 211. -/
def State.dbgLockEnd (s : State) : State :=
  match s.ground.lockAt with
  | some t =>
    if t + 60 ≤ s.sec then
      { s with ground := { s.ground with lockAt := none } }.put Fd.DBG_LEVEL_LOCKOUT 0
    else s
  | none => s

/-! ### Tamper (R345 to R347) -/

/-- The power state as a parameter: its place in the order RUN, LOW, HOLDUP, STANDBY, VBAT_ONLY. -/
def PowerState.code : PowerState → Nat
  | .run => 0
  | .low => 1
  | .holdup => 2
  | .standby => 3
  | .vbatOnly => 4
  | .off => 5

/-- POLICY as Ground applies it (R346). -/
def State.policy (s : State) : Nat := s.get ⟨Rg.TAMP_POLICY, 0, 2⟩

/-- The latched sources. -/
def State.tampLatch (s : State) : Nat := s.get ⟨Rg.TAMP_LATCH, 0, 6⟩

/-- The operational keys are locked (R346). -/
def State.lockKeys (s : State) (why : Nat) : State :=
  let was := s.ground.locked
  let s := ({ s with ground := { s.ground with locked := true } }.put Fd.GROUND_MBX_STAT_LOCKED 1).irq Pg.ground 2
  if was then s else s.raise Ev.KEYS_LOCKED Pg.ground [why]

/-- The policy applies: LOG_ONLY does nothing more, LOCK locks, ZEROIZE zeroizes and then locks; at start-up and wake
the keys are locked whatever the policy (R346, R347). DEDUCED: log entry 155. -/
def State.applyPolicy (s : State) (why : Nat) : State :=
  let s := if s.policy = 2 then s.zeroize operational 2 else s
  if s.policy = 1 ∨ s.policy = 2 ∨ why ≠ 1 then s.lockKeys why else s

/-- A source is watched in the power state (R345); DOOR in STANDBY only while VIO_C is present (`vioC`). DEDUCED: log
entry 81. -/
def watched (p : PowerState) (src : Nat) (vioC : Bool) : Bool :=
  match p with
  | .run | .low | .holdup => decide (src < 5)
  | .standby => src == 0 || (src == 1 && vioC) || src == 2 || src == 4
  | .vbatOnly => src == 0 || src == 4
  | .off => false

/-- An alarm of source `src` (R347). -/
def State.alarm (s : State) (src : Nat) : State :=
  let s := s.dbgLevel 0 false
  if bitN (s.get ⟨Rg.TAMP_SRC_EN, 0, 6⟩) src = false then s
  else
    let s := s.put ⟨Rg.TAMP_LATCH, src, 1⟩ 1
    let asleep := s.pwr.state == .standby || s.pwr.state == .vbatOnly
    if asleep then { s with ground := { s.ground with asleep := true } }
    else
      let s := (s.irq Pg.tamp 0).irq Pg.ground 1
      if s.ground.ready = false then { s with ground := { s.ground with early := true } }
      else
        let s := s.raise Ev.TAMPER Pg.ground [s.tampLatch, s.policy, s.pwr.state.code]
        let s := (s.abortTags (List.range 32)).abortMbx
        if s.ground.locked then s else s.applyPolicy 1

/-- A source becomes active, or inactive, in the power state's watch (R345, R347). DEDUCED: log entry 81. -/
def State.tamper (s : State) (src : Nat) (active vioC : Bool) : State :=
  if watched s.pwr.state src vioC = false then s
  else
    let s := { s with ground := { s.ground with live := setBitN s.ground.live src active } }
    if active then s.alarm src else s

/-- TAMP.LIVE as read. -/
def State.tampLive (s : State) : Word :=
  BitVec.ofNat 32 (s.ground.live % 64 + b2n s.ground.refusedClear * 256)

/-- The latch and the lock end, unless a source is still active (R347): (done, state). -/
def State.tampClear (s : State) (bits : Nat) (lock : Bool) : Bool × State :=
  if s.ground.live % 64 ≠ 0 then (false, { s with ground := { s.ground with refusedClear := true } })
  else
    let old := s.tampLatch
    let gone := old &&& bits
    let s := s.put ⟨Rg.TAMP_LATCH, 0, 6⟩ (old - gone)
    let unlock := lock || s.tampLatch == 0
    let s := { s with ground := { s.ground with refusedClear := false, locked := s.ground.locked && !unlock } }
    let s := s.put Fd.GROUND_MBX_STAT_LOCKED (b2n s.ground.locked)
    (true, s.raise Ev.TAMPER_CLEARED Pg.ground [gone])

/-- A W1C write of TAMP.LATCH, which acts only outside DEPLOYED (R347, R353). -/
def State.tampLatchClear (s : State) (v : Word) : State :=
  let bits := getF v 0 6 &&& s.tampLatch
  if s.lc = 2 ∨ bits = 0 then s else (s.tampClear bits false).2

/-! ### Key-update messages (R338 to R340) -/

/-- A message cut into its fields. -/
structure KeyMsg where
  signer : Nat
  kek : Nat
  uid : Nat
  ctr : Nat
  act : Nat
  bodyLen : Nat
  ops : Nat
  head : List Nat
  iv : List Nat
  body : List Nat
  signed : List Nat
  sigEc : List Nat
  sigPq : List Nat
deriving DecidableEq, Repr

/-- The FORMAT check of R340 and the fields of R338. -/
def parseMsg (m : List Nat) : Option KeyMsg :=
  let b := leAt m 52 2
  let n := leAt m 54 2
  if leAt m 0 4 = 0x4B554D31 ∧ leAt m 4 2 = 1 ∧ 16 ≤ b ∧ b ≤ 4096 ∧ 1 ≤ n ∧ n ≤ 32 ∧ leAt m 56 8 = 0 ∧
      m.length = 64 + b + 16 + 96 + 3312 ∧ leAt m (64 + b + 16 + 96 + 3309) 3 = 0 then
    some {
           signer := byteAt m 6, kek := byteAt m 7, uid := leAt m 8 16, ctr := leAt m 24 8, act := leAt m 32 8,
           bodyLen := b, ops := n, head := m.take 64, iv := (m.drop 40).take 12, body := (m.drop 64).take (b + 16),
           signed := m.take (80 + b), sigEc := (m.drop (80 + b)).take 96, sigPq := (m.drop (176 + b)).take 3309 }
  else none

/-- The operation records of a decrypted body, at most n of them; none when a record is malformed (R339). -/
def parseOps : Nat → List Nat → Option (List KeyOp)
  | 0, l => if l.all (fun b => b == 0) then some [] else none
  | n + 1, l =>
    let len := leAt l 6 2
    let pad := (len + 3) / 4 * 4
    if l.length < 16 + pad ∨ leAt l 10 6 ≠ 0 ∨ leAt l (16 + len) (pad - len) ≠ 0 then none
    else
      let o : KeyOp := {
        op := byteAt l 0, slot := byteAt l 1, typ := byteAt l 2, parent := byteAt l 3,
        usage := leAt l 4 2, len := len, gen := leAt l 8 2, mat := (l.drop 16).take len }
      (parseOps n (l.drop (16 + pad))).map (o :: ·)

/-- The length of key material by type: a P-384 private key of 48 bytes, a public key of 97, and an anchor pair of a P-384
and an ML-DSA-65 public key. PRESUMED: log entry 159. -/
def lenOk (typ len : Nat) : Bool :=
  len == (if typ = 1 then 16 else if typ = 2 then 32 else if typ = 3 then 48 else if typ = 4 then 97 else 97 + 1952)

/-- A WRITE that R339 allows. DEDUCED: log entry 158. -/
def State.writeOk (s : State) (o : KeyOp) : Bool :=
  (slotClass o.slot == 2 || o.slot == 12 || o.slot == 13) && decide (o.slot < 128) &&
  !(decide (16 ≤ o.slot) && decide (o.slot < 32)) && (s.key o.slot).state != 3 && lenOk o.typ o.len &&
  (match slotType o.slot with
   | some t => o.typ == t
   | none => decide (1 ≤ o.typ) && decide (o.typ ≤ 4) &&
     (o.parent == 255 || (decide (4 ≤ o.parent) && decide (o.parent < 128))))

/-- A lifecycle transition that R348 allows to the signer (true: owner). -/
def lcOk (old new : Nat) (owner : Bool) : Bool :=
  if new = 4 then old != 4 && (owner || old == 0 || old == 3)
  else (old == 1 && new == 2 && owner) || (old == 2 && new == 3 && owner) || (old == 3 && new == 0 && !owner)

/-- One record is allowed under R337 and R339. -/
def State.opOk (s : State) (owner : Bool) (o : KeyOp) : Bool :=
  let live := s.lc == 1 || s.lc == 2
  if o.op = 1 then owner && live && s.writeOk o
  else if o.op = 2 then owner && live && decide (o.slot < 128) && slotClass o.slot == 2 && (s.key o.slot).state != 0
  else if o.op = 3 then owner && live && (o.slot == 255 || (decide (o.slot < 128) && (slotClass o.slot == 1 || slotClass o.slot == 2)))
  else if o.op = 4 then
    owner && live && decide (o.slot < 128) && (o.slot == 7 || decide (32 ≤ o.slot)) && (s.key o.slot).state == 0 &&
    o.typ == 3
  else if o.op = 5 then lcOk s.lc o.slot owner
  else if o.op = 6 then owner && s.lc != 4 && o.len == 2 && decide (byteAt o.mat 0 ≤ 2) && decide (byteAt o.mat 1 < 64)
  else if o.op = 7 then owner && s.lc != 4 && s.ground.live % 64 == 0
  else if o.op = 8 then ((s.lc == 0 && !owner) || (live && owner)) && o.len == 97 + 1952 + 32
  else false

/-- SIGNER and KEK are allowed in the lifecycle state (R339, R340). DEDUCED: log entry 157. -/
def State.signerOk (s : State) (m : KeyMsg) : Bool :=
  (if m.signer = 0 then s.lc == 0 || s.lc == 3 else m.signer == 1 && s.lc != 4 && (s.key 2).state != 0) &&
  (m.kek == 0 || (m.kek == 1 && (s.key 3).state == 1))

/-- A failing check: its code, COUNTER [31:0], the record index for OP, and whether that record is a TAMPER_CLEAR. -/
structure MsgErr where
  code : Nat
  ctr : Nat
  idx : Nat
  clear : Bool
deriving DecidableEq, Repr

/-- The first failing check of R340, or the message with its operations. -/
def State.checkMsg (s : State) (raw : List Nat) : MsgErr ⊕ (KeyMsg × List KeyOp) :=
  match parseMsg raw with
  | none => .inl ⟨1, leAt raw 24 4, 0, false⟩
  | some m =>
    let c := m.ctr % 2 ^ 32
    let anchor := if m.signer = 0 then Config.mfrAnchor else (s.key 2).mat
    let kek := if m.kek = 0 then (s.key 1).mat else (s.key 3).mat
    if m.uid ≠ ofLe uidBytes then .inl ⟨2, c, 0, false⟩
    else if m.ctr ≤ s.nv.keys.ctr then .inl ⟨3, c, 0, false⟩
    else if s.signerOk m = false then .inl ⟨4, c, 0, false⟩
    else if ecVerify (ecHalf anchor) m.signed m.sigEc = false then .inl ⟨5, c, 0, false⟩
    else if dsaVerify (pqHalf anchor) m.signed m.sigPq = false then .inl ⟨6, c, 0, false⟩
    else match gcmOpen (leBytes 32 kek) m.iv m.head m.body with
      | none => .inl ⟨7, c, 0, false⟩
      | some body => match parseOps m.ops body with
        | none => .inl ⟨8, c, 0, false⟩
        | some ops => match (List.range ops.length).find? fun i =>
              ((ops[i]?).map fun o => !s.opOk (m.signer == 1) o).getD false with
          | some i => .inl ⟨8, c, i, ((ops[i]?).map fun o => o.op == 7).getD false⟩
          | none =>
            if s.pwr.state = .holdup then .inl ⟨9, c, 0, false⟩
            else if s.nv.keys.pend.isSome then .inl ⟨11, c, 0, false⟩
            else .inr (m, ops)

/-- Entry to a lifecycle state (R348, R341); no transition leaves SCRAPPED. -/
def State.enterLc (s : State) (new : Nat) : State :=
  let old := s.lc
  if old = 4 then s else
  let s := if new = 3 then s.zeroize operOwner 4 else if new = 4 then s.zeroize (List.range 128) 5 else s
  { s with nv := { s.nv with keys := { s.nv.keys with lc := new } } }.raise Ev.LIFECYCLE Pg.ground [old, new]

/-- A WRITE takes effect (R339, R336, R343): a WRITE of SEG derives the bus keys, and a bus whose old key was VALID keeps
it for its frames until the rollout ends. -/
def State.keyWrite (s : State) (o : KeyOp) : State :=
  let usage := if 32 ≤ o.slot then o.usage else 0
  let parent := if 32 ≤ o.slot then o.parent else 255
  let old := (List.range 16).filterMap fun b => if s.busKeyed b then some (b, s.busKey b) else none
  let s := s.setKey o.slot { state := 1, typ := o.typ, parent := parent, usage := usage, mat := ofLe o.mat, gen := o.gen }
  if o.slot ≠ 4 then s
  else
    let s := s.deriveBuses false
    { s with ground := { s.ground with oldKey := old, segNew := true } }

/-- Operations other than WRITE take effect at once (R340). -/
def State.keyOp (s : State) (o : KeyOp) : State :=
  if o.op = 2 then s.revoke o.slot
  else if o.op = 3 then s.zeroize (if o.slot = 255 then operational else [o.slot]) 1
  else if o.op = 4 then
    { s with nv := { s.nv with keys := { s.nv.keys with genAllow := s.nv.keys.genAllow ++ [o.slot] } } }
  else if o.op = 5 then s.enterLc o.slot
  else if o.op = 6 then
    let p := byteAt o.mat 0
    let e := byteAt o.mat 1
    let s := { s with nv := { s.nv with keys := { s.nv.keys with policy := p, srcEn := e } } }
    (s.put ⟨Rg.TAMP_POLICY, 0, 2⟩ p).put ⟨Rg.TAMP_SRC_EN, 0, 6⟩ e
  else if o.op = 7 then (s.tampClear 0x3F true).2
  else if o.op = 8 then
    let n := o.mat.length - 32
    let s := s.setKey 2 { state := 1, typ := 5, mat := ofLe (o.mat.take n) }
    let s := s.setKey 3 { state := 1, typ := 2, mat := ofLe (o.mat.drop n) }
    if s.lc = 0 then s.enterLc 1 else s
  else s

/-- A message that passes is applied whole: its WRITE operations are held for ACT_TICK (R340). -/
def State.applyMsg (s : State) (m : KeyMsg) (ops : List KeyOp) : State :=
  let writes := ops.filter fun o => o.op == 1
  let s := (ops.filter fun o => o.op != 1).foldl State.keyOp s
  let s := { s with nv := { s.nv with
    keys := { s.nv.keys with ctr := m.ctr }, cnt := { s.nv.cnt with keyCtr := some m.ctr } } }
  if writes.isEmpty then s.raise Ev.KEY_UPDATE_OK Pg.ground [m.ctr % 2 ^ 32, ops.length, 0]
  else
    let p : KeyPend := { act := m.act, ops := writes, ctr := m.ctr, cnt := ops.length }
    { s with nv := { s.nv with keys := { s.nv.keys with pend := some p } } }.put Fd.GROUND_MBX_STAT_PEND 1

/-- At an edge: held WRITE operations whose ACT_TICK has come take effect (R340), unless the lifecycle state no longer lets a
WRITE in (R339). DEDUCED: log entry 158. -/
def State.keyEdge (s : State) : State :=
  match s.nv.keys.pend with
  | none => s
  | some p =>
    if s.tick.num < p.act ∨ s.ground.ready = false then s
    else
      let s := if s.keysOff then s else p.ops.foldl State.keyWrite s
      let s := { s with nv := { s.nv with keys := { s.nv.keys with pend := none } } }.put Fd.GROUND_MBX_STAT_PEND 0
      s.raise Ev.KEY_UPDATE_OK Pg.ground [p.ctr % 2 ^ 32, p.cnt, 1]

/-! ### The command mailbox (R352) -/

/-- Output bytes as words, the last one padded with zeros. -/
def outWords (l : List Nat) : List Word := (List.range ((l.length + 3) / 4)).map fun i => BitVec.ofNat 32 (leAt l (4 * i) 4)

/-- MBX_STAT.OUT_CNT follows the output FIFO. -/
def State.setOut (s : State) (l : List Word) : State :=
  { s with ground := { s.ground with out := l } }.put Fd.GROUND_MBX_STAT_OUT_CNT (min l.length 256)

/-- A write of MBX_CMD by an initiator: the command starts, and its input words are taken from the FIFO. DEDUCED: log
entry 160. -/
def State.mbxStart (s : State) (init cmd len : Nat) : State :=
  let got := s.ground.fifo.take len
  let s := { s with ground := { s.ground with
    cmd := some cmd, need := len - got.length, taken := got, fifo := s.ground.fifo.drop len, result := none } }
  (s.put Fd.GROUND_MBX_STAT_BUSY 1).put Fd.GROUND_MBX_STAT_OWNER init

/-- A word of MBX_IN: taken by the running command while it needs words, else queued; false when the FIFO is full.
DEDUCED: log entry 160. -/
def State.mbxPush (s : State) (w : Word) : Bool × State :=
  if s.ground.cmd.isSome ∧ 0 < s.ground.need then
    (true, { s with ground := { s.ground with taken := s.ground.taken ++ [w], need := s.ground.need - 1 } })
  else if s.ground.fifo.length < 256 then
    (true, { s with ground := { s.ground with fifo := s.ground.fifo ++ [w] } })
  else (false, s)

/-- A read of MBX_OUT pops a word; 0 when empty. -/
def State.mbxPop (s : State) : Word × State :=
  match s.ground.out with
  | [] => (0, s)
  | w :: t => (w, s.setOut t)

/-- The running command is of this code, has all its input and has no result yet. DEDUCED: log entry 160. -/
def State.mbxReady (s : State) (cmd : Nat) : Bool :=
  s.ground.ready && s.ground.cmd == some cmd && s.ground.need == 0 && s.ground.result.isNone

/-- The running command's work ends: its output, and the result that it will post. -/
def State.mbxResult (s : State) (code : Nat) (out : List Nat) : State :=
  let s := { s with ground := { s.ground with result := some code } }
  if code = 0 then s.setOut (outWords out) else s

/-- A mailbox command ends: RESULT is set and BUSY clears (R340, R352). -/
def State.mbxDone (s : State) : State :=
  match s.ground.cmd, s.ground.result with
  | some _, some r =>
    let s := { s with ground := { s.ground with cmd := none, need := 0, taken := [], result := none } }
    ((s.put Fd.GROUND_MBX_STAT_RESULT r).put Fd.GROUND_MBX_STAT_BUSY 0).irq Pg.ground 0
  | _, _ => s

/-- Mailbox command KEY_UPDATE (R340). -/
def State.mbxKeyUpdate (s : State) : State :=
  if s.mbxReady 1 = false then s
  else match s.checkMsg (wordBytes s.ground.taken) with
    | .inl e =>
      let s := if e.clear then { s with ground := { s.ground with refusedClear := true } } else s
      (s.mbxResult e.code []).raise Ev.KEY_UPDATE_REJECT Pg.ground [e.code, e.ctr, e.idx]
    | .inr (m, ops) => (s.applyMsg m ops).mbxResult 0 []

/-- A mailbox operation on a slot by its usage bit: the refusal code, or the output (R334); a key of a type that the
operation does not take is refused with KEY_USAGE. DEDUCED: log entry 156. -/
def State.mbxSlotOp (s : State) (cmd slot use : Nat) (f : KeySlot → Option (List Nat)) : State :=
  if s.mbxReady cmd = false then s
  else match s.slotRefusal slot use with
    | 0 =>
      if ((s.key slot).typ == 3) != (cmd == 3) || decide (3 < (s.key slot).typ) then s.mbxResult 12 []
      else match f (s.key slot) with
        | some out => s.mbxResult 0 out
        | none => s.mbxResult 7 []
    | c => s.mbxResult c []

/-- Mailbox command SIGN of a message; the number used once is drawn. DESIGN CHOICE: log entry 161. -/
def State.mbxSign (s : State) (slot : Nat) (msg : List Nat) : State :=
  let r := s.fresh
  r.2.mbxSlotOp 3 slot (if slot = 7 then 3 else 9) fun k =>
    some (ecSign (ecPriv k.mat) (ecScalar (Config.freeScalar r.1.toNat)) msg)

/-- PUBKEY gives the public half of a key pair that Ground generated, and of no other (R333). -/
def State.mbxPubkey (s : State) (slot : Nat) : State :=
  if s.mbxReady 2 = false then s
  else if s.ground.locked ∧ slotClass slot = 2 then s.mbxResult 14 []
  else if (s.key slot).state = 2 then s.mbxResult 13 []
  else if (s.key slot).state = 0 then s.mbxResult 15 []
  else if (s.key slot).state ≠ 1 ∨ (s.key slot).own = false then s.mbxResult 12 []
  else s.mbxResult 0 (ecPub (ecPriv (s.key slot).mat))

/-- RANDOM returns n random words. DESIGN CHOICE: log entry 161. -/
def State.drawN : Nat → State → List Word × State
  | 0, s => ([], s)
  | n + 1, s => let r := s.fresh
    let q := State.drawN n r.2
    (r.1 :: q.1, q.2)

/-- Mailbox command RANDOM of n bytes. DESIGN CHOICE: log entry 161. -/
def State.mbxRandom (s : State) (n : Nat) : State :=
  if s.mbxReady 7 = false then s
  else let r := State.drawN ((min n 1024 + 3) / 4) s
    r.2.mbxResult 0 ((wordBytes r.1).take (min n 1024))

/-- Mailbox command GENERATE: an allowed EMPTY slot takes a new P-384 private key (R339). DESIGN CHOICE: log entry
161. -/
def State.mbxGenerate (s : State) (slot : Nat) : State :=
  if s.mbxReady 8 = false then s
  else if s.ground.locked then s.mbxResult 14 []
  else if s.nv.keys.genAllow.contains slot = false ∨ (s.key slot).state ≠ 0 then s.mbxResult 12 []
  else
    let r := s.fresh
    let s := r.2.setKey slot { state := 1, typ := 3, usage := if 32 ≤ slot then 512 else 0, own := true,
                               mat := ofLe (toBe 48 (ecScalar (Config.freeScalar r.1.toNat))) }
    let s := { s with nv := { s.nv with keys := { s.nv.keys with genAllow := s.nv.keys.genAllow.erase slot } } }
    s.mbxResult 0 []

/-- CTRL.FLUSH of the GROUND page: both FIFOs are discarded, and a command that has not reached its apply step ends. -/
def State.groundFlush (s : State) : State :=
  let s := { s with ground := { s.ground with fifo := [], taken := [] } }.setOut []
  match s.ground.cmd, s.ground.result with
  | some _, none =>
    { s with ground := { s.ground with cmd := none, need := 0 } }.put Fd.GROUND_MBX_STAT_BUSY 0
  | _, _ => s

/-! ### Request ports and the start (R335, R340, R347) -/

/-- A request port's block, its slot and usage bit: FBC0 to FBC15, node management, witness engine, Proof, DBG. -/
def portSlot (port : Nat) : Nat × Nat :=
  if port < 16 then (16 + port, 0) else if port = 16 then (5, 1) else if port = 17 then (6, 2)
  else if port = 18 then (12, 5) else (13, 6)

/-- A port's request is served (R334, R335): a tag, a wrap, or a verification of data under one signature, or under both for
an image. -/
def State.portRequest (s : State) (port : Nat) (data extra : List Nat) : State :=
  if s.ground.ready = false then s
  else
    let (slot, use) := portSlot port
    let code := s.slotRefusal slot use
    let k := (s.key slot).mat
    let out := if code ≠ 0 then []
      else if port < 16 then (aesCmac (leBytes 16 (s.busKey port)) data).take 4
      else if port = 16 then aesWrap (leBytes 16 (s.nodeKey (ofLe extra))) data
      else if port = 17 then aesCmac (leBytes 16 k) data
      else if port = 18 then [b2n (ecVerify (ecHalf k) data (extra.take 96) && dsaVerify (pqHalf k) data (extra.drop 96))]
      else [b2n (ecVerify (ecHalf k) data extra)]
    let s := if port < 16 ∨ port = 17 then s.countTag (code == 0) else s
    { s with ground := { s.ground with ans := Tab.set (fun _ => PortAns.init) s.ground.ans port ⟨code, out⟩ } }

/-- Ground completes its start (R340, R346, R347): the key counter is the larger of its two valid values; POLICY and SRC_EN are loaded; an alarm of the start-up, of the COLD
reset or of a power-down state locks the keys whatever the policy, and a latch that still stands locks them under LOCK
and ZEROIZE, before any request is served; the bus keys are derived again from a VALID SEG. DEDUCED: log entry 155. -/
def State.groundStart (s : State) : State :=
  let c := max s.nv.keys.ctr (s.nv.cnt.keyCtr.getD 0)
  let s := { s with nv := { s.nv with keys := { s.nv.keys with ctr := c }, cnt := { s.nv.cnt with keyCtr := some c } } }
  let s := (s.put ⟨Rg.TAMP_POLICY, 0, 2⟩ s.nv.keys.policy).put ⟨Rg.TAMP_SRC_EN, 0, 6⟩ s.nv.keys.srcEn
  let s := { s with ground := { s.ground with ready := true } }.put Fd.GROUND_MBX_STAT_READY 1
  let s := s.put Fd.GROUND_MBX_STAT_PEND (b2n s.nv.keys.pend.isSome)
  let on := s.tampLatch &&& s.nv.keys.srcEn
  let s :=
    if on = 0 then s
    else if s.ground.early ∨ s.ground.asleep then
      (s.raise Ev.TAMPER Pg.ground [s.tampLatch, s.policy, s.pwr.state.code]).applyPolicy
        (if s.ground.asleep then 3 else 2)
    else if s.policy = 0 then s else s.lockKeys 1
  if (s.key 4).state = 1 then s.deriveBuses true else s

end Sys2Proof.Machine
end

