-- ==== Sys2Proof/Machine/Feeder.lean ====
section
/-! DEFINITION. The feeder bus controllers: slot plans (R137, R138), frame starts and windows (R139 to R143), frames and
their trailer (R126 to R136), reception (R144, R145), rate detection (R146, R147), errors (R148 to R152), message objects
(R153 to R155). -/

namespace Sys2Proof.Machine

/-- A bus controller's state beside its page. -/
def State.fbs (s : State) (b : Nat) : FbSt := Tab.get (fun _ => FbSt.init) s.fb b

/-- It replaced. -/
def State.setFb (s : State) (b : Nat) (f : FbSt) : State :=
  { s with fb := Tab.set (fun _ => FbSt.init) s.fb b f }

/-- It changed by a function. -/
def State.modFb (s : State) (b : Nat) (g : FbSt → FbSt) : State := s.setFb b (g (s.fbs b))

/-! ### Rates and plans (R124, R137, R138) -/

/-- ns of an arbitration bit. -/
def arbNs (code : Nat) : Nat := if code = 0 then 8000 else if code = 1 then 10000 else 20000
/-- ns of a data bit. -/
def dataNs (code : Nat) : Nat := if code = 0 then 500 else if code = 1 then 1000 else 2000

/-- N20 of a rate pair (R137). -/
def n20 (arb data : Nat) : Nat :=
  if arb = 0 then (if data = 0 then 28 else if data = 1 then 19 else 12)
  else if arb = 1 then (if data = 0 then 24 else if data = 1 then 17 else 11)
  else if data = 0 then 14 else if data = 1 then 12 else 8

/-- The slot count of a rate pair at a period of pms ms. -/
def slotN (arb data pms : Nat) : Nat := n20 arb data * pms / 20

/-- A slot plan: Plate-delta slots, poll pairs, event slots, bulk slots. -/
structure Plan where
  pd : Nat
  poll : Nat
  event : Nat
  bulk : Nat
deriving DecidableEq, Repr

/-- The default plan of a rate pair (R138). -/
def defaultPlan (arb data pms : Nat) : Option Plan :=
  if arb = 0 ∧ data = 0 then
    some (if pms = 10 then ⟨2, 2, 5, 2⟩ else if pms = 40 then ⟨8, 8, 21, 10⟩ else ⟨4, 4, 10, 5⟩)
  else if arb = 2 ∧ data = 1 then
    some (if pms = 10 then ⟨1, 1, 1, 1⟩ else if pms = 40 then ⟨4, 4, 7, 4⟩ else ⟨2, 2, 3, 2⟩)
  else none

/-- The slots a plan takes. -/
def Plan.sum (p : Plan) : Nat := 1 + p.pd + 2 * p.poll + p.event + p.bulk

/-- A plan is valid for N slots (R138). -/
def Plan.ok (p : Plan) (n : Nat) : Bool := p.sum == n && decide (1 ≤ p.pd) && decide (1 ≤ p.poll) && decide (1 ≤ p.event)

/-- The plan that a SLOT_CFG word requests. -/
def planOf (cfg : Word) (arb data pms : Nat) : Option Plan :=
  if bitW cfg 31 then defaultPlan arb data pms
  else some ⟨getF cfg 24 5, getF cfg 16 5, getF cfg 8 6, getF cfg 0 6⟩

/-- Rate pair in force. -/
def State.fbArb (s : State) (b : Nat) : Nat := s.get (Fd.FB_STAT_RATE_ARB b)
def State.fbData (s : State) (b : Nat) : Nat := s.get (Fd.FB_STAT_RATE_DATA b)

/-- N and Ls in force, R137; N 0: no plan in force. -/
def State.fbN (s : State) (b : Nat) : Nat := s.get (Fd.FB_SLOT_LEN_N b)
def State.fbLs (s : State) (b : Nat) : Nat := s.get (Fd.FB_SLOT_LEN_LS b)

/-- The plan in force, as SLOT_STAT shows it. -/
def State.fbPlan (s : State) (b : Nat) : Plan :=
  let w := s.rd (Rg.FB_SLOT_STAT b)
  ⟨getF w 24 5, getF w 16 5, getF w 8 6, getF w 0 6⟩

/-- STAT.PLAN_ERR and its copy in SLOT_STAT. -/
def State.setPlanErr (s : State) (b v : Nat) : State :=
  (s.put (Fd.FB_STAT_PLAN_ERR b) v).put (Fd.FB_SLOT_STAT_PLAN_ERR b) v

/-- No plan in force; SLOT_STAT goes on copying STAT.PLAN_ERR. -/
def State.clearPlan (s : State) (b : Nat) : State :=
  ((s.wr (Rg.FB_SLOT_STAT b) 0).wr (Rg.FB_SLOT_LEN b) 0).setPlanErr b (s.get (Fd.FB_STAT_PLAN_ERR b))

/-- The plan of a SLOT_CFG word is taken for the rate pair in force, or refused with FB_PLAN_ERR (R137, R138); a
refused word raises its event once. DEDUCED: log entry 54.  With PLAN_AUTO and no default plan there is no requested plan,
and parameter 3 is 0. DESIGN CHOICE: log entry 198. -/
def State.fbTakePlan (s : State) (b : Nat) (cfg : Word) : State :=
  let n := slotN (s.fbArb b) (s.fbData b) s.pms
  let req := planOf cfg (s.fbArb b) (s.fbData b) s.pms
  let ok := decide (5 ≤ n) && (req.map (Plan.ok · n)).getD false
  match req, ok with
  | some p, true =>
    let w : Word := BitVec.ofNat 32 (p.pd * 2 ^ 24 + p.poll * 65536 + p.event * 256 + p.bulk)
    let l : Word := BitVec.ofNat 32 (n * 2 ^ 24 + s.pms * 1000 / n)
    (((s.wr (Rg.FB_SLOT_STAT b) w).wr (Rg.FB_SLOT_LEN b) l).setPlanErr b 0).modFb b ({ · with planBad := none })
  | _, _ =>
    if (s.fbs b).planBad = some cfg then s
    else
      let s := ((s.setPlanErr b 1).modFb b ({ · with planBad := some cfg })).irq (Pg.fb b) 12
      s.raise Ev.FB_PLAN_ERR (Pg.fb 0) [b, n, (req.map Plan.sum).getD 0]

/-! ### State of a bus (R146, R157) -/

/-- BUS_STATE. -/
def State.busState (s : State) (b : Nat) : Nat := s.get (Fd.FB_STAT_BUS_STATE b)

/-- The bus listens (R146): CTRL.LISTEN, the role, or no valid plan (R138). -/
def State.listening (s : State) (b : Nat) : Bool :=
  s.flag (Fd.FB_CTRL_LISTEN b) || !s.transmits || s.fbN b == 0

/-- The line is up: error-active or error-passive. -/
def State.onLine (s : State) (b : Nat) : Bool := s.busState b == 3 || s.busState b == 4

/-- The bus may start frames: CTRL.EN = 0 stops it at the end of the frame in progress (R157). -/
def State.maySend (s : State) (b : Nat) : Bool :=
  s.flag (Fd.run (Pg.fb b)) && s.flag (Fd.en (Pg.fb b)) && s.onLine b && (s.fbs b).joined && !s.listening b && !s.pair.quiet

/-! ### Frames (R126 to R134) -/

/-- An identifier, R126. -/
def frameId (cls typ addr tag : Nat) : Nat := (cls % 8) * 2 ^ 26 + (typ % 64) * 2 ^ 20 + (addr % 256) * 4096 + tag % 4096
def idClass (i : Nat) : Nat := i / 2 ^ 26 % 8
def idType (i : Nat) : Nat := i / 2 ^ 20 % 64
def idAddr (i : Nat) : Nat := i / 4096 % 256
def idTag (i : Nat) : Nat := i % 4096

/-- The smallest FD data length that holds n bytes (R128). -/
def fdLen (n : Nat) : Nat :=
  if n ≤ 8 then n else if n ≤ 12 then 12 else if n ≤ 16 then 16 else if n ≤ 20 then 20 else if n ≤ 24 then 24
  else if n ≤ 32 then 32 else if n ≤ 48 then 48 else 64

/-- A payload padded with zeros to n bytes. -/
def padTo (n : Nat) (l : List Nat) : List Nat := (List.range n).map (byteAt l)

/-- The worst-case stuffed length of a frame of n data bytes in ns (R139). -/
def worstNs (arb data n : Nat) : Nat :=
  let c := if n ≤ 16 then 17 else 21
  let f := if n ≤ 16 then 6 else 7
  57 * arbNs arb + (5 + 8 * n + (2 + 2 * n) + 4 + c + f) * dataNs data

/-- A frame of n data bytes started at `us` can end before the next edge (R139). -/
def State.fits (s : State) (b us n : Nat) : Bool :=
  decide (us * 1000 + worstNs (s.fbArb b) (s.fbData b) n ≤ s.pms * 1000000)

/-- A frame without a trailer. -/
def plainFrame (k : TxKind) (id : Nat) (payload : List Nat) : TxFrame :=
  ⟨k, id, padTo (fdLen payload.length) payload, none, false, false⟩

/-- The message whose CMAC is a frame's tag (R134). -/
def tagMsg (id fv : Nat) (body : List Nat) : List Nat := leBytes 4 (id % 2 ^ 29) ++ leBytes 4 fv ++ body

/-! ### The transmit freshness value (R135) -/

/-- TX_FV is saved to the older of its two copies. -/
def State.fvSave (s : State) (b fv : Nat) : State :=
  let c := s.nv.cnt
  let a := Tab.get (fun _ => none) c.fv0 b
  let second := match a, Tab.get (fun _ => none) c.fv1 b with
    | none, _ => false
    | some _, none => true
    | some x, some y => decide (y < x)
  let c := if second then { c with fv1 := Tab.set (fun _ => none) c.fv1 b (some fv) }
    else { c with fv0 := Tab.set (fun _ => none) c.fv0 b (some fv) }
  { s with nv := { s.nv with cnt := c } }

/-- TX_FV advances; at a multiple of 4,096 it is saved. DESIGN CHOICE: log entry 52. -/
def State.fvNext (s : State) (b : Nat) : State :=
  let fv := (s.get (Fd.FB_TX_FV_FV b) + 1) % 2 ^ 32
  let s := s.put (Fd.FB_TX_FV_FV b) fv
  if fv % 4096 ≠ 0 then s else s.fvSave b fv

/-- A new session key restarts every FV of the bus, and the saved copies with it (R135). DESIGN CHOICE: log entries
52, 68. -/
def State.fvRestart (s : State) (b : Nat) : State :=
  let c := s.nv.cnt
  let c := { c with
    fv0 := Tab.set (fun _ => none) c.fv0 b (some 0), fv1 := Tab.set (fun _ => none) c.fv1 b (some 0) }
  let s := { s with nv := { s.nv with cnt := c } }.put (Fd.FB_TX_FV_FV b) 0
  (s.node.table.filter fun (i, _) => i / 256 == b).foldl (fun s (i, n) =>
    s.setNode i { n with dyn := { n.dyn with rxFv := 0 } }) s

/-- TX_FV at a boot: the larger valid saved value plus 4,096, itself a multiple of 4,096 and saved (R135); with none
saved it starts at 0. DESIGN CHOICE: log entry 52. -/
def State.fvBoot (s : State) (b : Nat) : State :=
  let a := Tab.get (fun _ => none) s.nv.cnt.fv0 b
  let c := Tab.get (fun _ => none) s.nv.cnt.fv1 b
  let v := match a, c with
    | none, none => 0
    | _, _ => (max (a.getD 0) (c.getD 0) + 4096) % 2 ^ 32
  (s.put (Fd.FB_TX_FV_FV b) v).fvSave b v

/-- The first edge of a module that has never saved TX_FV saves its start (R135). DESIGN CHOICE: log entry 52. -/
def State.fvFirst (s : State) (b : Nat) : State :=
  if (Tab.get (fun _ => none) s.nv.cnt.fv0 b).isSome || (Tab.get (fun _ => none) s.nv.cnt.fv1 b).isSome then s else s.fvBoot b

/-- A received freshness value reconstructed from its low 16 bits (R135); none when it is not fresh. DESIGN CHOICE:
log entry 68. -/
def fvCand (last fv16 : Nat) : Option Nat :=
  let c := last / 65536 * 65536 + fv16 % 65536
  let c := if c ≤ last then c + 65536 else c
  if c - last ≤ 32768 then some (c % 2 ^ 32) else none

/-! ### Message objects (R153 to R155) -/

/-- Key of the word at an offset of message object i of bus b. -/
abbrev moKey (b i off : Nat) : Nat := key (Pg.fbmo b) (32 * i + off)

/-- A field of message object i of bus b at a word offset. -/
abbrev mo (b i off lo len : Nat) : Fld := ⟨key (Pg.fbmo b) (32 * i + off), lo, len⟩

def State.moValid (s : State) (b i : Nat) : Bool := s.flag (mo b i 0 31 1)
def State.moTx (s : State) (b i : Nat) : Bool := s.flag (mo b i 0 30 1)
def State.moCont (s : State) (b i : Nat) : Nat := s.get (mo b i 0 24 2)
def State.moLen (s : State) (b i : Nat) : Nat := s.get (mo b i 0 0 7)
def State.moId (s : State) (b i : Nat) : Nat := s.get (mo b i 4 0 29)
def State.moState (s : State) (b i : Nat) : Nat := s.get (mo b i 12 28 4)

/-- CONT_N makes a valid chain (R153). -/
def State.moChainOk (s : State) (b i : Nat) : Bool := decide (s.moCont b i ≤ 2 ∧ i + s.moCont b i ≤ 127)

/-- The head objects from index i on: continuation objects of a VALID head are skipped. -/
def State.moHeads (s : State) (b : Nat) : Nat → Nat → List Nat
  | 0, _ => []
  | n + 1, i =>
    if 127 < i then []
    else i :: s.moHeads b n (i + 1 + if s.moValid b i && s.moChainOk b i then s.moCont b i else 0)

/-- The head objects of a bus. -/
def State.heads (s : State) (b : Nat) : List Nat := s.moHeads b 128 0

/-- Every head whose STAT.STATE is st. -/
def State.moIn (s : State) (b st : Nat) : List Nat := (s.heads b).filter fun i => s.moState b i == st

/-- Capacity of an object's chain in data bytes. -/
def State.moCap (s : State) (b i : Nat) : Nat := 8 + 32 * s.moCont b i

/-- Key of the word that holds data byte k of an object's chain (R153). -/
def moDataKey (b i k : Nat) : Nat :=
  if k < 8 then key (Pg.fbmo b) (32 * i + 0x18 + k / 4 * 4) else key (Pg.fbmo b) (32 * (i + 1) + (k - 8) / 4 * 4)

/-- The first n data bytes of an object. -/
def State.moBytes (s : State) (b i n : Nat) : List Nat :=
  (List.range n).map fun k => getF (s.rd (moDataKey b i k)) (8 * (k % 4)) 8

/-- Data bytes written into an object's chain, from byte k on. -/
def State.moStore (s : State) (b i : Nat) : Nat → List Nat → State
  | _, [] => s
  | k, v :: t =>
    let a := moDataKey b i k
    (s.wr a (setF (s.rd a) (8 * (k % 4)) 8 v)).moStore b i (k + 1) t

/-- An object's outcome raises an interrupt bit of its FB page when IE is 1 (R157). -/
def State.moIrq (s : State) (b i bit : Nat) : State := if s.flag (mo b i 0 27 1) then s.irq (Pg.fb b) bit else s

/-- STATE of an object, with CAUSE 0. -/
def State.moSet (s : State) (b i st : Nat) : State := (s.put (mo b i 12 28 4) st).put (mo b i 12 24 4) 0

/-- The frame of object i. -/
def TxFrame.ofObject (i : Nat) (t : TxFrame) : Bool :=
  match t.kind with
  | .object j => i == j
  | _ => false

/-- The frame built for a PENDING object, which waits for its tag or for retransmission, is given up (R154). -/
def State.moDrop (s : State) (b i : Nat) : State :=
  s.modFb b fun f => { f with
    again := f.again.filter fun t => !t.ofObject i
    req := if (f.req.map (·.1.ofObject i)).getD false then none else f.req }

/-- An object becomes FAILED with a cause. -/
def State.moFail (s : State) (b i cause : Nat) : State :=
  (((s.moDrop b i).put (mo b i 12 28 4) 4).put (mo b i 12 24 4) cause).moIrq b i 1

/-- Every object of a list becomes FAILED. -/
def State.moFailAll (s : State) (b cause : Nat) (l : List Nat) : State := l.foldl (fun s i => s.moFail b i cause) s

/-- An object's frame has one attempt only (R148). DEDUCED: log entry 60. -/
def State.moOneshot (s : State) (b i : Nat) : Bool := s.flag (mo b i 0 29 1) || s.flag (Fd.FB_CTRL_ONESHOT b)

/-- The check of a transmit request: its failing cause, 0 when it passes (R154). DEDUCED: log entry 59. -/
def State.moCheck (s : State) (b i : Nat) : Nat :=
  let c := idClass (s.moId b i)
  let len := s.moLen b i
  if s.moChainOk b i = false then 10
  else if c = 1 ∨ c = 3 ∨ c = 4 ∨ idAddr (s.moId b i) = 0 then 4
  else if 64 < len ∨ ((c = 0 ∨ c = 2) ∧ 58 < len) ∨ s.moCap b i < len then 5
  else 0

/-- The effect of a write of CTL after its bits are stored: a transmit request, an arming, or the end of a PENDING
request (R154, R155). `v` is the word as written. DEDUCED: log entry 59. -/
def State.moCtlWrite (s : State) (b i : Nat) (v : Word) : State :=
  let st := s.moState b i
  if bitW v 31 = false then if st = 1 then (s.moDrop b i).moSet b i 0 else s
  else if bitW v 7 = false then s
  else if bitW v 30 then
    if st = 1 ∨ st = 2 then s
    else
      let s := s.put (mo b i 12 0 16) 0
      match s.moCheck b i with
      | 0 =>
        if (s.busState b = 5 ∨ s.busState b = 6) ∧ idClass (s.moId b i) = 0 ∧ s.moOneshot b i then s.moFail b i 3
        else s.moSet b i 1
      | c => s.moFail b i c
  else if s.moChainOk b i then
    ((s.moSet b i 5).put (mo b i 12 23 1) 0).put (mo b i 12 22 1) 0
  else s.moFail b i 10

/-- TS_SEC and TS_NS of an object: the SOF stamp of its frame (R144). -/
def State.moStamp (s : State) (b i : Nat) (sof : Int) : State :=
  let t := s.stamp sof
  (s.wr (moKey b i 16) (BitVec.ofNat 32 t.1)).wr (moKey b i 20) (BitVec.ofNat 32 t.2)

/-- A received frame offered to the receive objects in ascending order (R155); `only` restricts it to objects with
AUTORATE, during rate detection (R147). DEDUCED: log entries 58, 134. -/
def State.moOffer (s : State) (b : Nat) (f : RxFrame) (seq : Nat) (only : Bool) : State :=
  match (s.heads b).find? fun i =>
      (s.moState b i == 5 || s.moState b i == 6) && s.moValid b i && !s.moTx b i &&
      (!only || s.flag (mo b i 0 28 1)) &&
      (((f.id % 2 ^ 29) ^^^ s.moId b i) &&& s.get (mo b i 8 0 29)) == 0 with
  | none => s
  | some i =>
    let cap := s.moCap b i
    let was := s.moState b i == 6
    let s := s.moStore b i 0 (f.data.take cap)
    let s := (s.put (mo b i 0 0 7) (min f.data.length 64)).put (mo b i 12 0 16) seq
    let s := (s.put (mo b i 12 21 1) (b2n f.esi)).put (mo b i 12 20 1) (b2n (!f.fdf))
    let s := if cap < f.data.length then s.put (mo b i 12 22 1) 1 else s
    let s := if was then s.put (mo b i 12 23 1) 1 else s
    let s := s.moStamp b i f.sof
    let s := (s.moSet b i 6).moIrq b i 2
    if s.flag (mo b i 0 27 1) && !was then s.postNotice 2 2 (Pg.fbmo b) i [] else s

/-! ### The hold (R136) and counters with limited events (R156) -/

/-- Frames shed in a window (1 Plate-delta, 2 poll, 3 event, 4 bulk), R141, R156. DEDUCED: log entry 61. -/
def State.shed (s : State) (b w n : Nat) : State :=
  if n = 0 then s
  else
    let s := (s.add ⟨Rg.FB_SHED_CNT b, 0, 16⟩ n).irq (Pg.fb b) 13
    let f := s.fbs b
    if limitOk f.shedAt s.ns 1 then
      (s.setFb b { f with shedAt := some s.ns, shedCnt := 0 }).raise Ev.FB_SHED (Pg.fb 0) [b, w, f.shedCnt + n]
    else s.setFb b { f with shedCnt := f.shedCnt + n }

/-- A frame from address a fails its tag or freshness (R134). -/
def State.authFail (s : State) (b a : Nat) : State :=
  let s := (s.add (Fd.FB_AUTH_FAIL_FAIL b) 1).irq (Pg.fb b) 11
  let f := s.fbs b
  if limitOk f.authAt s.ns 1 then
    (s.setFb b { f with authAt := some s.ns, authCnt := 0 }).raise Ev.FB_AUTH_FAIL (Pg.fb 0) [b, a, f.authCnt + 1]
  else s.setFb b { f with authCnt := f.authCnt + 1 }

/-- The hold begins, or goes on with a new cause (R136). DEDUCED: log entry 57. -/
def State.enterHold (s : State) (b cause : Nat) : State :=
  let f := s.fbs b
  if f.hold = cause then s
  else
    let s := s.setFb b { f with hold := cause, holdTicks := if f.hold = 0 then 0 else f.holdTicks, tmoRun := 0 }
    let s := if f.hold = 0 then
        s.moFailAll b 6 ((s.moIn b 1).filter fun i => idClass (s.moId b i) == 0 || idClass (s.moId b i) == 2)
      else s
    let s := (s.put (Fd.FB_STAT_KEY_HOLD b) 1).irq (Pg.fb b) 10
    s.raise Ev.FB_KEY_HOLD (Pg.fb 0) [b, cause]

/-- The hold cause that a refused tag request gives; `first`: the first request after a boot (R136). DEDUCED: log
entries 57, 156. -/
def holdCause (code : Nat) (first : Bool) : Nat :=
  if code = 5 then 6 else if code = 2 then 4 else if first then 1 else if code = 1 then 2 else 5

/-- The hold ends at an edge after a test request was answered with a tag (R136). -/
def State.holdEdge (s : State) (b : Nat) : State :=
  let f := s.fbs b
  if f.hold = 0 then s
  else if f.testOk then
    let s := s.setFb b { f with hold := 0, holdTicks := 0, tmoRun := 0, testOk := false, test := none }
    ((s.put (Fd.FB_STAT_KEY_HOLD b) 0).irq (Pg.fb b) 10).raise Ev.FB_KEY_RESUMED (Pg.fb 0) [b, f.holdTicks + 1]
  else s.setFb b { f with holdTicks := f.holdTicks + 1 }

/-- In the guard band of a tick in a hold the controller makes one test tag request (R136). -/
def State.keyTest (s : State) (b : Nat) : State :=
  if (s.fbs b).hold = 0 then s
  else
    let r := s.tagAnswer b []
    r.2.modFb b ({ · with test := some r.1 })

/-! ### Plate-delta selection (R142) -/

/-- The addresses of bus b whose entry is a commissioned lantern node and is not held under R321. -/
def State.eligible (s : State) (b : Nat) : List Nat :=
  s.node.table.filterMap fun (i, n) =>
    if i / 256 = b ∧ n.commLantern ∧ i % 256 ≠ 0 ∧ i % 256 ≠ 255 ∧ (s.fbs b).held.contains (i % 256) = false
    then some (i % 256) else none

/-- The next address of a rising list at or after p, wrapping. -/
def nextFrom (l : List Nat) (p : Nat) : Option Nat :=
  match l.find? fun a => decide (p ≤ a) with
  | some a => some a
  | none => l.head?

/-- Entries taken at the refresh pointer until `taken` holds cap entries, in at most n steps; an address already taken is
passed over. -/
def takeRefresh (elig : List Nat) (cap : Nat) : Nat → Nat → List Nat → Nat × List Nat
  | 0, p, taken => (p, taken)
  | n + 1, p, taken =>
    if cap ≤ taken.length then (p, taken)
    else match nextFrom elig p with
      | none => (p, taken)
      | some a => takeRefresh elig cap n (a + 1) (if taken.contains a then taken else taken ++ [a])

/-- Marked eligible addresses taken from `start` on, wrapping once. -/
def takeMarked (cap : Nat) (taken : List Nat) : List Nat → List Nat
  | [] => taken
  | a :: t => takeMarked cap (if taken.contains a ∨ cap ≤ taken.length then taken else taken ++ [a]) t

/-- A list cut into pieces of n entries. -/
def chunksOf (n : Nat) : Nat → List Nat → List (List Nat)
  | 0, _ => []
  | k + 1, l => if l.isEmpty then [] else l.take n :: chunksOf n k (l.drop n)

/-- A change mark. -/
def State.marked (s : State) (i : Nat) : Bool := Tab.get (fun _ => false) s.plate.marks i

/-- A change mark set or cleared. -/
def State.mark (s : State) (i : Nat) (v : Bool) : State :=
  { s with plate := { s.plate with marks := Tab.set (fun _ => false) s.plate.marks i v } }

/-- The selection of the tick's Plate-delta entries (R142); marks of ineligible addresses are cleared. -/
def State.pdSelect (s : State) (b : Nat) : State :=
  let elig := s.eligible b
  let s := (s.plate.marks.filter fun (i, _) => i / 256 == b && !elig.contains (i % 256)).foldl
    (fun s (i, _) => s.mark i false) s
  let f := s.fbs b
  let cap := (s.fbPlan b).pd * 19
  let n1 := min (s.get (Fd.FB_REFRESH_MIN b)) cap
  let r1 := takeRefresh elig (min n1 elig.length) n1 f.refPtr []
  let rot := (elig.filter fun a => decide (f.markStart ≤ a)) ++ elig.filter fun a => decide (a < f.markStart)
  let t2 := takeMarked cap r1.2 (rot.filter fun a => s.marked (b * 256 + a))
  let ms := match (t2.drop r1.2.length).getLast? with
    | some a => a + 1
    | none => f.markStart
  let r3 := takeRefresh elig (min cap elig.length) (elig.length + cap) r1.1 t2
  s.setFb b { f with refPtr := r3.1, markStart := ms, pdq := chunksOf 19 (cap + 1) r3.2, pdIdx := 0 }

/-! ### Poll positions and the discovery walk (R143, R171, R177) -/

/-- The entry at an index as it stands with the ASSIGN actions that wait for the edge (R178). -/
def State.effState (s : State) (i : Nat) : Nat :=
  if s.node.inputs.any fun x => match x with
    | .assigned b a _ => b * 256 + a == i
    | _ => false then 2
  else (s.nodeAt i).ident.state

/-- The progress of an entry. -/
def State.prog (s : State) (i : Nat) : NodeProg := Tab.get (fun _ => NodeProg.init) s.node.prog i

/-- SESSION.RECOM of a bus: an entry is under re-commissioning with its three RELEASEs sent (R181). -/
def State.recomOn (s : State) (b : Nat) : Bool :=
  s.node.prog.any fun (i, p) => i / 256 == b && p.recom && p.releases == 3

/-- Probes may be sent: SESSION.OPEN or RECOM. -/
def State.mayProbe (s : State) (b : Nat) : Bool := bitW (s.rd Rg.NODE_SESSION) b || s.recomOn b

/-- A position carries a walk action (R171): SESSION or RECOM, a queued ASSIGN or CONFIRM, or the RELEASE that a failed
commissioning sends (R179). DEDUCED: log entry 84. -/
def State.walkOpen (s : State) (b : Nat) : Bool := s.mayProbe b || !(s.fbs b).acts.isEmpty

/-- An action of the walk proper: a RELEASE alone is none (R177, R179). -/
def WalkAct.ofWalk : WalkAct → Bool
  | .release _ => false
  | _ => true

/-- A walk runs on the bus; a module that does not transmit runs none (R176). -/
def State.walking (s : State) (b : Nat) : Bool :=
  let f := s.fbs b
  s.transmits && (!f.stack.isEmpty || f.acts.any WalkAct.ofWalk || f.probe.isSome)

/-- A DISCOVER payload (R169). -/
def discoverBytes (op m uid : Nat) : List Nat := [op, m] ++ leBytes 6 uid

/-- A POLL_REQ payload (R131, R165). -/
def pollBytes (form : Nat) : List Nat := [form, 0, 0, 0, 0, 0, 0, 0]

/-- What the next position carries, before its tag is known: nothing, or a kind with identifier fields and payload,
and the bus state with the walk moved on (R171, R177). DEDUCED: log entries 63, 84. -/
def State.atPosition (s : State) (b : Nat) : Option (TxKind × Nat × Nat × List Nat) × FbSt :=
  let f := s.fbs b
  let pos := f.pollPos
  let st := (s.nodeAt (b * 256 + pos)).ident.state
  if pos = 255 then (none, f)
  else if pos ≠ 0 ∧ (st = 2 ∨ st = 3 ∨ st = 4) then
    let ask := if st = 2 ∨ (st = 4 ∧ (s.nodeAt (b * 256 + pos)).dyn.link.testBit 4) then 1 else 0
    (some (.poll pos ask, 1, pos, pollBytes ask), f)
  else if s.walkOpen b = false then (none, { f with stack := [] })
  else match f.acts with
    | .assign a u :: t => (some (.assign a u, 2, 255, discoverBytes 2 a u), { f with acts := t })
    | .confirm a _ :: t => (some (.poll a 2, 1, a, pollBytes 1), { f with acts := t })
    | .release u :: t => (some (.release u, 2, 255, discoverBytes 3 0 u), { f with acts := t })
    | [] =>
      if s.mayProbe b = false then (none, { f with stack := [] })
      else match f.stack with
        | (m, p) :: t => (some (.probe m p, 2, 255, discoverBytes 1 m p), { f with stack := t })
        | [] =>
          if pos = 0 then
            (some (.probe 0 0, 2, 255, discoverBytes 1 0 0),
              { f with
                walks := (if f.ran then f.walks + 1 else f.walks) % 65536
                ran := true, told := [], probes := 0, collided := 0 })
          else (none, f)

/-- A position is passed. -/
def FbSt.nextPos (f : FbSt) : FbSt :=
  { f with
    pairs := f.pairs + 1, sentPos := f.pollPos, pollPos := (f.pollPos + 1) % 256
    cycles := if f.pollPos = 255 then f.cycles + 1 else f.cycles }

/-- The position of the latest frame of the poll window has not been served and comes first again (R141). -/
def FbSt.backPos (f : FbSt) : FbSt :=
  { f with pollPos := f.sentPos, cycles := if f.pollPos ≤ f.sentPos then f.cycles - 1 else f.cycles }

/-! ### Starting frames (R139, R140) -/

/-- The window open at `us` µs after the edge: 0 sync, 1 Plate-delta, 2 poll, 3 event, 4 bulk, 5 none (R138). -/
def State.window (s : State) (b us : Nat) : Nat :=
  let p := s.fbPlan b
  let ls := s.fbLs b
  if us < ls then 0 else if us < ls * (1 + p.pd) then 1 else if us < ls * (1 + p.pd + 2 * p.poll) then 2
  else if us < ls * (1 + p.pd + 2 * p.poll + p.event) then 3
  else if us < ls * (1 + p.pd + 2 * p.poll + p.event + p.bulk) then 4 else 5

/-- The window that a frame belongs to; class 0 belongs to none (6). -/
def TxFrame.win (t : TxFrame) : Nat :=
  match t.kind with
  | .sync => 0
  | .pd _ => 1
  | .poll _ _ | .probe _ _ | .assign _ _ | .release _ => 2
  | .job _ _ _ => 3
  | .bulk => 4
  | .object _ => if idClass t.id = 0 then 6 else if idClass t.id = 6 ∨ idClass t.id = 7 then 4 else 3

/-- A job's state changed. -/
def State.modJob (s : State) (b : Nat) (op addr tag : Nat) (g : NodeJob → NodeJob) : State :=
  s.modFb b fun f => { f with
    jobs := f.jobs.map fun j => if j.op = op ∧ j.addr = addr ∧ j.tag = tag then g j else j }

/-- A frame goes on the wire, with ESI by the controller's error state (R121). -/
def State.onWire (s : State) (b : Nat) (t : TxFrame) : State :=
  let s := s.modFb b ({ · with tx := some { t with esi := s.busState b == 4 } })
  match t.kind with
  | .object i => (s.put (mo b i 12 28 4) 2).add (mo b i 12 0 16) 1
  | _ => s

/-- The tag of an authenticated frame is asked for, over the next FV; TX_FV takes it once the frame is built, with its tag
(R134, R135).  `tag` answers. -/
def State.askTag (s : State) (b : Nat) (k : TxKind) (id : Nat) (payload : List Nat) (oneshot : Bool)
    (tag : State → List Nat → TagAnswer × State) : State :=
  let fv := (s.get (Fd.FB_TX_FV_FV b) + 1) % 2 ^ 32
  let body := padTo (fdLen (payload.length + 6) - 6) payload
  let (a, s) := tag s (tagMsg id fv body)
  s.modFb b ({ · with req := some (⟨k, id, body, some fv, oneshot, false⟩, a) })

/-- An object's frame starts: with the trailer for class 0 and 2. -/
def State.startObject (s : State) (b i : Nat) : State :=
  let id := s.moId b i
  let data := s.moBytes b i (s.moLen b i)
  if idClass id = 0 ∨ idClass id = 2 then
    s.askTag b (.object i) id data (s.moOneshot b i) (fun s m => s.tagAnswer b m)
  else s.onWire b { plainFrame (.object i) id data with oneshot := s.moOneshot b i }

/-- The data length of an object's frame. -/
def State.objLen (s : State) (b i : Nat) : Nat :=
  let c := idClass (s.moId b i)
  if c = 0 ∨ c = 2 then fdLen (s.moLen b i + 6) else fdLen (s.moLen b i)

/-- The pending object of lowest identifier, then lowest index, among the classes that p admits, that can end before the
next edge when it starts at `us`, and that has no frame waiting for retransmission. DEDUCED: log entry 60. -/
def State.bestObject (s : State) (b us : Nat) (p : Nat → Bool) : Option Nat :=
  ((s.moIn b 1).filter fun i => p (idClass (s.moId b i)) && !(s.fbs b).stalled.contains (s.moId b i) &&
      (idClass (s.moId b i) == 0 || s.fits b us (s.objLen b i)) && !(s.fbs b).again.any (TxFrame.ofObject i)).foldl
    (fun o i => match o with
      | none => some i
      | some j => if s.moId b i < s.moId b j then some i else some j) none

/-- The frame of lowest identifier that waits for retransmission in window w and can end before the next edge. -/
def State.bestAgain (s : State) (b us w : Nat) : Option TxFrame :=
  ((s.fbs b).again.filter fun t => t.win == w && (w == 6 || w == 0 || s.fits b us t.data.length)).foldl
    (fun o t => match o with
      | none => some t
      | some u => if t.id < u.id then some t else some u) none

/-- A retransmission: the same frame, with the same FV (R142, R148). -/
def State.resend (s : State) (b : Nat) (t : TxFrame) : State :=
  (s.modFb b fun f => { f with again := f.again.erase t }).onWire b t

/-- Identifier of a NODE_CMD. -/
def jobId (j : NodeJob) : Nat := if j.op = 0x80 then frameId 2 3 j.addr 0 else frameId 2 2 j.addr j.tag

/-- A job can be sent now: it does not wait, and an install's node is heard and its retry cycle has come (R343).
DEDUCED: log entry 72. -/
def State.jobReady (s : State) (b : Nat) (j : NodeJob) : Bool :=
  !j.waiting && !(s.fbs b).jobsCut && !(s.fbs b).stalled.contains (jobId j) &&
  !(s.fbs b).again.any (fun t => t.kind == .job j.op j.addr j.tag) &&
  (if j.op = 0x80 then
    decide ((s.fbs b).keySent < 6) && decide (j.cycle ≤ (s.fbs b).cycles) && s.slotRefusal 5 1 == 0 &&
    !(j.kind == .rollout && (s.nodeAt (b * 256 + j.addr)).comloss)
  else true)

/-- The data length of a job's frame. -/
def jobLen (j : NodeJob) : Nat := if j.op = 0x80 then 64 else fdLen (j.args.length + 7)

/-- The ready job of lowest identifier that can end before the next edge: installs, or the other commands. -/
def State.bestJob (s : State) (b us : Nat) (install : Bool) : Option NodeJob :=
  ((s.fbs b).jobs.filter fun j => (j.op == 0x80) == install && s.jobReady b j && s.fits b us (jobLen j)).foldl
    (fun o j => match o with
      | none => some j
      | some k => if jobId j < jobId k then some j else some k) none

/-- The KEY_INSTALL payload for a node (R342). -/
def State.installBytes (s : State) (b addr : Nat) : List Nat :=
  let k := s.key (16 + b)
  let kn := s.nodeKey (s.nodeAt (b * 256 + addr)).ident.uid
  padTo 58 ([0x80, 0] ++ leBytes 2 k.gen ++ leBytes 2 b ++ [0, 0] ++ padTo 24 (aesWrap (leBytes 16 kn) (leBytes 16 k.mat)))

/-- A job's frame starts: an install under K_node (R342), any other command under the session key. -/
def State.startJob (s : State) (b : Nat) (j : NodeJob) : State :=
  if j.op = 0x80 then
    let kn := s.nodeKey (s.nodeAt (b * 256 + j.addr)).ident.uid
    let s := s.modFb b fun f => { f with keySent := f.keySent + 1 }
    s.askTag b (.job j.op j.addr j.tag) (jobId j) (s.installBytes b j.addr) false
      (fun s m => (.tag ((aesCmac (leBytes 16 kn) m).take 4), s))
  else
    s.askTag b (.job j.op j.addr j.tag) (jobId j) ([j.op] ++ j.args) false (fun s m => s.tagAnswer b m)

/-- The bulk frame at the head of the queue (R133). -/
def bulkFrame (o : BulkOut) : TxFrame :=
  plainFrame .bulk (frameId 6 1 o.addr (o.chunk % 4096))
    (padTo 64 ([o.stream, b2n o.last + 2 * b2n o.ackReq] ++ leBytes 4 o.chunk ++ leBytes 2 o.data.length ++ o.data))

/-- The identifier of a candidate; with none, one above every identifier. -/
def idOr {α : Type} (o : Option α) (f : α → Nat) : Nat := (o.map f).getD (2 ^ 29)

/-- A class 6 or 7 frame starts: a retransmission, the stream or an object, by identifier, in that order on a tie
(R139). -/
def State.startBulk (s : State) (b us : Nat) : State :=
  let a := s.bestAgain b us 4
  let q := if s.fits b us 64 then (s.fbs b).bulkq.head? else none
  let o := s.bestObject b us fun c => c == 6 || c == 7
  let ia := idOr a (·.id)
  let iq := idOr q fun x => (bulkFrame x).id
  let io := idOr o (s.moId b)
  match a, q, o with
  | some t, _, _ => if ia ≤ iq ∧ ia ≤ io then s.resend b t else
    match q, o with
    | some x, _ => if iq ≤ io then s.onWire b (bulkFrame x) else match o with
      | some i => s.startObject b i
      | none => s
    | none, some i => s.startObject b i
    | none, none => s
  | none, some x, some i => if iq ≤ io then s.onWire b (bulkFrame x) else s.startObject b i
  | none, some x, none => s.onWire b (bulkFrame x)
  | none, none, some i => s.startObject b i
  | none, none, none => s

/-- A frame starts in the event window (R139): an install ahead of the others (R343), then by identifier a retransmission, a
command or an object, in that order on a tie; in the spare time class 6 and 7. -/
def State.startEvent (s : State) (b us : Nat) : State :=
  let held := decide ((s.fbs b).hold ≠ 0)
  let inst := if held then none else s.bestJob b us true
  let a := s.bestAgain b us 3
  let job := if held then none else s.bestJob b us false
  let obj := s.bestObject b us fun c => c == 5 || (c == 2 && !held)
  let ij := idOr job jobId
  let io := idOr obj (s.moId b)
  match inst, a with
  | some j, some t => if t.id ≤ jobId j then s.resend b t else s.startJob b j
  | some j, none => s.startJob b j
  | none, some t =>
    if t.id ≤ ij ∧ t.id ≤ io then s.resend b t
    else match job, obj with
      | some j, some i => if ij ≤ io then s.startJob b j else s.startObject b i
      | some j, none => s.startJob b j
      | none, some i => s.startObject b i
      | none, none => s
  | none, none => match job, obj with
    | some j, some i => if ij ≤ io then s.startJob b j else s.startObject b i
    | some j, none => s.startJob b j
    | none, some i => s.startObject b i
    | none, none => s.startBulk b us

/-- The next Plate-delta frame starts (R130); its entries are read from the front buffer now. -/
def State.startPd (s : State) (b us : Nat) : State :=
  let f := s.fbs b
  match f.pdq with
  | [] => s
  | l :: t =>
    let n := fdLen (1 + 3 * l.length + 6)
    let id := frameId 2 1 255 (s.tick.num % 256 * 16 + f.pdIdx % 16)
    if f.hold ≠ 0 ∨ f.stalled.contains id ∨ s.fits b us n = false then s
    else
      let e := l.flatMap fun a => [a] ++ leBytes 2 (Tab.get (fun _ => 0) s.front (b * 256 + a))
      let s := s.setFb b { f with pdq := t, pdIdx := f.pdIdx + 1 }
      s.askTag b (.pd l) id ([l.length] ++ e) false (fun s m => s.tagAnswer b m)

/-- The poll pair whose first slot is open at `us`; the second slot is kept for the response (R139). -/
def State.pairNow (s : State) (b us : Nat) : Option Nat :=
  let slot := us / max 1 (s.fbLs b)
  let first := 1 + (s.fbPlan b).pd
  if slot < first ∨ (slot - first) % 2 = 1 ∨ (s.fbPlan b).poll ≤ (slot - first) / 2 then none else some ((slot - first) / 2)

/-- A frame starts in the poll window, in the first slot of a pair (R139, R143, R171): a retransmission, the next position's
frame, or none where the position stays idle. -/
def State.startPoll (s : State) (b us : Nat) : State :=
  let f := s.fbs b
  match s.pairNow b us with
  | none => s
  | some k =>
    if k < f.pairAt then s
    else match s.bestAgain b us 2 with
      | some t => (s.modFb b ({ · with pairAt := k + 1 })).resend b t
      | none =>
        if (s.fbPlan b).poll ≤ f.pairs then s
        else match s.atPosition b with
          | (none, f') => s.setFb b { f'.nextPos with pairAt := k + 1 }
          | (some (kind, typ, addr, payload), f') =>
            if s.fits b us 8 = false then s
            else
              let tag := (f'.pollTag + 1) % 4096
              let f' := { f'.nextPos with pollTag := tag, pairAt := k + 1 }
              (s.setFb b f').onWire b (plainFrame kind (frameId 5 typ addr tag) payload)

/-- FB_FRAME_START: a pending frame starts `us` µs after the edge: class 0 at any frame boundary, then SYNC, then the frames
of the open window (R139, R140, R150). DEDUCED: log entry 62. -/
def State.fbStart (s : State) (b us : Nat) : State :=
  let f := s.fbs b
  if s.maySend b = false ∨ f.tx.isSome ∨ f.req.isSome then s
  else
    let safe := if f.hold = 0 then s.bestObject b us (fun c => c == 0) else none
    match s.bestAgain b us 6, safe with
    | some t, some i => if t.id ≤ s.moId b i then s.resend b t else s.startObject b i
    | some t, none => s.resend b t
    | none, some i => s.startObject b i
    | none, none => match s.bestAgain b us 0, f.sync with
      | some t, _ => s.resend b t
      | none, some p => (s.modFb b ({ · with sync := none })).onWire b (plainFrame .sync (frameId 1 0 255 s.tick.num) p)
      | none, none => match s.window b us with
        | 1 => match s.bestAgain b us 1 with
          | some t => s.resend b t
          | none => s.startPd b us
        | 2 => s.startPoll b us
        | 3 => s.startEvent b us
        | 4 => s.startBulk b us
        | _ => s

/-- A frame that is not sent after all returns to where it came from (R141). DEDUCED: log entry 62. -/
def State.unsend (s : State) (b : Nat) (t : TxFrame) : State :=
  match t.kind with
  | .object i => if s.moState b i = 2 then s.put (mo b i 12 28 4) 1 else s
  | .poll a ask => s.modFb b fun f => { f.backPos with
      acts := if ask = 2 then .confirm a (s.nodeAt (b * 256 + a)).ident.uid :: f.acts else f.acts }
  | .assign a u => s.modFb b fun f => { f.backPos with acts := .assign a u :: f.acts }
  | .release u => s.modFb b fun f => { f.backPos with acts := .release u :: f.acts }
  | .probe m p => s.modFb b fun f => { f.backPos with stack := (m, p) :: f.stack }
  | _ => s

/-- The frames of a list that wait for retransmission are given up. -/
def State.giveUp (s : State) (b : Nat) (p : TxFrame → Bool) : State :=
  let l := (s.fbs b).again.filter p
  l.foldl (fun s t => s.unsend b t) (s.modFb b fun f => { f with again := f.again.filter fun t => !p t })

/-- The frame that waits for its tag is given up; a Plate-delta frame is shed when its window closes (R136, R141). -/
def State.dropReq (s : State) (b : Nat) : State :=
  match (s.fbs b).req with
  | none => s
  | some (t, _) =>
    let s := s.modFb b fun f => { f with
      req := none
      pdLost := match t.kind with
        | .pd _ => f.pdLost + 1
        | _ => f.pdLost }
    s.unsend b t

/-- A tag request times out, or is aborted (R347): the frame is not sent in this window, and the 16th in succession begins
the hold (R136). -/
def State.tagFail (s : State) (b : Nat) : State :=
  match (s.fbs b).req with
  | none => s
  | some (t, _) =>
    let n := (s.fbs b).tmoRun + 1
    let s := (s.dropReq b).modFb b fun f => { f with asked := true, tmoRun := n, stalled := t.id :: f.stalled }
    if 16 ≤ n then s.enterHold b 3 else s

/-- FB_TAG_RESPONSE: Ground answers (R134, R136). -/
def State.tagResponse (s : State) (b : Nat) : State :=
  let f := s.fbs b
  match f.req with
  | some (t, a) =>
    match a with
    | .tag bytes =>
      let fv := t.fv.getD 0
      ((s.fvNext b).modFb b ({ · with req := none, asked := true, tmoRun := 0 })).onWire b
        { t with data := t.data ++ leBytes 2 fv ++ padTo 4 bytes }
    | .refused code =>
      if code = 10 then s.tagFail b
      else ((s.dropReq b).modFb b ({ · with asked := true })).enterHold b (holdCause code (!f.asked))
  | none => match f.test with
    | some (.tag _) => s.setFb b { f with test := none, testOk := true, tmoRun := 0 }
    | some (.refused code) =>
      let s := s.setFb b { f with test := none }
      if code = 10 then s else s.enterHold b (holdCause code false)
    | none => s

/-- FB_TAG_TIMEOUT: no answer within 64 µs (R136). -/
def State.tagTimeout (s : State) (b : Nat) : State :=
  let f := s.fbs b
  match f.req, f.test with
  | some _, _ => s.tagFail b
  | none, some _ => s.setFb b { f with test := none }
  | none, none => s

/-- The pairs left in the tick: idle positions pass, and the first position with a frame waits (R141). DEDUCED: log
entry 63. -/
def State.skipIdle (s : State) (b : Nat) : Nat → State
  | 0 => s
  | n + 1 =>
    if (s.fbPlan b).poll ≤ (s.fbs b).pairs then s
    else match s.atPosition b with
      | (none, f') => (s.setFb b f'.nextPos).skipIdle b n
      | (some _, _) => s

/-- FB_WINDOW_CLOSE: frames of the window that have not started are shed, one that still waits for its tag among them (R141).
A bus that is off at the edge has no Plate-delta frames to shed here. DEDUCED: log entries 61, 62. -/
def State.windowClose (s : State) (b w : Nat) : State :=
  let s := s.giveUp b fun t => t.win == w
  let s := if ((s.fbs b).req.map (·.1.win)) = some w then s.dropReq b else s
  let s := s.modFb b ({ · with stalled := [] })
  let f := s.fbs b
  let can := s.maySend b
  if w = 1 then
    let n := if f.hold = 0 ∧ s.transmits then f.pdq.length + f.pdLost else 0
    (s.modFb b ({ · with pdq := [], pdLost := 0 })).shed b 1 n
  else if w = 2 then
    if can then
      let s := s.skipIdle b (s.fbPlan b).poll
      s.shed b 2 ((s.fbPlan b).poll - (s.fbs b).pairs)
    else s
  else if w = 3 then
    let objs := (s.moIn b 1).filter fun i => idClass (s.moId b i) == 2 || idClass (s.moId b i) == 5
    let inst := (f.jobs.filter fun j => j.op == 0x80 && s.jobReady b j).length
    let cmds := (f.jobs.filter fun j => j.op != 0x80 && s.jobReady b j).length
    let n := if f.hold = 0 then min inst (6 - f.keySent) + cmds else 0
    if can then s.shed b 3 (objs.length + n) else s
  else if w = 4 then
    let objs := (s.moIn b 1).filter fun i => idClass (s.moId b i) == 6 || idClass (s.moId b i) == 7
    if can then s.shed b 4 (objs.length + f.bulkq.length) else s
  else s

/-- An input of node management, complete now (R56). -/
def State.nodeInput (s : State) (x : NodeInput) : State :=
  { s with node := { s.node with inputs := s.node.inputs ++ [x] } }

/-- The error counters, with the change between error-active and error-passive (R148). -/
def State.setErrCnt (s : State) (b tec rec_ : Nat) : State :=
  if s.listening b ∨ s.onLine b = false then s
  else
    let s := (s.put (Fd.FB_ERR_CNT_TEC b) (min tec 256)).put (Fd.FB_ERR_CNT_REC b) (min rec_ 255)
    let passive := decide (128 ≤ tec ∨ 128 ≤ rec_)
    if passive ∧ s.busState b = 3 then
      ((s.put (Fd.FB_STAT_BUS_STATE b) 4).irq (Pg.fb b) 3).raise Ev.FB_ERR_PASSIVE (Pg.fb 0) [b, min tec 256, min rec_ 255]
    else if passive = false ∧ s.busState b = 4 then s.put (Fd.FB_STAT_BUS_STATE b) 3
    else s

/-- The end of the second slot of the pair that is served at `us`. DEDUCED: log entry 66. -/
def State.pairEnd (s : State) (b us : Nat) : Nat :=
  let p := s.fbPlan b
  let ls := max 1 (s.fbLs b)
  ls * (1 + p.pd + 2 * ((us / ls - (1 + p.pd)) / 2) + 2)

/-- A poll that is still open is unanswered: when its pair ends, when the next poll goes out, and before the freeze of an
edge (R143, R164, R172). -/
def State.fbEdgeClose (s : State) (b : Nat) : State :=
  match (s.fbs b).wait with
  | some w =>
    (s.modFb b fun f => { f with
      wait := none, unanswered := f.unanswered.filter (fun e => e.1 != w.addr) ++ [(w.addr, w.tag)] }).nodeInput
        (.missed b w.addr w.ask)
  | none => s

/-- A poll has gone out at `us`, and its response is awaited (R143). -/
def State.pollOpen (s : State) (b a tag ask us : Nat) : State :=
  (s.fbEdgeClose b).modFb b fun f => { f with
    wait := some ⟨a, tag, ask, s.pairEnd b us⟩, unanswered := f.unanswered.filter fun e => e.1 != a }

/-- FB_FRAME_SENT: the frame on the wire ends without error (R142, R154, R177, R181). -/
def State.fbSent (s : State) (b us : Nat) (sof : Int) (tec rec_ : Nat) : State :=
  let f := s.fbs b
  match f.tx with
  | none => s
  | some t =>
    let s := s.setFb b { f with
      tx := none, lastErr := none, burstOpen := f.burstOpen.filter fun e => e.1 != t.id }
    let s := ((s.add (Fd.FB_FRAME_CNT_TX b) 1).setErrCnt b tec rec_).modFb b fun f => { f with frames := f.frames + 1 }
    let s := { s with pair := { s.pair with lastEnd := some (s.ns + us * 1000) } }
    match t.kind with
    | .pd l => l.foldl (fun s a => s.mark (b * 256 + a) false) s
    | .poll a ask => s.pollOpen b a (idTag t.id) ask us
    | .probe m p => s.modFb b fun f => { f with
        probe := some ⟨m, p, idTag t.id, s.pairEnd b us, .nothing⟩, lastM := m, lastPfx := p
        probes := min 65535 (f.probes + 1) }
    | .assign a u => s.nodeInput (.assigned b a u)
    | .job op a tag =>
      match f.jobs.find? fun j => j.op == op && j.addr == a && j.tag == tag with
      | none => s
      | some j =>
        let drop := s.modFb b fun f => { f with jobs := f.jobs.erase j }
        if j.kind = .decom then drop.nodeInput (.released (b * 256 + a))
        else if j.kind = .recom then drop
        else s.modJob b op a tag fun j => { j with waiting := true, tries := j.tries + 1, sentAt := s.tick.num }
    | .bulk => s.modFb b fun f => { f with bulkq := f.bulkq.tail }
    | .object i =>
      ((s.moStamp b i sof).moSet b i 3).moIrq b i 0
    | _ => s

/-! ### Errors (R148 to R152) -/

/-- A DUP_ADDR report (R151); its interrupt bit is that of a quarantine (R157). -/
def State.dupReport (s : State) (b a n : Nat) : State :=
  let s := s.raise Ev.FB_DUP_ADDR (Pg.fb 0) [b, a, n]
  let st := s.effState (b * 256 + a)
  if st = 2 ∨ st = 3 ∨ st = 4 then
    ((s.irq (Pg.fb b) 8).add (Fd.FB_DUPCOLL_CNT_QUAR b) 1).nodeInput (.dup (b * 256 + a))
  else s

/-- A frame with this identifier is sent by a node, and its address field names the sender (R127). -/
def fromNode (id : Nat) : Bool :=
  let c := idClass id
  c == 3 || c == 4 || c == 7 || ((c == 0 || c == 6) && idType id == 2)

/-- An error flag on a frame of this identifier feeds the burst counts: two in succession in the data phase begin a burst, which
counts once until it ends (R151, R152). DEDUCED: log entry 200. -/
def State.burst (s : State) (b id : Nat) (own dataPhase : Bool) : State :=
  let f := s.fbs b
  if dataPhase = false then s.setFb b { f with lastErr := none }
  else
    let run := match f.lastErr with
      | some (i, o, n) => if i = id ∧ o = own then n + 1 else 1
      | none => 1
    let s := s.setFb b { f with lastErr := some (id, own, run) }
    if run < 2 ∨ f.burstOpen.contains (id, own) then s
    else
      let s := s.modFb b fun f => { f with burstOpen := (id, own) :: f.burstOpen }
      if own then
        ((s.add (Fd.FB_DUPCOLL_CNT_BURSTS b) 1).irq (Pg.fb b) 9).raise Ev.FB_DUAL_MASTER (Pg.fb 0) [b, id]
      else
        let a := idAddr id
        if fromNode id = false ∨ a = 0 ∨ a = 255 then s
        else
          let s := s.add (Fd.FB_DUPCOLL_CNT_BURSTS b) 1
          let l := (a, s.ms) :: (f.bursts.filter fun (_, t) => decide (s.ms < t + 10000))
          let n := (l.filter fun (x, _) => x == a).length
          if 3 ≤ n then
            (s.modFb b ({ · with bursts := l.filter fun (x, _) => x != a })).dupReport b a n
          else s.modFb b ({ · with bursts := l })

/-- Bus-off begins, or storm hold on the fifth within 60 s (R149, R150). -/
def State.busOff (s : State) (b : Nat) : State :=
  let f := s.fbs b
  let recent := f.boTimes.filter fun t => decide (s.ms < t + 60000)
  let storm := decide (4 ≤ recent.length)
  let s := s.setFb b { f with
    tx := none, sync := none, boAt := s.ms
    boTimes := if storm then [] else recent ++ [s.ms], joined := f.joined && !storm }
  let s := match f.tx with
    | some t => s.unsend b t
    | none => s
  let s := (s.dropReq b).giveUp b fun _ => true
  let s := s.moFailAll b 3 ((s.moIn b 1).filter fun i => idClass (s.moId b i) == 0 && s.moOneshot b i)
  let s := (s.add (Fd.FB_BUSOFF_CNT_BUSOFF b) 1).put (Fd.FB_ERR_CNT_TEC b) 256
  let s := (s.irq (Pg.fb b) 4).raise Ev.FB_BUS_OFF (Pg.fb 0) [b, recent.length + 1]
  if storm then
    let s := ((s.put (Fd.FB_STAT_BUS_STATE b) 6).add (Fd.FB_BUSOFF_CNT_STORM b) 1).irq (Pg.fb b) 6
    s.raise Ev.FB_STORM (Pg.fb 0) [b, s.get (Fd.FB_BUSOFF_CNT_STORM b)]
  else s.put (Fd.FB_STAT_BUS_STATE b) 5

/-- The module's own frame fails: a one-shot object fails, any other frame waits for retransmission (R148). -/
def State.ownFailed (s : State) (b cause : Nat) : State :=
  match (s.fbs b).tx with
  | none => s
  | some t =>
    let s := s.modFb b ({ · with tx := none })
    match t.kind, t.oneshot with
    | .object i, true => s.moFail b i cause
    | .object i, false => (s.modFb b fun f => { f with again := f.again ++ [t] }).put (mo b i 12 28 4) 1
    | _, _ => s.modFb b fun f => { f with again := f.again ++ [t] }

/-- FB_ERROR: an error on a frame (code as LAST_ERR, 0 a lost arbitration) with the counters after it (R148). -/
def State.fbError (s : State) (b code : Nat) (dataPhase : Bool) (id : Nat) (own : Bool) (tec rec_ : Nat) : State :=
  if s.busState b ≠ 2 ∧ s.onLine b = false then s
  else if code = 0 then if own then s.ownFailed b 2 else s
  else
    let s := ((s.put (Fd.FB_LAST_ERR_VALID b) 1).put (Fd.FB_LAST_ERR_DATA_PHASE b) (b2n dataPhase)).put
      (Fd.FB_LAST_ERR_CODE b) code
    let s := s.modFb b fun f => { f with
      probe := f.probe.map fun p => { p with seen := .failed }
      clean := 0, errD := f.errD + b2n dataPhase, errA := f.errA + b2n (!dataPhase) }
    let flagged := dataPhase && (own == false || code == 4 || code == 5)
    let s := s.burst b id own flagged
    if own ∧ 256 ≤ tec ∧ s.listening b = false then
      let oneshot := (s.fbs b).tx.map fun t => t.oneshot && idClass t.id == 0
      (if oneshot = some true then s else s.ownFailed b 1).busOff b
    else
      let s := if own then s.ownFailed b 1 else s
      s.setErrCnt b tec rec_

/-- FB_RECOVERED: bus-off recovery completes (R149). -/
def State.fbRecovered (s : State) (b : Nat) : State :=
  if s.busState b ≠ 5 then s
  else
    let s := ((s.put (Fd.FB_STAT_BUS_STATE b) 3).wr (Rg.FB_ERR_CNT b) 0).irq (Pg.fb b) 5
    s.raise Ev.FB_RECOVERED (Pg.fb 0) [b, s.ms - (s.fbs b).boAt]

/-! ### Enable, detection, stop (R138, R146, R147, R157) -/

/-- Rate detection starts: pending transmit objects without AUTORATE fail with cause RATE (R147). -/
def State.startDetect (s : State) (b : Nat) : State :=
  let s := (s.put (Fd.FB_STAT_BUS_STATE b) 2).modFb b ({ · with heard := 0, clean := 0, heardFd := false })
  s.moFailAll b 9 ((s.moIn b 1).filter fun i => s.flag (mo b i 0 28 1) == false)

/-- Rate detection runs at an enable and after a storm hold, but not in SAFE_LIGHT mode (R147). -/
def State.detects (s : State) (b : Nat) : Bool := s.flag (Fd.FB_CTRL_AUTORATE b) && s.mode != 0

/-- The rate pair in force. -/
def State.setRate (s : State) (b arb data : Nat) : State :=
  (s.put (Fd.FB_STAT_RATE_ARB b) arb).put (Fd.FB_STAT_RATE_DATA b) data

/-- The bus is enabled: it takes BITRATE and a plan, then detects rates or integrates; a pair that cannot run at the
period keeps it from starting (R137, R157). DEDUCED: log entry 53. -/
def State.fbEnable (s : State) (b : Nat) : State :=
  let s := (s.setRate b (s.get (Fd.FB_BITRATE_ARB b)) (s.get (Fd.FB_BITRATE_DATA b))).clearPlan b
  let s := (s.modFb b ({ · with planBad := none, joined := false })).fbTakePlan b (s.rd (Rg.FB_SLOT_CFG b))
  if slotN (s.fbArb b) (s.fbData b) s.pms < 5 then s
  else
    let s := s.put (Fd.run (Pg.fb b)) 1
    if s.detects b then s.startDetect b else s.put (Fd.FB_STAT_BUS_STATE b) 1

/-- FB_INTEGRATED (R157). -/
def State.fbIntegrated (s : State) (b : Nat) : State :=
  if s.busState b = 1 then s.put (Fd.FB_STAT_BUS_STATE b) 3 else s

/-- Detection ends with the pair to use; the bus integrates and joins at the next edge (R147). -/
def State.detected (s : State) (b arb data : Nat) : State :=
  let s := ((s.setRate b arb data).clearPlan b).modFb b ({ · with planBad := none })
  (s.put (Fd.FB_STAT_BUS_STATE b) 1).irq (Pg.fb b) 7

/-- FB_RATE_DETECTED: FRAMES consecutive frames have decoded at the pair (R147). DESIGN CHOICE: log entry 55. -/
def State.rateDetected (s : State) (b arb data : Nat) : State :=
  if s.busState b ≠ 2 ∨ 2 < arb ∨ 2 < data ∨ (s.fbs b).clean < s.get (Fd.FB_DET_CFG_FRAMES b) then s
  else
    let data := if (s.fbs b).heardFd then data else s.get (Fd.FB_BITRATE_DATA b)
    let diff := arb != s.get (Fd.FB_BITRATE_ARB b) || data != s.get (Fd.FB_BITRATE_DATA b)
    (s.detected b arb data).raise Ev.FB_RATE_DETECTED (Pg.fb 0) [b, arb, data, b2n diff]

/-- FB_RATE_NONE: detection times out, and the bus uses BITRATE (R147). -/
def State.rateNone (s : State) (b : Nat) : State :=
  if s.busState b ≠ 2 then s
  else
    let s := s.detected b (s.get (Fd.FB_BITRATE_ARB b)) (s.get (Fd.FB_BITRATE_DATA b))
    s.raise Ev.FB_RATE_NONE (Pg.fb 0) [b, (s.fbs b).heard]

/-- FB_STORM_END: the 10 s hold ends (R149).  Without rate detection the bus is error-active at once with both counters at 0,
as after bus-off, which the rule does not say. DESIGN CHOICE: log entry 199. -/
def State.stormEnd (s : State) (b : Nat) : State :=
  if s.busState b ≠ 6 then s
  else
    let s := (s.wr (Rg.FB_ERR_CNT b) 0).modFb b ({ · with joined := false })
    if s.detects b then s.startDetect b else s.put (Fd.FB_STAT_BUS_STATE b) 3

/-- The tick's frames that the controller makes itself and that have not started are dropped (R157). -/
def State.dropTick (s : State) (b : Nat) : State :=
  ((s.dropReq b).giveUp b fun _ => true).modFb b fun f => { f with
    pdq := [], pdLost := 0, sync := none, pairs := (s.fbPlan b).poll }

/-- FLUSH drops the tick's commands and bulk chunks as well; commands are sent again in a later tick. DEDUCED: log entry
201. -/
def State.dropAll (s : State) (b : Nat) : State :=
  (s.dropTick b).modFb b fun f => { f with jobsCut := true, bulkq := [] }

/-- CTRL.FLUSH of an FB page (R154, R157). -/
def State.fbFlush (s : State) (b : Nat) : State :=
  let s := s.dropAll b
  s.moFailAll b 7 (s.moIn b 1)

/-- The bus leaves the line. -/
def State.offLine (s : State) (b : Nat) : State :=
  (s.put (Fd.FB_STAT_BUS_STATE b) 0).modFb b ({ · with
    joined := false, tx := none, req := none, wait := none, probe := none, lastErr := none, burstOpen := [] })

/-- The stop point after CTRL.EN = 0: the end of the frame in progress (R157); PENDING objects stay PENDING. -/
def State.fbStop (s : State) (b : Nat) : State :=
  if (s.fbs b).tx.isSome then s
  else (((s.dropTick b).offLine b).clearPlan b).put (Fd.run (Pg.fb b)) 0

/-- CTRL.SRST of an FB page: what FLUSH does, the bus off the line, counters and interrupt state cleared (R157). -/
def State.fbSoftReset (s : State) (b : Nat) : State :=
  let s := s.dropAll b
  let s := s.moFailAll b 8 (s.moIn b 1 ++ s.moIn b 2)
  let s := (s.offLine b).clearPlan b
  let s := [Rg.FB_ERR_CNT b, Rg.FB_LAST_ERR b, Rg.FB_BUSOFF_CNT b, Rg.FB_DUPCOLL_CNT b, Rg.FB_FRAME_CNT b,
    Rg.FB_SHED_CNT b, Rg.FB_AUTH_FAIL b, Rg.FB_RX_SEQ b].foldl (fun s a => s.wr a 0) s
  s.setPlanErr b 0

/-- TXPENDk or RXNEWk as read. -/
def State.moBits (s : State) (b k : Nat) (p : Nat → Bool) : Word :=
  BitVec.ofNat 32 (((s.heads b).filter fun i => i / 32 == k && p (s.moState b i)).foldl (fun a i => a + 2 ^ (i % 32)) 0)

/-! ### Edge actions of a bus (R129, R137 to R143) -/

/-- The SYNC payload of an edge (R129). -/
def State.syncBytes (s : State) (b : Nat) : List Nat :=
  let p := s.fbPlan b
  let flags := s.get Fd.TICK_PERIOD_CUR % 4 + 4 * b2n (s.mode != 1) + 8 * b2n ((s.fbs b).hold != 0)
  leBytes 5 s.tick.num ++ [flags, p.pd, p.poll, p.event, p.bulk] ++ leBytes 2 (s.fbLs b) ++ leBytes 4 s.utc ++
  leBytes 4 (s.tai % 1000000000) ++ leBytes 2 (s.get (Fd.FB_TX_FV_FV b) / 65536) ++ [0, 0]

/-- A change of the sample points takes effect at the first edge after it that lies in no frame of the module, whether the
bus runs or not (R125). DEDUCED: log entry 67. -/
def State.spEdge (s : State) (b : Nat) : State :=
  match (s.fbs b).spPend, (s.fbs b).tx with
  | some w, none => (s.wr (Rg.FB_SP_EFF b) (w &&& 0x7F7F0000)).modFb b ({ · with spPend := none })
  | _, _ => s

/-- The edge of one bus: sample points (R125) and hold (R136) of any bus; then, while it runs, plan, join, SYNC and the tick's
Plate-delta frames.  A bus in bus-off, storm hold or rate detection, or listening, counts one shed (R141). DEDUCED: log
entries 51, 67. -/
def State.fbEdge (s : State) (b : Nat) : State :=
  let s := (s.spEdge b).holdEdge b
  if s.flag (Fd.run (Pg.fb b)) = false then s
  else
    let s := if s.busState b = 2 then s else s.fbTakePlan b (s.snapRd (Rg.FB_SLOT_CFG b))
    let s := s.giveUp b fun t => t.win != 6
    let s := s.modFb b fun f => { f with
      joined := f.joined || s.onLine b, pairs := 0, pairAt := 0, keySent := 0, stalled := [], sync := none, pdq := []
      pdLost := 0, jobsCut := false }
    let st := s.busState b
    let off := !s.onLine b || s.listening b
    let s := if st = 2 ∨ st = 5 ∨ st = 6 ∨ s.listening b then s.shed b 1 1 else s
    let s := if off then s else s.modFb b fun f => { f with sync := some (s.syncBytes b) }
    if s.fbN b = 0 ∨ (off = true ∧ s.role ≠ 2) then s else s.pdSelect b

end Sys2Proof.Machine
end

