-- ==== Sys2Proof/Machine/Node.lean ====
section
/-! DEFINITION. Nodes: frames from the line (R144, R145, R165 to R170), poll outcomes and the discovery walk (R172, R177,
R178), the node table at an edge (R164, R171 to R175, R179 to R181), commands (R176, R186, R443), key rollout (R343),
saturation (R182), history (R173), digital inputs (R183). -/

namespace Sys2Proof.Machine

/-! ### Entries -/

/-- An entry replaced, with its MRAM copy when its identity half or LINK.LATCHED changes (R34). -/
def State.putIdent (s : State) (i : Nat) (n : Node) : State :=
  let old := s.nodeAt i
  let s := s.setNode i n
  if n.ident = old.ident ∧ n.dyn.link.testBit 3 = old.dyn.link.testBit 3 then s else s.copyNode i

/-- An entry replaced by the module itself: a change of its identity half is mirrored to the standby (R311). -/
def State.setIdent (s : State) (i : Nat) (n : Node) : State :=
  let t := s.putIdent i n
  if n.ident = (s.nodeAt i).ident then t else t.mirrorOut (.ident i n.ident)

/-- The dynamic half of an entry replaced. -/
def State.setDyn (s : State) (i : Nat) (d : NodeDyn) : State := s.setNode i { s.nodeAt i with dyn := d }

/-- The progress of an entry replaced. -/
def State.setProg (s : State) (i : Nat) (p : NodeProg) : State :=
  { s with node := { s.node with prog := Tab.set (fun _ => NodeProg.init) s.node.prog i p } }

/-- An event about the node at index i: bus and address come first (R185). -/
def State.nodeEv (s : State) (ev : Ev) (i : Nat) (p : List Nat) : State := s.raise ev Pg.node ([i / 256, i % 256] ++ p)

/-- A UID as low word and high word. -/
def uidWords (u : Nat) : List Nat := [u % 2 ^ 32, u / 2 ^ 32]

/-- COMMISSIONED entries with KIND.SENSOR. -/
def State.sensors (s : State) : Nat := (s.node.table.filter fun (_, n) => n.ident.state == 4 && n.isSensor).length

/-- The entries (index) whose UID is u. -/
def State.holders (s : State) (u : Nat) : List Nat :=
  s.node.table.filterMap fun (i, n) => if n.ident.state ≠ 0 ∧ n.ident.uid = u then some i else none

/-- UIDs with an ASSIGN queued or waiting for the edge, as indices. DEDUCED: log entry 69. -/
def State.assigning (s : State) (u : Nat) : List Nat :=
  (s.node.inputs.filterMap fun x => match x with
    | .assigned b a v => if v = u then some (b * 256 + a) else none
    | _ => none) ++
  s.fb.flatMap fun (b, f) => f.acts.filterMap fun x => match x with
    | .assign a v => if v = u then some (b * 256 + a) else none
    | _ => none

/-- A command under way to an address: of NODE.CMD, which runs to its end whatever becomes of the entry (R168, R186). -/
def NodeJob.ofCmd (j : NodeJob) : Bool :=
  match j.kind with
  | .wink | .decom | .move _ => true
  | _ => false

/-- The jobs to an address end, but for a command of NODE.CMD. -/
def State.dropJobs (s : State) (i : Nat) : State :=
  s.modFb (i / 256) fun f => { f with jobs := f.jobs.filter fun j => j.addr != i % 256 || j.ofCmd }

/-- The entry becomes FREE; holds, progress and jobs of the address end; COMLOSS and faults that it had clear (R186). -/
def State.freeNode (s : State) (i : Nat) : State :=
  let n := s.nodeAt i
  let s := s.setIdent i Node.free
  let s := if n.comloss then s.irq Pg.node 4 else s
  let s := if n.dyn.fault ≠ 0 then s.irq Pg.node 5 else s
  let s := s.setProg i NodeProg.init
  let s := { s with node := { s.node with holds := Tab.clear (fun k => k / 16 == i) s.node.holds } }
  ((s.mark i false).dropJobs i).modFb (i / 256) fun f => { f with held := f.held.filter fun a => a != i % 256 }

/-! ### Authentication of received frames (R134, R135) -/

/-- A received class 0 or 2 frame checked against the last value of its sender: the accepted freshness value, or none with
the discard counted. -/
def State.rxAuth (s : State) (b : Nat) (f : RxFrame) (last : Nat) : Option Nat × State :=
  let l := f.data.length
  if (s.fbs b).hold ≠ 0 then (none, s.add (Fd.FB_AUTH_FAIL_HOLD b) 1)
  else match (if l < 6 then none else fvCand last (leAt f.data (l - 6) 2)) with
    | none => (none, s.authFail b (idAddr f.id))
    | some c =>
      let msg := tagMsg f.id c (f.data.take (l - 6))
      let tag := f.data.drop (l - 4)
      if idClass f.id = 2 ∧ idType f.id = 3 then
        let kn := s.nodeKey (s.nodeAt (b * 256 + idAddr f.id)).ident.uid
        if (aesCmac (leBytes 16 kn) msg).take 4 = tag then (some c, s) else (none, s.authFail b (idAddr f.id))
      else match s.tagAnswer b msg with
        | (.tag t, s) => if t = tag then (some c, s) else (none, s.authFail b (idAddr f.id))
        | (.refused code, s) => (none, (s.authFail b (idAddr f.id)).enterHold b (holdCause code (!(s.fbs b).asked)))

/-- Eight consecutive failing frames of the active raise KEY_PAIR_DIFF on a STANDBY (R344). -/
def State.pairDiff (s : State) (b : Nat) (ok : Bool) : State :=
  if s.role ≠ 2 then s
  else
    let n := if ok then 0 else (s.fbs b).verFail + 1
    let s := s.modFb b ({ · with verFail := n })
    if n = 8 then s.raise Ev.KEY_PAIR_DIFF Pg.ground [b] else s

/-- A module frame heard while the bus listens: TX_FV follows the value heard (R135), and a STANDBY follows marks and
poll positions (R312). DEDUCED: log entry 185. -/
def State.heardModule (s : State) (b : Nat) (f : RxFrame) : State :=
  let cls := idClass f.id
  let s := { s with pair := { s.pair with lastEnd := some (s.ns + f.us * 1000) } }
  if cls = 1 then
    let hi := leAt f.data 20 2 * 65536
    if s.get (Fd.FB_TX_FV_FV b) < hi then s.put (Fd.FB_TX_FV_FV b) hi else s
  else if s.role ≠ 2 then s
  else if cls = 2 ∧ idType f.id = 1 then
    (List.range (byteAt f.data 0 % 32)).foldl (fun s k => s.mark (b * 256 + byteAt f.data (1 + 3 * k)) false) s
  else if cls = 5 then
    let fb := (s.fbs b).nextPos
    if idType f.id = 1 then
      let a := idAddr f.id
      let s := s.setFb b { fb with
        pollPos := if fb.acts.isEmpty then (a + 1) % 256 else fb.pollPos, pollTag := idTag f.id }
      s.pollOpen b a (idTag f.id) (byteAt f.data 0 % 4) f.us
    else s.setFb b { fb with pollTag := idTag f.id }
  else s

/-! ### Frames of nodes (R170) -/

def State.dropUnk (s : State) (b : Nat) : State := s.modFb b fun f => { f with dropUnk := min 65535 (f.dropUnk + 1) }
def State.dropQuar (s : State) (b : Nat) : State := s.modFb b fun f => { f with dropQuar := min 65535 (f.dropQuar + 1) }
def State.dropFmt (s : State) (b : Nat) : State := s.modFb b fun f => { f with dropFmt := min 65535 (f.dropFmt + 1) }

/-- An accepted frame waits for the edge (R164). DEDUCED: log entry 65. -/
def State.acceptFrame (s : State) (b : Nat) (f : RxFrame) (ask seq : Nat) (drop : Bool) : State :=
  s.nodeInput (.frame ⟨b, idAddr f.id, idClass f.id, idType f.id, ask, seq, s.tick.num, f.data, drop⟩)

/-- A DETECTION accepted (R166): its record goes to Hatch at once, unless the rate limit of R182 drops it; the entry's counts
follow at the edge (R164).  Detections of a window are counted as they come, by the tick of their reception. -/
def State.detect (s : State) (b : Nat) (f : RxFrame) (seq : Nat) : State :=
  let i := b * 256 + idAddr f.id
  let p := s.prog i
  let w := s.tick.num / (1000 / s.pms)
  let n := if p.satWin = w then p.satNow else 0
  let drop := (s.nodeAt i).dyn.link.testBit 2 && decide (s.get Fd.NODE_SAT_CFG_RATE_LIM ≤ n)
  let s := (s.setProg i { p with satWin := w, satNow := n + 1 }).acceptFrame b f 0 seq drop
  if drop then s
  else
    let x : Detection := {
      typ := 1, flags := byteAt f.data 0, node := i, speed := leAt f.data 2 2, heading := byteAt f.data 1
      conf := byteAt f.data 4, range := signed 16 (leAt f.data 6 2), rxSeq := seq, bus := b, rsv := 0
      sofSec := (s.stamp f.sof).1, sofNs := (s.stamp f.sof).2, rxTick := s.tick.num }
    { s with hatch := { s.hatch with inq := s.hatch.inq ++ [x] } }

/-- A POLL_RESP of a node in service (R143, R165). One that ends after its pair is late, whatever was polled since.
DEDUCED: log entry 66. -/
def State.pollResp (s : State) (b : Nat) (f : RxFrame) (seq : Nat) : State :=
  let who := (idAddr f.id, idTag f.id)
  let s := match (s.fbs b).wait with
    | some w => if (w.addr, w.tag) = who ∧ w.till ≤ f.us then s.fbEdgeClose b else s
    | none => s
  let answers := match (s.fbs b).wait with
    | some w => if (w.addr, w.tag) = who then some w.ask else none
    | none => none
  match answers with
  | some ask =>
    if 2 ≤ byteAt f.data 0 then s.dropFmt b
    else (s.modFb b ({ · with wait := none })).acceptFrame b f ask seq false
  | none =>
    if (s.fbs b).unanswered.contains who then
      (s.modFb b fun g => { g with unanswered := g.unanswered.erase who }).nodeInput (.late b who.1)
    else s.dropFmt b

/-- A CMD_ACK: the job it answers ends, and its outcome waits for the edge (R168, R443). -/
def State.cmdAck (s : State) (b : Nat) (f : RxFrame) : State :=
  match (s.fbs b).jobs.find? fun j =>
      j.waiting && j.addr == idAddr f.id && j.tag == idTag f.id && j.op == byteAt f.data 0 with
  | none => s.dropFmt b
  | some j =>
    (s.modFb b fun g => { g with jobs := g.jobs.erase j }).nodeInput (.ack b j (byteAt f.data 1) s.tick.num)

/-- What node management does with a frame from a node (R170): it accepts what the table lists and counts the drop of every
other frame; of an entry in service it ignores classes and types that R127 does not list (R128).  A BULK_ACK of an entry in
service is a drop here and goes to Proof, which R133 and R367 make its receiver. DEDUCED: log entry 202. -/
def State.nodeRx (s : State) (b : Nat) (f : RxFrame) (seq : Nat) : State :=
  let cls := idClass f.id
  let typ := idType f.id
  let st := s.effState (b * 256 + idAddr f.id)
  let n := s.nodeAt (b * 256 + idAddr f.id)
  if cls = 3 ∧ typ = 1 ∧ idAddr f.id = 255 then
    match (s.fbs b).probe with
    | some p => if p.tag = idTag f.id ∧ byteAt f.data 0 = 2 ∧ f.us < p.till then s else s.dropFmt b
    | none => s.dropFmt b
  else if st = 5 then s.dropQuar b
  else if st < 2 then s.dropUnk b
  else if cls = 3 ∧ typ = 1 then s.pollResp b f seq
  else if cls = 3 ∧ typ = 2 then s.cmdAck b f
  else if cls = 6 ∧ typ = 2 then
    let x : NodeFrame := ⟨b, idAddr f.id, 6, 2, 0, seq, s.tick.num, f.data, false⟩
    { s with node := { s.node with bulkAcks := s.node.bulkAcks ++ [x] } }.dropFmt b
  else if cls = 7 ∧ typ = 1 then s.dropFmt b
  else if (cls = 4 ∧ (typ = 1 ∨ typ = 2)) ∨ (cls = 0 ∧ typ = 2) then
    if st ≠ 4 then s.dropUnk b
    else if cls = 4 ∧ typ = 1 then
      if n.isSensor ∧ n.ident.cfg.testBit 0 = false then s.detect b f seq else s.dropFmt b
    else if 1 ≤ byteAt f.data 0 ∧ byteAt f.data 0 ≤ 16 ∧ byteAt f.data 2 ≤ 1 then s.acceptFrame b f 0 seq false
    else s.dropFmt b
  else s

/-- What an open probe makes of any frame in its second slot (R177). DEDUCED: log entry 64. -/
def State.probeSees (s : State) (b : Nat) (f : RxFrame) : State :=
  match (s.fbs b).probe with
  | none => s
  | some p =>
    let ok := f.ext && !f.remote && idClass f.id == 3 && idType f.id == 1 && idAddr f.id == 255 &&
      idTag f.id == p.tag && byteAt f.data 0 == 2 && decide (f.us < p.till)
    let seen := match p.seen, ok with
      | .nothing, true => .found (leAt f.data 2 6)
      | _, _ => .failed
    s.modFb b ({ · with probe := some { p with seen := seen } })

/-- A received class 0 or 2 frame passes its authentication, or is discarded (R134, R135, R344); every other class passes. -/
def State.rxPass (s : State) (b : Nat) (f : RxFrame) : Bool × State :=
  let cls := idClass f.id
  let i := b * 256 + idAddr f.id
  if cls ≠ 0 ∧ cls ≠ 2 then (true, s)
  else if fromNode f.id = false then
    match s.rxAuth b f (s.get (Fd.FB_TX_FV_FV b)) with
    | (some c, s) => (true, (if s.transmits then s else s.put (Fd.FB_TX_FV_FV b) c).pairDiff b true)
    | (none, s) => (false, s.pairDiff b false)
  else match s.rxAuth b f (s.nodeAt i).dyn.rxFv with
    | (some c, s) => (true, if (s.nodeAt i).ident.state = 0 then s else s.setDyn i { (s.nodeAt i).dyn with rxFv := c })
    | (none, s) => (false, s)

/-- FB_FRAME_RECEIVED: a valid frame ends on the line.  Every one is numbered (R145); base format, remote frames, address 0
and failed authentication are discarded (R121, R126, R134); during rate detection only objects with AUTORATE see it (R147,
R155, R170). DEDUCED: log entry 56. -/
def State.fbReceive (s : State) (b : Nat) (f : RxFrame) : State :=
  let st := s.busState b
  if st ≠ 2 ∧ s.onLine b = false then s
  else
    let s := (s.probeSees b f).modFb b ({ · with lastErr := none, burstOpen := [] })
    let seq := (s.get ⟨Rg.FB_RX_SEQ b, 0, 16⟩ + 1) % 65536
    let s := ((s.put ⟨Rg.FB_RX_SEQ b, 0, 16⟩ seq).add (Fd.FB_FRAME_CNT_RX b) 1).modFb b fun g => { g with
      frames := g.frames + 1 }
    let s := if st = 2 then s.modFb b fun g => { g with
        heard := g.heard + 1, clean := g.clean + 1, heardFd := g.heardFd || f.fdf }
      else s.setErrCnt b f.tec f.rec_
    if f.ext = false ∨ f.remote ∨ idAddr f.id = 0 then s
    else
      let (ok, s) := s.rxPass b f
      if ok = false then s
      else if st = 2 then s.moOffer b f seq true
      else
        let s := s.moOffer b f seq false
        if fromNode f.id = false then if s.transmits then s else s.heardModule b f
        else s.nodeRx b f seq

/-! ### Poll and probe outcomes (R172, R177, R178) -/

/-- POLL_RESPONSE_TIMEOUT: the open poll of the bus is unanswered at the end of its pair (R172). DEDUCED: log entry
65. -/
def State.pollTimeout (s : State) (b : Nat) : State := s.fbEdgeClose b

/-- NODE_FOUND, at most once per walk for a UID left unassigned (R178). -/
def State.nodeFound (s : State) (b why u : Nat) : State :=
  let f := s.fbs b
  if f.told.contains u then s
  else
    let s := s.setFb b { f with told := u :: f.told, foundUid := u, foundCnt := min 65535 (f.foundCnt + 1) }
    (s.irq Pg.node 1).raise Ev.NODE_FOUND Pg.node ([b, why] ++ uidWords u)

/-- The lowest FREE address of a bus that no ASSIGN has taken. -/
def State.freeAddr (s : State) (b : Nat) : Option Nat :=
  ((List.range 254).map (· + 1)).find? fun a =>
    s.effState (b * 256 + a) == 0 && !((s.fbs b).acts.any fun x => match x with
      | .assign c _ => c == a
      | _ => false)

/-- ASSIGN and CONFIRM queued for a UID (R178). DEDUCED: log entry 69. -/
def State.assign (s : State) (b a u : Nat) : State :=
  s.modFb b fun f => { f with acts := f.acts ++ [.assign a u, .confirm a u] }

/-- A UID found by a walk on bus b (R178). -/
def State.foundUid (s : State) (b u : Nat) : State :=
  let all := s.holders u ++ s.assigning u
  let here := (s.holders u).filter fun i => i / 256 == b
  match here.find? fun i => (s.nodeAt i).ident.state == 1 || ((s.nodeAt i).ident.state == 5 && (s.prog i).recom) with
  | some i => s.assign b (i % 256) u
  | none =>
    if all.any fun i => i / 256 != b then s.nodeFound b 3 u
    else if all.isEmpty = false then s.nodeFound b 4 u
    else if bitW (s.rd Rg.NODE_SESSION) (16 + b) then
      match s.freeAddr b with
      | some a => s.assign b a u
      | none => s.nodeFound b 2 u
    else s.nodeFound b 1 u

/-- PROBE_OUTCOME: the second slot of the PROBE's pair ends (R177); a frame that began in it and has not ended splits
the prefix. DEDUCED: log entry 64. -/
def State.probeOutcome (s : State) (b : Nat) (busy : Bool) : State :=
  match (s.fbs b).probe with
  | none => s
  | some p =>
    let s := s.modFb b ({ · with probe := none })
    match (if busy then .failed else p.seen) with
    | .nothing => s
    | .found u => s.foundUid b u
    | .failed =>
      s.modFb b fun f => { f with
        collided := min 65535 (f.collided + 1)
        stack := if p.m < 48 then (p.m + 1, p.pfx) :: (p.m + 1, p.pfx + 2 ^ (47 - p.m)) :: f.stack else f.stack }

/-! ### Quarantine, commissioning, failure (R179 to R181) -/

/-- Re-commissioning starts (R181). -/
def State.startRecom (s : State) (i : Nat) : State :=
  s.setProg i { s.prog i with recom := true, recStart := s.tick.num, releases := 0, relAt := s.tick.num }

/-- An address becomes QUARANTINED (R180). -/
def State.quarantine (s : State) (i cause : Nat) : State :=
  let n := s.nodeAt i
  let s := s.setIdent i (({ n with ident := { n.ident with state := 5, qcause := cause } } : Node).setLink 0 true)
  let s := s.setProg i { s.prog i with qTick := s.tick.num, recom := false }
  let s := (s.dropJobs i).irq Pg.node 3
  let s := (if n.comloss then s else s.irq Pg.node 4).nodeEv Ev.NODE_QUARANTINED i [cause]
  if cause = 3 then s else s.startRecom i

/-- A job joins the bus's list with the next command tag; installs carry tag 0 (R127). DEDUCED: log entry 73. -/
def State.addJob (s : State) (b : Nat) (j : NodeJob) : State :=
  s.modFb b fun f =>
    if j.op = 0x80 then { f with jobs := f.jobs ++ [j] }
    else { f with
      cmdTag := (f.cmdTag + 1) % 4096, jobs := f.jobs ++ [{ j with tag := (f.cmdTag + 1) % 4096 }] }

/-- Commissioning of an entry fails (R179): one under re-commissioning is QUARANTINED again, with COMLOSS set (R180). DEDUCED:
log entry 77. -/
def State.commFail (s : State) (i cause : Nat) : State :=
  let n := s.nodeAt i
  let s := s.dropJobs i
  if (s.prog i).recom then
    let s := s.setIdent i (({ n with ident := { n.ident with state := 5 } } : Node).setLink 0 true)
    if n.comloss then s else s.irq Pg.node 4
  else
    let s := if n.ident.cfg.testBit 1 then s.setIdent i { n with ident := { n.ident with state := 1 } } else s.freeNode i
    let s := s.modFb (i / 256) fun f => { f with acts := f.acts ++ [.release n.ident.uid] }
    s.nodeEv Ev.NODE_COMMISSION_FAIL i ([cause] ++ uidWords n.ident.uid)

/-- The limit of R30 refuses one more sensor of this KIND. -/
def State.sensorsFull (s : State) (kind : Nat) : Bool := kind.testBit 1 && decide (1024 ≤ s.sensors)

/-- The key installation of an entry completes: COMMISSIONED, unless the sensors of R30 are all in service (R179, R181).
DEDUCED: log entries 78, 83. -/
def State.commission (s : State) (i : Nat) : State :=
  let n := s.nodeAt i
  let p := s.prog i
  if s.sensorsFull n.ident.kind then s.commFail i 2
  else
    let id' := { n.ident with state := 4, qcause := 0, commSec := s.utc % 2 ^ 32 }
    let cap := if p.recom then n.ident.driveCap else 65535
    let s := s.setIdent i { ident := { id' with driveCap := cap }, dyn := { n.dyn with l := 0 } }
    let s := s.setProg i { NodeProg.init with firstE := true }
    let s := s.irq Pg.node 2
    if p.recom then s.nodeEv Ev.NODE_RECOMMISSIONED i [s.tick.num - p.qTick]
    else s.nodeEv Ev.NODE_COMMISSIONED i (uidWords n.ident.uid ++ [n.ident.kind])

/-- An entry enters KEYING: its key installation starts (R179, R343). DEDUCED: log entry 72. -/
def State.startKeying (s : State) (i : Nat) : State :=
  let n := s.nodeAt i
  let s := s.setIdent i { n with ident := { n.ident with state := 3 } }
  let s := s.setProg i { s.prog i with keyTick := s.tick.num }
  s.addJob (i / 256) { kind := .keying, op := 0x80, addr := i % 256 }

/-- An IDENT poll of an ASSIGNED entry passes without a match (R179). -/
def State.identMiss (s : State) (i : Nat) : State :=
  let p := s.prog i
  if 3 ≤ p.polls + 1 then s.commFail i 1 else s.setProg i { p with polls := p.polls + 1 }

/-- NODE_CMD_FAIL (R168, R443). -/
def State.cmdFail (s : State) (i op result : Nat) : State := s.nodeEv Ev.NODE_CMD_FAIL i [op, result]

/-- The running NODE.CMD ends with a result (R186). DEDUCED: log entry 70. -/
def State.cmdDone (s : State) (result : Nat) : State :=
  ((s.put Fd.NODE_CMD_STAT_RESULT result).put Fd.NODE_CMD_STAT_BUSY 0).irq Pg.node 0

/-! ### Faults (R174, R175) -/

/-- The severity of a fault code. -/
def faultSev (code : Nat) : Nat := if code = 1 ∨ code = 2 ∨ code = 3 ∨ code = 5 then 2 else 1

/-- The event hold of a node and code. -/
def State.fault (s : State) (i code : Nat) : FaultHold :=
  Tab.get (fun _ => FaultHold.init) s.node.holds (i * 16 + (code - 1))

def State.setFault (s : State) (i code : Nat) (h : FaultHold) : State :=
  { s with node := { s.node with holds := Tab.set (fun _ => FaultHold.init) s.node.holds (i * 16 + (code - 1)) h } }

/-- The event of a fault bit, which begins its 60 s (R175). DEDUCED: log entry 76. -/
def State.faultEvent (s : State) (i code : Nat) (on : Bool) (chan detail : Nat) (alarm : Bool) : State :=
  let s := s.setFault i code ⟨true, s.ns + 60000000000, on, chan, detail, alarm⟩
  let s := s.setDyn i { (s.nodeAt i).dyn with lastFault := code + 256 * (chan % 8) }
  if on = false then s.nodeEv Ev.NODE_FAULT_CLEAR i [code, chan]
  else if alarm then s.nodeEv Ev.NODE_ALARM i [code, chan, detail]
  else s.nodeEv { Ev.NODE_FAULT with sev := faultSev code } i [code, chan, detail]

/-- A fault bit takes a value (R175). DEDUCED: log entry 76. -/
def State.setFaultBit (s : State) (i code : Nat) (on : Bool) (chan detail : Nat) (alarm : Bool) : State :=
  let n := s.nodeAt i
  if n.dyn.fault.testBit (code - 1) = on then s
  else
    let s := (s.setDyn i { n.dyn with fault := setBitN n.dyn.fault (code - 1) on }).irq Pg.node 5
    let h := s.fault i code
    if h.running then s.setFault i code { h with chan := chan, detail := detail, alarm := alarm }
    else s.faultEvent i code on chan detail alarm

/-- FAULT_EVENT_HOLD_EXPIRE: 60 s after the event, the bit is compared with the state it reported (R175). DEDUCED: log
entry 76. -/
def State.faultExpire (s : State) (i code : Nat) : State :=
  let h := s.fault i code
  if h.running = false ∨ s.ns < h.until_ then s
  else
    let on := (s.nodeAt i).dyn.fault.testBit (code - 1)
    let s := s.setFault i code { h with running := false }
    if on = h.shown then s.setFault i code FaultHold.init else s.faultEvent i code on h.chan h.detail h.alarm

/-! ### The node table at an edge (R164) -/

/-- A valid poll response clears MISS and COMLOSS (R172). -/
def State.heardFrom (s : State) (i : Nat) : State :=
  let n := s.nodeAt i
  let was := n.comloss
  let s := s.setNode i (({ n with dyn := { n.dyn with miss := 0 } } : Node).setLink 0 false)
  if was then (s.irq Pg.node 4).nodeEv Ev.NODE_COMRESTORED i [n.dyn.miss] else s

/-- An unanswered poll (R172). -/
def State.unheard (s : State) (i : Nat) : State :=
  let n := s.nodeAt i
  let m := min 255 (n.dyn.miss + 1)
  let s := s.setDyn i { n.dyn with miss := m }
  if m < s.get Fd.NODE_POLL_CFG_COMLOSS_N ∨ n.comloss then s
  else ((s.setNode i ((s.nodeAt i).setLink 0 true)).irq Pg.node 4).nodeEv Ev.NODE_COMLOSS i [m]

/-- A STATUS response (R165, R173, R175, R321). DEDUCED: log entry 74. -/
def State.applyStatus (s : State) (i : Nat) (d : List Nat) : State :=
  let n := s.nodeAt i
  let cnt := leAt d 8 4
  let delta := (cnt + 2 ^ 32 - n.dyn.eLast) % 2 ^ 32
  let p := s.prog i
  let burn := leAt d 12 3
  let dyn := { n.dyn with
    lvl := leAt d 2 2, p := leAt d 6 2, eLast := cnt
    eTot := if p.firstE ∨ 100000 < delta then n.dyn.eTot else (n.dyn.eTot + delta) % 2 ^ 32
    burnH := burn, temp := byteAt d 15, vsup := leAt d 16 2 }
  let n := ({ n with dyn := dyn } : Node).setLink 1 (burn != 0xFFFFFF)
  let s := s.setNode i n
  let s := if p.firstE then s.setProg i { p with firstE := false } else s
  let s := if dyn.lvl < 16384 then s else { s with age := { s.age with
    capSum := Tab.mod (fun _ => 0) s.age.capSum i (· + dyn.p * 65535 / dyn.lvl)
    capCnt := Tab.mod (fun _ => 0) s.age.capCnt i (· + 1) } }
  let bits := leAt d 4 2
  let s := (List.range 16).foldl (fun s k => s.setFaultBit i (k + 1) (bits.testBit k) 0 0 false) s
  let n := s.nodeAt i
  if (s.fbs (i / 256)).held.contains (i % 256) ∧ n.commLantern then
    let l := min 65535 ((n.dyn.lvl * s.lumen n + 16384) / 32768)
    ((s.setDyn i { n.dyn with l := l }).modFb (i / 256) fun f => { f with
      held := f.held.filter fun a => a != i % 256 }).mark i true
  else s

/-- An IDENT response of an ASSIGNED entry (R171, R179). -/
def State.confirmIdent (s : State) (i : Nat) (d : List Nat) : State :=
  let n := (s.nodeAt i).setLink 4 false
  let s := s.setNode i n
  if leAt d 2 6 ≠ n.ident.uid then s.identMiss i
  else
    let kind := byteAt d 8 % 4
    let s := s.setIdent i { n with ident := { n.ident with
      kind := kind, ntype := byteAt d 9 % 16, depth := byteAt d 10, chCnt := byteAt d 11 % 8, fwVer := leAt d 12 4
      ratedW := leAt d 16 2 } }
    if kind = 0 then s.commFail i 3
    else if s.sensorsFull kind then s.commFail i 2
    else s.startKeying i

/-- An IDENT response of a COMMISSIONED or KEYING entry (R165, R171); NODE_IDENT_CHANGE is that of a COMMISSIONED one.
DEDUCED: log entry 203. -/
def State.checkIdent (s : State) (i : Nat) (d : List Nat) : State :=
  let n := (s.nodeAt i).setLink 4 false
  let s := s.setNode i n
  if leAt d 2 6 ≠ n.ident.uid ∨ byteAt d 8 % 4 ≠ n.ident.kind ∨ byteAt d 9 % 16 ≠ n.ident.ntype then s.quarantine i 2
  else
    let fw := leAt d 12 4
    let dep := byteAt d 10
    let ch := byteAt d 11 % 8
    let diff := b2n (fw != n.ident.fwVer) + 2 * b2n (dep != n.ident.depth) + 4 * b2n (ch != n.ident.chCnt)
    let s := s.setIdent i { n with ident := { n.ident with fwVer := fw, depth := dep, chCnt := ch } }
    if diff = 0 ∨ n.ident.state ≠ 4 then s else s.nodeEv Ev.NODE_IDENT_CHANGE i [n.ident.fwVer, fw, diff]

/-- A POLL_RESP applied by its own FORM (R165, R171, R179). -/
def State.applyPoll (s : State) (i ask : Nat) (d : List Nat) : State :=
  let s := s.heardFrom i
  let nf := byteAt d 1
  let n := ((s.nodeAt i).setLink 5 (nf.testBit 1)).setLink 6 (nf.testBit 2)
  let s := s.setNode i (if nf.testBit 3 then n.setLink 4 true else n)
  if byteAt d 0 = 0 then
    let s := s.applyStatus i d
    if n.ident.state = 2 ∧ ask ≠ 0 then s.identMiss i else s
  else if n.ident.state = 2 then s.confirmIdent i d
  else s.checkIdent i d

/-- A FAULT or NODE_ALARM applied (R167, R175). -/
def State.applyFault (s : State) (i : Nat) (alarm : Bool) (d : List Nat) : State :=
  s.setFaultBit i (byteAt d 0) (byteAt d 2 == 1) (byteAt d 1 % 8) (leAt d 4 4) alarm

/-- A DETECTION in the entry's counts (R162, R182). -/
def State.applyDetection (s : State) (i : Nat) (drop : Bool) : State :=
  let d := (s.nodeAt i).dyn
  s.setDyn i { d with
    satCnt := min 65535 (d.satCnt + 1), detTot := if drop then d.detTot else (d.detTot + 1) % 2 ^ 32
    detDrop := if drop then min 65535 (d.detDrop + 1) else d.detDrop }

/-- An accepted frame applied (R164), unless an earlier input has taken the entry out of service. -/
def State.applyFrame (s : State) (f : NodeFrame) : State :=
  let i := f.bus * 256 + f.addr
  let st := (s.nodeAt i).ident.state
  if st < 2 ∨ st = 5 then s
  else
    let s := s.setDyn i { (s.nodeAt i).dyn with seen := f.tick % 2 ^ 32 }
    if f.cls = 3 then s.applyPoll i f.ask f.data
    else if st ≠ 4 then s
    else if f.cls = 4 ∧ f.typ = 1 then s.applyDetection i f.drop
    else s.applyFault i (f.cls == 0) f.data

/-- An entry moved to another address of its bus (R186), with its progress, its jobs and its fault event holds (R175). -/
def State.moveNode (s : State) (i t : Nat) : State :=
  let n := s.nodeAt i
  let p := s.prog i
  let holds : Tab FaultHold := s.node.holds.filterMap fun (k, h) => if k / 16 = i then some (t * 16 + k % 16, h) else none
  let jobs := (s.fbs (i / 256)).jobs.filterMap fun j =>
    if j.addr = i % 256 ∧ j.ofCmd = false then some { j with addr := t % 256 } else none
  if (s.nodeAt t).ident.state ≠ 0 then s.cmdDone 2
  else
    let s := ((s.freeNode i).setIdent t n).setProg t p
    let s := { s with node := { s.node with
      holds := holds.foldl (fun h (k, x) => Tab.set (fun _ => FaultHold.init) h k x) s.node.holds } }
    (s.modFb (i / 256) fun f => { f with jobs := f.jobs ++ jobs }).cmdDone 0

/-- A CMD_ACK applied (R168, R343, R443). -/
def State.applyAck (s : State) (b : Nat) (j : NodeJob) (result tick : Nat) : State :=
  let i := b * 256 + j.addr
  let s := if (s.nodeAt i).ident.state < 2 then s else s.setDyn i { (s.nodeAt i).dyn with seen := tick % 2 ^ 32 }
  let retry := s.modFb b fun f => { f with
    jobs := f.jobs ++ [{ j with waiting := false, tries := 0, cycle := f.cycles + 2 }] }
  if result = 0 then
    match j.kind with
    | .wink => s.cmdDone 0
    | .move t => s.moveNode i (b * 256 + t)
    | .keying => if (s.nodeAt i).ident.state = 3 then s.commission i else s
    | .update => { s with node := { s.node with updAcks := s.node.updAcks ++ [(b, j.addr, j.op, 0)] } }
    | _ => s
  else
    let r := 8 + min result 3
    match j.kind with
    | .wink => (s.cmdFail i j.op result).cmdDone r
    | .move _ => (s.cmdFail i j.op result).cmdDone r
    | .keying => retry.cmdFail i j.op result
    | .rollout => retry.cmdFail i j.op result
    | .update =>
      { s with node := { s.node with updAcks := s.node.updAcks ++ [(b, j.addr, j.op, result)] } }.cmdFail i j.op result
    | _ => s.cmdFail i j.op result

/-- An ASSIGN was sent: the entry becomes ASSIGNED with the UID (R178, R181). -/
def State.applyAssigned (s : State) (i uid : Nat) : State :=
  let n := s.nodeAt i
  let s := s.setProg i { s.prog i with polls := 0 }
  if n.ident.state = 0 then
    s.setIdent i { dyn := NodeDyn.fresh, ident := { NodeId.free with
      uid := uid, state := 2, group := s.get ⟨Rg.NODE_DEF_GROUP, 0, 9⟩ } }
  else if n.ident.state = 1 ∧ n.ident.uid = uid then
    s.setIdent i { ident := { n.ident with state := 2 }, dyn := NodeDyn.fresh }
  else if n.ident.state = 5 ∧ n.ident.uid = uid then
    s.setIdent i { ident := { n.ident with state := 2 }, dyn := { n.dyn with rxFv := 0 } }
  else s

/-- A write of ENT3 or ENT4 takes effect (R186). A change of GROUP takes the entry out of its group's latch (R112). -/
def State.applyEnt (s : State) (i w : Nat) (v : Word) : State :=
  let n := s.nodeAt i
  if n.ident.state = 0 ∨ 5 < n.ident.state then s
  else if w = 3 then
    let g := getF v 0 9
    let cfg := getF v 16 1 + n.ident.cfg / 2 * 2
    let n' : Node := { n with ident := { n.ident with group := g, cfg := cfg } }
    s.putIdent i (if g = n.ident.group then n' else n'.setLink 3 false)
  else if w = 4 then s.putIdent i { n with ident := { n.ident with driveCap := getF v 0 16, ratedW := getF v 16 16 } }
  else s

/-- A NODE.CMD carried out at the edge (R176, R180, R181, R186, R443). DEDUCED: log entry 71.  The states in which each
command is allowed are the model's choice where no rule gives them; DECOMMISSION of a PLANNED entry is refused with
BAD_STATE. DESIGN CHOICE: log entry 204.  An UNQUARANTINE to COMMISSIONED is no commissioning, so the next STATUS adds its
energy as any other does (R173). DEDUCED: log entry 205.  One that would pass the sensors of R30 ends with FULL. DEDUCED:
log entry 206. -/
def State.nodeExec (s : State) (op i arg uid : Nat) : State :=
  let n := s.nodeAt i
  let st := n.ident.state
  let b := i / 256
  if i % 256 = 0 ∨ i % 256 = 255 then s.cmdDone 2
  else if op = 1 then
    if st ≠ 0 then s.cmdDone 2
    else if (s.holders uid).isEmpty = false then s.cmdDone 6
    else (s.setIdent i { dyn := NodeDyn.fresh, ident := { NodeId.free with uid := uid, state := 1, cfg := 2 } }).cmdDone 0
  else if op = 2 then if st = 1 then (s.freeNode i).cmdDone 0 else s.cmdDone 2
  else if op = 3 then
    if st < 2 then s.cmdDone 2 else s.addJob b { kind := .decom, op := 2, addr := i % 256 }
  else if op = 4 then if st = 2 ∨ st = 3 ∨ st = 4 then (s.quarantine i 3).cmdDone 0 else s.cmdDone 2
  else if op = 5 then
    if st = 5 ∧ n.ident.qcause = 3 ∧ s.sensorsFull n.ident.kind then s.cmdDone 4
    else if st = 5 ∧ n.ident.qcause = 3 then
      ((s.setIdent i { n with ident := { n.ident with state := 4, qcause := 0 } }).setProg i
        { s.prog i with recom := false }).cmdDone 0
    else s.cmdDone 2
  else if op = 6 then
    if st = 5 ∧ n.ident.qcause = 3 ∧ (s.prog i).recom = false then (s.startRecom i).cmdDone 0 else s.cmdDone 2
  else if op = 7 then
    if st = 4 then (s.setNode i (n.setLink 4 true)).cmdDone 0 else s.cmdDone 2
  else if op = 8 then
    if arg = 0 ∨ arg = 255 then s.cmdDone 8
    else if st ≠ 4 ∨ s.effState (b * 256 + arg) ≠ 0 then s.cmdDone 2
    else s.addJob b { kind := .move arg, op := 1, addr := i % 256, args := [arg] }
  else if arg = 0 ∨ 60 < arg then s.cmdDone 8
  else if st ≠ 4 then s.cmdDone 2
  else s.addJob b { kind := .wink, op := 3, addr := i % 256, args := [arg] }

/-- A write of NODE.CMD (R176, R186). DEDUCED: log entries 70, 71. -/
def State.nodeCmdWrite (s : State) (v : Word) : State :=
  let op := getF v 0 4
  let i := getF v 16 12
  if op = 0 ∨ 9 < op then s
  else if s.flag Fd.NODE_CMD_STAT_BUSY then s.put Fd.NODE_CMD_STAT_RESULT 3
  else
    let s := (s.put Fd.NODE_CMD_STAT_INDEX i).put Fd.NODE_CMD_STAT_OP op
    if s.transmits = false ∧ op ≠ 7 then (s.put Fd.NODE_CMD_STAT_RESULT 5).irq Pg.node 0
    else
      (s.put Fd.NODE_CMD_STAT_BUSY 1).nodeInput
        (.cmd op i (getF v 8 8) ((s.rd Rg.NODE_CMD_ARG0).toNat + getF (s.rd Rg.NODE_CMD_ARG1) 0 16 * 2 ^ 32))

/-- One frozen input applied (R164). DEDUCED: log entry 69. -/
def State.applyInput (s : State) (x : NodeInput) : State :=
  match x with
  | .frame f => s.applyFrame f
  | .ack b j r t => s.applyAck b j r t
  | .missed b a ask =>
    let i := b * 256 + a
    let st := (s.nodeAt i).ident.state
    if st < 2 ∨ st = 5 then s
    else
      let s := s.unheard i
      if st = 2 ∧ ask ≠ 0 then s.identMiss i else s
  | .late b a =>
    let n := s.nodeAt (b * 256 + a)
    if n.ident.state = 0 then s else s.setDyn (b * 256 + a) { n.dyn with late := min 65535 (n.dyn.late + 1) }
  | .assigned b a u => s.applyAssigned (b * 256 + a) u
  | .released i =>
    let n := s.nodeAt i
    (if n.ident.state = 0 then s else (s.freeNode i).nodeEv Ev.NODE_DECOMMISSIONED i (uidWords n.ident.uid)).cmdDone 0
  | .entWrite i w v => s.applyEnt i w v
  | .cmd op i arg uid => s.nodeExec op i arg uid
  | .dup i =>
    let st := (s.nodeAt i).ident.state
    if st = 2 ∨ st = 3 ∨ st = 4 then s.quarantine i 1 else s

/-- The freeze of node management's inputs: those that `keep` admits (all of them, or those a cut names), R56, R57.
DEDUCED: log entry 69. -/
def State.nodeFreeze (s : State) (keep : NodeInput → Bool) : State :=
  { s with node := { s.node with
    frozen := s.node.frozen ++ s.node.inputs.filter keep, inputs := s.node.inputs.filter fun x => !keep x } }

/-- The frozen inputs applied in order (R164). DEDUCED: log entry 69. -/
def State.nodeEdge (s : State) : State :=
  let l := s.node.frozen
  l.foldl State.applyInput { s with node := { s.node with frozen := [] } }

/-- The table as it goes on after a MODULE reset (R171, R442): IDENT is due for the first visit to every entry that is or
becomes COMMISSIONED, keys are installed afresh, DUP_ADDR and IDENT_MISMATCH restart re-commissioning. DEDUCED: log entry
181. -/
def State.nodeBoot (s : State) : State :=
  s.node.table.foldl (fun s (i, n) =>
    let s := if 2 ≤ n.ident.state then s.setNode i (n.setLink 4 true) else s
    if n.ident.state = 3 then s.startKeying i
    else if n.ident.state = 5 ∧ (n.ident.qcause = 1 ∨ n.ident.qcause = 2) then
      (s.setProg i { s.prog i with qTick := s.tick.num }).startRecom i
    else s) s

/-! ### Timed steps of node management -/

/-- NODE_CMD_RESEND: the waiting command to an address is resent 50 ticks after its attempt, or fails after three
(R168, R343). DEDUCED: log entry 72. -/
def State.cmdResend (s : State) (b a op : Nat) : State :=
  match (s.fbs b).jobs.find? fun j => j.waiting && j.addr == a && j.op == op with
  | none => s
  | some j =>
    let i := b * 256 + a
    if s.tick.num < j.sentAt + 50 then s
    else if j.tries < 3 then s.modJob b op a j.tag fun j => { j with waiting := false }
    else
      let s := s.cmdFail i op 0xFF
      if op = 0x80 then
        s.modJob b op a j.tag fun k => { k with waiting := false, tries := 0, cycle := (s.fbs b).cycles + 2 }
      else
        let s := s.modFb b fun f => { f with jobs := f.jobs.erase j }
        match j.kind with
        | .update => { s with node := { s.node with updAcks := s.node.updAcks ++ [(b, a, op, 0xFF)] } }
        | _ => s.cmdDone 7

/-- KEY_INSTALL_TIMEOUT: 500 ticks in KEYING (R179). -/
def State.keyingTimeout (s : State) (i : Nat) : State :=
  if (s.nodeAt i).ident.state = 3 ∧ (s.prog i).keyTick + 500 ≤ s.tick.num then s.commFail i 4 else s

/-- RECOM_RELEASE: a RELEASE of step 1, at most three, 50 ticks apart (R181). DEDUCED: log entry 73. -/
def State.recomRelease (s : State) (i : Nat) : State :=
  let p := s.prog i
  if p.recom ∧ p.releases < 3 ∧ (p.releases = 0 ∨ p.relAt + 50 ≤ s.tick.num) ∧ s.transmits then
    (s.setProg i { p with releases := p.releases + 1, relAt := s.tick.num }).addJob (i / 256)
      { kind := .recom, op := 2, addr := i % 256 }
  else s

/-- NODE_RECOM_FAIL: 15,000 ticks without the UID (R181). DEDUCED: log entry 77. -/
def State.recomFail (s : State) (i : Nat) : State :=
  let p := s.prog i
  if p.recom ∧ (s.nodeAt i).ident.state = 5 ∧ p.recStart + 15000 ≤ s.tick.num then
    (s.setProg i { p with recom := false }).nodeEv Ev.NODE_RECOM_FAIL i [(s.nodeAt i).ident.qcause]
  else s

/-- After a new SEG has taken effect: installs go out to every COMMISSIONED node; a bus without an old key goes on under
the new one at once (R343). -/
def State.rolloutStart (s : State) : State :=
  (List.range 16).foldl (fun s b =>
    let addrs := s.node.table.filterMap fun (i, n) => if i / 256 = b ∧ n.ident.state = 4 then some (i % 256) else none
    let s := s.modFb b fun f => { f with
      keyAt := s.tick.num, keySwitch := false
      jobs := (f.jobs.filter fun j => j.kind != .rollout) ++
        addrs.map fun a => { kind := .rollout, op := 0x80, addr := a } }
    if s.ground.oldKey.any fun (k, _) => k == b then s else s.fvRestart b) s

/-- KEY_ROLLOUT_SWITCH: every node has acknowledged, or 3,000 ticks have passed; the bus switches at the next edge (R343). -/
def State.rolloutSwitch (s : State) (b : Nat) : State :=
  let f := s.fbs b
  let run := s.ground.oldKey.any fun (k, _) => k == b
  let left := f.jobs.any fun j => j.kind == .rollout
  if run ∧ (left = false ∨ f.keyAt + 3000 ≤ s.tick.num) then s.setFb b { f with keySwitch := true } else s

/-- The switch at an edge: the new key tags from here on, and every FV of the bus restarts (R135, R343). -/
def State.rolloutEdge (s : State) (b : Nat) : State :=
  if (s.fbs b).keySwitch = false then s
  else
    let s := { s with ground := { s.ground with oldKey := s.ground.oldKey.filter fun (k, _) => k != b } }
    (s.modFb b ({ · with keySwitch := false })).fvRestart b

/-- SAT_WINDOW_END: a sensor's window of W ticks ends (R182). -/
def State.satWindow (s : State) (i : Nat) : State :=
  let n := s.nodeAt i
  let p := s.prog i
  if s.tick.num % (1000 / s.pms) ≠ 0 ∨ n.ident.state ≠ 4 ∨ n.isSensor = false ∨ p.satAt = s.tick.num then s
  else
    let s := s.setProg i { p with satAt := s.tick.num }
    let rate := s.get Fd.NODE_SAT_CFG_RATE_MAX
    let cnt := n.dyn.satCnt
    let sat := n.dyn.link.testBit 2
    let hit := if sat then decide (cnt ≤ rate / 2) else decide (rate < cnt)
    let run := if hit then n.dyn.satRun + 1 else 0
    let need := if sat then s.get Fd.NODE_SAT_CFG_OFF_S else s.get Fd.NODE_SAT_CFG_ON_S
    if hit ∧ need ≤ run then
      let s := s.setNode i (({ n with dyn := { n.dyn with satCnt := 0, satRun := 0 } } : Node).setLink 2 (!sat))
      if sat then s.nodeEv Ev.NODE_SENSOR_OK i [n.dyn.detDrop] else (s.irq Pg.node 6).nodeEv Ev.NODE_SENSOR_SAT i [cnt]
    else s.setDyn i { n.dyn with satCnt := 0, satRun := run }

/-! ### History (R27, R173) -/

/-- The newest n entries of a ring. -/
def newest {A : Type} (n : Nat) (l : List A) : List A := l.drop (l.length - n)

/-- Records a ring of 400 days of quarter-hours of 4,096 nodes holds (R31). -/
abbrev nodeHistCap : Nat := 157286400

/-- The records of one node for n periods that end at quarter-hour q (R173): energy divided equally with the remainder
in the last, at most 96 filled, older ones GAP. DEDUCED: log entry 82. -/
def State.nodeRecords (s : State) (i : Nat) (m : Node) (q n : Nat) : List NodeHist :=
  let total := (m.dyn.eTot + 2 ^ 32 - Tab.get (fun _ => 0) s.nv.hist.nodeE i) % 2 ^ 32
  let fill := min n 96
  let base := 4 * b2n m.comloss + 8 * b2n (m.ident.state == 5) + (if 1 < n then 2 else 0)
  (List.range n).map fun k =>
    if k + 96 < n then { index := i, period := q - n + k, energy := 0, pEnd := 0, faults := 0, flags := 1 }
    else {
      index := i, period := q - n + k
      energy := total / fill + if k + 1 = n then total % fill else 0
      pEnd := m.dyn.p, faults := m.dyn.fault, flags := base }

/-- NODE_HISTORY_RECORD: at a quarter-hour of UTC the application complex writes each node's records (R173). DEDUCED:
log entry 82. -/
def State.nodeHistory (s : State) : State :=
  let q := s.utc / 900
  let h := s.nv.hist
  if s.pwr.appOn = false ∨ q ≤ h.nodeAt then s
  else
    let n := if h.nodeAt = 0 then 1 else q - h.nodeAt
    let live := s.node.table.filter fun (_, m) => m.ident.state == 4 || m.ident.state == 5
    let recs := live.flatMap fun (i, m) => s.nodeRecords i m q n
    let e := live.foldl (fun t (i, m) => Tab.set (fun _ => 0) t i m.dyn.eTot) []
    { s with nv := { s.nv with hist := { h with node := newest nodeHistCap (h.node ++ recs), nodeAt := q, nodeE := e } } }

/-! ### The entry window (R161 to R163, R186) -/

/-- The 128 bytes of an entry. -/
def nodeBytes (n : Node) : List Nat :=
  let a := n.ident
  let d := n.dyn
  padTo 64 (leBytes 6 a.uid ++ [a.state, a.qcause, a.kind, a.ntype, a.depth, a.chCnt] ++ leBytes 2 a.group ++ [a.cfg, 0] ++
    leBytes 2 a.driveCap ++ leBytes 2 a.ratedW ++ leBytes 4 a.fwVer ++ leBytes 4 a.commSec ++ [a.phase]) ++
  padTo 64 (leBytes 2 d.l ++ leBytes 2 d.lvl ++ leBytes 4 d.rxFv ++ leBytes 3 d.burnH ++ [d.temp] ++ leBytes 2 d.fault ++
    [d.link, d.miss] ++ leBytes 2 d.late ++ leBytes 2 d.p ++ leBytes 2 d.vsup ++ leBytes 4 d.eLast ++ leBytes 4 d.eTot ++
    leBytes 2 d.lastFault ++ leBytes 4 d.seen ++ leBytes 2 d.satCnt ++ leBytes 2 d.satRun ++ leBytes 4 d.detTot ++
    leBytes 2 d.detDrop)

/-- Entries of bus b that satisfy p. -/
def State.countBus (s : State) (b : Nat) (p : Node → Bool) : Nat :=
  (s.node.table.filter fun (i, n) => i / 256 == b && p n).length

/-- The per-bus record (R163). -/
def State.busBytes (s : State) (b : Nat) : List Nat :=
  let f := s.fbs b
  let ses := s.rd Rg.NODE_SESSION
  padTo 128 (leBytes 2 (s.countBus b fun n => n.ident.state == 4) ++
    leBytes 2 (s.countBus b fun n => n.ident.state == 4 && n.isSensor) ++
    leBytes 2 (s.countBus b fun n => n.ident.state == 5) ++ leBytes 2 (s.countBus b Node.comloss) ++
    leBytes 2 f.dropUnk ++ leBytes 2 f.dropQuar ++ leBytes 2 f.dropFmt ++
    [b2n (bitW ses b) + 2 * b2n (bitW ses (16 + b)) + 4 * b2n (s.recomOn b), f.pollPos] ++
    leBytes 6 f.foundUid ++ leBytes 2 f.foundCnt)

/-- The broadcast record, which shows the walk (R163). DEDUCED: log entry 63. -/
def State.walkBytes (s : State) (b : Nat) : List Nat :=
  let f := s.fbs b
  padTo 128 ([b2n (s.walking b), f.lastM] ++ leBytes 6 f.lastPfx ++ leBytes 2 f.probes ++ leBytes 2 f.collided ++
    leBytes 2 f.walks)

/-- The bytes of the record at a node table index. -/
def State.entBytes (s : State) (i : Nat) : List Nat :=
  if i % 256 = 0 then s.busBytes (i / 256) else if i % 256 = 255 then s.walkBytes (i / 256) else nodeBytes (s.nodeAt i)

/-- ENTk of the selected entry. -/
def State.entWord (s : State) (k : Nat) : Word := BitVec.ofNat 32 (leAt (s.entBytes (s.get Fd.NODE_ENT_SEL_INDEX)) (4 * k) 4)

/-- A write of an ENT word: ENT3 and ENT4 of an entry that is not FREE wait for the edge, others are ignored (R186). -/
def State.entWrite (s : State) (k : Nat) (v : Word) : State :=
  let i := s.get Fd.NODE_ENT_SEL_INDEX
  if (k = 3 ∨ k = 4) ∧ (s.nodeAt i).ident.state ≠ 0 ∧ i % 256 ≠ 0 ∧ i % 256 ≠ 255 then s.nodeInput (.entWrite i k v) else s

/-- COUNTS and COUNTS2 as read. -/
def State.nodeCounts (s : State) : Word :=
  BitVec.ofNat 32 (s.sensors * 65536 + (s.node.table.filter fun (_, n) => n.ident.state == 4).length)
def State.nodeCounts2 (s : State) : Word :=
  BitVec.ofNat 32 ((s.node.table.filter fun (_, n) => n.comloss).length * 65536 +
    (s.node.table.filter fun (_, n) => n.ident.state == 5).length)

/-! ### Digital inputs (R183, R187) -/

/-- A digital input's state beside the IO page. -/
def State.di (s : State) (i : Nat) : Di := Tab.get (fun _ => Di.init) s.io.di i

def State.setDi (s : State) (i : Nat) (d : Di) : State := { s with io := { s.io with di := Tab.set (fun _ => Di.init) s.io.di i d } }

/-- Bits of the DI_STAT fields. -/
abbrev diDeb (i : Nat) : Fld := ⟨Rg.IO_DI_STAT, i, 1⟩
abbrev diEff (i : Nat) : Fld := ⟨Rg.IO_DI_STAT, 8 + i, 1⟩
abbrev diStuck (i : Nat) : Fld := ⟨Rg.IO_DI_STAT, 16 + i, 1⟩
abbrev diChat (i : Nat) : Fld := ⟨Rg.IO_DI_STAT, 24 + i, 1⟩

/-- DEDUCED: log entry 79. -/
def State.diOn (s : State) (i : Nat) : Bool := bitN (s.get Fd.IO_DI_CFG_EN) i

/-- EFF follows the debounced state unless a flag holds it inactive (R183). DEDUCED: log entry 79. -/
def State.diEffect (s : State) (i : Nat) : State :=
  let v := s.diOn i && s.flag (diDeb i) && !s.flag (diStuck i) && !s.flag (diChat i)
  if s.flag (diEff i) = v then s else (s.put (diEff i) (b2n v)).irq Pg.io 0

/-- The input that DOOR_SEL names drives the DOOR source with its debounced state (R345). DEDUCED: log entry 80. -/
def State.diDoor (s : State) (i : Nat) : State :=
  if s.get ⟨Rg.TAMP_DOOR_SEL, 0, 3⟩ = i ∧ bitN s.ground.live 1 ≠ s.flag (diDeb i) then s.tamper 1 (s.flag (diDeb i)) true
  else s

/-- TAMPER: a source's level, as Ground or the always-on domain reads it; DOOR is the debounced input in RUN, LOW and HOLDUP
(R345). -/
def State.tamperIn (s : State) (src : Nat) (active vioC : Bool) : State :=
  if src = 1 ∧ watched s.pwr.state 1 false = true then s.diDoor (s.get ⟨Rg.TAMP_DOOR_SEL, 0, 3⟩)
  else s.tamper src active vioC

/-- DIi becomes active: a wake request (R407). -/
def State.diWake (s : State) (i : Nat) : State := { s with pwr := { s.pwr with wakeReq := setBitN s.pwr.wakeReq (8 + i) true } }

/-- DI_LEVEL_CHANGE: the raw level changes, which restarts the debounce time (R183).  In STANDBY the always-on domain
samples the inputs while VIO_C is present (R407). -/
def State.diLevel (s : State) (i : Nat) (level vioC : Bool) : State :=
  if 8 ≤ i then s
  else
    let s := s.setDi i { s.di i with raw := level }
    if s.pwr.state == .standby && vioC && level != bitN (s.get Fd.IO_DI_CFG_INVERT) i then s.diWake i else s

/-- The confirmed changes within the last chatter window. -/
def State.diRecent (s : State) (i : Nat) : List Nat :=
  (s.di i).changes.filter fun t => decide (s.ms < t + 100 * s.get Fd.IO_DI_CHATTER_N_WIN)

/-- DEB takes its value from the debounced level, INVERT and the enable, and the functions that read it follow (R183, R345). -/
def State.diDebounced (s : State) (i : Nat) : State :=
  let act := s.diOn i && ((s.di i).lvl != bitN (s.get Fd.IO_DI_CFG_INVERT) i)
  if s.flag (diDeb i) = act then s.diEffect i
  else
    let s := s.put (diDeb i) (b2n act)
    let s := if act then s.diWake i else s
    (s.diEffect i).diDoor i

/-- DI_CONFIRM: the raw level has been stable for DEBOUNCE ms (R183). DEDUCED: log entry 79. -/
def State.diConfirm (s : State) (i : Nat) : State :=
  let d := s.di i
  if 8 ≤ i ∨ s.diOn i = false ∨ d.raw = d.lvl then s
  else
    let act := d.raw != bitN (s.get Fd.IO_DI_CFG_INVERT) i
    let l := s.ms :: s.diRecent i
    let s := (s.setDi i { d with lvl := d.raw, changes := l, lastChange := s.ms }).countIn
    let s := if act = false ∧ s.flag (diStuck i) then
        ((s.put (diStuck i) 0).irq Pg.io 3).raise Ev.DI_CLEARED Pg.io [i, 1]
      else s
    let n := s.get Fd.IO_DI_CHATTER_N_N
    let s := if n ≠ 0 ∧ n < l.length ∧ s.flag (diChat i) = false then
        ((s.put (diChat i) 1).irq Pg.io 2).raise Ev.DI_CHATTER Pg.io [i, l.length]
      else s
    s.diDebounced i

/-- DI_STUCK: the input has been active for longer than DI_STUCK_T seconds since its last confirmed change (R183). -/
def State.diStuckAt (s : State) (i : Nat) : State :=
  let t := s.get ⟨Rg.IO_DI_STUCK_T, 0, 16⟩
  if s.diOn i ∧ t ≠ 0 ∧ s.flag (diDeb i) ∧ s.flag (diStuck i) = false ∧ (s.di i).lastChange + 1000 * t < s.ms then
    (((s.put (diStuck i) 1).irq Pg.io 1).raise Ev.DI_STUCK Pg.io [i]).diEffect i
  else s

/-- DI_CHATTER_WINDOW_END: a whole window has passed with no confirmed change (R183). -/
def State.diChatterEnd (s : State) (i : Nat) : State :=
  if s.flag (diChat i) = false ∨ s.ms < (s.di i).lastChange + 100 * s.get Fd.IO_DI_CHATTER_N_WIN then s
  else (((s.put (diChat i) 0).irq Pg.io 3).raise Ev.DI_CLEARED Pg.io [i, 2]).diEffect i

/-- After a write of DI_CFG: active is the level that INVERT selects; a disabled input is inactive, and its flags clear without
an event (R183). -/
def State.diCfg (s : State) : State :=
  (List.range 8).foldl (fun s i =>
    (if s.diOn i then s else (s.put (diStuck i) 0).put (diChat i) 0).diDebounced i) s

/-- DI_RAW as read. -/
def State.diRawWord (s : State) : Word :=
  BitVec.ofNat 32 (((List.range 8).filter fun i => (s.di i).raw).foldl (fun a i => a + 2 ^ i) 0)

end Sys2Proof.Machine
end

