-- ==== Sys2Proof/Machine/Age.lean ====
section
/-! DEFINITION. Burnish: items and margins, the core rail, NAND scans, the supercapacitor test and the hold-up plan, sample
points, drive caps (R388 to R394, R409). -/

namespace Sys2Proof.Machine

/-- Item k. -/
def State.ageItem (s : State) (k : Nat) : AgeItem := Tab.get (fun _ => AgeItem.init) s.age.items k

/-- Item k replaced. -/
def State.setAgeItem (s : State) (k : Nat) (x : AgeItem) : State :=
  { s with age := { s.age with items := Tab.set (fun _ => AgeItem.init) s.age.items k x } }

/-- The limit L of item k, R388. -/
def ageLimit (k : Nat) : Int :=
  if k ≤ 7 then 0 else if k = 8 then 40 else if k = 9 then 1500 else if k = 10 then 470 else if k = 11 then 500
  else if k ≤ 27 then 1500 else if k ≤ 31 then 1000 else 12288

/-- The nominal N of item k, once it has been taken, R388. DEDUCED: log entry 141. -/
def State.ageNominal (s : State) (k : Nat) : Option Int :=
  if k ≤ 8 then some (Config.ageFactory k) else if k = 9 then some 0
  else if k ≤ 27 then Tab.get (fun _ => none) s.nv.ageN k
  else if k ≤ 31 then some 0 else some 32768

/-- The limit counts for values of both signs, R388. -/
def ageAbs (k : Nat) : Bool := k == 9 || (decide (28 ≤ k) && decide (k ≤ 31))

/-- Margin in percent of a value, R388. -/
def ageMargin (l n v : Int) : Nat := if l = n then 0 else (max 0 (min ((100 * (l - v)).fdiv (l - n)) 100)).toNat

/-- The value has reached or passed the limit, seen from the nominal, R388. -/
def ageOut (l n v : Int) : Bool := if l < n then decide (v ≤ l) else decide (l ≤ v)

/-- One of the events of a changed status, at most once per item and day, R388. -/
def State.ageEvent (s : State) (k st : Nat) (v : Int) (m : Nat) : State :=
  let x := s.ageItem k
  if st = 2 then
    let s := s.irq Pg.age 0
    if limitOk x.lowAt s.ns 86400 then
      (s.setAgeItem k { x with lowAt := some s.ns }).raise Ev.AGE_MARGIN_LOW Pg.age [k, pInt v, m]
    else s
  else if st = 3 then
    let s := s.irq Pg.age 1
    if limitOk x.outAt s.ns 86400 then
      (s.setAgeItem k { x with outAt := some s.ns }).raise Ev.AGE_MARGIN_OUT Pg.age [k, pInt v, pInt (ageLimit k)]
    else s
  else s

/-- The status of item k is st now. -/
def State.ageStatus (s : State) (k st : Nat) : State :=
  let x := s.ageItem k
  let s := s.setAgeItem k { x with status := st }
  if st = x.status then s else s.ageEvent k st x.value x.margin

/-- Item k is measured with value v: N is taken at the first measurement where R388 says so. DEDUCED: log entry
141. -/
def State.ageSet (s : State) (k : Nat) (v : Int) : State :=
  let s := match s.ageNominal k with
    | some _ => s
    | none => { s with nv := { s.nv with ageN := Tab.set (fun _ => none) s.nv.ageN k (some v) } }
  let n := (s.ageNominal k).getD 0
  let u : Int := if ageAbs k then (v.natAbs : Nat) else v
  let m := ageMargin (ageLimit k) n u
  let s := s.setAgeItem k { s.ageItem k with measured := true, value := v, margin := m, since := s.sec }
  s.ageStatus k (if ageOut (ageLimit k) n u then 3 else if m < 20 then 2 else 1)

/-- An applied re-plan, R394, R395. DEDUCED: log entry 142. -/
def State.replanned (s : State) (kind new bus : Nat) : State := (s.irq Pg.age 2).raise Ev.AGE_REPLAN Pg.age [kind, new, bus]

/-! ### Core rail, R389 -/

/-- The 1 s sample of items 0 to 7 is complete. DEDUCED: log entry 140. -/
def State.avsSample (s : State) : State :=
  let m := (List.range 8).foldl (fun (b : Int) k => min b (s.ageItem k).value) (s.ageItem 0).value
  if !s.flag Fd.AGE_CFG_AVS_EN then { s with age := { s.age with goodRun := 0 } }
  else if m < 40 then
    let s := { s with age := { s.age with goodRun := 0, railNext := min 880 (s.age.rail + 5) } }
    if s.age.rail = 880 then
      (List.range 8).foldl (fun t k => if (t.ageItem k).status = 3 then t else t.ageStatus k 2) s
    else s
  else if 80 < m then
    if s.age.goodRun + 1 < 3600 then { s with age := { s.age with goodRun := s.age.goodRun + 1 } }
    else { s with age := { s.age with goodRun := 0, railNext := max 760 (s.age.rail - 5) } }
  else { s with age := { s.age with goodRun := 0 } }

/-- A guard band applies the step that waits; with AVS_EN 0 the rail goes back to 0.800 V in steps of 5 mV. -/
def State.avsGuard (s : State) : State :=
  let next := if s.flag Fd.AGE_CFG_AVS_EN then s.age.railNext
    else if s.age.rail < 800 then s.age.rail + 5 else if 800 < s.age.rail then s.age.rail - 5 else 800
  if next = s.age.rail then s
  else ({ s with age := { s.age with rail := next, railNext := next } }).replanned 1 next 0

/-- AGE.AVS as read, R397. -/
def State.avsWord (s : State) : Word :=
  BitVec.ofNat 32 (unsigned 8 (((s.age.rail : Int) - 800) / 5) * 65536 + s.age.rail)

/-! ### NAND scans, R390 -/

/-- A scan ends with its largest bit-error count. -/
def State.nandScan (s : State) (v : Nat) : State :=
  let s := s.ageSet 8 v
  if !s.flag Fd.AGE_CFG_NAND_EN then { s with age := { s.age with nandDays := 90, goodScans := 0 } }
  else
    let d := s.age.nandDays
    let g := if v ≤ 5 then s.age.goodScans + 1 else 0
    let d' := if 20 < v then max 7 (d / 2) else if 2 ≤ g then min 180 (d * 2) else d
    let s := { s with age := { s.age with nandDays := d', goodScans := if 2 ≤ g then 0 else g } }
    if d' = d then s else s.replanned 2 d' 0

/-! ### Supercapacitor and hold-up plan, R391, R409 -/

/-- The numerator of E_u: E_u in J times 10^14, with C in mF and ESR in mΩ, R409. DEDUCED: log entry 143. -/
def State.holdNum (s : State) : Int :=
  let v : Int := 27000 + 18 * s.age.scapEsr
  425 * s.age.scapC * (2500000000 - v * v)

/-- E_u in mJ, R409. -/
def State.holdE (s : State) : Nat := ((s.holdNum + 50000000000) / 100000000000).toNat

/-- T_r in ms, R409. DEDUCED: log entry 143. -/
def State.holdT (s : State) : Nat :=
  if s.flag Fd.PWR_HOLD_CFG_RIDE_EN then
    min (s.get Fd.PWR_HOLD_CFG_RIDE_MAX) ((s.holdNum - 50000000000000) / 400000000000).toNat
  else 0

/-- The plan: 0 RIDE, 1 GASP, 2 MINIMAL, R409. DEDUCED: log entry 143. -/
def State.holdPlan (s : State) : Nat := if s.holdNum < 50000000000000 then 2 else if s.holdT < 100 then 1 else 0

/-- PWR.HOLD_PLAN as read. -/
def State.holdPlanWord (s : State) : Word := BitVec.ofNat 32 (min s.holdE 65535 * 65536 + min s.holdT 65535)

/-- AGE.SCAP_RES as read. -/
def State.scapRes (s : State) : Word := BitVec.ofNat 32 (s.age.scapC % 65536 * 65536 + s.age.scapEsr % 65536)

/-- The test starts when R391's conditions hold, or is deferred to the next whole hour. -/
def State.scapStart (s : State) : State :=
  let s : State := { s with age := { s.age with scapAt := some (s.utc / 3600) } }
  if s.age.scapRun then s
  else if s.pwr.state = .run ∧ s.nv.upd.state ≠ 6 ∧ s.nv.upd.state ≠ 8 ∧ 5000 ≤ s.pwr.vhold then
    { s with age := { s.age with scapRun := true, scapDue := false } }
  else ({ s with age := { s.age with scapDue := true } }).raise Ev.AGE_SCAP_TEST Pg.age [s.age.scapC, s.age.scapEsr, 1]

/-- A whole hour (UTC) begins: the hour HOUR of day DAY, or the one after a deferral, R391; at most one start an hour. -/
def State.scapHour (s : State) : State :=
  let h := s.utc / 3600
  let day := (dateOfDay ((s.utc / 86400 : Nat) - 10957)).2.2
  let planned := s.flag Fd.AGE_CFG_SCAP_EN && s.get Fd.AGE_SCAP_CFG_HOUR == h % 24 &&
    decide (day = (s.get Fd.AGE_SCAP_CFG_DAY : Int))
  if (planned || s.age.scapDue) && s.age.scapAt != some h then
    s.scapStart
  else s

/-- The test ends with C in mF and ESR in mΩ, R391. DEDUCED: log entry 142. -/
def State.scapDone (s : State) (c esr : Nat) : State :=
  if !s.age.scapRun then s
  else
    let old := s.holdPlanWord
    let s := { s with age := { s.age with scapRun := false, scapC := c, scapEsr := esr } }
    let s := ((s.ageSet 10 c).ageSet 11 esr).irq Pg.age 3
    let s := s.raise Ev.AGE_SCAP_TEST Pg.age [c, esr, 0]
    if s.holdPlanWord = old then s else s.replanned 3 s.holdT 0

/-- VIN is lost during the test: no result, R391. -/
def State.scapLost (s : State) : State :=
  if !s.age.scapRun then s
  else ({ s with age := { s.age with scapRun := false } }).raise Ev.AGE_SCAP_TEST Pg.age [s.age.scapC, s.age.scapEsr, 2]

/-! ### Sample points, R392 -/

/-- One hour judged for one phase: the plan after it. `e` errors in n frames. DEDUCED: log entry 144. -/
def spStep (x : SpPlan) (e n : Nat) : SpPlan :=
  let lower := decide (e * x.lastFrames < x.lastErr * n)
  let y := { x with lastErr := e, lastFrames := n, moved := 0, back := false, quiet := if e = 0 then x.quiet + 1 else 0 }
  let clamp := fun (o : Int) => max (-5 : Int) (min o 5)
  if x.moved ≠ 0 ∧ lower = false ∧ x.back = false then { y with ofs := clamp (x.ofs - x.moved), moved := -x.moved, back := true }
  else
    let y := if x.moved ≠ 0 ∧ lower = true then { y with dir := x.moved } else y
    if n < e * 10000 then { y with ofs := clamp (y.ofs + y.dir), moved := y.dir }
    else if 24 ≤ y.quiet then
      { y with quiet := 0, ofs := if 0 < y.ofs then y.ofs - 1 else if y.ofs < 0 then y.ofs + 1 else 0 }
    else y

/-- The plan of a phase (0 data, 1 arbitration) of bus b. -/
def State.spPlan (s : State) (b ph : Nat) : SpPlan := Tab.get (fun _ => SpPlan.init) s.age.sp (2 * b + ph)

/-- The plan replaced. -/
def State.setSpPlan (s : State) (b ph : Nat) (x : SpPlan) : State :=
  { s with age := { s.age with sp := Tab.set (fun _ => SpPlan.init) s.age.sp (2 * b + ph) x } }

/-- An hour of bus b ends, R392, R394. DEDUCED: log entry 144. -/
def State.spReplan (s : State) (b : Nat) : State :=
  let f := s.fbs b
  let s := s.modFb b ({ · with errD := 0, errA := 0, frames := 0 })
  if !s.flag (Fd.FB_SAMPLE_PT_BURNISH_EN b) || !s.transmits then s
  else
    let d := spStep (s.spPlan b 0) f.errD f.frames
    let a := spStep (s.spPlan b 1) f.errA f.frames
    let moved := d.ofs != (s.spPlan b 0).ofs || a.ofs != (s.spPlan b 1).ofs
    let s := (s.setSpPlan b 0 d).setSpPlan b 1 a
    if !moved then s
    else
      let nom := ((s.get (Fd.FB_SAMPLE_PT_NOM_SP b) : Int) + a.ofs).toNat
      let dat := ((s.get (Fd.FB_SAMPLE_PT_DATA_SP b) : Int) + d.ofs).toNat
      let w := setF (setF 0 24 7 nom) 16 7 dat
      ((s.modFb b ({ · with spPend := some w })).mirrorOut (.samplePt b w)).replanned 4 w.toNat b

/-! ### Drive caps, R393 -/

/-- The cap of a lantern from its mean full-drive power (0.1 W), its rated power (0.1 W) and CAP_PCT. -/
def driveCap (full rated pct : Nat) : Nat :=
  if full ≤ rated * pct / 100 then 65535 else max 16384 (65535 * rated * pct / (100 * full))

/-- One lantern's cap re-planned; true when it changes. -/
def State.capNode (s : State) (i : Nat) : State × Bool :=
  let n := s.nodeAt i
  let cnt := Tab.get (fun _ => 0) s.age.capCnt i
  if !n.commLantern || n.ident.ratedW == 0 || decide (cnt < 96) then (s, false)
  else
    let full := Tab.get (fun _ => 0) s.age.capSum i / cnt
    let cap := driveCap full n.ident.ratedW (s.get Fd.AGE_CFG_CAP_PCT)
    let d := n.ident.driveCap
    if d + 256 ≤ cap ∨ cap + 256 ≤ d then
      let s := (s.nodeInput (.entWrite i 4 (BitVec.ofNat 32 (n.ident.ratedW * 65536 + cap)))).mirrorOut (.cap i cap)
      (if cap = 16384 then s.raise Ev.AGE_CAP_FLOOR Pg.age [i, full] else s, true)
    else (s, false)

/-- The daily re-plan in the hour of 12:00 UTC, once a day, R393, R394. -/
def State.capReplan (s : State) : State :=
  if s.utc / 3600 % 24 ≠ 12 ∨ s.age.capDay = some (s.utc / 86400) then s
  else
  let t := if s.flag Fd.AGE_CFG_CAP_EN && s.transmits then
      s.node.table.foldl (fun (a : State × Nat) e =>
        let r := a.1.capNode e.1
        (r.1, a.2 + b2n r.2)) (s, 0)
    else (s, 0)
  let s := if t.2 = 0 then t.1 else t.1.replanned 5 t.2 0
  { s with age := { s.age with capSum := [], capCnt := [], capDay := some (s.utc / 86400) } }

/-- Item 32: the lowest lumen factor among commissioned lanterns, R388. -/
def State.ledItem (s : State) : Nat :=
  s.node.table.foldl (fun m e => if e.2.commLantern then min m (s.lumen e.2) else m) 32768

/-- Burnish measures item k; items 0 to 7 make one sample, which item 7 completes; item 9
only while the time is locked. DEDUCED: log entry 140. DESIGN
CHOICE: log entry 145. -/
def State.ageMeasure (s : State) (k : Nat) (v : Int) : State :=
  if 32 < k then s
  else
    if k = 9 ∧ s.get Fd.TIME_SRC_STAT_STATE ≠ 3 then s
    else
      let s := s.ageSet k (if k = 32 then (s.ledItem : Int) else v)
      if k = 7 then s.avsSample else s

/-! ### The page, R397 -/

/-- MARGIN of the selected item. -/
def State.ageMarginWord (s : State) (k : Nat) : Word :=
  let x := s.ageItem k
  BitVec.ofNat 32 (x.status * 2 ^ 30 + x.margin)

/-- MEAS_AGE of an item. -/
def State.ageMeasAge (s : State) (k : Nat) : Nat := min (s.sec - (s.ageItem k).since) 0xFFFFFFFF

end Sys2Proof.Machine
end

