-- ==== Sys2Proof/Machine/Met.lean ====
section
/-! DEFINITION. Metering windows and energy (R188 to R198), reconciliation (R199, R200), Trace (R201 to R204) and
calibration (R205, R206). -/

namespace Sys2Proof.Machine

/-! ### Roundings of R193 -/

/-- Integer square root below 2^k, from the bits k − 1 down on top of r. -/
def isqrtFrom (n : Nat) : Nat → Nat → Nat
  | 0, r => r
  | k + 1, r => if (r + 2 ^ k) * (r + 2 ^ k) ≤ n then isqrtFrom n k (r + 2 ^ k) else isqrtFrom n k r

/-- The square root of a / b, rounded to the nearest integer. -/
def rootDiv (a b : Nat) : Nat :=
  if b = 0 then 0
  else
    let r := isqrtFrom (a / b) 130 0
    if (2 * r + 1) * (2 * r + 1) * b ≤ 4 * a then r + 1 else r

/-- a / b rounded to the nearest integer, a half away from zero. -/
def roundDiv (a : Int) (b : Nat) : Int :=
  if b = 0 then 0 else a.sign * (((2 * a.natAbs + b) / (2 * b) : Nat) : Int)

/-- A raw sample corrected for offset and gain and clamped, R190; the fractional delay follows. -/
def correctSample (r ofs gain : Int) : Int := max (-8388607) (min (((r - ofs) * gain + 2097152).fdiv 4194304) 8388607)

/-! ### Sets -/

/-- Metering set n beside its page. -/
def State.metSt (s : State) (n : Nat) : MetSt := Tab.get (fun _ => MetSt.init) s.met.set n

/-- Metering set n replaced. -/
def State.setMet (s : State) (n : Nat) (x : MetSt) : State :=
  { s with met := { s.met with set := Tab.set (fun _ => MetSt.init) s.met.set n x } }

/-- The calibration record of channel c in MRAM, R205. -/
def State.calRec (s : State) (c : Nat) : CalRec := Tab.get (fun _ => CalRec.factory) s.nv.cal c

/-- The record as the DSP uses it: a channel whose record fails its check runs with GAIN 2²², PHASE 0 and OFFSET 0, R206. -/
def CalRec.use (r : CalRec) : CalUse :=
  if r.src = 0 then { } else ⟨r.gain, signed 12 r.phase, signed 24 r.offset⟩

/-- A channel of set n runs without a calibration, R206. -/
def State.metUncal (s : State) (n : Nat) : Bool := (List.range 7).any fun k => (s.calRec (7 * n + k)).src == 0

/-- Phases that set n evaluates, R188. -/
def State.metPhases (s : State) (n : Nat) : List Nat := if s.flag (Fd.MET_CFG_WIRING n) then [0] else [0, 1, 2]

/-- The phase of the quantity register at offset o, and whether it depends on SCALE_V and on SCALE_I (R208). -/
def metDepends (o : Nat) : Option (Nat × Bool × Bool) :=
  let k := (o - 0x58) / 4
  if o < 0x58 ∨ 0xAC < o then none
  else if k < 3 then some (k, true, false)
  else if k < 6 then some (k - 3, false, true)
  else if k = 6 then some (0, false, true)
  else if k < 19 then some ((k - 7) % 3, true, true)
  else some ((k - 19) % 3, false, false)

/-- A quantity register of set n as it reads: 0 while a scale it depends on is 0 (R189), and 0 for a phase that the wiring
does not evaluate (R188). -/
def State.metQty (s : State) (n o : Nat) : Word :=
  match metDepends o with
  | none => s.rd (Rg.reg (Pg.met n) o)
  | some (p, v, i) =>
    if (v && s.rd (Rg.MET_SCALE_V n) == 0) || (i && s.rd (Rg.MET_SCALE_I n) == 0) || !(s.metPhases n).contains p then 0
    else s.rd (Rg.reg (Pg.met n) o)

/-- Vrms of phase p as it reads. -/
def State.metVrms (s : State) (n p : Nat) : Nat := (s.metQty n (0x58 + 4 * p)).toNat

/-- The reference phase, R191: the first whose latest Vrms is at least 20 V. DEDUCED: log entry 86. -/
def State.metRef (s : State) (n : Nat) : Option Nat := (s.metPhases n).find? fun p => decide (2000 ≤ s.metVrms n p)

/-! ### Samples and their sums, R190, R193, R194 -/

/-- The calibration of channel k for sample i of a window: the latest that counts from i or before, else the first known. -/
def MetSt.calAt (m : MetSt) (k : Nat) (i : Nat) : CalUse :=
  let l := (m.cals.filter fun e => decide (e.1 ≤ (i : Int))).getLast?.orElse fun _ => m.cals.head?
  ((l.bind fun e => e.2[k]?).getD { })

/-- The corrected codes of channel k in a window, oldest first: offset and gain, then the fractional delay over the latest
32 codes; with the codes before the delay, newest first. -/
def MetSt.correct (m : MetSt) (k : Nat) (raw : List Int) : List Int × List Int :=
  (raw.foldl (fun (a : Nat × List Int × List Int) r =>
    let c := m.calAt k a.1
    let y := correctSample r c.offset c.gain :: a.2.2
    (a.1 + 1, (Config.fracDelay c.phase (y.take 32)).toInt :: a.2.1, y.take 32)) (0, [], (m.tail[k]?).getD [])).2.map
    List.reverse id

/-- Σ of the products of two channels. -/
def dot (a b : List Int) : Int := (a.zip b).foldl (fun t e => t + e.1 * e.2) 0

/-- Bits after the point of the tables of the transform. -/
abbrev trigBits : Nat := 96

/-- cos and sin of 2π / 2^k × 2^trigBits, by halving from a quarter turn. -/
def unitAngle : Nat → Int × Int
  | 0 => (2 ^ trigBits, 0)
  | 1 => (-(2 ^ trigBits), 0)
  | 2 => (0, 2 ^ trigBits)
  | k + 1 =>
    let c := (unitAngle k).1
    (isqrtFrom ((2 ^ trigBits + c) * 2 ^ (trigBits - 1)).toNat (trigBits + 1) 0,
      isqrtFrom ((2 ^ trigBits - c) * 2 ^ (trigBits - 1)).toNat (trigBits + 1) 0)

/-- The product of two complex numbers in that scale. -/
def cMul (a b : Int × Int) : Int × Int :=
  ((a.1 * b.1 - a.2 * b.2).fdiv (2 ^ trigBits), (a.1 * b.2 + a.2 * b.1).fdiv (2 ^ trigBits))

/-- e^(2πi j / 1024) in that scale, from the binary digits of j. -/
def rootOfUnity (j : Nat) : Int × Int :=
  (List.range 10).foldl (fun z b => if j.testBit b then cMul z (unitAngle (10 - b)) else z) (2 ^ trigBits, 0)

/-- Bin 10 h of the 1,024-point transform of a window: ten cycles long, so the bin of harmonic order h (R194). -/
def harmBin (x : List Int) (h : Nat) : Int × Int :=
  (List.range 1024).foldl (fun a k =>
    let e := rootOfUnity (10 * h * k % 1024)
    let v := Config.resample x k
    (a.1 + v * e.1, a.2 - v * e.2)) (0, 0)

/-- The scale of a squared bin: (transform scale × 1/65,536)², and (√2 / 1024)² from bin to rms. -/
abbrev binScale : Nat := 2 ^ (2 * trigBits + 32 + 19)

/-- X_h² × binScale of a channel. -/
def harmSq (x : List Int) (h : Nat) : Nat := let b := harmBin x h; (b.1 * b.1 + b.2 * b.2).toNat

/-- V₁ × I₁ × sin(φv₁ − φi₁) × binScale (R193): the imaginary part of the voltage's bin times the current's conjugate. -/
def reactive (v i : List Int) : Int :=
  let a := harmBin v 1
  let b := harmBin i 1
  a.2 * b.1 - a.1 * b.2

/-- Length T of a window in ns, R195. -/
def MetSt.winNs (m : MetSt) (n : Nat) : Nat :=
  125000 * n - (m.short.filter fun e => decide (e.1 < (n : Int))).foldl (fun a e => a + e.2) 0

/-- Samples taken during a tick of `dt` ns, and the ns that the last interval of a realignment tick lacks, R190. -/
def State.tickSamples (s : State) (dt : Nat) : Nat × Nat :=
  if s.tick.steps.isEmpty then (8 * s.pms, 0) else ((dt + 124999) / 125000, (dt + 124999) / 125000 * 125000 - dt)

/-- The sampling of a tick that has ended, R190; a set that starts counts its first window's samples from the edge that
opened the tick. DESIGN CHOICE: log entry 85. -/
def State.metTick (s : State) (dt : Nat) : State :=
  let c := s.tickSamples dt
  (List.range 4).foldl (fun t n =>
    let m := t.metSt n
    if t.flag (Fd.run (Pg.met n)) then
      t.setMet n { m with
        pos := m.pos + c.1, short := if c.2 = 0 then m.short else m.short ++ [(m.pos + c.1 - 1, c.2)] }
    else t.setMet n { m with pos := 0, short := [], tail := [], cals := m.cals.reverse.take 1 |>.map fun e => (0, e.2) }) s

/-- The next window begins where this one of n samples ended. -/
def MetSt.nextWin (m : MetSt) (n : Nat) (tail : List (List Int)) : MetSt :=
  let d := fun (i : Int) => i - n
  let old := (m.cals.filter fun e => decide (d e.1 ≤ 0)).reverse.take 1
  { m with
    pos := d m.pos, tail := tail
    cals := (old ++ m.cals.filter fun e => decide (0 < d e.1)).map fun e => (d e.1, e.2)
    short := (m.short.filter fun e => decide ((n : Int) ≤ e.1)).map fun e => (d e.1, e.2) }

/-- The length of a window, R191: without a reference, or outside 45 to 65 Hz, 10 cycles of NOM_F; else it is given by the
crossings. DEDUCED: log entry 86. -/
def State.metFits (s : State) (n len : Nat) : Bool :=
  let nominal := (s.metRef n).isNone || s.flag (Fd.statBit (Pg.met n) 9)
  !nominal || (if s.flag (Fd.MET_CFG_NOM_F n) then len == 1333 || len == 1334 else len == 1600)

/-- Energy x in 0.01 W × ns (or var) added to register k of a set, with the remainder carried, R195. -/
def MetSt.addEnergy (m : MetSt) (k x : Nat) : MetSt :=
  let acc := Tab.get (fun _ => 0) m.remain k + x
  { m with
    energy := Tab.mod (fun _ => 0) m.energy k (fun e => (e + acc / 360000000000) % 2 ^ 64)
    remain := Tab.set (fun _ => 0) m.remain k (acc % 360000000000) }

/-- The energy of one phase of a window, R195. -/
def MetSt.addPhase (m : MetSt) (ph ns : Nat) (p q : Int) : MetSt :=
  let k := ph * 6
  let m := if 0 < p then m.addEnergy k (p.natAbs * ns) else if p < 0 then m.addEnergy (k + 1) (p.natAbs * ns) else m
  let quad := if 0 ≤ p then (if 0 ≤ q then 2 else 5) else if 0 ≤ q then 3 else 4
  m.addEnergy (k + quad) (q.natAbs * ns)

/-- The quantities of phase p written to the page from its voltage and current samples and its energies added over T ns, R193,
R195; `full` is false without a valid reference. -/
def State.metPhase (s : State) (n p ns : Nat) (v i : List Int) (full : Bool) : State :=
  let sv := (s.rd (Rg.MET_SCALE_V n)).toNat
  let si := (s.rd (Rg.MET_SCALE_I n)).toNat
  let on := (s.metPhases n).contains p
  let full := full && on
  let v := if on then v else []
  let i := if on then i else []
  let len := v.length
  let vv := (dot v v).toNat
  let ii := (dot i i).toNat
  let vi := dot v i
  let thd := fun (x : List Int) =>
    if !full || decide (harmSq x 1 * 40000 < 2 ^ 46 * binScale) then 0
    else min 65535 (rootDiv ((List.range 30).foldl (fun a o => a + harmSq x (o + 2)) 0 * 100000000) (harmSq x 1))
  let pw : Int := roundDiv (vi * sv * si) (len * 2 ^ 46 * 10000)
  let qw : Int := if full then roundDiv (reactive v i * sv * si) (binScale * 2 ^ 46 * 10000) else 0
  let ss := rootDiv (vv * ii * (sv * si) ^ 2) (len * len * 2 ^ 92 * 100000000)
  let pf : Int := if ss = 0 then 0 else vi.sign * ((rootDiv (100000000 * vi.natAbs * vi.natAbs) (vv * ii) : Nat) : Int)
  let s := s.wr (Rg.MET_VRMS n p) (BitVec.ofNat 32 (rootDiv (vv * sv * sv) (len * 2 ^ 46)))
  let s := s.wr (Rg.MET_IRMS n p) (BitVec.ofNat 32 (rootDiv (ii * si * si) (len * 2 ^ 46)))
  let s := (s.wr (Rg.MET_P n p) (BitVec.ofInt 32 pw)).wr (Rg.MET_Q n p) (BitVec.ofInt 32 qw)
  let s := (s.wr (Rg.MET_S n p) (BitVec.ofNat 32 ss)).wr (Rg.MET_PF n p) (BitVec.ofNat 32 (unsigned 16 pf))
  let s := s.wr (Rg.MET_THD n p) (BitVec.ofNat 32 (thd i * 65536 + thd v))
  s.setMet n ((s.metSt n).addPhase p ns pw qw)

/-- Whether channel k of set n is evaluated (R188), and its scale (R189). -/
def State.metOn (s : State) (n k : Nat) : Bool :=
  if k = 6 then s.flag (Fd.MET_CFG_N_EN n) else (s.metPhases n).contains (k % 3)

def State.metScale (s : State) (n k : Nat) : Nat :=
  (s.rd (if k < 3 then Rg.MET_SCALE_V n else Rg.MET_SCALE_I n)).toNat

/-- The harmonic components of the window over its channels, R194. -/
def State.metHarm (s : State) (n : Nat) (x : List (List Int)) (full : Bool) : State :=
  let l := (List.range 217).map fun i =>
    let k := i / 31
    let sc := s.metScale n k
    (k * 32 + i % 31 + 1,
      if full && s.metOn n k then rootDiv (harmSq ((x[k]?).getD []) (i % 31 + 1) * sc * sc) (2 ^ 46 * binScale) else 0)
  s.setMet n { s.metSt n with harm := l.foldl (fun t e => Tab.set (fun _ => 0) t e.1 e.2) [] }

/-- The reference and frequency flags of a window with their events, R191, R207. -/
def State.metRefFlags (s : State) (n : Nat) (ref : Bool) (freq : Nat) : State :=
  let out := ref && !(decide (45000 ≤ freq) && decide (freq ≤ 65000))
  let m := s.metSt n
  let p := Pg.met n
  let s := if !ref && !s.flag (Fd.statBit p 8) then (s.irq p 1).raise Ev.MET_NO_REF (Pg.met 0) [n] else s
  let s := if out && !s.flag (Fd.statBit p 9) then (s.irq p 2).raise Ev.MET_FREQ_RANGE (Pg.met 0) [n, freq] else s
  let s := if ref && !out && m.noRefWins != 0 then s.raise Ev.MET_REF_RESTORED (Pg.met 0) [n, m.noRefWins] else s
  let s := (s.put (Fd.statBit p 8) (b2n (!ref))).put (Fd.statBit p 9) (b2n out)
  s.setMet n { s.metSt n with noRefWins := if ref && !out then 0 else m.noRefWins + 1 }

/-- The clip flag of a window, R190, R207. -/
def State.metClip (s : State) (n : Nat) (clip : Option Nat) : State :=
  match clip with
  | none => s.put (Fd.statBit (Pg.met n) 10) 0
  | some k =>
    let s := (s.put (Fd.statBit (Pg.met n) 10) 1).irq (Pg.met n) 3
    if limitOk (s.metSt n).clipAt s.ns 60 then
      (s.setMet n { s.metSt n with clipAt := some s.ns }).raise Ev.MET_CLIP (Pg.met 0) [n, 7 * n + k]
    else s

/-- The window enters the minute's means, R198. -/
def State.metMinute (s : State) (n : Nat) : State :=
  let m := s.metSt n
  let f := fun (p : Nat) (t : Tab Nat) (o : Nat) => Tab.mod (fun _ => 0) t p (· + (s.metQty n o).toNat)
  s.setMet n { m with
    sumV := (List.range 3).foldl (fun t p => f p t (0x58 + 4 * p)) m.sumV
    sumI := (List.range 4).foldl (fun t p => f p t (0x64 + 4 * p)) m.sumI
    sumF := m.sumF + s.get ⟨Rg.MET_FREQ n, 0, 17⟩, wins := m.wins + 1
    badRef := m.badRef || s.flag (Fd.statBit (Pg.met n) 8), clipped := m.clipped || s.flag (Fd.statBit (Pg.met n) 10) }

/-- A raw sample at either limit of the 24-bit converter; the lowest such channel of a window, R190. -/
def MetWin.clip (w : MetWin) : Option Nat :=
  (List.range 7).find? fun k => w.raw.any fun r => decide ((r[k]?).getD 0 ≤ -8388608) || decide (8388607 ≤ (r[k]?).getD 0)

/-- The results of a window with corrected channels x, posted to the page; `ref` is the reference phase, R192. -/
def State.metPost (s : State) (n ns : Nat) (x : List (List Int)) (ref : Option Nat) (freq : Nat) : State :=
  let full := ref.isSome && decide (45000 ≤ freq) && decide (freq ≤ 65000)
  let ch := fun (k : Nat) => (x[k]?).getD []
  let r := s.fresh
  let s := if ref.isSome then s.wr (Rg.MET_FREQ n) (BitVec.ofNat 32 (freq % 2 ^ 17))
    else r.2.wr (Rg.MET_FREQ n) (r.1 &&& 0x1FFFF)
  let s := (List.range 3).foldl (fun t p => t.metPhase n p ns (ch p) (ch (3 + p)) full) s
  let si := (s.rd (Rg.MET_SCALE_I n)).toNat
  let nn := if s.metOn n 6 then (dot (ch 6) (ch 6)).toNat else 0
  let s := s.wr (Rg.MET_IRMS n 3) (BitVec.ofNat 32 (rootDiv (nn * si * si) ((ch 6).length * 2 ^ 46)))
  (s.metHarm n x full).metMinute n

/-- MET_WINDOW_END: the window of set n ends and its results are posted together, R192; a set that was asked to stop
stops here (R208). A window of a length that it cannot have does not end. DEDUCED: log entries 51, 86. DESIGN CHOICE: log
entry 85. -/
def State.metWindow (s : State) (n : Nat) (w : MetWin) : State :=
  if 4 ≤ n || !s.flag (Fd.run (Pg.met n)) || !s.metFits n w.raw.length then s
  else
    let ref := s.metRef n
    let freq := (w.freqs[ref.getD 0]?).getD 0
    let m := s.metSt n
    let c := (List.range 7).map fun k => m.correct k (w.raw.map fun r => (r[k]?).getD 0)
    let s := (s.metRefFlags n ref.isSome freq).metClip n w.clip
    let s := s.metPost n (m.winNs w.raw.length) (c.map (·.1)) ref freq
    let s := (s.setMet n ((s.metSt n).nextWin w.raw.length (c.map (·.2)))).addWrap ⟨Rg.MET_WIN_CNT n, 0, 32⟩ 1
    let s := (s.countIn.irq (Pg.met n) 0).postNotice 3 2 (Pg.met n) (s.rd (Rg.MET_WIN_CNT n)).toNat []
    if s.flag (Fd.en (Pg.met n)) then s else s.put (Fd.run (Pg.met n)) 0

/-- The selected energy register, R208. -/
def State.metEnergy (s : State) (n : Nat) : Nat :=
  let r := s.get (Fd.MET_ENERGY_SEL_REG n)
  let p := s.get (Fd.MET_ENERGY_SEL_PHASE n)
  if r < 6 ∧ p < 3 then Tab.get (fun _ => 0) (s.metSt n).energy (p * 6 + r) else 0

/-- HARM_WIN, R208; 0 while the channel's scale is 0 (R189). -/
def State.metHarmWord (s : State) (n : Nat) : Word :=
  let k := s.get (Fd.MET_HARM_SEL_CH n)
  if s.metScale n k = 0 then 0
  else BitVec.ofNat 32 (Tab.get (fun _ => 0) (s.metSt n).harm (k * 32 + s.get (Fd.MET_HARM_SEL_ORDER n)))

/-- The advance of ORDER after a read of HARM_WIN, R208. -/
def State.metHarmNext (s : State) (n : Nat) : State :=
  if s.flag (Fd.MET_HARM_SEL_AUTOINC n) then
    let o := s.get (Fd.MET_HARM_SEL_ORDER n)
    s.put (Fd.MET_HARM_SEL_ORDER n) (if o = 31 then 1 else o + 1)
  else s

/-- Every energy register saved to MRAM, periodically or at HOLDUP entry, R196. DEDUCED: log entry 87. -/
def State.energySave (s : State) (holdup : Bool) : State :=
  let all := (List.range 72).foldl (fun t i =>
    Tab.set (fun _ => 0) t i (Tab.get (fun _ => 0) (s.metSt (i / 18)).energy (i % 18))) []
  { s with nv := { s.nv with energy := all, energyAt := s.get ⟨Rg.RTC_SEC_LO, 0, 32⟩, energyHoldup := holdup, energyEver := true } }

/-- The latest save restored at boot, with MET_ENERGY_GAP when it was a periodic one; `lost` is the RTC second of the
power loss, R196. DEDUCED: log entry 87. -/
def State.energyRestore (s : State) (lost : Nat) : State :=
  let s := (List.range 4).foldl (fun t n => t.setMet n { t.metSt n with
    energy := (List.range 18).foldl (fun e k => Tab.set (fun _ => 0) e k (Tab.get (fun _ => 0) t.nv.energy (18 * n + k))) [] }) s
  if !s.nv.energyEver || s.nv.energyHoldup then s
  else s.raise Ev.MET_ENERGY_GAP (Pg.met 0) [lost - s.nv.energyAt]

/-! ### Feeder history, R198 -/

/-- The 64 bytes of a feeder history record, R198; flow is A_IMP, A_EXP, R_NET, V_AVG and I_AVG by phase. -/
def feederBytes (minute flags : Nat) (flow : List (Nat × Nat × Int × Nat × Nat)) (inAvg fAvg : Nat) : List Nat :=
  leBytes 4 minute ++ [flags, 0, 0, 0] ++
    (flow.flatMap fun e =>
      leBytes 4 e.1 ++ leBytes 4 e.2.1 ++ leBytes 4 (unsigned 32 e.2.2.1) ++ leBytes 2 e.2.2.2.1 ++ leBytes 2 e.2.2.2.2) ++
    leBytes 2 inAvg ++ leBytes 2 fAvg ++ [0, 0, 0, 0]

/-- The record of set n for a minute; `due` minutes are due, and those older than 24 h are GAP (R27). The means round down
and are 0 for a minute without a window, which R198 leaves open. DESIGN CHOICE: log entry 207. -/
def State.feederRec (s : State) (n minute due k : Nat) : FeederHist :=
  let m := s.metSt n
  let fill := min due 1440
  let diff := fun (i : Nat) =>
    (Tab.get (fun _ => 0) m.energy i + 2 ^ 64 - Tab.get (fun _ => 0) s.nv.hist.feederE (n * 64 + i)) % 2 ^ 64
  let share := fun (i : Nat) => diff i / fill + (if k + 1 = due then diff i % fill else 0)
  let mean := fun (a d : Nat) => if m.wins = 0 then 0 else a / (m.wins * d)
  let at_ := minute - (due - 1 - k)
  if k + 1440 < due then ⟨n, feederBytes at_ 1 (List.replicate 3 (0, 0, 0, 0, 0)) 0 0⟩
  else
    let flags := (if 1 < due then 2 else 0) + 4 * b2n m.badRef + 8 * b2n m.clipped + 16 * b2n (s.metUncal n)
    let flow := (List.range 3).map fun p =>
      (share (p * 6), share (p * 6 + 1),
        ((share (p * 6 + 2) + share (p * 6 + 3) : Nat) : Int) - ((share (p * 6 + 4) + share (p * 6 + 5) : Nat) : Int),
        mean (Tab.get (fun _ => 0) m.sumV p) 10, mean (Tab.get (fun _ => 0) m.sumI p) 1000)
    ⟨n, feederBytes at_ flags flow (mean (Tab.get (fun _ => 0) m.sumI 3) 1000) (mean m.sumF 10)⟩

/-- Feeder records that the history partition holds for 4 sets (R31): 400 days of minutes. -/
abbrev feederHistCap : Nat := 2304000

/-- FEEDER_HISTORY_RECORD: at a whole UTC minute the application complex writes the records of every set, R198, R27. -/
def State.feederHistory (s : State) : State :=
  let q := s.utc / 60
  let h := s.nv.hist
  if s.pwr.appOn = false ∨ q ≤ h.feederAt then s
  else
    let due := if h.feederAt = 0 then 1 else q - h.feederAt
    let recs := (List.range due).flatMap fun k => (List.range 4).map fun n => s.feederRec n (q - 1) due k
    let e := (List.range 72).foldl (fun t i =>
      Tab.set (fun _ => 0) t (i / 18 * 64 + i % 18) (Tab.get (fun _ => 0) (s.metSt (i / 18)).energy (i % 18))) []
    let s := { s with nv := { s.nv with hist := { h with
      feeder := newest feederHistCap (h.feeder ++ recs), feederAt := q, feederE := e } } }
    (List.range 4).foldl (fun t n => t.setMet n { t.metSt n with
      sumV := [], sumI := [], sumF := 0, wins := 0, badRef := false, clipped := false }) s

/-! ### Reconciliation, R199, R200 -/

/-- The node takes part in the sum of set n and phase p. -/
def Node.inSum (x : Node) (n p : Nat) : Bool :=
  x.commLantern && x.ident.phase % 4 == p + 1 && x.ident.phase / 4 % 4 == n

/-- Sum over the nodes of set n, phase p, in 0.01 W. -/
def State.reconSum (s : State) (n p : Nat) : Nat :=
  10 * s.node.table.foldl (fun a e => if e.2.inSum n p then a + e.2.dyn.p else a) 0

/-- A node of the sum stands in a group with CO_OFF or EVAL_HOLD. -/
def State.reconHeld (s : State) (n p : Nat) : Bool :=
  s.node.table.any fun e => e.2.inSum n p && (s.coOff e.2.grp || s.evalHold e.2.grp)

/-- A running Trace slot on set n. -/
def State.traceOn (s : State) (n : Nat) : Bool := s.met.slot.any fun e => e.2.state == 1 && e.1 / 16 == n

/-- Set n is evaluated at this edge for phase p, R200. -/
def State.reconRuns (s : State) (n p : Nat) : Bool :=
  let pg := Pg.met n
  !(s.flag (Fd.statBit pg 8) || s.flag (Fd.statBit pg 9) || s.flag (Fd.statBit pg 10)) && !s.traceOn n &&
    !s.reconHeld n p

/-- Flag b of STAT clears for phase p after `quiet` has held, R200. -/
def State.reconClear (s : State) (n p b kind : Nat) : State :=
  if s.flag (Fd.statBit (Pg.met n) b) then
    ((s.put (Fd.statBit (Pg.met n) b) 0).irq (Pg.met n) 6).raise Ev.LOSS_CLEARED (Pg.met 0) [n, p + 1, kind]
  else s

/-- One phase of a set at an edge. -/
def State.reconPhase (s : State) (n p : Nat) : State :=
  if !s.reconRuns n p then s
  else
    let sum : Int := s.reconSum n p
    let pm := (s.metQty n (0x74 + 4 * p)).toInt
    let diff := pm - sum
    let thr : Int := max (s.get (Fd.MET_LOSS_THR_ABS n) * 100) (pm.natAbs * s.get (Fd.MET_LOSS_THR_REL n) / 10000)
    let need := max 1 (s.get (Fd.MET_LOSS_CFG_PERSIST n) * 1000 / s.pms)
    let m := s.metSt n
    let cnt := fun (t : Tab Nat) (b : Bool) => Tab.set (fun _ => 0) t p (if b then Tab.get (fun _ => 0) t p + 1 else 0)
    let m := { m with
      above := cnt m.above (decide (thr < diff)), under := cnt m.under (decide (thr < -diff))
      quiet := cnt m.quiet (decide ((diff.natAbs : Int) ≤ thr / 2)) }
    let s := ((s.setMet n m).wr (Rg.MET_RECON_SUM n p) (BitVec.ofInt 32 sum)).wr (Rg.MET_RECON_DIFF n p) (BitVec.ofInt 32 diff)
    let ps := [n, p + 1, pInt pm, pInt sum, pInt diff]
    let s := if need ≤ Tab.get (fun _ => 0) m.above p ∧ s.flag (Fd.statBit (Pg.met n) (12 + p)) = false then
        ((s.put (Fd.statBit (Pg.met n) (12 + p)) 1).irq (Pg.met n) 4).raise Ev.LOSS_SUSPECT (Pg.met 0) ps else s
    let s := if need ≤ Tab.get (fun _ => 0) m.under p ∧ s.flag (Fd.statBit (Pg.met n) (15 + p)) = false then
        ((s.put (Fd.statBit (Pg.met n) (15 + p)) 1).irq (Pg.met n) 5).raise Ev.RECON_NEG (Pg.met 0) ps else s
    if need ≤ Tab.get (fun _ => 0) m.quiet p then (s.reconClear n p (12 + p) 1).reconClear n p (15 + p) 2 else s

/-- Counts and flags of a disabled set clear without an event, R200. DEDUCED: log entry 88. -/
def State.reconOff (s : State) (n : Nat) : State :=
  let s := s.put ⟨Pg.met n * 0x1000 + 0x00C, 12, 6⟩ 0
  s.setMet n { s.metSt n with above := [], under := [], quiet := [] }

/-- Reconciliation at an edge, R199. DEDUCED: log entry 88. -/
def State.reconEdge (s : State) : State :=
  (List.range 4).foldl (fun t n =>
    if !t.flag (Fd.run (Pg.met n)) then t.reconOff n
    else if !t.flag (Fd.MET_LOSS_CFG_EN n) then t
    else (List.range 3).foldl (fun u p => u.reconPhase n p) t) s

/-! ### Trace, R201 to R204 -/

/-- A write of NODE_SEL for slot k, R202, R204. -/
def State.traceSelWrite (s : State) (k : Nat) (v : Word) : State :=
  let t := s.slot k
  if bitW v 31 && t.state == 1 then s
  else s.setSlot k { t with nodeSel := getF v 0 12, want := bitW v 31 || t.want, node := if bitW v 31 then getF v 0 12 else t.node }

/-- Slot k ends FAILED with a cause, R204. -/
def State.traceFail (s : State) (k cause : Nat) : State :=
  let t := s.slot k
  let s := s.setSlot k { t with state := 3, cause := cause, want := false }
  (s.irq Pg.trace 1).raise Ev.TRACE_FAIL Pg.trace [k, t.node, cause]

/-- A start that has waited for the edge; `tick` is the tick that the edge opens, R202, R204. -/
def State.traceStart (s : State) (k tick : Nat) : State :=
  let t := s.slot k
  let dup := s.met.slot.any fun e => e.2.state == 1 && e.2.node == t.node
  let s := s.setSlot k { TraceSlot.init with state := 1, node := t.node, nodeSel := t.nodeSel, start := tick }
  if !(s.nodeAt t.node).commLantern then s.traceFail k 1
  else if dup then s.traceFail k 2
  else if !s.flag (Fd.en Pg.trace) || !s.flag (Fd.en (Pg.met (k / 16))) then s.traceFail k 3
  else if s.mode = 0 then s.traceFail k 4
  else s

/-- At an edge, before the buffers swap: the traced nodes whose entry has not gone out in the tick that ends, R202. -/
def State.traceUnsent (s : State) : State :=
  let l := (s.met.slot.filter fun e => e.2.state == 1 && s.marked e.2.node).map fun e => e.2.node
  { s with met := { s.met with unsent := l } }

/-- A running slot at the edge that ends tick `old`: a chip that compose did not record was missed, the chip of tick
old − 1 has been delivered if its entry was sent, and the mean currents of the tick are kept, R202, R203. DEDUCED: log
entry 89. -/
def State.traceTick (s : State) (k old : Nat) (cur : List Nat) : State :=
  let t := s.slot k
  let n := k / 16
  let pg := Pg.met n
  let j := old - t.start
  let t := if t.start ≤ old ∧ j < 127 ∧ t.chips.length ≤ j then
      { t with chips := t.chips ++ List.replicate (j + 1 - t.chips.length) false } else t
  let t := if t.start < old ∧ j ≤ 127 ∧ t.sent.length < j then
      { t with
        sent := t.sent ++ [((t.chips[j - 1]?).getD false) && !s.met.unsent.contains t.node]
        cur := t.cur ++ [(List.range 3).map fun p => (cur[3 * n + p]?).getD 0] }
    else t
  let bad := s.flag (Fd.statBit pg 8) || s.flag (Fd.statBit pg 9) || s.flag (Fd.statBit pg 10)
  let t := { t with bad := t.bad + b2n bad, missed := (t.sent.filter (!·)).length }
  s.setSlot k t

/-- The conditions that end a running slot at an edge, R204. -/
def State.traceCheck (s : State) (k : Nat) : State :=
  let t := s.slot k
  let n := s.nodeAt t.node
  if !s.flag (Fd.en Pg.trace) || !s.flag (Fd.en (Pg.met (k / 16))) then s.traceFail k 3
  else if s.mode = 0 then s.traceFail k 4
  else if n.ident.state ≠ 4 || n.comloss then s.traceFail k 5
  else if s.get Fd.TRACE_CFG_MISS_MAX < t.missed then s.traceFail k 6
  else if s.get Fd.TRACE_CFG_MISS_MAX < t.bad then s.traceFail k 7
  else s

/-- Trace at an edge that ends tick `old`, with the tick's mean currents by set * 3 + phase. -/
def State.traceEdge (s : State) (old : Nat) (cur : List Nat) : State :=
  s.met.slot.foldl (fun u e =>
    let k := e.1
    let u := match (u.slot k).phaseWr with
      | none => u
      | some ph =>
        let i := (u.slot k).node
        let m := u.nodeAt i
        (u.setSlot k { u.slot k with phaseWr := none }).setIdent i { m with ident := { m.ident with phase := ph } }
    if (u.slot k).state = 1 then (u.traceTick k old cur).traceCheck k
    else if (u.slot k).want then u.traceStart k (old + 1)
    else u) s

/-- Σ over the delivered chips of ±(|D| × I − Σ I) for phase p, with the code shifted by d. DEDUCED: log entry 89. -/
def traceSum (k : Nat) (t : TraceSlot) (p d : Nat) : Int :=
  let del := ((List.range 127).filter fun j => (t.sent[j]?).getD false)
  let cur := fun (j : Nat) => ((((t.cur[j]?).getD [])[p]?).getD 0 : Nat)
  let tot := del.foldl (fun a j => a + cur j) 0
  del.foldl (fun (a : Int) j =>
    let x : Int := ((del.length * cur j : Nat) : Int) - tot
    if chipAt (j + 8 * (k % 16) + d) then a + x else a - x) 0

/-- TRACE_DECISION for slot k, at the edge of tick S + 128, R203. DEDUCED: log entry 90. -/
def State.traceDecide (s : State) (k : Nat) : State :=
  let t := s.slot k
  if t.state ≠ 1 ∨ s.tick.num < t.start + 128 then s
  else
    let n := k / 16
    let ph := s.metPhases n
    let x := fun (p : Nat) => traceSum k t p 0
    let b := ph.foldl (fun b p => if x b < x p then p else b) 0
    let second := ph.foldl (fun m p => if p = b then m else max m (x p).natAbs) 0
    let noise := (traceSum k t b 4).natAbs
    let len := (t.sent.filter (·)).length
    let den := max (max second noise) (max len 1)
    let best := (x b).toNat
    if 0 < x b ∧ s.get Fd.TRACE_CFG_RATIO * den ≤ 10 * best then
      let was := (s.nodeAt t.node).ident.phase
      let byte := b + 1 + 4 * n
      let ratio := 10 * best / den
      let s := s.setSlot k { t with
        state := 2, cause := 0, phase := b + 1, ratio := min ratio 255, amp := best / (max 1 (len * len)) % 65536
        phaseWr := some byte }
      (s.irq Pg.trace 0).raise Ev.TRACE_DONE Pg.trace [k, t.node, byte, ratio, was]
    else s.traceFail k 8

/-- RESULT of slot k, R209. -/
def State.traceResult (s : State) (k : Nat) : Word :=
  let t := s.slot k
  BitVec.ofNat 32 (t.state * 2 ^ 28 + t.cause * 2 ^ 24 + t.phase * 2 ^ 22 + t.ratio * 256 + t.missed % 128)

/-- BUSY_LO and BUSY_HI, R209. -/
def State.traceBusy (s : State) (half : Nat) : Word :=
  (List.range 32).foldl (fun w i => if (s.slot (32 * half + i)).state = 1 then w ||| BitVec.ofNat 32 (2 ^ i) else w) 0

/-- UNK_P, R199, R209. -/
def State.traceUnkP (s : State) : Nat :=
  s.node.table.foldl (fun a e => if e.2.commLantern && e.2.ident.phase % 4 == 0 then a + e.2.dyn.p else a) 0

/-- CTRL.SRST of page TRACE, R209. -/
def State.traceSoftReset (s : State) : State :=
  s.met.slot.foldl (fun u e =>
    let u := if (u.slot e.1).state = 1 then u.traceFail e.1 3 else u
    u.setSlot e.1 { TraceSlot.init with nodeSel := (u.slot e.1).nodeSel, phaseWr := (u.slot e.1).phaseWr }) s

/-! ### Calibration, R205, R206, R210 -/

/-- CH_SEL's record loaded into the staging registers. -/
def State.calLoad (s : State) : State :=
  let r := s.calRec (s.get ⟨Rg.CAL_CH_SEL, 0, 5⟩)
  ((s.wr Rg.CAL_GAIN (BitVec.ofNat 32 r.gain)).wr Rg.CAL_PHASE (BitVec.ofNat 32 r.phase)).wr Rg.CAL_OFFSET
    (BitVec.ofNat 32 r.offset)

/-- A write of CH_SEL. -/
def State.calSelWrite (s : State) (v : Word) : State :=
  let c := getF v 0 5
  if 27 < c then s else (s.wr Rg.CAL_CH_SEL (BitVec.ofNat 32 c)).calLoad

/-- CAL_CMD.COMMIT, R206. -/
def State.calCommit (s : State) : State :=
  let c := s.get ⟨Rg.CAL_CH_SEL, 0, 5⟩
  let g := s.get ⟨Rg.CAL_GAIN, 0, 24⟩
  if s.flag Fd.CAL_CAL_STAT_BUSY then s.put Fd.CAL_CAL_STAT_RESULT 1
  else if g = 0 then (s.put Fd.CAL_CAL_STAT_RESULT 2).put Fd.CAL_CAL_STAT_CH c
  else
    let old := s.calRec c
    let r : CalRec := {
      gain := g, phase := s.get ⟨Rg.CAL_PHASE, 0, 12⟩, offset := s.get ⟨Rg.CAL_OFFSET, 0, 24⟩
      src := 2, writes := min 65535 (old.writes + 1) }
    let s := { s with met := { s.met with calWr := some (c, r) } }
    ((s.put Fd.CAL_CAL_STAT_BUSY 1).put Fd.CAL_CAL_STAT_RESULT 0).put Fd.CAL_CAL_STAT_CH c

/-- Every record is checked; a channel without a valid one is reported, R206. -/
def State.calCheck (s : State) : State :=
  (List.range 28).foldl (fun t c =>
    if (t.calRec c).src = 0 then (t.irq Pg.cal 1).raise Ev.CAL_INVALID Pg.cal [c] else t) s

/-- CAL_COMMIT_DONE: the MRAM write completes, R206. -/
def State.calDone (s : State) : State :=
  match s.met.calWr with
  | none => s
  | some (c, r) =>
    let old := s.calRec c
    let s := { s with met := { s.met with calWr := none } }
    let s := { s with nv := { s.nv with cal := Tab.set (fun _ => CalRec.factory) s.nv.cal c r } }
    let s := s.put Fd.CAL_CAL_STAT_BUSY 0
    ((s.irq Pg.cal 0).raise Ev.CAL_WRITTEN Pg.cal [c, old.gain, old.phase, old.offset, r.gain]).calCheck

/-- Power is lost, or the module resets, during the write: the old record stays or a record that fails its check is
left, R206; the spec leaves open which. DEDUCED: log entry 91. -/
def State.calTorn (s : State) : State :=
  match s.met.calWr with
  | none => s
  | some (c, _) =>
    let r := s.fresh
    let old := s.calRec c
    let s := { r.2 with met := { r.2.met with calWr := none } }
    if bitW r.1 0 then
      let bad : CalRec := { CalRec.factory with src := 0, writes := old.writes }
      { s with nv := { s.nv with cal := Tab.set (fun _ => CalRec.factory) s.nv.cal c bad } }
    else s

/-- At an edge the DSP takes the records in force, from the first sample after the edge, R206. -/
def State.calEdge (s : State) : State :=
  (List.range 4).foldl (fun t n =>
    let m := t.metSt n
    let l := (List.range 7).map fun k => (t.calRec (7 * n + k)).use
    if (m.cals.getLast?.map (·.2)) = some l then t else t.setMet n { m with cals := m.cals ++ [(m.pos + 1, l)] }) s

/-- SRC, USER_MAP and INVALID_MAP as read, R210. -/
def State.calSrcWord (s : State) : Word :=
  let r := s.calRec (s.get ⟨Rg.CAL_CH_SEL, 0, 5⟩)
  BitVec.ofNat 32 (r.writes * 65536 + r.src)

def State.calMap (s : State) (v : Nat) : Word :=
  (List.range 28).foldl (fun w c => if (s.calRec c).src = v then w ||| BitVec.ofNat 32 (2 ^ c) else w) 0

end Sys2Proof.Machine
end

