-- ==== Sys2Proof/Machine/Float64.lean ====
section
/-! DEFINITION. IEEE 754 binary64 arithmetic as R249 uses it: every operation rounds the exact result to the nearest word, ties
to even. -/

namespace Sys2Proof.Machine

/-- What a binary64 word stands for: ±m × 2^e, an infinity, or no number. -/
inductive F64 where
  | fin (neg : Bool) (m : Nat) (e : Int)
  | inf (neg : Bool)
  | nan
deriving DecidableEq, Repr

/-- A word taken apart. -/
def f64Val (x : BitVec 64) : F64 :=
  let n := x.toNat
  let neg := n.testBit 63
  let ex : Nat := n / 2 ^ 52 % 2048
  let m : Nat := n % 2 ^ 52
  if ex = 2047 then if m = 0 then .inf neg else .nan
  else if ex = 0 then .fin neg m (-1074)
  else .fin neg (2 ^ 52 + m) ((ex : Int) - 1075)

/-- A word from its sign and the rest. -/
def f64Pack (neg : Bool) (ex m : Nat) : BitVec 64 := BitVec.ofNat 64 ((if neg then 2 ^ 63 else 0) + ex * 2 ^ 52 + m)

abbrev f64Nan : BitVec 64 := f64Pack false 2047 (2 ^ 51)
abbrev f64Inf (neg : Bool) : BitVec 64 := f64Pack neg 2047 0

/-- The rational a × 2^e over b rounded to an integer, ties to even. -/
def roundEven (a b : Nat) (e : Int) : Nat :=
  let n := a * 2 ^ e.toNat
  let d := b * 2 ^ (-e).toNat
  let q := n / d
  if 2 * (n % d) < d then q else if d < 2 * (n % d) then q + 1 else q + q % 2

/-- The binary64 word nearest to ±a / b. -/
def f64Round (neg : Bool) (a b : Nat) : BitVec 64 :=
  if a = 0 ∨ b = 0 then f64Pack neg 0 0
  else
    let e0 : Int := (a.log2 : Int) - b.log2 - 52
    let low : Bool := decide (a * 2 ^ (-e0).toNat < 2 ^ 52 * (b * 2 ^ e0.toNat))
    let e := max (if low then e0 - 1 else e0) (-1074)
    let q := roundEven a b (-e)
    let q' := if q = 2 ^ 53 then 2 ^ 52 else q
    let e' := if q = 2 ^ 53 then e + 1 else e
    if q' < 2 ^ 52 then f64Pack neg 0 q'
    else if 972 ≤ e' then f64Inf neg
    else f64Pack neg (e' + 1075).toNat (q' - 2 ^ 52)

/-- The word nearest to i × 2^e; a zero takes the sign given. -/
def f64Scaled (i e : Int) (zero : Bool) : BitVec 64 :=
  f64Round (if i = 0 then zero else decide (i < 0)) (i.natAbs * 2 ^ e.toNat) (2 ^ (-e).toNat)

/-- The word nearest to the decimal m × 10^e. -/
def f64 (m e : Int) : BitVec 64 := f64Round (decide (m < 0)) (m.natAbs * 10 ^ e.toNat) (10 ^ (-e).toNat)

/-- A signed significand. -/
def sgn (neg : Bool) (m : Nat) : Int := if neg then -(m : Int) else m

def f64neg (x : BitVec 64) : BitVec 64 := x ^^^ (1#64 <<< 63)

def f64add (x y : BitVec 64) : BitVec 64 :=
  match f64Val x, f64Val y with
  | .fin s m e, .fin t n f =>
    let g := min e f
    f64Scaled (sgn s m * 2 ^ (e - g).toNat + sgn t n * 2 ^ (f - g).toNat) g (s && t)
  | .inf s, .inf t => if s = t then x else f64Nan
  | .inf _, .fin .. => x
  | .fin .., .inf _ => y
  | _, _ => f64Nan

def f64sub (x y : BitVec 64) : BitVec 64 := f64add x (f64neg y)

def f64mul (x y : BitVec 64) : BitVec 64 :=
  match f64Val x, f64Val y with
  | .fin s m e, .fin t n f => f64Scaled (sgn s m * sgn t n) (e + f) (s != t)
  | .inf s, .inf t => f64Inf (s != t)
  | .inf s, .fin t n _ => if n = 0 then f64Nan else f64Inf (s != t)
  | .fin s m _, .inf t => if m = 0 then f64Nan else f64Inf (s != t)
  | _, _ => f64Nan

def f64div (x y : BitVec 64) : BitVec 64 :=
  match f64Val x, f64Val y with
  | .fin s m e, .fin t n f =>
    if n = 0 then if m = 0 then f64Nan else f64Inf (s != t)
    else f64Round (s != t) (m * 2 ^ (e - f).toNat) (n * 2 ^ (f - e).toNat)
  | .inf s, .fin t .. => f64Inf (s != t)
  | .fin s .., .inf t => f64Pack (s != t) 0 0
  | _, _ => f64Nan

/-- fmod: the exact remainder, with the sign of x. -/
def f64mod (x y : BitVec 64) : BitVec 64 :=
  match f64Val x, f64Val y with
  | .fin s m e, .fin _ n f =>
    let g := min e f
    if n = 0 then f64Nan else f64Scaled (sgn s ((m * 2 ^ (e - g).toNat) % (n * 2 ^ (f - g).toNat))) g s
  | .fin .., .inf _ => x
  | _, _ => f64Nan

/-- The integer square root below 2^k, from the bits k − 1 down on top of r. -/
def sqrtFrom (n : Nat) : Nat → Nat → Nat
  | 0, r => r
  | k + 1, r => if (r + 2 ^ k) * (r + 2 ^ k) ≤ n then sqrtFrom n k (r + 2 ^ k) else sqrtFrom n k r

/-- sqrt: the root of m × 2^e with 64 bits and a last bit that tells whether more follow. -/
def f64sqrt (x : BitVec 64) : BitVec 64 :=
  match f64Val x with
  | .fin s m e =>
    if m = 0 then x
    else if s then f64Nan
    else
      let k : Nat := if e % 2 = 0 then 128 else 129
      let n := m * 2 ^ k
      let r := sqrtFrom n 96 0
      f64Scaled (2 * r + (if r * r = n then 0 else 1) : Nat) ((e - k) / 2 - 1) false
  | .inf false => x
  | _ => f64Nan

/-- x < y. -/
def f64lt (x y : BitVec 64) : Bool :=
  match f64Val x, f64Val y with
  | .fin s m e, .fin t n f =>
    let g := min e f
    decide (sgn s m * 2 ^ (e - g).toNat < sgn t n * 2 ^ (f - g).toNat)
  | .inf s, .inf t => s && !t
  | .inf s, .fin .. => s
  | .fin .., .inf t => !t
  | _, _ => false

/-- llround: the nearest integer, a half away from zero; of no number, or beyond 64 bits, C gives no result: a free value. -/
def f64llround (x : BitVec 64) : Int :=
  match f64Val x with
  | .fin s m e =>
    let r := (2 * m * 2 ^ e.toNat + 2 ^ (-e).toNat) / (2 * 2 ^ (-e).toNat)
    if r < 2 ^ 63 then sgn s r else Config.llroundOpen x
  | _ => Config.llroundOpen x

end Sys2Proof.Machine
end

