-- ==== Sys2Proof/Machine/Sched.lean ====
section
/-! DEFINITION. The schedule engine and the safe-light fallback schedule (R238 to R256). -/

namespace Sys2Proof.Machine

/-! ### Local time, R239, R240 -/

/-- The zone settings: TZ_CFG, DST_START, DST_END. -/
structure Zone where
  tz : Word
  dst0 : Word
  dst1 : Word

/-- STD_MIN in seconds. -/
def Zone.std (z : Zone) : Int := 60 * signed 12 (getF z.tz 0 12)

/-- DST_MIN in seconds. -/
def Zone.dst (z : Zone) : Int := 60 * (getF z.tz 24 7 : Nat)

/-- A rule names a date. DEDUCED: log entry 103. -/
def ruleOk (w : Word) : Bool :=
  decide (1 ≤ getF w 28 4 ∧ getF w 28 4 ≤ 12 ∧ 1 ≤ getF w 25 3 ∧ getF w 25 3 ≤ 5 ∧ getF w 22 3 ≤ 6)

/-- The instant of a rule in a year, in seconds of the local clock it is read in. -/
def ruleLocal (w : Word) (y : Int) : Int :=
  86400 * nthWeekday y (getF w 28 4 : Nat) (getF w 25 3 : Nat) (getF w 22 3 : Nat) + 60 * (getF w 11 11 : Nat)

/-- Start and end of daylight time in a year, as UTC seconds since 2000. -/
def Zone.start (z : Zone) (y : Int) : Int := ruleLocal z.dst0 y - z.std
def Zone.stop (z : Zone) (y : Int) : Int := ruleLocal z.dst1 y - z.std - z.dst

/-- The daylight periods that may hold UTC second u, as UTC seconds since 2000: those that start in its year or a year beside
it; with the start month after the end month a period ends in the year after (R239). DEDUCED: log entry 103. -/
def Zone.periods (z : Zone) (u : Int) : List (Int × Int) :=
  if !(bitW z.tz 31 && ruleOk z.dst0 && ruleOk z.dst1) then []
  else
    let y := (dateOfDay ((u + z.std).fdiv 86400)).1
    let turn : Int := if getF z.dst1 28 4 < getF z.dst0 28 4 then 1 else 0
    [y - 1, y, y + 1].map fun k => (z.start k, z.stop (k + turn))

/-- Daylight time is in force at UTC second u. -/
def Zone.inDst (z : Zone) (u : Int) : Bool := (z.periods u).any fun p => decide (p.1 ≤ u) && decide (u < p.2)

/-- Local offset at UTC second u, in seconds. -/
def Zone.ofs (z : Zone) (u : Int) : Int := z.std + if z.inDst u then z.dst else 0

/-- Local day number of UTC second u. -/
def Zone.day (z : Zone) (u : Int) : Int := (u + z.ofs u).fdiv 86400

/-- UTC second of local second `sec` of day D, R243: the first occurrence of a repeated time, the instant of the change for
a skipped one. -/
def Zone.utcOf (z : Zone) (d sec : Int) : Int :=
  let loc := 86400 * d + sec
  let u1 := loc - z.std - z.dst
  let u2 := loc - z.std
  if z.inDst u1 then u1
  else match (z.periods u2).find? fun p => decide (u1 < p.1) && decide (p.1 ≤ u2) && decide (u2 < p.2) with
    | some p => p.1
    | none => u2

/-! ### Solar events, R249 -/

/-- The four events of the day with UTC date D' of local noon: SUNRISE, SUNSET, DAWN, DUSK. DESIGN CHOICE: log entry
8. -/
def solarEvents (lat lon d' : Int) : List (Option Int) :=
  let sind := Config.f64sind
  let cosd := Config.f64cosd
  let phi := f64div (f64 lat 0) (f64 1 6)
  let lonD := f64div (f64 lon 0) (f64 1 6)
  let js := f64sub (f64 d' 0) (f64div lonD (f64 360 0))
  let m := f64mod (f64add (f64 3575291 (-4)) (f64mul (f64 98560028 (-8)) js)) (f64 360 0)
  let c := f64add (f64add (f64mul (f64 19148 (-4)) (sind m)) (f64mul (f64 200 (-4)) (sind (f64mul (f64 2 0) m))))
    (f64mul (f64 3 (-4)) (sind (f64mul (f64 3 0) m)))
  let lam := f64mod (f64add (f64add m c) (f64 2829372 (-4))) (f64 360 0)
  let t := f64sub (f64add js (f64mul (f64 53 (-4)) (sind m))) (f64mul (f64 69 (-4)) (sind (f64mul (f64 2 0) lam)))
  let sd := f64mul (sind lam) (sind (f64 234397 (-4)))
  let cd := f64sqrt (f64sub (f64 1 0) (f64mul sd sd))
  let ev := fun (h0 : BitVec 64) =>
    let cw := f64div (f64sub (sind h0) (f64mul (sind phi) sd)) (f64mul (cosd phi) cd)
    if f64lt (f64 1 0) cw || f64lt cw (f64 (-1) 0) then [none, none]
    else
      let w := f64div (Config.f64acosd cw) (f64 360 0)
      [some (f64llround (f64mul (f64sub t w) (f64 86400 0)) + 43200),
        some (f64llround (f64mul (f64add t w) (f64 86400 0)) + 43200)]
  ev (f64 (-833) (-3)) ++ ev (f64 (-6) 0)

/-! ### The data an evaluation uses -/

/-- Zone, holidays, scenes, catch-up window and solar events of an evaluation: of the engine, or of the fallback. -/
structure SchedEnv where
  zone : Zone
  hol : Tab Word
  scene : Tab Word
  catchup : Int
  solar : Int → Nat → Option Int

/-- The engine's zone in force. -/
def State.zone (s : State) : Zone := ⟨s.rd Rg.SCHED_TZ_CFG, s.rd Rg.SCHED_DST_START, s.rd Rg.SCHED_DST_END⟩

/-- Solar event ev of local day D by the settings in force. -/
def State.solarOf (s : State) (d : Int) (ev : Nat) : Option Int :=
  let noon := (s.zone.utcOf d 43200).fdiv 86400
  ((solarEvents (s.getInt ⟨Rg.SCHED_LAT, 0, 32⟩) (s.getInt ⟨Rg.SCHED_LON, 0, 32⟩) noon)[ev]?).getD none

/-- The engine's data. -/
def State.schedEnv (s : State) : SchedEnv :=
  ⟨s.zone, s.sched.hol, s.sched.scene, (s.get ⟨Rg.SCHED_CATCHUP, 0, 17⟩ : Nat), s.solarOf⟩

/-- The saved solar event of a fallback schedule, R254: beyond the 400 days, that of a day a whole number of 365-day periods
earlier within the last 365 saved days. -/
def FbSched.solarOf (f : FbSched) (d : Int) (ev : Nat) : Option Int :=
  let k := d - f.day0
  if k < 0 then none
  else
    let j := if k < 400 then k else 35 + (k - 35) % 365
    (Tab.get (fun _ => none) f.solar (j.toNat * 4 + ev)).map (· + 86400 * (k - j))

/-- The fallback's data. -/
def FbSched.env (f : FbSched) : SchedEnv := ⟨⟨f.tz, f.dst0, f.dst1⟩, f.hol, [], f.catchup, f.solarOf⟩

/-! ### Entries, R241 to R244 -/

/-- TRIG, ACT, PRIO, GROUP, ARG and HOLMODE of an entry. -/
def SchedEnt.trig (e : SchedEnt) : Nat := getF e.w0 28 3
def SchedEnt.act (e : SchedEnt) : Nat := getF e.w3 29 3
def SchedEnt.prio (e : SchedEnt) : Nat := getF e.w0 12 4
def SchedEnt.group (e : SchedEnt) : Nat := getF e.w3 20 9
def SchedEnt.arg (e : SchedEnt) : Nat := getF e.w3 0 16
def SchedEnt.holmode (e : SchedEnt) : Nat := getF e.w0 24 2
/-- EN of an entry. -/
def SchedEnt.on (e : SchedEnt) : Bool := bitW e.w0 31

/-- The check of a commit, R242. -/
def SchedEnt.ok (e : SchedEnt) : Bool :=
  let t := signed 32 e.w1.toNat
  let timeOk := match e.trig with
    | 0 => true
    | 1 => decide (e.w1.toNat ≤ 86399)
    | _ => decide (-43200 ≤ t ∧ t ≤ 43200)
  let argOk := match e.act with
    | 2 => decide (getF e.w3 6 10 = 0)
    | 3 => decide (getF e.w3 9 7 = 0 ∧ getF e.w3 3 5 = 0)
    | _ => true
  decide (e.trig ≤ 5) && decide (e.holmode ≠ 3) && decide (e.act ≤ 3) && !bitW e.w0 23 && decide (getF e.w0 0 12 = 0) &&
    decide (getF e.w3 16 4 = 0) && timeOk && argOk

/-- The due instant of an entry for day D in UTC seconds since 2000, R243. DEDUCED: log entry 104. -/
def SchedEnv.due (v : SchedEnv) (e : SchedEnt) (d : Int) : Option Int :=
  match e.trig with
  | 0 => some (e.w1.toNat : Int)
  | 1 => some (v.zone.utcOf d (e.w1.toNat : Int))
  | k => (v.solar d (k - 2)).map (· + signed 32 e.w1.toNat)

/-- Day D lies in the date range, R241. -/
def SchedEnt.inRange (e : SchedEnt) (d : Int) : Bool :=
  let fm := getF e.w2 28 4
  if fm = 0 then true
  else
    let a : Int := (fm * 32 + getF e.w2 23 5 : Nat)
    let b : Int := (getF e.w2 19 4 * 32 + getF e.w2 14 5 : Nat)
    let (_, m, dd) := dateOfDay d
    let x := m * 32 + dd
    if a ≤ b then decide (a ≤ x) && decide (x ≤ b) else decide (a ≤ x) || decide (x ≤ b)

/-- Day D is a holiday, R250. -/
def SchedEnv.holiday (v : SchedEnv) (d : Int) : Bool :=
  let (y, m, dd) := dateOfDay d
  v.hol.any fun (_, w) => bitW w 31 && decide ((getF w 8 4 : Nat) = m) && decide ((getF w 0 5 : Nat) = dd) &&
    (bitW w 30 || decide ((getF w 16 12 : Nat) = y))

/-- The entry is eligible on day D with weekday counter wd, R244, R250. -/
def SchedEnv.eligible (v : SchedEnv) (e : SchedEnt) (d : Int) (wd : Nat) : Bool :=
  let hol := v.holiday d
  e.inRange d &&
    (match e.holmode with
      | 0 => bitW e.w0 (16 + wd)
      | 1 => !hol && bitW e.w0 (16 + wd)
      | _ => hol) &&
    (v.due e d).isSome

/-- Days whose due instant lies in (a, b], with a and b in ms of UTC since 2000, in ascending order. -/
def SchedEnv.dueDays (v : SchedEnv) (e : SchedEnt) (a b : Int) : List (Int × Int) :=
  let days := if e.trig = 0 then [v.zone.day (e.w1.toNat : Int)]
    else
      let d0 := v.zone.day (a.fdiv 1000) - 2
      let n := (v.zone.day (b.fdiv 1000) + 3 - d0).toNat
      (List.range n).map fun (i : Nat) => d0 + (i : Int)
  days.filterMap fun d => match v.due e d with
    | some u => if a < u * 1000 ∧ u * 1000 ≤ b then some (d, u) else none
    | none => none

/-! ### Firing, R245 to R247 -/

/-- A firing of an entry: outcome (1 FIRED, 2 LATE, 3 ALARM_LATE), seconds late, days passed over. -/
structure Firing where
  idx : Nat
  ent : SchedEnt
  out : Nat
  late : Nat
  above : Nat

/-- What one entry does at an edge: the entry after it, its firing, whether it is skipped (seconds past), and whether
SCHED_NO_EVENT is due for a day. -/
structure EntEval where
  ent : SchedEnt
  fire : Option Firing
  skip : Option Nat
  noEvt : Option Int

/-- One enabled entry at an edge with t and t_prev in ms, R244 to R247; an ABSOLUTE entry fires or is skipped once. DEDUCED: log entry 104. -/
def SchedEnv.evalEnt (v : SchedEnv) (t tPrev : Int) (wd : Nat) (adj : Bool) (idx : Nat) (e : SchedEnt) : EntEval :=
  let today := v.zone.day (t.fdiv 1000)
  let noEvt := if 2 ≤ e.trig ∧ (v.due e today).isNone ∧ e.noEvt ≠ some today then some today else none
  let e := match noEvt with
    | some d => { e with noEvt := some d, out := 5 }
    | none => e
  let normal : EntEval :=
    let ds := v.dueDays e tPrev t
    let e := { e with fresh := false }
    match (ds.filter fun (d, _) => v.eligible e d wd && decide (e.lastDay ≠ some d)).getLast? with
    | none => ⟨e, none, none, noEvt⟩
    | some (d, u) =>
      let out := if adj then 3 else 1
      let e := { e with lastDay := some d, out := out, done := decide (e.trig = 0) }
      ⟨e, some ⟨idx, e, out, ((t - u * 1000) / 1000).toNat, ds.length - 1⟩, none, noEvt⟩
  if e.done then ⟨{ e with fresh := false }, none, none, noEvt⟩
  else if !e.fresh then normal
  else
    let d := if e.trig = 0 then v.zone.day (e.w1.toNat : Int) else today
    match v.due e d with
    | none => normal
    | some u =>
      if tPrev < u * 1000 then normal
      else
        let e := { e with fresh := false }
        if !v.eligible e d wd || decide (e.lastDay = some d) then ⟨e, none, none, noEvt⟩
        else
          let past := (t - u * 1000) / 1000
          let e := { e with done := decide (e.trig = 0) }
          if t - u * 1000 ≤ v.catchup * 1000 then
            let e := { e with lastDay := some d, out := 2 }
            ⟨e, some ⟨idx, e, 2, past.toNat, 0⟩, none, noEvt⟩
          else ⟨{ e with lastDay := some d, out := 4 }, none, some past.toNat, noEvt⟩

/-! ### Actions, R251, R252 -/

/-- The base of a ramp at its j-th edge, R251. -/
def rampBase (r : SchedRamp) (j : Nat) : Nat :=
  if r.n ≤ j then r.arg else ((r.b0 : Int) + (((r.arg : Int) - r.b0) * j).tdiv r.n).toNat

/-- The ramp of group g. -/
def State.schedRamp (s : State) (g : Nat) : Option SchedRamp := Tab.get (fun _ => none) s.sched.ramp g

/-- The ramp of group g replaced. -/
def State.setRamp (s : State) (g : Nat) (r : Option SchedRamp) : State :=
  { s with sched := { s.sched with ramp := Tab.set (fun _ => none) s.sched.ramp g r } }

/-- The base level of group g replaced. -/
def State.setBase (s : State) (g v : Nat) : State :=
  { s with sched := { s.sched with base := Tab.set (fun _ => 0) s.sched.base g v } }

/-- BASE for a group. -/
def State.actBase (s : State) (g v : Nat) : State := (s.setRamp g none).setBase g v

/-- A ramp advanced to its j-th edge; it ends at j = n. -/
def State.rampTo (s : State) (g : Nat) (r : SchedRamp) (j : Nat) : State :=
  let s := s.setBase g (rampBase r j)
  if r.n ≤ j then s.setRamp g none else s.setRamp g (some { r with j := j })

/-- Edges of a RAMP. -/
def State.rampLen (s : State) (e : SchedEnt) : Nat := max 1 (getF e.w2 0 14 * 1000 / s.pms)

/-- Groups that an entry reaches. -/
def SchedEnv.groups (v : SchedEnv) (e : SchedEnt) : List Nat :=
  match e.act with
  | 0 => [e.group]
  | 1 => [e.group]
  | 2 => (List.range 16).filterMap fun p =>
      let w := Tab.get (fun _ => 0) v.scene (e.arg % 64 * 16 + p)
      if bitW w 31 then some (getF w 16 9) else none
  | _ => []

/-- The action of an entry on base levels; `prev` holds those that the previous edge left, from which a RAMP starts (R252). -/
def State.schedAct (s : State) (v : SchedEnv) (prev : Tab Nat) (idx : Nat) (e : SchedEnt) : State :=
  match e.act with
  | 0 => s.actBase e.group e.arg
  | 1 =>
    let b0 := Tab.get (fun _ => 0) prev e.group
    let s := s.setRamp e.group none
    s.rampTo e.group ⟨b0, e.arg, s.rampLen e, 0, idx⟩ 1
  | 2 => (List.range 16).foldl (fun t p =>
      let w := Tab.get (fun _ => 0) v.scene (e.arg % 64 * 16 + p)
      if bitW w 31 then t.actBase (getF w 16 9) (getF w 0 16) else t) s
  | _ => s

/-- A firing's contactor request, R114, R251: source 0 schedule, 2 fallback schedule. -/
def SchedEnt.coReq (e : SchedEnt) (src : Nat) : List CoReq :=
  if e.act = 3 then [⟨e.arg % 8, e.arg.testBit 8, src⟩] else []

/-- An ordered insertion by a key. -/
def insertKey {A : Type} (k : A → Nat) (x : A) : List A → List A
  | [] => [x]
  | y :: t => if k x < k y then x :: y :: t else y :: insertKey k x t

/-- A list sorted by a key; equal keys keep their order. -/
def sortKey {A : Type} (k : A → Nat) (l : List A) : List A := l.foldl (fun t x => insertKey k x t) []

/-- The events of a firing, R255. DEDUCED: log entry 106. -/
def State.firingEvents (s : State) (f : Firing) : State :=
  let s := if bitW f.ent.w0 26 then
      (s.irq Pg.sched 0).raise Ev.SCHED_ACTION Pg.sched [f.idx, f.ent.act, f.ent.arg, f.ent.group] else s
  if f.out = 2 then (s.irq Pg.sched 1).raise Ev.SCHED_LATE Pg.sched [f.idx, f.late]
  else if f.out = 3 then (s.irq Pg.sched 3).raise Ev.SCHED_ALARM_LATE Pg.sched [f.idx, f.late, f.above]
  else s

/-- Ramps that no firing of this edge reaches take a step, R252. -/
def State.rampStep (s : State) (hit : List Nat) : State :=
  s.sched.ramp.foldl (fun t e => match e.2 with
    | some r => if hit.contains e.1 then t else t.rampTo e.1 r (r.j + 1)
    | none => t) s

/-- Evaluation of a table of entries at an edge; the table after it, the firings in order of effect, and the state with
its events. -/
def State.schedEval (s : State) (v : SchedEnv) (tab : Tab SchedEnt) (t tPrev : Int) (adj : Bool) :
    Tab SchedEnt × List Firing × State :=
  if t ≤ tPrev then (tab, [], s)
  else
    let wd := s.get Fd.RTC_WEEKDAY_WDAY
    let r := tab.foldl (fun (a : Tab SchedEnt × List Firing × State) p =>
      if !p.2.on then a
      else
        let x := v.evalEnt t tPrev wd adj p.1 p.2
        let st := match x.noEvt with
          | some d => (a.2.2.irq Pg.sched 4).raise Ev.SCHED_NO_EVENT Pg.sched [p.1, p.2.trig, pInt d]
          | none => a.2.2
        let st := match x.skip with
          | some n => (st.irq Pg.sched 2).raise Ev.SCHED_SKIPPED_PAST Pg.sched [p.1, n]
          | none => st
        let fs := match x.fire with
          | some f => a.2.1 ++ [f]
          | none => a.2.1
        (Tab.set (fun _ => SchedEnt.init) a.1 p.1 x.ent, fs, st)) (tab, [], s)
    (r.1, sortKey (fun f => f.ent.prio * 2048 + f.idx) r.2.1, r.2.2)

/-- The firings of an edge act, R252: contactor requests join those frozen at the edge. -/
def State.schedFire (s : State) (v : SchedEnv) (fs : List Firing) (src : Nat) : State :=
  let prev := s.sched.base
  let s := s.rampStep (fs.flatMap fun f => v.groups f.ent)
  fs.foldl (fun t f =>
    let t := (t.schedAct v prev f.idx f.ent).firingEvents f
    { t with io := { t.io with coFrozen := t.io.coFrozen ++ f.ent.coReq src } }) s

/-! ### Rebuild, R248 -/

/-- The replayed firings in (t − 86,400 s, t_prev], in order of due instant. -/
def SchedEnv.replays (v : SchedEnv) (tab : Tab SchedEnt) (t tPrev : Int) (wd : Nat) : List (Int × Nat × SchedEnt × Int) :=
  let l := tab.flatMap fun (i, e) =>
    if !e.on || decide (2 < e.act) then []
    else (v.dueDays e (t - 86400000) tPrev).filterMap fun (d, u) =>
      let w : Nat := (((wd : Int) - (t.fdiv 86400000 - u.fdiv 86400)) % 7).toNat
      if v.eligible e d w then some (u, i, e, d) else none
  let l := sortKey (fun (_, i, e, _) => e.prio * 2048 + i) l
  sortKey (fun (u, _, _, _) => (u - (t.fdiv 1000 - 86401)).toNat) l

/-- Ramps advanced to the edge at x ms, where e1 was the firing edge of each: j = (x − e1) / P + 1. -/
def State.rampsAt (s : State) (starts : List (Nat × Int)) (x : Int) (gs : List Nat) : State :=
  gs.foldl (fun t g => match t.schedRamp g, starts.find? (fun p => p.1 == g) with
    | some r, some (_, e1) => t.rampTo g r (((x - e1) / (t.pms : Int) + 1).toNat)
    | _, _ => t) s

/-- A rebuild in progress: the entries, the state, the ramps' firing edges (latest first), the edge reached, and the base
levels that the edge before it left. -/
structure Replay where
  ent : Tab SchedEnt
  st : State
  starts : List (Nat × Int) := []
  edge : Int := 0
  prev : Tab Nat := []

/-- One replayed firing of entry i at instant u for day d: at each new edge the ramps first come to where the edge before left
them. -/
def Replay.fire (a : Replay) (v : SchedEnv) (p : Int) (x : Int × Nat × SchedEnt × Int) : Replay :=
  let (u, i, e, d) := x
  let e1 := (u * 1000 + p - 1) / p * p
  let st := if a.edge = e1 then a.st else a.st.rampsAt a.starts (e1 - p) (a.st.sched.ramp.map fun e => e.1)
  let prev := if a.edge = e1 then a.prev else st.sched.base
  let old := Tab.get (fun _ => SchedEnt.init) a.ent i
  { ent := Tab.set (fun _ => SchedEnt.init) a.ent i { old with lastDay := some d, out := 1, done := decide (e.trig = 0) }
    st := st.schedAct v prev i e, starts := ((v.groups e).map fun g => (g, e1)) ++ a.starts, edge := e1, prev := prev }

/-- Every base level as if the module had run without a break: the state, and the entries with LAST_DAY. DEDUCED: log
entry 105. -/
def State.schedReplay (s : State) (v : SchedEnv) (tab : Tab SchedEnt) (t tPrev : Int) : Tab SchedEnt × State :=
  let tab := tab.map fun (i, e) => (i, { e with fresh := true, lastDay := none, done := false })
  let s := { s with sched := { s.sched with base := [], ramp := [] } }
  let r := (v.replays tab t tPrev (s.get Fd.RTC_WEEKDAY_WDAY)).foldl (fun (a : Replay) x => a.fire v s.pms x) { ent := tab, st := s }
  (r.ent, r.st.rampsAt r.starts tPrev (r.st.sched.ramp.map fun e => e.1))

/-! ### The edge, R238 -/

/-- The instant t of an edge in ms of UTC since 2000: the aligned instant (R50) nearest to the disciplined time.
DEDUCED: log entry 102. -/
def State.schedT (s : State) : Int :=
  let p : Nat := s.pms * 1000000
  let tai : Int := (((s.tai + p / 2) / p * s.pms : Nat) : Int)
  tai - 1000 * s.utcOfs - 946684800000

/-- Commits frozen at the edge take effect, R242. -/
def State.schedCommits (s : State) : State :=
  let l := s.sched.frozen
  let f := fun (t : Tab SchedEnt) => l.foldl (fun t (p : Nat × SchedEnt) => Tab.set (fun _ => SchedEnt.init) t p.1 p.2) t
  { s with sched := { s.sched with frozen := [], ent := f s.sched.ent }, nv := { s.nv with sched := f s.nv.sched } }

/-- The solar events shown, computed at the first edge of a local day and when place or zone change, R249. -/
def State.schedSolar (s : State) (t : Int) : State :=
  let d := s.zone.day (t.fdiv 1000)
  let place := [s.rd Rg.SCHED_LAT, s.rd Rg.SCHED_LON, s.rd Rg.SCHED_TZ_CFG]
  if s.sched.day = d ∧ s.sched.place = place then s
  else { s with sched := { s.sched with
      day := d, place := place
      solar := (List.range 4).foldl (fun m k => Tab.set (fun _ => none) m k (s.solarOf d k)) [] } }

/-- A change of the local offset of the zone in use raises SCHED_DST, R239. -/
def State.schedDst (s : State) (z : Zone) (t : Int) : State :=
  let o := z.ofs (t.fdiv 1000)
  let was := s.sched.ofs
  let s := { s with sched := { s.sched with ofs := some o } }
  match was with
  | none => s
  | some w => if w = o then s else s.raise Ev.SCHED_DST Pg.sched [pInt (o / 60)]

/-- CURSOR, R256: the day, and the enabled entry with the earliest due instant after t on this day. DEDUCED: log entry
107. -/
def State.schedCursor (s : State) (t : Int) : Word :=
  let v := s.schedEnv
  let d := v.zone.day (t.fdiv 1000)
  let best := s.sched.ent.foldl (fun (b : Option (Int × Nat)) p =>
    if !p.2.on then b
    else match v.due p.2 d with
      | none => b
      | some u =>
        if u * 1000 ≤ t ∨ (p.2.trig = 0 ∧ v.zone.day u ≠ d) then b
        else match b with
          | none => some (u, p.1)
          | some (w, _) => if u < w then some (u, p.1) else b) none
  BitVec.ofNat 32 (unsigned 16 d * 65536 + match best with | some (_, i) => i | none => 0xFFF)

/-- The engine at an edge outside SAFE_LIGHT, with the rebuild of R248 at its first one. DEDUCED: log entry 102. -/
def State.schedRun (s : State) (t : Int) : State :=
  let p : Int := s.pms
  let s := ((s.schedCommits).schedSolar t).schedDst s.zone t
  let v := s.schedEnv
  let tPrev := if s.sched.rebuilt then (s.sched.tPrev).getD (t - p) else t - p
  let s := if s.sched.rebuilt then s
    else
      let r := s.schedReplay v s.sched.ent t tPrev
      { r.2 with sched := { r.2.sched with ent := r.1, rebuilt := true } }
  let r := s.schedEval v s.sched.ent t tPrev s.sched.adjusted
  let s := { r.2.2 with sched := { r.2.2.sched with ent := r.1 } }
  let s := s.schedFire v r.2.1 0
  { s with sched := { s.sched with tPrev := some t, adjusted := false, safe := false, fbEnt := [], fbSeq := none, fbAdj := false } }

/-! ### The fallback schedule, R253, R254 -/

/-- Sequence number b is newer than a (12 bits, wrapping). -/
def seqNewer (a b : Nat) : Bool := decide ((b + 4096 - a) % 4096 < 2048 ∧ a ≠ b)

/-- The copy in force. -/
def State.fbCopy (s : State) : Option FbSched :=
  match s.nv.schedFb0, s.nv.schedFb1 with
  | some a, some b => if seqNewer a.seq b.seq then some b else some a
  | some a, none => some a
  | none, o => o

/-- Every group at DEF_LVL, R254. -/
def State.allDefault (s : State) : State :=
  let d := s.get Fd.SCHED_FB_CFG_DEF_LVL
  { s with sched := { s.sched with
      ramp := [], base := (List.range 512).foldl (fun m g => Tab.set (fun _ => 0) m g d) [] } }

/-- SCHED_FB_STALE once per day beyond the saved days, R254. -/
def State.fbStale (s : State) (f : FbSched) (t : Int) : State :=
  let d := f.env.zone.day (t.fdiv 1000)
  if d - f.day0 < 400 ∨ s.sched.staleDay = some d then s
  else ({ s with sched := { s.sched with staleDay := some d } }).raise Ev.SCHED_FB_STALE Pg.sched [(d - f.day0 - 399).toNat]

/-- The first evaluation of a fallback copy, with its replay, R254. -/
def State.fbBegin (s : State) (f : FbSched) (t : Int) : State :=
  let r := s.schedReplay f.env f.ents t (t - 1000)
  { r.2 with sched := { r.2.sched with
      fbEnt := r.1, safe := true, fbSeq := some f.seq, tPrev := some (t - 1000), fbAdj := false } }

/-- An edge in SAFE_LIGHT mode: the first evaluation with its replay, later ones at the first edge of a UTC second; a copy saved
meanwhile begins afresh. DEDUCED: log entry 209. -/
def State.schedSafe (s : State) (t : Int) : State :=
  let s := s.schedCommits
  let s := { s with sched := { s.sched with
    rebuilt := false, fbAdj := s.sched.fbAdj || s.sched.adjusted, adjusted := false } }
  let sec := t.fdiv 1000
  match s.fbCopy with
  | none =>
    if s.sched.safe then s
    else ({ s.allDefault with sched := { s.allDefault.sched with safe := true } }).raise Ev.SCHED_FB_INVALID Pg.sched []
  | some f =>
    let begun := decide (s.sched.fbSeq = some f.seq)
    if begun && decide (sec ≤ s.sched.fbSec) && decide (s.sched.tPrev.getD t ≤ t) then s
    else
      let s := if begun then s else s.fbBegin f t
      let tPrev := s.sched.tPrev.getD (t - 1000)
      let s := (s.fbStale f t).schedDst f.env.zone t
      let r := s.schedEval f.env s.sched.fbEnt t tPrev s.sched.fbAdj
      let s := { r.2.2 with sched := { r.2.2.sched with fbEnt := r.1 } }
      let s := s.schedFire f.env r.2.1 2
      { s with sched := { s.sched with tPrev := some t, fbSec := sec, fbAdj := false } }

/-- The schedule engine at an edge. -/
def State.schedEdge (s : State) : State :=
  let t := s.schedT
  let s := if s.mode = 0 then s.schedSafe t else s.schedRun t
  s.wr Rg.SCHED_CURSOR (s.schedCursor t)

/-- FB_CFG.SAVE, R253. DEDUCED: log entry 109. -/
def State.fbSave (s : State) : State :=
  let marked := s.sched.ent.filter fun p => bitW p.2.w0 27
  let kept := marked.filter fun p => decide (p.2.act ≠ 2)
  if s.sched.saving.isSome then s.put Fd.SCHED_FB_STAT_ERR 2
  else if 256 < kept.length then s.put Fd.SCHED_FB_STAT_ERR 1
  else
    let d := s.zone.day (s.schedT.fdiv 1000)
    let ents := kept.map fun (i, e) =>
      (i, if e.act = 1 then { SchedEnt.init with w0 := e.w0, w1 := e.w1, w2 := e.w2, w3 := setF e.w3 29 3 0 }
        else { SchedEnt.init with w0 := e.w0, w1 := e.w1, w2 := e.w2, w3 := e.w3 })
    let seq := match s.fbCopy with
      | some f => (f.seq + 1) % 4096
      | none => 1
    let f : FbSched := {
      seq := seq, ents := ents, hol := s.sched.hol, tz := s.rd Rg.SCHED_TZ_CFG, dst0 := s.rd Rg.SCHED_DST_START
      dst1 := s.rd Rg.SCHED_DST_END, catchup := s.get ⟨Rg.SCHED_CATCHUP, 0, 17⟩
      defLvl := s.get Fd.SCHED_FB_CFG_DEF_LVL, day0 := d
      solar := (List.range 1600).foldl (fun m k => Tab.set (fun _ => none) m k (s.solarOf (d + (k / 4 : Nat)) (k % 4))) []
      saved := kept.length, left := marked.length - kept.length }
    (({ s with sched := { s.sched with saving := some f } }).put Fd.SCHED_FB_STAT_ERR 0).put (Fd.statBit Pg.sched 8) 1

/-- SCHED_FB_SAVED: the save completes in the older copy, R253. DEDUCED: log entry 109. -/
def State.fbSaved (s : State) : State :=
  match s.sched.saving with
  | none => s
  | some f =>
    let first := match s.nv.schedFb0, s.nv.schedFb1 with
      | none, _ => true
      | some _, none => false
      | some a, some b => seqNewer a.seq b.seq
    let s := { s with sched := { s.sched with saving := none } }
    let s := if first then { s with nv := { s.nv with schedFb0 := some f } }
      else { s with nv := { s.nv with schedFb1 := some f } }
    ((s.put (Fd.statBit Pg.sched 8) 0).irq Pg.sched 5).raise Ev.SCHED_FB_SAVED Pg.sched [f.saved, f.left, f.seq]

/-- FB_STAT as read: the copy in force and the latest save. -/
def State.fbStat (s : State) : Word :=
  let e := s.get Fd.SCHED_FB_STAT_ERR
  match s.fbCopy with
  | none => BitVec.ofNat 32 (e * 2 ^ 29)
  | some f => BitVec.ofNat 32 (2 ^ 31 + e * 2 ^ 29 + f.seq * 2 ^ 17 + f.left % 256 * 512 + f.saved)

/-! ### The window, R242, R256 -/

/-- A write of ENT_WINw, w at most 2, is staged for the initiator. -/
def State.schedStage (s : State) (ini w : Nat) (v : Word) : State :=
  { s with sched := { s.sched with stage := Tab.set (fun _ => 0) s.sched.stage (ini * 4 + w) v } }

/-- A write of ENT_WIN3: the four words are checked, and committed as an input of the next edge. -/
def State.schedCommit (s : State) (ini : Nat) (v : Word) : State :=
  let g := fun (w : Nat) => Tab.get (fun _ => 0) s.sched.stage (ini * 4 + w)
  let e : SchedEnt := { SchedEnt.init with w0 := g 0, w1 := g 1, w2 := g 2, w3 := v, fresh := true }
  let s := { s with sched := { s.sched with stage := Tab.clear (fun k => k / 4 == ini) s.sched.stage } }
  if e.ok then
    ({ s with sched := { s.sched with commits := s.sched.commits ++ [(s.get Fd.SCHED_ENT_SEL_INDEX, e)] } }).put
      Fd.SCHED_ENT_SEL_ERR 0
  else s.put Fd.SCHED_ENT_SEL_ERR 1

/-- The freeze of the engine's commits, R56. -/
def State.schedFreeze (s : State) : State :=
  { s with sched := { s.sched with frozen := s.sched.frozen ++ s.sched.commits, commits := [] } }

/-- The entry at INDEX as it is in force. DEDUCED: log entry 108. -/
def State.schedEnt (s : State) (i : Nat) : SchedEnt := Tab.get (fun _ => SchedEnt.init) s.sched.ent i

/-- ENT_WINw of the entry at INDEX, w from 0 to 4. -/
def State.schedWinWord (s : State) (w : Nat) : Word :=
  let i := s.get Fd.SCHED_ENT_SEL_INDEX
  let e := s.schedEnt i
  match w with
  | 0 => e.w0
  | 1 => e.w1
  | 2 => e.w2
  | 3 => e.w3
  | _ =>
    let ramping := s.sched.ramp.any fun p => match p.2 with | some r => r.entry == i | none => false
    BitVec.ofNat 32 (unsigned 16 (e.lastDay.getD 0) * 65536 + e.out * 256 + b2n ramping)

/-- BASE and SOLAR as read. -/
def State.schedBaseWord (s : State) (g : Nat) : Word :=
  BitVec.ofNat 32 (b2n (s.schedRamp g).isSome * 65536 + Tab.get (fun _ => 0) s.sched.base g % 65536)

def State.schedSolarWord (s : State) (k : Nat) : Word :=
  match Tab.get (fun _ => none) s.sched.solar k with
  | some u => BitVec.ofInt 32 u
  | none => 0xFFFFFFFF

end Sys2Proof.Machine
end

