-- ==== Sys2Proof/Machine/Pair.lean ====
section
/-! DEFINITION. The redundant pair: roles, the Byell link, shadow execution, the witness lease, switch-over, swaps (R306 to
R331). -/

namespace Sys2Proof.Machine

/-! ### Roles (R306, R307) -/

/-- The partner's role by its latest STATUS, unless none has arrived for 3 ticks (PAIR.PEER.ROLE). -/
def State.peerRole (s : State) : Nat :=
  match s.pair.peer with
  | some m => if s.pair.peerAge < 3 then m.role else 0
  | none => 0

/-- The partner is STANDBY. -/
def State.peerStandby (s : State) : Bool := s.linkUp && s.peerRole == 2

/-- The partner has been heard to be ACTIVE. -/
def State.peerActive (s : State) : Bool := s.linkUp && s.peerRole == 1

/-- A change of role waits for the next edge (R307). -/
def State.roleTo (s : State) (r cause : Nat) : State :=
  if s.pair.paired then s.modPair fun p => { p with next := some (r, cause) } else s

/-- A module that goes to JOINING forms anew (R308). -/
def PairSt.unform (p : PairSt) : PairSt :=
  { p with syncAt := none, synced := false, mirror := [], mirGot := none, imp := [], impGot := false, run := 0
           rebase := false, request := false, claim := false, aligned := false }

/-- A message arrives over the link and has the effect f; one whose CRC fails is dropped and counted (R310, R330). -/
def State.byellGot (s : State) (ok : Bool) (f : State → State) : State :=
  if !s.linkUp then s
  else if !ok then s.add ⟨Rg.BYELL_CRC_ERR, 0, 16⟩ 1
  else f (s.add (whole Rg.BYELL_RX_MSG) 1)

/-- The local lease holds. -/
def State.leaseValid (s : State) : Bool :=
  match s.pair.leaseEnd with
  | some t => decide (s.ns < t)
  | none => false

/-! ### Heartbeats (R315 to R317) -/

/-- CLAIM of a heartbeat: ACTIVE, or JOINING as R308 lets it. -/
def State.hbClaim (s : State) : Bool :=
  s.role == 1 || (s.role == 0 && !s.peerActive && (s.get Fd.PAIR_CFG_UNIT == 0 || !s.linkUp || s.pair.claim))

/-- REQUEST of a heartbeat: ORPHAN_STANDBY always, STANDBY under "Switch-over". -/
def State.hbRequest (s : State) : Bool := s.role == 3 || (s.role == 2 && s.pair.request)

/-- FLAGS of a heartbeat sent now. -/
def State.hbNow (s : State) : Nat :=
  b2n s.hbClaim + 2 * b2n s.hbRequest + 4 * b2n s.pair.release + 8 * b2n s.linkUp

/-- Bytes 0 to 19 of a witness message, R316. -/
def WitMsg.body (m : WitMsg) : List Nat :=
  [m.typ % 256, m.flags % 256, m.unit % 256, 0] ++ leBytes 4 m.pairId ++ leBytes 4 m.seq ++ leBytes 4 m.remain ++
    [0, 0, 0, 0]

/-- The tag of a witness message's bytes under the pair witness key. -/
def State.witTag (s : State) (body : List Nat) : List Nat := (aesCmac (leBytes 16 (s.key 6).mat) body).take 4

/-- A witness message as its path carries it (R315, R316): after 0x7E on RS-485; on the ring in an Ethernet frame of the ring
VLAN with PCP 7, padded to 60 bytes and its tag. -/
def State.witWire (s : State) (m : List Nat) : List Nat :=
  if getF (s.rd Rg.WIT_CFG) 0 1 = 0 then 0x7E :: m
  else
    let mac := (s.rd Rg.WIT_HE_MAC_LO).toNat + getF (s.rd Rg.WIT_HE_MAC_HI) 0 16 * 2 ^ 32
    beBytes 6 mac ++ beBytes 6 baseMac ++ [0x81, 0] ++ beBytes 2 (7 * 2 ^ 13 + s.get Fd.SW_VLAN_CFG_RING_VID) ++
      [0x88, 0xB5] ++ m ++ List.replicate (46 - m.length) 0

/-- WIT_HEARTBEAT: the next heartbeat is sent, with its tag; without a usable key none leaves, and it has no reply.  While
the real-time complex is halted none is sent (R416). DESIGN CHOICE: log entry 151. -/
def State.heartbeat (s : State) : State :=
  if !s.pair.paired || !s.flag (Fd.en Pg.wit) || s.pwr.halted then s
  else
    let m : WitMsg := { typ := 1, flags := s.hbNow, unit := s.get Fd.PAIR_CFG_UNIT
                        pairId := (s.rd Rg.PAIR_PAIR_ID).toNat, seq := (s.pair.hbSeq + 1) % 2 ^ 32, remain := 0, tag := [] }
    let out := if s.slotRefusal 6 2 = 0 then s.witWire (m.body ++ s.witTag m.body) else []
    s.modPair fun p => { p with hbSeq := m.seq, hbAt := s.ns, hbWait := true, hbFlags := m.flags, hbOut := out }

/-- A heartbeat goes at once when CLAIM, REQUEST or RELEASE has become set since the latest one (R317). -/
def State.hbSoon (s : State) : State :=
  if (List.range 3).any fun b => bitN s.hbNow b && !bitN s.pair.hbFlags b then s.heartbeat else s

/-! ### Promotion (R321, R324) -/

/-- The commissioned lantern nodes by index. -/
def State.lanterns (s : State) : List Nat := s.node.table.filterMap fun (i, n) => if n.commLantern then some i else none

/-- Every contactor's feedback is read, and it is pulsed only where its commanded state differs (R324). -/
def State.coTakeOver (s : State) : State :=
  (List.range 8).foldl (fun s j =>
    let c := s.co j
    let on := s.coFeedback j
    s.setCo j { c with
      sensed := some on, second := false, changed := false, target := c.cmd
      phase := if c.cmd = on then .idle else .queued }) s

/-- The cold take-over of R321: Hatch is flushed, every lantern is held out of selection, a poll cycle starts. -/
def State.takeOverCold (s : State) : State :=
  let s := s.hatchFlush
  let ls := s.lanterns
  let s := (List.range 16).foldl (fun s b => s.modFb b fun f => { f with
    held := (ls.filter fun i => i / 256 == b).map (· % 256), pollPos := 1 }) s
  if s.pair.mirror.isEmpty then s
  else s.raise Ev.PAIR_CONFIG_STALE Pg.pair [s.pair.mirGot.getD 0]

/-- The hour of Burnish's sample points starts anew (R394). -/
def State.spRestart (s : State) : State :=
  (List.range 16).foldl (fun s b => s.modFb b ({ · with errD := 0, errA := 0, frames := 0 })) s

/-- The first edge as a transmitter (R324); `kind` 0 for a module that has formed no shadow. DEDUCED: log entry
147. -/
def State.promote (s : State) (kind : Nat) : State :=
  let s := if kind = 3 then s.takeOverCold else s
  let s := s.lanterns.foldl (fun s i =>
    if (s.fbs (i / 256)).held.contains (i % 256) then s else s.mark i true) s
  let s := s.coTakeOver.spRestart
  if kind = 0 then s
  else
    let gap := match s.pair.lastEnd with
      | some t => (s.ns - t) / 1000
      | none => 0
    ((s.wr Rg.PAIR_SWITCH_GAP (BitVec.ofNat 32 (min gap 0xFFFFFFFF))).irq Pg.pair 2).raise Ev.PAIR_SWITCHOVER Pg.pair
      [kind, gap]

/-- The role that waits takes effect at the edge (R307). DEDUCED: log entry 147. -/
def State.roleEdge (s : State) : State :=
  match s.pair.next with
  | none => s
  | some (r, cause) =>
    let old := s.role
    let s := (s.put Fd.PAIR_ROLE_ROLE r).put Fd.PAIR_ROLE_FENCE_CAUSE (if r = 5 then cause else 0)
    let s := s.modPair fun p => { p with
      next := none, quiet := false, release := false, told := false, run := 0
      swap := false, swapAt := if r = 1 ∨ old = 1 then s.sec else p.swapAt, hbFlags := if old = 1 then 0 else p.hbFlags
      request := decide (r = 3), claim := decide (r = 1), peerAge := if r = 1 then 0 else p.peerAge }
    let s := (s.irq Pg.pair 0).raise Ev.PAIR_ROLE Pg.pair [old, r, if r = 5 then cause else 0]
    let s := if r = 0 then (s.modPair PairSt.unform).put Fd.PAIR_ROLE_SYNCED 0 else s
    let s := s.put Fd.PAIR_ROLE_FIT 0
    let s := if s.transmits then s else s.coCut
    (if r = 1 then s.promote (if old = 0 then 0 else s.pair.kind) else s).hbSoon

/-- The first edge: PAIRED 0 makes the module SOLO, and a paired module starts JOINING (R307). DEDUCED: log entry
147. -/
def State.pairFirst (s : State) : State :=
  if s.flag Fd.PAIR_CFG_PAIRED then
    ((s.modPair fun p => { p with paired := true, swapAt := s.sec }).put Fd.PAIR_ROLE_ROLE 0).hbSoon
  else s.put Fd.PAIR_ROLE_ROLE 4

/-- The lower tick number jumps at the first edge of STANDBY; the ACTIVE member learns of that edge from the next STATUS
(R65, R308): the number after this edge. DEDUCED: log entry 148. -/
def State.pairAlign (s : State) (num : Nat) : Nat × State :=
  let standby := s.role = 0 ∧ s.pair.next.map (·.1) = some 2
  match s.pair.peer with
  | some m =>
    if s.pair.aligned = false ∧ (standby ∨ s.role = 1 ∧ s.peerStandby = true) then
      let dest := max num (m.num + 1)
      let s := s.modPair fun p => { p with aligned := true }
      let s := if standby then s.raise Ev.PAIR_FORMED Pg.pair [m.unit, b2n (num < dest)] else s
      (dest, s)
    else (num, s)
  | none => (num, s)

/-! ### The Byell link (R309) -/

/-- One lane alone carries the link (R309). -/
def State.laneLost (s : State) (lane : Nat) : State := (s.irq Pg.byell 2).raise Ev.BYELL_LANE Pg.byell [lane]

/-- BYELL_UP: `lanes` is the mask of lanes with block lock. The latency is measured as the link comes up, and the spec gives
no more of it: a free value. DESIGN CHOICE: log entry 191. -/
def State.byellUp (s : State) (lanes : Nat) : State :=
  let n := lanes % 2 + lanes / 2 % 2
  if !s.flag (Fd.en Pg.byell) || n == 0 || s.linkUp then s
  else
    let s := ((s.put Fd.BYELL_LANE_STAT_UP 1).put Fd.BYELL_LANE_STAT_LOCK (lanes % 4)).put
      Fd.BYELL_LANE_STAT_DEGRADED (b2n (n == 1))
    let s := (s.irq Pg.byell 0).raise Ev.BYELL_UP Pg.byell [n]
    let s := if n = 1 then s.laneLost (2 - lanes % 4) else s
    let s := s.fresh.2.wr Rg.BYELL_LAT (BitVec.ofNat 32 (s.fresh.1.toNat % 65536))
    let s := if s.role = 3 ∨ (s.role = 5 ∧ s.get Fd.PAIR_ROLE_FENCE_CAUSE = 2) then s.roleTo 0 0 else s
    (s.modPair fun p => { p with peer := none, peerAge := 3 }).hbSoon

/-- BYELL_DOWN. -/
def State.byellDown (s : State) : State :=
  if !s.linkUp then s
  else
    let lock := s.get Fd.BYELL_LANE_STAT_LOCK
    let s := s.wr Rg.BYELL_LANE_STAT 0
    let s := ((s.add ⟨Rg.BYELL_DOWN_CNT, 0, 16⟩ 1).irq Pg.byell 1).raise Ev.BYELL_DOWN Pg.byell [lock % 2 + lock / 2]
    let s := s.modPair fun p => { p with aligned := false }
    (if s.role = 2 then (s.roleTo 3 0).modPair fun p => { p with kind := 3 } else s).hbSoon

/-- BYELL_LANE: one lane loses block lock while the other holds it. -/
def State.byellLane (s : State) (lane : Nat) : State :=
  if !s.linkUp || s.get Fd.BYELL_LANE_STAT_LOCK != 3 || decide (2 ≤ lane) then s
  else
    let s := (s.put Fd.BYELL_LANE_STAT_LOCK (2 - lane)).put Fd.BYELL_LANE_STAT_DEGRADED 1
    s.laneLost lane

/-- BYELL_LANE_RESTORED. -/
def State.byellLaneBack (s : State) : State :=
  if !s.linkUp then s else (s.put Fd.BYELL_LANE_STAT_LOCK 3).put Fd.BYELL_LANE_STAT_DEGRADED 0

/-- CTRL.SRST of BYELL, or CTRL.EN going to 0: the link goes down. -/
def State.byellOff (s : State) : State := s.byellDown

/-- CTRL.SRST clears the counters (R330). -/
def State.byellSoftReset (s : State) : State :=
  ((((s.byellDown.wr Rg.BYELL_TX_MSG 0).wr Rg.BYELL_RX_MSG 0).wr Rg.BYELL_CRC_ERR 0).wr Rg.BYELL_DOWN_CNT 0)

/-- CTRL.SRST of PAIR and WIT (R329, R331). -/
def State.pairSoftReset (s : State) : State := (s.wr Rg.PAIR_MISMATCH_CNT 0).wr Rg.PAIR_IMP_STAT 0

def State.witSoftReset (s : State) : State := (s.wr Rg.WIT_CNT 0).put Fd.WIT_STAT_MISSED 0

/-! ### Messages of the partner (R308, R310, R311) -/

/-- A MIRROR with its sequence number; a gap returns the module to JOINING (R314). -/
def State.mirrorGot (s : State) (seq : Nat) (x : MirrorIn) (ok : Bool) : State :=
  s.byellGot ok fun s =>
    if s.role ≠ 0 ∧ s.role ≠ 2 then s
    else
      let gap := match s.pair.mirGot with
        | some g => (g + 1) % 2 ^ 32 != seq
        | none => false
      if gap then if s.role = 2 then s.roleTo 0 0 else s.modPair PairSt.unform
      else s.modPair fun p => { p with mirGot := some seq, mirror := p.mirror ++ [(seq, x)] }

/-- A block of the copy (IMP_DATA). -/
def State.impData (s : State) (l : List ImpPiece) (ok : Bool) : State :=
  s.byellGot ok fun s =>
    if s.role = 0 ∨ s.role = 2 then s.modPair fun p => { p with imp := p.imp ++ l } else s

/-- One piece of the copy installed. A latch that changes is copied to the MRAM at once (R34); inputs that the copied state
covers no longer wait. DEDUCED: log entry 150. -/
def State.impInstall1 (s : State) : ImpPiece → State
  | .front l =>
    let b := fun (t : Tab Nat) => l.foldl (fun t (i, v) => Tab.set (fun _ => 0) t (i % 4096) v) t
    if s.get Fd.PLATE_BUF_SEL_FRONT = 0 then { s with plate := { s.plate with buf0 := b s.plate.buf0 } }
    else { s with plate := { s.plate with buf1 := b s.plate.buf1 } }
  | .dyn i d =>
    let was := (s.nodeAt i).latched
    let s := s.setNode i { s.nodeAt i with dyn := d }
    if was = (s.nodeAt i).latched then s else s.copyNode i
  | .pulse k p => { s with hatch := { s.hatch with pulses := Tab.set (fun _ => none) s.hatch.pulses k p } }
  | .heads rxSeq mirror => { s with
      hatch := { s.hatch with inq := s.hatch.inq.filter fun d => seqBefore ((rxSeq[d.bus]?).getD 0) d.rxSeq }
      pair := { s.pair with mirror := s.pair.mirror.filter fun e => !idxBefore e.1 mirror } }
  | .group g base ramp st =>
    let s := (s.setRamp g ramp).setBase g base
    { s with plate := { s.plate with grp := Tab.set (fun _ => GrpSt.init) s.plate.grp g st } }
  | .cursor t => { s with sched := { s.sched with tPrev := t } }
  | .exec k mode cause clean consec =>
    let s := { s with tick := { s.tick with k := k } }
    (((s.put Fd.TICK_MODE_STATE mode).put Fd.TICK_MODE_CAUSE cause).put Fd.TICK_CLEAN_CNT_CLEAN clean).put
      Fd.TICK_OVR_CNT_CONSEC consec
  | .slot k t => s.setSlot k t
  | .bus b pollPos refPtr => s.modFb b fun f => { f with pollPos := pollPos, refPtr := refPtr }
  | .contactor j on => s.setCo j { s.co j with cmd := on }

/-- The Impression snapshot of an edge, R35, R54: what the copy carries. -/
def State.impTake (s : State) : List ImpPiece :=
  [.front ((List.range 4096).map fun i => (i, Tab.get (fun _ => 0) s.front i)),
   .exec s.tick.k s.mode (s.get Fd.TICK_MODE_CAUSE) (s.get Fd.TICK_CLEAN_CNT_CLEAN) (s.get Fd.TICK_OVR_CNT_CONSEC),
   .cursor s.sched.tPrev, .heads s.pair.mark (s.pair.mirMark.getD 0)] ++
  ((List.range 4096).map fun i => .dyn i (s.nodeAt i).dyn) ++
  ((List.range 2048).map fun k => .pulse k (Tab.get (fun _ => none) s.hatch.pulses k)) ++
  ((List.range 512).map fun g => .group g (s.baseLvl g) (Tab.get (fun _ => none) s.sched.ramp g) (s.grpSt g)) ++
  ((List.range 64).map fun k => .slot k (s.slot k)) ++
  ((List.range 16).map fun b => .bus b (s.fbs b).pollPos (s.fbs b).refPtr) ++
  ((List.range 8).map fun j => .contactor j (s.co j).cmd)

/-- The re-run of the tick from the installed state: Hatch on the tick's frozen inputs, then compose (R313). DEDUCED:
log entry 150. -/
def State.rerun (s : State) : State :=
  let r := hatchRun s.hatch.act s.hatchCfg s.tick.k s.hatch.pulses s.pair.frozen
  let s := { s with hatch := { s.hatch with pulses := r.pulses, contrib := r.contrib, frozen := r.left, run := none } }
  let s := s.put Fd.HATCH_DIGEST_DIGEST (digest r.pulses r.contrib)
  let s := { s with plate := { s.plate with work := some s.compose } }
  s.composeDone (s.get ⟨Rg.PLATE_COMP_US, 0, 16⟩)

/-- The copy is installed and the tick run again. -/
def State.impInstall (s : State) : State :=
  let s := s.pair.imp.foldl State.impInstall1 s
  (s.modPair fun p => { p with rebase := false }).rerun

/-- A copy with its IMP_END at `us` is in time at k (R313). -/
def State.impInTime (s : State) (us : Nat) : Bool :=
  decide (us + 2900 + 300 * (s.tick.k - 1) + 100 ≤ s.pms * 1000)

/-- The mismatch count, with its event at most once a second (R313, R314). -/
def State.shadowMismatch (s : State) (m : ImpEndMsg) (what : Nat) : State :=
  let s := (s.add Fd.PAIR_MISMATCH_CNT_MISMATCH 1).irq Pg.pair 1
  let s := s.modPair fun p => { p with run := 0 }
  if limitOk s.pair.mismAt s.ns 1 then
    (s.modPair fun p => { p with mismAt := some s.ns }).raise Ev.SHADOW_MISMATCH Pg.pair
      [s.tick.num % 2 ^ 32, s.pair.csum.toNat, m.csum.toNat, what]
  else s

/-- FIT follows the compared ticks (R314). -/
def State.fitUpdate (s : State) : State :=
  s.put Fd.PAIR_ROLE_FIT (b2n (s.role == 2 && decide (1000 ≤ s.pair.run)))

/-- The container binds the partner, and the module is paired (R356). -/
def State.updPaired (s : State) : Bool := s.pair.paired && s.nv.upd.man.any fun e => e.kind == 5

/-- The members of the pair run images of different SEQ (R371): a module image has taken effect on one of them. DEDUCED: log
entry 212. -/
def State.imagesDiffer (s : State) : Bool :=
  let u := s.nv.upd
  s.updPaired && u.man.any (fun e => decide (e.kind ≤ 4)) && decide (6 ≤ u.state) && (decide (7 ≤ u.state) != u.mateNew)

/-- IMP_END of the copy taken at this edge: the comparison and the re-base of R313; the last step of forming (R308). -/
def State.impEnd (s : State) (m : ImpEndMsg) : State :=
  s.byellGot m.ok fun s =>
    let s := s.put Fd.PAIR_IMP_STAT_KB m.kb
    let inTime := s.impInTime m.us
    let fvs := fun (s : State) => (List.range 16).foldl (fun s b =>
      let v := (m.fv[b]?).getD 0
      if s.get (Fd.FB_TX_FV_FV b) < v then s.put (Fd.FB_TX_FV_FV b) v else s) s
    let close := fun (s : State) => s.modPair fun p => { p with imp := [] }
    if s.role = 0 then
      if s.pair.synced && inTime then
        let s := close (fvs s).impInstall
        (s.put Fd.PAIR_ROLE_SYNCED 1).roleTo 2 0
      else close s
    else if s.role = 2 ∧ m.num = s.tick.num then
      let s := (fvs s).put Fd.PAIR_IMP_STAT_MISS 0
      let s := s.modPair fun p => { p with impGot := true }
      let dc := m.csum != s.pair.csum
      let dd := m.digest != s.pair.digest
      let s :=
        if s.pair.ownPrev then
          let s := s.add Fd.PAIR_MISMATCH_CNT_OWN_CUT 1
          let s := s.modPair fun p => { p with run := 0 }
          if inTime then s.impInstall else s.modPair fun p => { p with rebase := true }
        else if s.pair.rebase then if inTime then s.impInstall else s
        else if dc || dd then
          let s := if s.imagesDiffer then s.modPair fun p => { p with run := 0 }
            else s.shadowMismatch m (b2n dc + 2 * b2n dd)
          if inTime then s.impInstall else s.modPair fun p => { p with rebase := true }
        else s.modPair fun p => { p with run := p.run + 1 }
      (close s).fitUpdate
    else close s

/-- A partner STATUS (R308, R310, R320). -/
def State.statusGot (s : State) (m : StatusMsg) (ok : Bool) : State :=
  s.byellGot ok fun s =>
    let s := s.modPair fun p => { p with
      peer := some m, peerAge := 0, aligned := p.aligned && (s.role != 1 || m.role == 2) }
    let s := ((s.put Fd.PAIR_PEER_ROLE m.role).put Fd.PAIR_PEER_UNIT m.unit).put Fd.PAIR_PEER_WIT_OK (b2n m.witOk)
    if s.role = 0 then
      if m.unit = s.get Fd.PAIR_CFG_UNIT ∨ m.pairId ≠ (s.rd Rg.PAIR_PAIR_ID).toNat then s.roleTo 5 4
      else if m.role = 1 ∧ s.pair.syncAt.isNone then s.modPair fun p => { p with syncAt := some s.tick.num }
      else s
    else if s.role = 2 ∧ m.role = 1 ∧ s.pair.kind ≠ 1 then s.modPair fun p => { p with request := false }
    else s

/-- The module's own STATUS, sent in the guard band (R310). -/
def State.statusSend (s : State) : State :=
  if s.pair.paired ∧ s.linkUp then
    let m : StatusMsg :=
      { num := s.tick.num, role := s.role, unit := s.get Fd.PAIR_CFG_UNIT, pairId := (s.rd Rg.PAIR_PAIR_ID).toNat
        period := s.get Fd.TICK_PERIOD_CUR, witOk := s.flag Fd.WIT_STAT_REACHABLE, lease := s.leaseValid
        fit := s.flag Fd.PAIR_ROLE_FIT }
    (s.modPair fun p => { p with statusOut := some m }).byellSend 1
  else s

/-- STATUS_TIMEOUT: no STATUS for 3 ticks (R320). -/
def State.statusTimeout (s : State) : State :=
  let s := (s.put Fd.PAIR_PEER_ROLE 0).modPair fun p => { p with peerAge := 3 }
  if s.role = 2 ∧ s.linkUp then
    (s.modPair fun p => { p with request := true, kind := if p.request then p.kind else 2 }).hbSoon
  else s.hbSoon

/-- YIELD, with the end of the last frame the partner sent (ns). -/
def State.yieldGot (s : State) (lastEnd : Nat) (ok : Bool) : State :=
  s.byellGot ok fun s =>
    if s.role = 2 then (s.modPair fun p => { p with request := true, kind := 1, lastEnd := some lastEnd }).hbSoon else s

/-- A piece of the formation sync: its own copies are replaced and MRAM is written; a partner that runs another period
ends the formation (R308). -/
def State.syncData (s : State) (x : SyncPiece) (ok : Bool) : State :=
  s.byellGot ok fun s =>
    if s.role ≠ 0 then s
    else match x with
    | .cfg a v =>
      let s := { s with nv := { s.nv with cfg := Tab.set regReset s.nv.cfg a v } }
      if a = Rg.TICK_PERIOD then s.put Fd.TICK_PERIOD_NEXT (getF v 4 2)
      else if a / 0x1000 % 0x100 = Pg.pair then s else s.wr a v
    | .graph g =>
      { s with
        hatch := { s.hatch with act := g }
        nv := { s.nv with graph0 := some g, graph1 := none, graphTurn := true } }
    | .sched i e =>
      { s with
        sched := { s.sched with ent := Tab.set (fun _ => SchedEnt.init) s.sched.ent i e }
        nv := { s.nv with sched := Tab.set (fun _ => SchedEnt.init) s.nv.sched i e } }
    | .holiday i v =>
      { s with
        sched := { s.sched with hol := Tab.set (fun _ => 0) s.sched.hol i v }
        nv := { s.nv with schedHol := Tab.set (fun _ => 0) s.nv.schedHol i v } }
    | .scene i v =>
      { s with
        sched := { s.sched with scene := Tab.set (fun _ => 0) s.sched.scene i v }
        nv := { s.nv with schedScene := Tab.set (fun _ => 0) s.nv.schedScene i v } }
    | .ident i n => (s.setNode i { s.nodeAt i with ident := n }).copyNode i
    | .last =>
      match s.pair.peer with
      | some m => if m.period ≠ s.get Fd.TICK_PERIOD_CUR then s.roleTo 5 3
        else s.modPair fun p => { p with synced := true }
      | none => s

/-- FORMATION_TIMEOUT: 250 ticks without completion. -/
def State.formationTimeout (s : State) : State :=
  match s.pair.syncAt with
  | some t => if s.role = 0 ∧ t + 250 ≤ s.tick.num then s.roleTo 5 5 else s
  | none => s

/-! ### Replies of the witness (R316, R317) -/

/-- JOIN_CLAIM_TIMEOUT: unit B claims (R308). -/
def State.joinClaim (s : State) : State :=
  if s.role = 0 ∧ s.get Fd.PAIR_CFG_UNIT = 1 ∧ s.peerRole = 0 then
    (s.modPair fun p => { p with claim := true }).hbSoon
  else s

/-- A reply's tag holds under the pair witness key (R316). -/
def State.witTagOk (s : State) (m : WitMsg) : Bool := s.slotRefusal 6 2 == 0 && s.witTag m.body == m.tag

/-- The witness has answered that the partner holds the lease, R308, R322. -/
def State.witOther (s : State) : State :=
  if s.role = 1 then
    let s := (s.modPair fun p => { p with quiet := true, leaseEnd := none }).roleTo 5 2
    (s.irq Pg.wit 2).raise Ev.LEASE_LOST Pg.wit [4]
  else if s.role = 0 ∧ !s.linkUp then (s.roleTo 3 0).modPair fun p => { p with kind := 3 }
  else s

/-- The witness has granted the lease. -/
def State.witGranted (s : State) : State :=
  let f := s.pair.hbFlags
  let s := s.modPair fun p => { p with
    leaseEnd := some (p.hbAt + s.get Fd.WIT_HB_CFG_LEASE * 1000000), told := false }
  if (s.role = 0 ∧ bitN f 0) ∨ ((s.role = 2 ∨ s.role = 3) ∧ bitN f 1) then s.roleTo 1 0 else s

/-- WIT_REPLY_RECEIVED. DEDUCED: log entry 151. -/
def State.witReply (s : State) (m : WitMsg) : State :=
  if !s.pair.paired || !s.flag (Fd.en Pg.wit) then s
  else if !s.witTagOk m then s.add Fd.WIT_CNT_TAG_FAIL 1
  else if m.typ ≠ 2 ∨ m.unit ≠ s.get Fd.PAIR_CFG_UNIT ∨ m.pairId ≠ (s.rd Rg.PAIR_PAIR_ID).toNat then s
  else if m.seq ≠ s.pair.hbSeq then s.add Fd.WIT_CNT_TAG_FAIL 1
  else if !s.pair.hbWait then s
  else
    let s := s.modPair fun p => { p with hbWait := false }
    let missed := s.get Fd.WIT_STAT_MISSED
    let s := (s.put Fd.WIT_STAT_MISSED 0).put Fd.WIT_STAT_REACHABLE 1
    let s := if s.pair.witLost then
        ((s.modPair fun p => { p with witLost := false }).irq Pg.wit 1).raise Ev.WIT_RESTORED Pg.wit [missed]
      else s
    if bitN m.flags 0 then (s.put Fd.WIT_LEASE_HOLDER 1).witGranted
    else if bitN m.flags 1 then (s.put Fd.WIT_LEASE_HOLDER 2).witOther
    else
      let s := s.put Fd.WIT_LEASE_HOLDER 0
      if s.role = 5 ∧ s.get Fd.PAIR_ROLE_FENCE_CAUSE = 2 then s.roleTo 0 0 else s

/-- WIT_REPLY_TIMEOUT. DEDUCED: log entry 151. -/
def State.witTimeout (s : State) : State :=
  if !s.pair.hbWait then s
  else
    let s := s.modPair fun p => { p with hbWait := false }
    let s := (s.add Fd.WIT_STAT_MISSED 1).add Fd.WIT_CNT_NO_REPLY 1
    if 3 ≤ s.get Fd.WIT_STAT_MISSED ∧ s.pair.witLost = false then
      (((s.modPair fun p => { p with witLost := true }).put Fd.WIT_STAT_REACHABLE 0).irq Pg.wit 0).raise Ev.WIT_UNREACHABLE Pg.wit [getF (s.rd Rg.WIT_CFG) 0 1]
    else s

/-- WIT.LEASE as read. -/
def State.leaseWord (s : State) : Word :=
  let rem := match s.pair.leaseEnd with
    | some t => (t - s.ns) / 1000000
    | none => 0
  BitVec.ofNat 32 (s.get Fd.WIT_LEASE_HOLDER * 2 ^ 30 + if s.leaseValid then 2 ^ 29 + min rem 65535 else 0)

/-! ### Yielding, fencing, swaps (R319, R322, R325) -/

/-- A formation sync runs: the partner's latest STATUS shows JOINING. -/
def State.partnerJoins (s : State) : Bool :=
  s.linkUp && decide (s.pair.peerAge < 3) && s.pair.peer.any fun m => m.role == 0

/-- The module yields: no frame starts, YIELD and a heartbeat with RELEASE go out, and the role changes at the next edge
(R319).  While a formation sync runs it stays ACTIVE (R324). -/
def State.yield (s : State) (dest cause : Nat) (release : Bool) : State :=
  if s.partnerJoins then s
  else
    let s := (s.modPair fun p => { p with
      quiet := true, release := release, yieldOut := some (s.tick.num, p.lastEnd) }).byellSend 1
    s.hbSoon.roleTo dest cause

/-- LEASE_LOST: the local lease ends without renewal in the running tick (R322). -/
def State.leaseLost (s : State) : State :=
  if s.role ≠ 1 ∨ s.pair.leaseEnd.any fun t => s.ns + 1000000 * s.pms < t then s
  else if s.linkUp ∧ s.get Fd.PAIR_PEER_WIT_OK = 0 then
    if s.pair.told then s
    else ((s.modPair fun p => { p with told := true }).irq Pg.wit 2).raise Ev.LEASE_LOST Pg.wit [1]
  else
    let case := if s.linkUp then 2 else 3
    let s := (s.irq Pg.wit 2).raise Ev.LEASE_LOST Pg.wit [case]
    if s.linkUp then s.yield 2 0 false
    else (s.modPair fun p => { p with quiet := true }).roleTo 5 2

/-- Why a swap must wait (R325, PAIR_SWAP_DEFER): 0 when it need not. DEDUCED: log entry 146. -/
def State.swapBar (s : State) : Nat :=
  if !(s.peerStandby && (s.pair.peer.map (·.fit)).getD false) then 1
  else if !s.flag Fd.WIT_STAT_REACHABLE || s.get Fd.PAIR_PEER_WIT_OK == 0 then 2
  else if s.get Fd.BYELL_LANE_STAT_LOCK ≠ 3 then 3
  else if (List.range 8).any fun j => (s.co j).busy then 4
  else 0

/-- A swap is tried: it yields, or is deferred, with one PAIR_SWAP_DEFER. DEDUCED: log entry 146. -/
def State.swapTry (s : State) : State :=
  if s.role ≠ 1 then s
  else
    let why := s.swapBar
    if why = 0 then (s.modPair fun p => { p with swap := false }).yield 2 0 true
    else if s.pair.swap then s
    else ((s.modPair fun p => { p with swap := true }).irq Pg.pair 3).raise Ev.PAIR_SWAP_DEFER Pg.pair [why]

/-- SWAP_PERIOD_EXPIRE: the planned swap falls due, once SWAP_PERIOD.HOURS have passed since the latest change of ACTIVE
module (R325). -/
def State.swapDue (s : State) : State :=
  let h := s.get ⟨Rg.PAIR_SWAP_PERIOD, 0, 16⟩
  if h = 0 ∨ s.sec + 1 < s.pair.swapAt + 3600 * h then s else s.swapTry

/-- PAIR.CMD: 1 SWAP, 2 FENCE, 3 UNFENCE. -/
def State.pairCmd (s : State) (op : Nat) : State :=
  if !s.pair.paired then s
  else if op = 1 then s.swapTry
  else if op = 2 then if s.role = 1 then s.yield 5 1 true else if s.role = 5 then s else s.roleTo 5 1
  else if op = 3 then if s.role = 5 then s.roleTo 0 0 else s
  else s

/-- On HOLDUP and at the start of a MODULE reset an ACTIVE module yields only to a STANDBY partner (R319). -/
def State.yieldIfStandby (s : State) : State :=
  if s.role = 1 ∧ s.peerStandby then s.yield 2 0 true else s

/-! ### Edges (R57, R314) -/

/-- Before an edge of a STANDBY: a copy that has not come counts as missing; 50 in a row break the pair up (R314).
DEDUCED: log entry 149. -/
def State.impMissing (s : State) : State :=
  if s.role ≠ 2 ∨ s.pair.impGot then s
  else
    let s := (s.add Fd.PAIR_IMP_STAT_MISS 1).modPair fun p => { p with run := 0, imp := [] }
    let n := s.get Fd.PAIR_IMP_STAT_MISS
    let s := if limitOk s.pair.missAt s.ns 1 then
        (s.modPair fun p => { p with missAt := some s.ns }).raise Ev.IMP_MISSING Pg.pair [n]
      else s
    let s := if 50 ≤ n ∧ s.linkUp then s.roleTo 0 0 else s
    s.fitUpdate

/-- At every edge: the sums the comparison will use, the age of the partner's STATUS, and a deferred swap. -/
def State.pairEdge (s : State) : State :=
  let s := s.modPair fun p => { p with
    impGot := false, ownPrev := s.tick.ownCut, csum := s.rd Rg.PLATE_CSUM, digest := s.rd Rg.HATCH_DIGEST
    peerAge := min (p.peerAge + 1) 3 }
  let s := if s.pair.peerAge = 3 then s.put Fd.PAIR_PEER_ROLE 0 else s
  if s.pair.swap then s.swapTry else s

end Sys2Proof.Machine
end

