-- ==== Sys2Proof/Machine/Time.lean ====
section
/-! DEFINITION. The RTC and the time engine (R211 to R237). -/

namespace Sys2Proof.Machine

/-! ### Selection and corrections, R225 to R230 -/

/-- STATE of a domain (0 DOM_A, 1 DOM_B) or of GNSS (2). -/
abbrev srcField (k : Nat) : Fld :=
  if k = 0 then Fd.TIME_DOM_A_STAT_STATE else if k = 1 then Fd.TIME_DOM_B_STAT_STATE else Fd.TIME_GNSS_STAT_STATE

/-- The offset register of a source. -/
abbrev srcOfs (k : Nat) : Fld := whole (if k = 0 then Rg.TIME_DOM_A_OFS else if k = 1 then Rg.TIME_DOM_B_OFS else Rg.TIME_GNSS_OFS)

/-- A source's state. -/
def State.srcState (s : State) (k : Nat) : Nat := s.get (srcField k)

/-- A source is QUALIFIED or LOCKED. -/
def State.srcOk (s : State) (k : Nat) : Bool := s.srcState k == 3 || s.srcState k == 4

/-- SRC_STAT.CUR. -/
def State.timeCur (s : State) : Nat := s.get Fd.TIME_SRC_STAT_CUR

/-- The sources in the order of SRC_SEL. -/
def State.srcOrder (s : State) : List Nat :=
  [s.get Fd.TIME_SRC_SEL_PRIO0, s.get Fd.TIME_SRC_SEL_PRIO1, s.get Fd.TIME_SRC_SEL_PRIO2].filter (· ≤ 2)

/-- The first eligible source in that order. -/
def State.srcBest (s : State) : Option Nat := s.srcOrder.find? s.srcOk

/-- A PTP domain. -/
def State.ptp (s : State) (k : Nat) : PtpDom := Tab.get (fun _ => PtpDom.init) s.time.dom k

/-- A PTP domain replaced. -/
def State.setPtp (s : State) (k : Nat) (d : PtpDom) : State :=
  { s with time := { s.time with dom := Tab.set (fun _ => PtpDom.init) s.time.dom k d } }

/-- A source's measurements. -/
def State.meas (s : State) (k : Nat) : SrcMeas := if k = 2 then s.time.gnss.meas else (s.ptp k).meas

/-- A source's measurements replaced. -/
def State.setMeas (s : State) (k : Nat) (m : SrcMeas) : State :=
  if k = 2 then { s with time := { s.time with gnss := { s.time.gnss with meas := m } } }
  else s.setPtp k { s.ptp k with meas := m }

/-- SRC_STAT.STATE as it follows from CUR and the correction in progress, with TIME_LOCKED at its change to LOCKED. -/
def State.timeState (s : State) : State :=
  let c := s.timeCur
  let st := if c = 5 then 0 else if c = 4 then 6 else if c = 3 then 4
    else if s.time.wait.isSome then 5
    else if 200 < s.time.slew.natAbs then 2
    else if s.srcState c = 4 then 3 else 1
  let was := s.get Fd.TIME_SRC_STAT_STATE
  let s := s.put Fd.TIME_SRC_STAT_STATE st
  if st = 3 ∧ was ≠ 3 then (s.irq Pg.time 1).raise Ev.TIME_LOCKED Pg.time [c] else s

/-- A value of ns as µs, rounded to the nearest, saturated. -/
def toUs (d : Int) : Int := sat31 (d.sign * (((d.natAbs + 500) / 1000 : Nat) : Int))

/-- The disciplined time steps by d ns, R228, R230: the tick in progress becomes a realignment tick (R64). -/
def State.timeStep (s : State) (d : Int) (src : Nat) : State :=
  let s := if s.tick.steps.isEmpty then s.irq Pg.tick 6 else s
  let s := s.setTai (s.ns + s.tick.ofs) ((s.tai : Int) + d).toNat
  let s := { s with
    time := { s.time with slew := 0, wait := none }
    tick := { s.tick with steps := s.tick.steps ++ [toUs d] }
    sched := { s.sched with adjusted := s.sched.adjusted || decide (0 < d) } }
  let s := (s.put Fd.TICK_STAT_REALIGN 1).putInt (whole Rg.TIME_STEP_LOG) (toUs d)
  let s := (s.putInt (whole Rg.TIME_SLEW) 0).add Fd.TIME_STEP_CNT_STEPS 1
  (s.irq Pg.time 3).raise Ev.TIME_STEP Pg.time [pInt (toUs d), src]

/-- A measured offset d of the followed source is corrected, R228. -/
def State.timeCorrect (s : State) (d : Int) (src : Nat) : State :=
  if 128000000 < d.natAbs then (s.timeStep d src).timeState
  else
    let begins := s.time.slew = 0 ∧ 1000 < d.natAbs
    let s := { s with time := { s.time with slew := d } }
    let s := s.putInt (whole Rg.TIME_SLEW) (sat31 d)
    let s := if begins then s.raise Ev.TIME_SLEW Pg.time [pInt (sat31 d), src] else s
    s.timeState

/-- The latest offset that source k measured, R228. -/
def State.srcLatest (s : State) (k : Nat) : Int := (s.meas k).hist.head?.getD (s.getInt (srcOfs k))

/-- The engine follows another source, R225, R228: a slew in progress is dropped and the new source's offset corrected
afresh; HOLDOVER starts its minutes. Every change of CUR raises TIME_SRC_CHANGE. DEDUCED: log entries 92, 93. -/
def State.timeSelect (s : State) (new : Nat) : State :=
  let old := s.timeCur
  if new = old then s.timeState
  else
    let s := if old ≤ 2 ∧ s.srcState old = 4 then s.put (srcField old) 3 else s
    let s := { s with time := { s.time with slew := 0, wait := none } }
    let s := (s.put Fd.TIME_SRC_STAT_CUR new).putInt (whole Rg.TIME_SLEW) 0
    let d := if new ≤ 2 then s.srcLatest new else 0
    let s := (s.irq Pg.time 0).raise Ev.TIME_SRC_CHANGE Pg.time [old, new, pInt (sat31 d)]
    if new = 3 then
      let s := { s with time := { s.time with holdAt := s.ms } }
      ((s.irq Pg.time 2).raise Ev.TIME_HOLDOVER Pg.time [old]).timeState
    else if new ≤ 2 then s.timeCorrect d new
    else s.timeState

/-- Minutes of the holdover, R226. -/
def State.holdMin (s : State) : Nat := if s.timeCur = 3 then min ((s.ms - s.time.holdAt) / 60000) 65535 else 0

/-- The fallback to the RTC after HOLD_MAX minutes, R226; n is the minutes reported. DEDUCED: log entry 92. -/
def State.rtcFallback (s : State) (n : Nat) : State :=
  if s.timeCur ≠ 3 ∨ s.flag Fd.TIME_SRC_SEL_FORCE ∨ s.flag Fd.RTC_OSF_OSF then s
  else (s.timeSelect 4).raise Ev.TIME_RTC_FALLBACK Pg.time [n]

/-- The UTC offset of the first of R212, and whether it comes from an Announce. -/
def State.utcSource (s : State) : Option Nat :=
  let ok := fun (k : Nat) => decide (k ≤ 1) && (s.ptp k).master.isSome && (s.ptp k).utcValid
  if ok s.timeCur then some s.timeCur else s.srcOrder.find? fun k => ok k && s.srcOk k

/-- UTC_OFS.CUR takes its value, R212; a change outside a leap second raises TIME_UTC_OFS. -/
def State.updUtc (s : State) : State :=
  let src := s.utcSource
  let new : Int := match src with
    | some k => (s.ptp k).utcOfs
    | none => s.getInt Fd.TIME_UTC_OFS_CFG
  let old := s.utcOfs
  let s := s.put Fd.TIME_SRC_STAT_UTC_ANN (b2n src.isSome)
  if new = old then s
  else
    let s := s.putInt Fd.TIME_UTC_OFS_CUR new
    let s := { s with sched := { s.sched with adjusted := s.sched.adjusted || decide (new < old) } }
    s.raise Ev.TIME_UTC_OFS Pg.time [pInt old, pInt new]

/-- The pending leap second, R213: 0 none, 1 insert, 2 delete. -/
def State.leapPending (s : State) : Nat :=
  match s.utcSource with
  | some k => (s.ptp k).leap
  | none => s.get Fd.TIME_LEAP_PEND

/-- A domain that jumped leaves FAULT when no other source is eligible, R229; one with the other's DOMAIN does not. -/
def State.faultEnd (s : State) (k : Nat) : State :=
  if s.srcState k ≠ 5 ∨ (k = 1 ∧ s.time.same = true) ∨ (s.srcOrder.any fun j => j != k && s.srcOk j) then s
  else (s.put (srcField k) (if (s.ptp k).master.isSome then 2 else 1)).setMeas k SrcMeas.init

/-- The selection of R225 made afresh. DEDUCED: log entry 96. -/
def State.timeReselect (s : State) : State :=
  let s := (s.faultEnd 0).faultEnd 1
  let cur := s.timeCur
  let osf := s.flag Fd.RTC_OSF_OSF
  let target :=
    if s.flag Fd.TIME_SRC_SEL_FORCE then
      let f := s.get Fd.TIME_SRC_SEL_FORCED
      if f ≤ 2 then (if s.srcOk f then f else 3) else if f = 4 ∧ osf = false then 4 else 3
    else
      let best := s.srcBest
      if cur ≤ 2 then
        if s.srcOk cur ∧ cur ∈ s.srcOrder ∧ s.get Fd.TIME_SRC_SEL_REVERT_S ≠ 0 then cur else best.getD 3
      else if cur = 4 ∧ osf then best.getD 3
      else best.getD cur
  (s.timeSelect target).updUtc

/-- SRC_REVERT: source k, of higher priority than CUR, has been eligible for REVERT_S seconds, R225. -/
def State.srcRevert (s : State) (k : Nat) : State :=
  let o := s.srcOrder
  if s.flag Fd.TIME_SRC_SEL_FORCE ∨ 2 < s.timeCur ∨ s.srcOk k = false ∨ k = s.timeCur ∨ k ∉ o then s
  else if o.idxOf k < o.idxOf s.timeCur then (s.timeSelect k).updUtc
  else s

/-- Domain k has no acceptable master any more, R223. -/
def State.ptpNoMaster (s : State) (k : Nat) : State :=
  let s := s.setPtp k { PtpDom.init with transport := (s.ptp k).transport, out := (s.ptp k).out }
  let s := s.put (if k = 0 then Fd.TIME_DOM_A_STAT_CLASS else Fd.TIME_DOM_B_STAT_CLASS) 255
  if s.srcState k = 0 ∨ s.srcState k = 5 then s else s.put (srcField k) 1

/-- The ports, the highest clockClass and the domain number of a domain. -/
def State.domPorts (s : State) (k : Nat) : Nat :=
  s.get (if k = 0 then Fd.TIME_DOM_A_CFG_PORTS else Fd.TIME_DOM_B_CFG_PORTS)

def State.domMax (s : State) (k : Nat) : Nat :=
  s.get (if k = 0 then Fd.TIME_DOM_A_CFG_MAX_CLASS else Fd.TIME_DOM_B_CFG_MAX_CLASS)

def State.domNum (s : State) (k : Nat) : Nat :=
  s.get (if k = 0 then Fd.TIME_DOM_A_CFG_DOMAIN else Fd.TIME_DOM_B_CFG_DOMAIN)

/-- The selected master of domain k is still acceptable under its settings, R223. -/
def State.masterFits (s : State) (k : Nat) : Bool :=
  let port := s.get (if k = 0 then Fd.TIME_DOM_A_STAT_PORT else Fd.TIME_DOM_B_STAT_PORT)
  let cls := s.get (if k = 0 then Fd.TIME_DOM_A_STAT_CLASS else Fd.TIME_DOM_B_STAT_CLASS)
  (s.domPorts k).testBit port && decide (cls ≤ s.domMax k) && (s.ptp k).dom == s.domNum k

/-- A source follows its settings: off, without a master or a signal, or, for a domain that has the other's DOMAIN, FAULT. -/
def State.srcOne (s : State) (k : Nat) (en bad : Bool) : State :=
  let st := s.srcState k
  if !en then
    if st = 0 then s
    else if k = 2 then (s.put (srcField 2) 0).setMeas 2 SrcMeas.init
    else (s.ptpNoMaster k).put (srcField k) 0
  else
    let s := if st = 0 then s.put (srcField k) 1 else s
    let s := if k ≤ 1 ∧ (s.ptp k).master.isSome = true ∧ s.masterFits k = false then s.ptpNoMaster k else s
    if bad then s.put (srcField k) 5
    else if k = 1 ∧ s.time.same = true then s.put (srcField k) (if (s.ptp k).master.isSome then 2 else 1)
    else s

/-- Sources start at boot stage 21, R402, and follow every write of the page: enabled domains have no master yet, GNSS no
signal, and two domains with one number leave DOM_B in FAULT (R230). -/
def State.srcCfg (s : State) : State :=
  if !s.time.on then s.updUtc
  else
    let a := s.flag Fd.TIME_DOM_A_CFG_EN
    let b := s.flag Fd.TIME_DOM_B_CFG_EN
    let same := a && b && s.domNum 0 == s.domNum 1
    let s := ((s.srcOne 0 a false).srcOne 1 b same).srcOne 2 (s.flag Fd.TIME_GNSS_CFG_EN) false
    { s with time := { s.time with same := same } }.timeReselect

/-! ### Measurements, R223, R224, R229 -/

/-- A measurement enters the counts. -/
def SrcMeas.push (m : SrcMeas) (d : Int) : SrcMeas :=
  { hist := (d :: m.hist).take 16
    near := if d.natAbs ≤ 200 then m.near + 1 else 0
    far := if 1000 < d.natAbs then m.far + 1 else 0
    good := if d.natAbs ≤ 1000 then m.good + 1 else 0 }

/-- 16 offsets within 200 ns peak to peak, R223. -/
def SrcMeas.steady (m : SrcMeas) : Bool :=
  match m.hist with
  | [] => false
  | x :: t =>
    m.hist.length == 16 && decide (t.foldl max x - t.foldl min x ≤ 200)

/-- The state of a source after a measurement that is no jump; `run` is GNSS's consecutive good seconds. -/
def State.measState (s : State) (k : Nat) (m : SrcMeas) : State :=
  let st := s.srcState k
  if st = 2 then
    (if k = 2 then (if 8 ≤ s.time.gnss.run then s.put (srcField k) 3 else s)
      else if m.steady then s.put (srcField k) 3 else s)
  else if st = 3 ∧ s.timeCur = k ∧ 16 ≤ m.near then s.put (srcField k) 4
  else if st = 4 ∧ 8 ≤ m.far then (s.put (srcField k) 2).setMeas k SrcMeas.init
  else s

/-- A LOCKED source that is followed jumps by d, R229. DEDUCED: log entry 94. -/
def State.timeJump (s : State) (k : Nat) (d : Int) : State :=
  let other := if s.flag Fd.TIME_SRC_SEL_FORCE then none
    else s.srcOrder.find? fun j => j != k && s.srcOk j && decide ((s.getInt (srcOfs j)).natAbs ≤ 1000)
  match other with
  | some j =>
    let s := if k = 2 then (s.put (srcField k) 2).setMeas k SrcMeas.init
      else ((s.put (srcField k) 5).setMeas k SrcMeas.init).add Fd.TIME_STEP_CNT_FAULTS 1
    let s := (s.irq Pg.time 5).raise Ev.TIME_SRC_FAULT Pg.time [k, pInt (sat31 (d.tdiv 1000000))]
    (s.timeSelect j).updUtc
  | none => ({ s with time := { s.time with wait := some ⟨d, d, true⟩, slew := 0 } }).timeState

/-- Source k has measured an offset of d ns: its time minus the disciplined time. -/
def State.timeMeasure (s : State) (k : Nat) (d : Int) : State :=
  let s := s.putInt (srcOfs k) (sat31 d)
  let m := (s.meas k).push d
  let s := s.setMeas k m
  let jump := decide (128000000 < d.natAbs)
  if s.srcState k = 5 then
    (if 16 ≤ m.good then (s.put (srcField k) 2).setMeas k SrcMeas.init else s).timeReselect
  else if s.timeCur = k then
    match s.time.wait with
    | some w =>
      { s with time := { s.time with wait := some { w with
          latest := d, ok := w.ok && decide ((d - w.first).natAbs ≤ 1000000) } } }
    | none =>
      if jump ∧ s.srcState k = 4 then s.timeJump k d
      else ((s.measState k m).timeCorrect d k).timeReselect
  else if jump ∧ 3 ≤ s.srcState k then ((s.put (srcField k) 2).setMeas k SrcMeas.init).timeReselect
  else (s.measState k m).timeReselect

/-- STEP_WAIT_END: the 4 s of R229 are over. DEDUCED: log entry 101. -/
def State.stepWaitEnd (s : State) : State :=
  match s.time.wait with
  | none => s
  | some w =>
    let k := s.timeCur
    let s := { s with time := { s.time with wait := none } }
    if w.ok then (s.timeStep w.latest k).timeState
    else (((s.put (srcField k) 2).setMeas k SrcMeas.init).timeSelect 3).updUtc

/-! ### PTP messages, R214, R222, R223, R232 -/

/-- A received 48-bit seconds field extended to the value nearest the local seconds, R214. -/
def ptpExtend (loc wire : Int) : Int :=
  let ext := loc - loc % 2 ^ 48 + wire
  let ext := if 2 ^ 47 < ext - loc then ext - 2 ^ 48 else ext
  if 2 ^ 47 < loc - ext then ext + 2 ^ 48 else ext

/-- A wire time in ns of the disciplined timescale. -/
def State.ptpNs (s : State) (sec ns : Nat) : Int := ptpExtend (s.taiSec : Int) ((sec % 2 ^ 48 : Nat) : Int) * 1000000000 + ns

/-- A message that the module does not discard, R222. -/
def PtpHdr.taken (h : PtpHdr) : Bool := !h.unicast && decide (h.minor ≤ 1) && decide (h.carrier ≤ 2) && decide (h.dom ≤ 239)

/-- Domain k runs and takes a message from a port, R222: the network domain must be up. -/
def State.ptpHears (s : State) (k port : Nat) (h : PtpHdr) : Bool :=
  s.time.on && s.pwr.netOn && h.taken && h.dom == s.domNum k && s.srcState k != 0 &&
    !(k == 1 && s.time.same) && (s.domPorts k).testBit port

/-- The message comes from the selected master of a domain that takes it. -/
def State.ptpMaster (s : State) (k port : Nat) (h : PtpHdr) : Bool := s.ptpHears k port h && (s.ptp k).master == some h.src

/-- Every domain treats a message. -/
def State.ptpBoth (s : State) (f : State → Nat → State) : State := f (f s 0) 1

/-- A two-way measurement from master to slave completes a Sync, R223. -/
def State.ptpOffset (s : State) (k : Nat) (origin corr rx : Int) : State :=
  let ms := rx - origin - corr
  let d := s.ptp k
  let s := s.setPtp k { d with toSlave := some ms, sync := none }
  s.timeMeasure k (d.delay - ms)

/-- PTP_SYNC_RECEIVED: a Sync of the selected master; a two-step one waits for its Follow_Up. logSyncInterval lies within −7
to +1 (R222). -/
def State.ptpSync (s : State) (k port seq : Nat) (h : PtpHdr) (twoStep : Bool) (sec ns : Nat) (corr rx : Int) : State :=
  if !s.ptpMaster k port h || decide (h.interval < -7) || decide (1 < h.interval) then s
  else
    let s := s.setPtp k { s.ptp k with transport := h.carrier }
    if twoStep then s.setPtp k { s.ptp k with sync := some (seq, rx, corr) }
    else s.ptpOffset k (s.ptpNs sec ns) corr rx

/-- PTP_FOLLOW_UP_RECEIVED: the precise origin time of a two-step Sync. -/
def State.ptpFollowUp (s : State) (k port seq : Nat) (h : PtpHdr) (sec ns : Nat) (corr : Int) : State :=
  if !s.ptpMaster k port h then s
  else match (s.ptp k).sync with
    | some (q, rx, c) => if q = seq then s.ptpOffset k (s.ptpNs sec ns) (c + corr) rx else s
    | none => s

/-- PTP_DELAY_REQ_SEND: a Delay_Req leaves over the transport of the master's Sync with its departure time written in, R214,
R222, R232. -/
def State.ptpDelayReq (s : State) (k seq : Nat) (at_ : Int) : State :=
  if 1 < k || !s.time.on || !s.pwr.netOn || (s.ptp k).master.isNone then s
  else
    let d := s.ptp k
    let o : DelayReq := {
      seq, carrier := d.transport, fix := ptpFix d.transport
      mac := portMac (s.get (if k = 0 then Fd.TIME_DOM_A_STAT_PORT else Fd.TIME_DOM_B_STAT_PORT))
      sec := (at_ / 1000000000 % 2 ^ 48).toNat, ns := (at_ % 1000000000).toNat }
    s.setPtp k { d with req := some (seq, at_), out := some o }

/-- PTP_DELAY_RESP_RECEIVED: the path delay is measured. -/
def State.ptpDelayResp (s : State) (k port seq : Nat) (h : PtpHdr) (sec ns : Nat) (corr : Int) : State :=
  if !s.ptpMaster k port h then s
  else
    let d := s.ptp k
    match d.req, d.toSlave with
    | some (q, t3), some ms =>
      if q = seq then s.setPtp k { d with req := none, delay := (ms + (s.ptpNs sec ns - t3 - corr)) / 2 } else s
    | _, _ => s

/-- PTP_ANNOUNCE_RECEIVED: the best master, or the selected one that is no longer acceptable, R223; another master is measured
afresh. DEDUCED: log entry 208. -/
def State.ptpAnnounce (s : State) (k port : Nat) (h : PtpHdr) (a : AnnounceMsg) : State :=
  let mine := (s.ptp k).master == some h.src
  if !s.ptpHears k port h then s
  else if s.domMax k < a.cls then if mine then (s.ptpNoMaster k).timeReselect else s
  else if !a.best then s
  else
    let d := if mine then s.ptp k else { PtpDom.init with out := (s.ptp k).out }
    let s := s.setPtp k { d with
      master := some h.src, dom := h.dom, utcOfs := a.utcOfs, utcValid := a.utcValid
      leap := if a.leap61 then 1 else if a.leap59 then 2 else 0 }
    let s := if k = 0 then (s.put Fd.TIME_DOM_A_STAT_CLASS a.cls).put Fd.TIME_DOM_A_STAT_PORT port
      else (s.put Fd.TIME_DOM_B_STAT_CLASS a.cls).put Fd.TIME_DOM_B_STAT_PORT port
    if mine then s.updUtc
    else (if s.srcState k = 5 then s else s.put (srcField k) 2).timeReselect

/-- PTP_TIMEOUT: no Announce or no Sync in time; the domain goes to NO_MASTER, R223. -/
def State.ptpTimeout (s : State) (k : Nat) : State :=
  if 1 < k || !s.time.on || s.srcState k == 0 || s.srcState k == 5 then s else (s.ptpNoMaster k).timeReselect

/-! ### GNSS, R224 -/

/-- The GNSS source runs. -/
def State.gnssOn (s : State) : Bool := s.time.on && s.flag Fd.TIME_GNSS_CFG_EN

/-- The GNSS source replaced. -/
def State.setGnss (s : State) (g : GnssSt) : State := { s with time := { s.time with gnss := g } }

/-- A sentence's second and its edge stand together: consecutive seconds count, and the offset is measured. -/
def State.gnssPair (s : State) (sec : Nat) (edge : Int) : State :=
  let g := s.time.gnss
  let okSec := match g.lastNamed with | some p => p + 1 == sec | none => false
  let okEdge := match g.lastEdge with
    | some e => decide ((edge - e - 1000000000).natAbs ≤ 10000)
    | none => false
  let run := if okSec && okEdge then g.run + 1 else 0
  let s := s.setGnss { g with named := none, edge := none, lastNamed := some sec, lastEdge := some edge, run := run }
  let s := if s.srcState 2 = 1 then s.put (srcField 2) 2 else s
  let t := ((sec : Int) + s.utcOfs) * 1000000000 + s.getInt Fd.TIME_GNSS_CFG_PPS_DLY
  s.timeMeasure 2 (t - edge)

/-- The source drops to NO_SIGNAL with a reason, R224. -/
def State.gnssDrop (s : State) (reason : Nat) : State :=
  if s.srcState 2 ≤ 1 then s
  else
    let s := (s.setGnss GnssSt.init).put (srcField 2) 1
    (s.raise Ev.GNSS_LOST Pg.time [reason]).timeReselect

/-- GNSS_SENTENCE_RECEIVED: an RMC with status A (0) or V (1), or a ZDA (2), that names UTC second `sec` since 1970, or another
sentence, which is ignored; `ok`: the checksum is valid. -/
def State.gnssSentence (s : State) (kind sec : Nat) (ok : Bool) : State :=
  if !s.gnssOn then s
  else if !ok then s.add Fd.TIME_GNSS_STAT_CSUM_ERR 1
  else if kind = 1 then s.gnssDrop 3
  else if 2 < kind then s
  else if s.flag Fd.TIME_GNSS_CFG_PPS_REL then
    match s.time.gnss.edge with
    | some e => s.gnssPair sec e
    | none => s
  else s.setGnss { s.time.gnss with named := some sec }

/-- PPS_IN_EDGE: a rising edge at a disciplined time, in ns. -/
def State.ppsIn (s : State) (at_ : Int) : State :=
  if !s.gnssOn then s
  else if s.flag Fd.TIME_GNSS_CFG_PPS_REL then s.setGnss { s.time.gnss with edge := some at_ }
  else match s.time.gnss.named with
    | some sec => s.gnssPair sec at_
    | none => s

/-! ### Leap seconds, start, PPS_OUT -/

/-- TIME_LEAP: the pending leap second takes effect at UTC midnight, R213. DEDUCED: log entry 95. -/
def State.timeLeap (s : State) : State :=
  let p := s.leapPending
  if p ≠ 1 ∧ p ≠ 2 then s
  else
    let delta : Int := if p = 1 then 1 else -1
    let new := s.utcOfs + delta
    let s := match s.utcSource with
      | some k => s.setPtp k { s.ptp k with utcOfs := (s.ptp k).utcOfs + delta, leap := 0 }
      | none => s.putInt Fd.TIME_UTC_OFS_CFG new
    let s := (s.put Fd.TIME_LEAP_PEND 0).putInt Fd.TIME_UTC_OFS_CUR new
    let s := { s with sched := { s.sched with adjusted := s.sched.adjusted || p == 2 } }
    (s.irq Pg.time 4).raise Ev.TIME_LEAP Pg.time [pInt delta, pInt new]

/-- RTC.SEC, 40 bits. -/
def State.rtcSec (s : State) : Nat := s.get Fd.RTC_SEC_HI_SEC * 2 ^ 32 + (s.rd Rg.RTC_SEC_LO).toNat

/-- RTC.SEC replaced. -/
def State.setRtcSec (s : State) (v : Nat) : State :=
  (s.wr Rg.RTC_SEC_LO (BitVec.ofNat 32 v)).put Fd.RTC_SEC_HI_SEC (v / 2 ^ 32)

/-- The RTC's own clock at the latest instant known, in ns. -/
def State.rtcNow (s : State) : Nat := s.ns + s.tick.ofs + s.rtc.off

/-- The RTC's clock reaches an instant while the light path keeps no time. -/
def State.rtcReach (s : State) (t : Nat) : State :=
  if s.pwr.light then s else { s with rtc := { s.rtc with off := s.rtc.off + (t - s.rtcNow) } }

/-- An instant of the RTC's clock that no command carries: within the tick, or, while the light path keeps no time, within the
running second. DESIGN CHOICE: log entry 26. -/
def State.rtcDraw (s : State) : State :=
  if s.pwr.light then s.drawOfs.2
  else
    let left := 1000000000 - (s.rtcNow - s.rtc.secAt)
    s.fresh.2.rtcReach (s.rtcNow + s.fresh.1.toNat % max 1 left)

/-- SUBSEC, R215, R217. -/
def State.rtcSub (s : State) : Nat :=
  match s.rtc.stopped with
  | some c => c
  | none => min 32767 ((s.rtcNow - s.rtc.secAt) * 32768 / 1000000000)

/-- The light path starts: the disciplined time is set from the RTC, R227. -/
def State.timeStart (s : State) : State :=
  let cfg := s.getInt Fd.TIME_UTC_OFS_CFG
  let s := s.putInt Fd.TIME_UTC_OFS_CUR cfg
  if s.flag Fd.RTC_OSF_OSF then
    let s := s.setTai s.ns ((946684800 + cfg) * 1000000000).toNat
    let s := (s.put Fd.TIME_SRC_STAT_CUR 5).put Fd.TIME_SRC_STAT_STATE 0
    (s.raise Ev.TIME_NO_SOURCE Pg.time []).raise Ev.RTC_OSF Pg.rtc []
  else
    let sec : Int := (s.rtcSec : Int) + 946684800 + cfg
    let s := s.rtcDraw
    let s := s.setTai s.ns (sec * 1000000000 + ((s.rtcSub * 1000000000 / 32768 : Nat) : Int)).toNat
    (s.put Fd.TIME_SRC_STAT_CUR 4).put Fd.TIME_SRC_STAT_STATE 6

/-- PPS_OUT_PULSE, R234. DESIGN CHOICE: log entry 100. -/
def State.ppsOut (s : State) : State :=
  let far := match s.time.ppsAt with | some t => decide (t + 500000000 ≤ s.ns) | none => true
  if s.flag Fd.TIME_PPS_CFG_EN && (!s.flag Fd.TIME_PPS_CFG_LOCKED_ONLY || s.get Fd.TIME_SRC_STAT_STATE == 3) && far then
    { s with time := { s.time with ppsAt := some s.ns, ppsCnt := s.time.ppsCnt + 1 } }
  else s

/-- Time passes by n ns: the slew in progress moves the disciplined time by at most 1 ms/s, R228. DESIGN CHOICE: log
entries 3, 174. -/
def State.timeAdvance (s : State) (n : Nat) : State :=
  let lim : Int := ((n / 1000 : Nat) : Int)
  let step := max (-lim) (min s.time.slew lim)
  let t := ((s.tai : Int) + n + step).toNat
  let s := { s with ns := s.ns + n, time := { s.time with slew := s.time.slew - step } }
  let s := s.setTai s.ns t
  if step = 0 then s else (s.putInt (whole Rg.TIME_SLEW) (sat31 s.time.slew)).timeState

/-- SRC_STAT as read. -/
def State.srcStatWord (s : State) : Word :=
  BitVec.ofNat 32 (s.holdMin * 65536 + s.leapPending * 512 + b2n s.utcSource.isSome * 256 +
    b2n (s.flag Fd.TIME_SRC_SEL_FORCE) * 128 + s.get Fd.TIME_SRC_STAT_STATE * 16 + s.timeCur)

/-- A wait for a step is abandoned, and the selection is made afresh; the source still followed is corrected afresh, R230. -/
def State.abandonWait (s : State) : State :=
  let cur := s.timeCur
  match s.time.wait with
  | none => s.timeReselect
  | some w =>
    let s := { s with time := { s.time with wait := none } }.timeReselect
    if s.timeCur = cur then s.timeCorrect w.latest cur else s

/-- A write of SRC_SEL: FORCED keeps its value for 5 to 7; a wait for a step is abandoned when FORCE is written, R230; a cleared FORCE may fall back at once, R226. -/
def State.srcSelWrite (s : State) (v : Word) : State :=
  let old := s.rd Rg.TIME_SRC_SEL
  let v := if 5 ≤ getF v 24 3 then setF v 24 3 (getF old 24 3) else v
  let s := s.wr Rg.TIME_SRC_SEL (v &&& 0x87FF0333)
  let s := if bitW old 31 || bitW v 31 then s.abandonWait else s.timeReselect
  if s.timeCur = 3 ∧ s.get Fd.TIME_HOLD_CFG_HOLD_MAX ≤ s.holdMin then s.rtcFallback s.holdMin else s

/-! ### The RTC, R215 to R221 -/

/-- The staged set replaced; PENDING shows whether there is one. -/
def State.setStage (s : State) (g : RtcStage) : State :=
  ({ s with rtc := { s.rtc with stage := g } }).put Fd.RTC_STAGE_PENDING (b2n (g != RtcStage.init))

/-- Software writes of SEC and the calendar are refused, R216. -/
def State.rtcHeld (s : State) : Bool := decide (s.timeCur ≤ 2)

/-- A refused set, R220. DEDUCED: log entry 98. -/
def State.rtcReject (s : State) (err : Nat) : State :=
  ((s.put Fd.RTC_STAGE_ERR err).irq Pg.rtc 4).raise Ev.RTC_SET_REJECT Pg.rtc [err]

/-- A write of SEC_LO (with its high byte) stages SEC and discards a staged calendar. -/
def State.rtcStageSec (s : State) (v : Nat) : State :=
  if s.rtcHeld then s.rtcReject 2
  else s.setStage { s.rtc.stage with sec := some (v % 2 ^ 40), date := none, time := none }

/-- A write of CAL_DATE or CAL_TIME stages the calendar and discards a staged SEC. -/
def State.rtcStageDate (s : State) (v : Word) : State :=
  if s.rtcHeld then s.rtcReject 2 else s.setStage { s.rtc.stage with sec := none, date := some (v &&& 0x0FFF0F1F) }

def State.rtcStageTime (s : State) (v : Word) : State :=
  if s.rtcHeld then s.rtcReject 2 else s.setStage { s.rtc.stage with sec := none, time := some (v &&& 0x001F3F3F) }

/-- A write of WEEKDAY; 7 is ignored. -/
def State.rtcStageWday (s : State) (v : Nat) : State :=
  if v = 7 then s else s.setStage { s.rtc.stage with wday := some v }

/-- The staged set is discarded. -/
def State.rtcCancel (s : State) : State := s.setStage RtcStage.init

/-- Seconds of the 400-year cycle, R215. -/
def rtcCycle : Nat := 12622780800

/-- CAL_DATE and CAL_TIME of a SEC value. -/
def rtcDate (sec : Nat) : Word :=
  let (y, m, d) := dateOfDay ((sec % rtcCycle / 86400 : Nat) : Int)
  BitVec.ofNat 32 (y.toNat * 65536 + m.toNat * 256 + d.toNat)

def rtcTime (sec : Nat) : Word :=
  let t := sec % 86400
  BitVec.ofNat 32 (t / 3600 * 65536 + t / 60 % 60 * 256 + t % 60)

/-- SEC of a calendar within the cycle that `counted` lies in, R220; none for a date that does not exist. -/
def rtcFromCal (date time : Word) (counted : Nat) : Option Nat :=
  let y := getF date 16 12
  let m := getF date 8 4
  let d := getF date 0 5
  let hh := getF time 16 5
  let mm := getF time 8 6
  let ss := getF time 0 6
  if 2000 ≤ y ∧ y ≤ 2399 ∧ 1 ≤ m ∧ m ≤ 12 ∧ 1 ≤ d ∧ d ≤ monthDays y m ∧ hh ≤ 23 ∧ mm ≤ 59 ∧ ss ≤ 59 then
    some (counted / rtcCycle * rtcCycle + (dayOfDate y m d).toNat * 86400 + hh * 3600 + mm * 60 + ss)
  else none

/-- SEC takes a new value at a boundary, R218, R220: source 0 software, 1 ENGINE. OSF clears, so that the RTC may be a source
(R225). DEDUCED: log entry 97. -/
def State.rtcApply (s : State) (new src : Nat) : State :=
  let old := s.rtcSec
  let new := new % 2 ^ 40
  let s := s.setRtcSec new
  let s := if old / 86400 ≠ new / 86400 then s.put Fd.RTC_OSF_WDAY_STALE 1 else s
  let s := s.put Fd.RTC_OSF_OSF 0
  let s := (s.irq Pg.rtc 3).raise Ev.RTC_SET Pg.rtc [old % 2 ^ 32, new % 2 ^ 32, src, 0]
  let s := if (s.timeCur = 4 ∨ s.timeCur = 5) ∧ old ≠ new ∧ s.pwr.light = true then
      s.timeStep (((new : Int) - old) * 1000000000) s.timeCur else s
  if s.pwr.light then s.timeReselect else s

/-- The staged set at a boundary, after the boundary's own count, R220. DEDUCED: log entry 98. -/
def State.rtcApplyStage (s : State) : State :=
  let g := s.rtc.stage
  let s := s.setStage RtcStage.init
  let cal : Option (Option Nat) :=
    if g.date.isNone ∧ g.time.isNone then none
    else some (rtcFromCal (g.date.getD (rtcDate s.rtcSec)) (g.time.getD (rtcTime s.rtcSec)) s.rtcSec)
  if cal = some none then
    let s := s.rtcReject 1
    match g.engine with
    | some v => s.rtcApply v 1
    | none => s
  else
    let s := match g.wday with
      | some w => s.put Fd.RTC_WEEKDAY_WDAY w
      | none => s
    let soft := match g.sec, cal with
      | some v, _ => some v
      | none, some (some v) => some v
      | none, _ => none
    let s := match soft with
      | some v => s.rtcApply v 0
      | none => s
    let s := match g.engine with
      | some v => s.rtcApply v 1
      | none => s
    if g.wday.isSome ∧ soft.isNone then
      (s.irq Pg.rtc 3).raise Ev.RTC_SET Pg.rtc [s.rtcSec % 2 ^ 32, s.rtcSec % 2 ^ 32, 0, b2n g.engine.isNone]
    else s

/-- RTC_SECOND: a second boundary, R215, R218, R220; `dev` is the boundary minus the disciplined second in ns, which the
disciplined time follows while CUR is RTC (R226). -/
def State.rtcSecond (s : State) (dev : Int) : State :=
  if s.rtc.stopped.isSome then s
  else
    let sec := (s.rtcSec + 1) % 2 ^ 40
    let s := s.rtcReach (s.rtc.secAt + 1000000000)
    let s := ({ s with rtc := { s.rtc with secAt := s.rtcNow } }).setRtcSec sec
    let s := s.irq Pg.rtc 0
    let s := if sec % 86400 = 0 then
        let w := s.get Fd.RTC_WEEKDAY_WDAY
        (s.put Fd.RTC_WEEKDAY_WDAY (if 6 ≤ w then 0 else w + 1)).irq Pg.rtc 5
      else s
    let s : State := if s.rtc.stage == RtcStage.init then s else s.rtcApplyStage
    if s.timeCur = 4 ∧ s.pwr.light = true ∧ 61000 < dev.natAbs then s.timeCorrect dev 4 else s

/-- The ns of a wake step: 1/256 s (R221). -/
abbrev wakeStep : Nat := 3906250

/-- RTC_CRYSTAL_STOP, R217: OSF sets, also when it was cleared while the crystal stands. DEDUCED: log entry 96. -/
def State.crystalStop (s : State) : State :=
  let s := if s.rtc.stopped.isSome then s
    else
      let s := s.rtcDraw
      { s with rtc := { s.rtc with stopped := some s.rtcSub, wakeHeld := some ((s.rtcNow - s.rtc.wakeAt) / wakeStep) } }
  let s := if s.flag Fd.RTC_OSF_OSF then s else (s.put Fd.RTC_OSF_OSF 1).irq Pg.rtc 2
  if s.timeCur = 4 ∧ s.pwr.light = true then s.timeReselect else s

/-- RTC_CRYSTAL_START, R217: counting resumes from the stopped values; after a COLD reset these are 0. -/
def State.crystalStart (s : State) : State :=
  match s.rtc.stopped with
  | none => s
  | some c =>
    { s with rtc := { s.rtc with
        stopped := none, secAt := s.rtcNow - c * 1000000000 / 32768
        wakeHeld := none, wakeAt := s.rtcNow - s.rtc.wakeHeld.getD 0 * wakeStep } }

/-- The wake timer runs. -/
def State.wakeOn (s : State) : Bool := s.get Fd.RTC_WAKE_CFG_MODE == 1 || s.get Fd.RTC_WAKE_CFG_MODE == 2

/-- WAKE_REM, R221. -/
def State.wakeRem (s : State) : Nat :=
  if !s.wakeOn then 0
  else max 1 (s.get Fd.RTC_WAKE_CFG_COUNT - s.rtc.wakeHeld.getD ((s.rtcNow - s.rtc.wakeAt) / wakeStep))

/-- WAKE_TIMER_EXPIRE, R221: the count has run out, in the light path at the latest by the end of the running tick; the timer
reloads without drift. -/
def State.wakeExpire (s : State) : State :=
  let t := s.rtc.wakeAt + s.get Fd.RTC_WAKE_CFG_COUNT * wakeStep
  if !s.wakeOn || s.rtc.stopped.isSome || (s.pwr.light && decide (s.rtcNow + 1000000 * s.pms < t)) then s
  else
    let s := s.rtcReach t
    let s := { s with rtc := { s.rtc with wakeAt := t }, pwr := { s.pwr with wakeReq := setBitN s.pwr.wakeReq 0 true } }
    let s := if s.get Fd.RTC_WAKE_CFG_MODE = 2 then s.put Fd.RTC_WAKE_CFG_MODE 0 else s
    s.irq Pg.rtc 1

/-- WAKE_CFG_WRITE: COUNT within 1 to 22,118,400; the count restarts at the next step boundary, R221. -/
def State.wakeCfgWrite (s : State) (v : Word) : State :=
  let v := setF (v &&& 0xC1FFFFFF) 0 25 (max 1 (min (getF v 0 25) 22118400))
  let s := (s.wr Rg.RTC_WAKE_CFG v).rtcDraw
  let steps := (s.rtcNow - s.rtc.secAt) / wakeStep + 1
  { s with rtc := { s.rtc with
      wakeAt := s.rtc.secAt + steps * wakeStep, wakeHeld := s.rtc.wakeHeld.map fun _ => 0 } }

/-- TRIM stored within ±2,000. DESIGN CHOICE: log entry 99. -/
def trimClamp (i : Int) : Int := max (-2000) (min i 2000)

/-- RTC_DISCIPLINE, R216: the boundary moves by `cyc` cycles (at most 2), a wrong SEC is corrected through a staged
write for the next boundary, and TRIM takes the hour's measurement when there is one. DESIGN CHOICE: log entry 99. -/
def State.rtcDiscipline (s : State) (cyc : Int) (trim : Option Int) : State :=
  if 2 < s.timeCur ∨ s.get Fd.TIME_SRC_STAT_STATE ≠ 3 ∨ s.rtc.stopped.isSome then s
  else
    let c := max (-2) (min cyc 2)
    let s := { s with rtc := { s.rtc with secAt := ((s.rtc.secAt : Int) + c * 1000000000 / 32768).toNat } }
    let utc := (((s.tai + s.tick.ofs : Nat) - (s.rtcNow - s.rtc.secAt : Nat) + 500000000 : Int) / 1000000000 - s.utcOfs -
      946684800).toNat
    let s := if s.rtcSec = utc then s else s.setStage { s.rtc.stage with engine := some ((utc + 1) % 2 ^ 40) }
    match trim with
    | some t => if s.flag Fd.RTC_TRIM_AUTO then s.putInt Fd.RTC_TRIM_TRIM (trimClamp t) else s
    | none => s

end Sys2Proof.Machine
end

