-- ==== Sys2Proof/Machine/Tick.lean ====
section
/-! DEFINITION. The tick executive within a tick: the Hatch window, overruns and modes, the guard band (R54, R55,
R58 to R62, R66, R416). -/

namespace Sys2Proof.Machine

/-- Edges are being generated and the real-time complex runs. -/
def State.ticking (s : State) : Bool := s.pwr.light && s.tick.booted && !s.pwr.halted

/-- Hatch can run: enabled and not in soft reset. -/
def State.hatchReady (s : State) : Bool := s.flag (Fd.en Pg.hatch) && !s.flag (Fd.srstBusy Pg.hatch)

/-- The page goes on showing OVR_CNT, CLEAN_CNT and MODE as they stand until the guard band (R55). -/
def State.holdOutcome (s : State) : State :=
  if s.tick.shown.isSome then s
  else s.modTick ({ · with shown := some (s.rd Rg.TICK_OVR_CNT, s.rd Rg.TICK_CLEAN_CNT, s.rd Rg.TICK_MODE) })

/-- The page takes the tick's outcome: the counters and the mode show, and the interrupt bits rise (R55). -/
def State.settle (s : State) : State :=
  s.tick.irqs.foldl (fun s b => s.irq Pg.tick b) (s.modTick ({ · with irqs := [], shown := none }))

/-- STATE becomes DEGRADED with a cause, R60. DEDUCED: log entries 27, 28. -/
def State.degrade (s : State) (cause : Nat) : State :=
  let s := (s.put Fd.TICK_MODE_STATE 2).put Fd.TICK_MODE_CAUSE cause
  let s := s.modTick ({ · with degAt := s.tick.num })
  (s.outcomeIrq 2).raise Ev.TICK_DEGRADED Pg.tick [cause]

/-- STATE becomes NORMAL from DEGRADED, R60. DEDUCED: log entries 27, 28. -/
def State.restoreMode (s : State) : State :=
  let s := (s.put Fd.TICK_MODE_STATE 1).put Fd.TICK_MODE_CAUSE 0
  (s.outcomeIrq 3).raise Ev.TICK_RESTORED Pg.tick [s.tick.num - s.tick.degAt]

/-- The counters of an overrun, R58; the next run advances one step more. -/
def State.countOverrun (s : State) : State :=
  let s := ((s.add Fd.TICK_OVR_CNT_TOTAL 1).add Fd.TICK_OVR_CNT_CONSEC 1).put Fd.TICK_CLEAN_CNT_CLEAN 0
  (s.outcomeIrq 1).modTick fun t => { t with k := t.k + 1, overrun := true, winOpen := false }

/-- TICK_HATCH_FLUSH, R59: k would exceed 8. DEDUCED: log entry 29. -/
def State.tickFlush (s : State) : State :=
  let p := s.hatch.pulseCount
  let d := s.hatch.frozen.length + s.hatch.inq.length
  let s := s.hatchDrop.modTick fun t => { t with k := 1, flushed := true }
  (s.outcomeIrq 8).raise Ev.TICK_HATCH_FLUSH Pg.tick [p, d]

/-- HATCH_RUN_START, R72: the run's result is computed here and committed when the run completes. Hatch runs once per
tick (R71). A STANDBY runs once its inputs are frozen (R57). In SAFE_LIGHT mode Hatch does not run (R60, R404). DEDUCED:
log entry 30. -/
def State.hatchStart (s : State) : State :=
  if s.mode == 0 || !s.ticking || !s.tick.winOpen || s.tick.started || s.tick.flushed || s.hatch.run.isSome then s
  else if s.role == 2 && !s.tick.cutGot && !s.tick.ownCut then s
  else if !s.hatchReady then s
  else if 8 < s.tick.k then s.tickFlush
  else
    let r := hatchRun s.hatch.act s.hatchCfg s.tick.k s.hatch.pulses s.hatch.frozen
    let s := ((s.modPair ({ · with frozen := s.hatch.frozen })).modTick ({ · with started := true })).atLeast 500000
    { s with hatch := { s.hatch with run := some r } }.put (Fd.statBit Pg.hatch 8) 1

/-- HATCH_RUN_DONE after `us` µs, R95. -/
def State.hatchDone (s : State) (us : Nat) : State :=
  if s.ticking && s.tick.winOpen then s.hatchCommit us else s

/-- HATCH_WINDOW_END at 0.40 P, R58 to R60: `us` is the run time so far. A tick that R59 flushes is an overrun after which
k stays 1. A SAFE_LIGHT tick is neither clean nor an overrun. FORCE_SCHED counts as it is written at this instant, which
R60 leaves open. DEDUCED: log entries 27, 29, 30. DESIGN CHOICE: log entry 189. -/
def State.windowEnd (s : State) (us : Nat) : State :=
  if !s.ticking || !s.tick.winOpen then s
  else if s.mode = 0 then s.modTick ({ · with winOpen := false })
  else
  let s := s.holdOutcome.atLeast (400000 * s.pms)
  if s.tick.runDone then
    let late := decide (3 ≤ s.get Fd.TICK_OVR_CNT_CONSEC)
    let s := (s.add Fd.TICK_CLEAN_CNT_CLEAN 1).put Fd.TICK_OVR_CNT_CONSEC 0
    let s := s.modTick fun t => { t with k := 1, winOpen := false }
    if s.mode = 1 then if late then s.degrade 1 else s
    else if s.mode = 2 ∧ s.get Fd.TICK_CLEAN_CNT_CLEAN = 50 ∧ s.flag Fd.TICK_MODE_FORCE_SCHED = false ∧
        s.flag (Fd.en Pg.hatch) = true then s.restoreMode
    else s
  else
    let ran := s.hatch.run.isSome
    let k := s.tick.k
    let s := (s.hatchAbort us).countOverrun
    let s := if s.tick.flushed then s.modTick ({ · with k := 1 }) else s
    let n := s.get Fd.TICK_OVR_CNT_CONSEC
    let s := s.raise Ev.TICK_OVERRUN Pg.tick [k, if ran then us else s.hatch.cut, n]
    if s.mode = 1 ∧ 3 ≤ n then s.degrade 1 else s

/-- COMPOSE_START at 0.40 P, R61, R104. -/
def State.composeBegin (s : State) : State :=
  if !s.ticking || s.tick.winOpen || s.tick.composeDone || s.plate.work.isSome || s.flag (Fd.srstBusy Pg.plate) then s
  else if s.mode == 1 && s.tick.overrun then s
  else s.composeStart

/-- COMPOSE_DONE after `us` µs. -/
def State.composeEnd (s : State) (us : Nat) : State := if s.ticking then s.composeDone us else s

/-- TICK_COMPOSE_MISS: compose has not finished by 0.50 P, with `nodes` composed. -/
def State.composeLate (s : State) (nodes : Nat) : State :=
  if s.ticking && s.plate.work.isSome then s.composeMiss nodes else s

/-- TICK_IMP_LATE: the copy has not completed by 0.80 P, with `bytes` copied, R54. -/
def State.impLate (s : State) (bytes : Nat) : State :=
  if s.ticking && s.tick.impBusy then
    ((s.add Fd.TICK_MISS_IMP_LATE 1).outcomeIrq 5).raise Ev.TICK_IMP_LATE Pg.tick [bytes]
  else s

/-- IMP_COPY_COMPLETE: the copy completes and IMP_END is sent, R54, R310. R35 bounds the copy's size and does not give it: a
free value of at most 384 KB. DESIGN CHOICE: log entry 192. -/
def State.impDone (s : State) : State :=
  if s.ticking && s.tick.impBusy then
    let kb := s.fresh.1.toNat % 385
    let s := s.fresh.2.put Fd.PAIR_IMP_STAT_KB kb
    let m : ImpEndMsg :=
      { num := s.tick.num, csum := s.pair.csum, digest := s.pair.digest, kb, ok := true, us := 0
        fv := (List.range 16).map fun b => s.get (Fd.FB_TX_FV_FV b) }
    ((s.modTick ({ · with impBusy := false })).modPair ({ · with endOut := some m })).byellSend 1
  else s

/-- The tick number saved, R66. -/
def State.tickSave (s : State) : State :=
  if s.tick.num % 1024 ≠ 0 then s
  else
    let v : TickSave := ⟨s.tick.num, s.rtcSec⟩
    let c := s.nv.cnt
    let c := if c.tickTurn then { c with tick1 := some v, tickTurn := false } else { c with tick0 := some v, tickTurn := true }
    { s with nv := { s.nv with cnt := c } }

/-- GUARD_BAND at 0.80 P, R55: the tick save (R66), the node copy (R34), test tag requests (R136), the tick's outcome on
the TICK page, the STATUS of a paired module (R310), the core rail's step (R389), the hand-off of records (R381). -/
def State.guardBand (s : State) : State :=
  if !s.ticking then s
  else
    let s := (s.tickSave).copyNode s.node.walkCopy
    let s := { s with node := { s.node with walkCopy := (s.node.walkCopy + 1) % 4096 } }
    let s := (List.range 16).foldl State.keyTest s
    (s.settle.atLeast (800000 * s.pms)).statusSend.avsGuard.recHandOff

/-- RT_HALT, R416: only at debug level FULL. A tick whose window is open counts as an overrun; a run or a compose in
progress ends without trace. The overrun raises no TICK_OVERRUN, here as at the edges of a halt: the spec leaves the event
open. DEDUCED: log entry 34. DESIGN CHOICE: log entry 190. -/
def State.rtHalt (s : State) : State :=
  if s.pwr.halted || s.get Fd.DBG_LEVEL_CUR != 2 then s
  else
    let s := { s with pwr := { s.pwr with halted := true } }
    let s := { s with plate := { s.plate with work := none } }.put (Fd.statBit Pg.plate 8) 0
    let s := s.modTick ({ · with composeDone := false })
    if s.pwr.light && s.tick.booted && s.tick.winOpen then s.hatchStop.holdOutcome.countOverrun else s

/-- RT_RESUME: the executive goes on at the next edge, and the real-time watchdog starts a full period, R416. DEDUCED:
log entry 34. -/
def State.rtResume (s : State) : State :=
  if s.pwr.halted then
    { s with pwr := { s.pwr with halted := false, kicks := Tab.set (fun _ => 0) s.pwr.kicks 0 s.ns } }
  else s

/-! ### At an edge -/

/-- E of R65: whole periods in the RTC seconds since the save. DESIGN CHOICE: log entry 32. -/
def State.bootTicks (s : State) (v : TickSave) : Nat :=
  if s.flag Fd.RTC_OSF_OSF then 0 else (s.rtcSec - v.rtc) * 1000 / s.pms

/-- The valid saved copy with the larger number, R66. -/
def NvCount.tickSaved (c : NvCount) : TickSave :=
  match c.tick0, c.tick1 with
  | some a, some b => if b.num < a.num then a else b
  | some a, none => a
  | none, some b => b
  | none, none => ⟨0, 0⟩

/-- TICK_NUM_JUMP. DESIGN CHOICE: log entry 32. DEDUCED: log entry 184. -/
def State.numJump (s : State) (old new : Nat) : State :=
  (s.modTick ({ · with num := new })).raise Ev.TICK_NUM_JUMP Pg.tick
    [old % 2 ^ 32, old / 2 ^ 32, new % 2 ^ 32, new / 2 ^ 32]

/-- The tick number at an edge, R65: +1, the boot jump, or the jump of pair alignment. DEDUCED: log entry 184. -/
def State.edgeNumber (s : State) : State :=
  if !s.tick.booted then
    let v := s.nv.cnt.tickSaved
    let e := match s.nv.cnt.tick0, s.nv.cnt.tick1 with
      | none, none => 0
      | _, _ => s.bootTicks v
    (s.numJump v.num ((v.num + 1024 + e) % 2 ^ 64)).modTick ({ · with booted := true })
  else
    let n := (s.tick.num + 1) % 2 ^ 64
    let r := s.pairAlign n
    if r.1 = n then r.2.modTick ({ · with num := n }) else r.2.numJump s.tick.num r.1

/-- PHASE_ERR, PHASE_MAX, PHASE_OK and the alarm of R68; `err` is the edge time minus the aligned instant in ns.
DEDUCED: log entry 35. -/
def State.edgePhase (s : State) (err : Int) : State :=
  let e := sat31 err
  let ok := decide (e.natAbs ≤ 1000)
  let locked := s.get Fd.TIME_SRC_STAT_STATE == 3
  let s := s.putInt (whole Rg.TICK_PHASE_ERR) e
  let s := s.put (whole Rg.TICK_PHASE_MAX) (max (s.rd Rg.TICK_PHASE_MAX).toNat e.natAbs)
  let s := s.modTick fun t => { t with
    okEdges := if ok then t.okEdges + 1 else 0, badEdges := if ok || !locked then 0 else t.badEdges + 1
    armed := t.armed || (ok && decide (31 ≤ t.okEdges + 1)) }
  let s := s.put Fd.TICK_STAT_PHASE_OK (b2n (decide (16 ≤ s.tick.okEdges)))
  if 16 ≤ s.tick.badEdges ∧ s.tick.armed = true then
    ((s.modTick ({ · with armed := false })).irq Pg.tick 7).raise Ev.TICK_PHASE_ALARM Pg.tick [pInt e]
  else s

/-- Stages 4, 7, 8 and 9 have passed or been settled by their actions, and stage 9 is not bypassed, R402, R405.  The
empty graph, the action of stage 8, is in force as soon as that stage fails. -/
def State.mayLeaveSafe (s : State) : Bool :=
  s.pwr.leave && !s.pwr.noSched && [4, 7, 8, 9].all fun n =>
    Tab.get (fun _ => 0) s.pwr.results n == 1 || Tab.get (fun _ => 0) s.pwr.taken n != 0 ||
      (n == 8 && Tab.get (fun _ => 0) s.pwr.results n == 2)

/-- Changes of mode at an edge, R60, R405. DEDUCED: log entry 27. -/
def State.edgeModes (s : State) : State :=
  let force := s.flag Fd.TICK_MODE_FORCE_SCHED
  let was := s.tick.forced
  let en := s.flag (Fd.en Pg.hatch)
  let s := s.modTick ({ · with forced := force })
  let out := fun (s : State) => if force then s.degrade 2 else if en then s else s.degrade 3
  if s.mode = 0 then if s.mayLeaveSafe then out (s.put Fd.TICK_MODE_STATE 1) else s
  else if s.mode = 1 then out s
  else if was && !force && en && decide (50 ≤ s.get Fd.TICK_CLEAN_CNT_CLEAN) then s.restoreMode
  else s

/-- The time steps of the tick just ended, R64: `us` is its length. DEDUCED: log entry 33. -/
def State.edgeSteps (s : State) (us : Nat) : State :=
  let l := s.tick.steps
  let s := (s.modTick ({ · with steps := [] })).put Fd.TICK_STAT_REALIGN 0
  l.foldl (fun s d => s.raise Ev.TICK_REALIGN Pg.tick [pInt d, us]) s

end Sys2Proof.Machine
end

