-- ==== Sys2Proof/Machine/Update.lean ====
section
/-! DEFINITION. The update chain: offers, the container, distribution to nodes, activation, the loader, confirmation (R355 to
R377). -/

namespace Sys2Proof.Machine

/-- The campaign replaced through a function. -/
def State.modUpd (s : State) (f : UpdNv → UpdNv) : State := { s with nv := { s.nv with upd := f s.nv.upd } }

/-- STAGE.STATE takes its value, with the interrupt bit of a change (R377). -/
def State.updTo (s : State) (st : Nat) : State :=
  if s.nv.upd.state = st then s else (s.modUpd fun u => { u with state := st }).irq Pg.upd 0

/-! ### The container (R355, R356) -/

/-- Byte i of the container as held. -/
def UpdNv.byte (u : UpdNv) (i : Nat) : Nat := byteAt (Tab.get (fun _ => []) u.held (i / 1024)) (i % 1024)

/-- `n` bytes of the container from `i` on. -/
def UpdNv.bytes (u : UpdNv) (i n : Nat) : List Nat := (List.range n).map fun k => u.byte (i + k)

/-- Chunks of the container. -/
def UpdNv.chunks (u : UpdNv) : Nat := (u.contLen + 1023) / 1024

/-- Chunk c is held. -/
def UpdNv.has (u : UpdNv) (c : Nat) : Bool := (Tab.get (fun _ => []) u.held c) != []

/-- Every chunk is held. -/
def UpdNv.full (u : UpdNv) : Bool := decide (u.chunks ≤ u.held.length)

/-- NEXT: the first chunk not held (R359). -/
def UpdNv.next (u : UpdNv) : Nat := ((List.range u.chunks).find? fun c => !u.has c).getD u.chunks

/-- MAP: the 32 bytes of R359, bit i counted from the most significant bit of the first byte. -/
def UpdNv.map (u : UpdNv) : List Nat :=
  (List.range 32).map fun b => ((List.range 8).map fun k =>
    if u.has (u.next + 1 + 8 * b + k) then 2 ^ (7 - k) else 0).sum

/-- A 64 KB block is held whole (R363). DEDUCED: log entry 168. -/
def UpdNv.block (u : UpdNv) (b : Nat) : Bool :=
  (List.range 64).all fun k => u.has (64 * b + k) || decide (u.chunks ≤ 64 * b + k)

/-- BITMAP_STAT. -/
def UpdNv.bitmapWord (u : UpdNv) : Word :=
  let n := (u.contLen + 65535) / 65536
  BitVec.ofNat 32 (((List.range n).filter u.block).length * 65536 + n % 65536)

/-- Container bytes 0 to 4,095 from four header chunks. -/
def hdrBytes (h : Tab (List Nat)) : List Nat :=
  (List.range 4).flatMap fun c => (List.range 1024).map fun k => byteAt (Tab.get (fun _ => []) h c) k

/-- SEQ of a header. -/
def hdrSeq (h : List Nat) : Nat := leAt h 16 8

/-- Check 1 of R358. -/
def hdrFormatOk (h : List Nat) : Bool :=
  leAt h 0 4 == 0x4C584931 && leAt h 4 2 == 1 && decide (1 ≤ byteAt h 8 ∧ byteAt h 8 ≤ 21) &&
  decide (8192 ≤ leAt h 24 8 ∧ leAt h 24 8 ≤ 2 ^ 31) &&
  (List.range 3).all (fun k => byteAt h (9 + k) == 0) && (List.range 48).all (fun k => byteAt h (80 + k) == 0) &&
  (List.range 563).all fun k => byteAt h (3533 + k) == 0

/-- Bytes of the campaign spare partition (R31). -/
def spareBytes : Nat := 2314 * 2 ^ 20

/-- The checks of R358 that a header meets, in table order: 0 when it passes. DEDUCED: log entry 163. -/
def State.hdrCheck (s : State) (h : List Nat) : Nat :=
  let u := s.nv.upd
  let msg := h.take 128
  let k := (s.key 12).mat
  if !hdrFormatOk h then 1
  else if leAt h 6 2 ≠ 0x4096 then 2
  else if leAt h 12 4 < u.ledger then 3
  else if hdrSeq h ≤ u.runSeq ∨ (2 ≤ u.state ∧ hdrSeq h < u.seq) then 4
  else if spareBytes < leAt h 24 8 + (if 2 ≤ u.state ∨ u.keptAt.isSome then u.contLen else 0) ∧
      !(2 ≤ u.state ∧ u.state ≤ 5 ∧ u.seq ≤ hdrSeq h) then 5
  else if s.slotRefusal 12 5 ≠ 0 then 6
  else if !ecVerify (ecHalf k) msg ((h.drop 128).take 96) then 7
  else if !dsaVerify (pqHalf k) msg ((h.drop 224).take 3309) then 8
  else if u.conflict = some (hdrSeq h) then 9
  else if 6 ≤ u.state then 10
  else 0

/-- Manifest entry i of the region, R356. -/
def manEntry (m : List Nat) (i : Nat) : ManEntry :=
  let o := 80 * i
  { kind := byteAt m o, ntype := byteAt m (o + 1) % 16, version := leAt m (o + 4) 4, offset := leAt m (o + 8) 8
    length := leAt m (o + 16) 8, digest := (m.drop (o + 24)).take 48 }

/-- Two payloads overlap. -/
def ManEntry.meets (a b : ManEntry) : Bool :=
  a.length != 0 && b.length != 0 && decide (a.offset < b.offset + b.length ∧ b.offset < a.offset + a.length)

/-- No two of a list overlap. -/
def manDisjoint : List ManEntry → Bool
  | [] => true
  | e :: t => !t.any e.meets && manDisjoint t

/-- The manifest's rules of R356. DEDUCED: log entry 162. -/
def manOk (m : List ManEntry) (contLen : Nat) : Bool :=
  let cnt := fun k => (m.filter fun e => e.kind == k).length
  m.all (fun e => decide (1 ≤ e.kind ∧ e.kind ≤ 6)) &&
  ((List.range 4).all (fun k => cnt (k + 1) == 1) || (List.range 4).all (fun k => cnt (k + 1) == 0)) &&
  decide (cnt 5 ≤ 1) && m.all (fun e => e.kind != 5 || e.length == 0) &&
  (List.range 16).all (fun t => decide ((m.filter fun e => e.kind == 6 && e.ntype == t).length ≤ 1)) &&
  m.all (fun e => e.length == 0 || (e.offset % 4096 == 0 && decide (8192 ≤ e.offset ∧ e.offset + e.length ≤ contLen))) &&
  manDisjoint m &&
  decide (((m.filter fun e => decide (e.kind ≤ 4)).map (·.length)).sum ≤ 512 * 2 ^ 20)

/-- The container holds module parts. -/
def UpdNv.module (u : UpdNv) : Bool := u.man.any fun e => decide (e.kind ≤ 4)

/-- The module image: the payloads of kinds 1 to 4 in manifest order. -/
def UpdNv.image (u : UpdNv) : List Nat := (u.man.filter fun e => decide (e.kind ≤ 4)).flatMap fun e => u.bytes e.offset e.length

/-- A unit of the exchange (R372), 256 KB. -/
def unitBytes : Nat := 262144

/-- Units of the module image. -/
def UpdNv.units (u : UpdNv) : Nat :=
  (((u.man.filter fun e => decide (e.kind ≤ 4)).map (·.length)).sum + unitBytes - 1) / unitBytes

/-- The module image copied to staging A (R357, R364). -/
def UpdNv.stage (u : UpdNv) : UpdNv :=
  { u with stgA := ((pieces unitBytes u.units u.image).zipIdx).map fun p => (p.2, p.1) }

/-- Unit i exchanged (R372): the running unit goes to staging B and staging A's takes its place; the swap-back puts the prior
unit back (R373). -/
def UpdNv.exchange (u : UpdNv) (i : Nat) : UpdNv :=
  let put := fun (t : Tab (List Nat)) (v : List Nat) => Tab.set (fun _ => []) t i v
  let old := Tab.get (fun _ => []) u.run i
  if u.back then
    if u.stgB.any (fun e => e.1 == i) then
      { u with run := put u.run (Tab.get (fun _ => []) u.stgB i), stgB := put u.stgB old, done := i + 1 }
    else { u with done := i + 1 }
  else { u with stgB := put u.stgB old, run := put u.run (Tab.get (fun _ => []) u.stgA i), done := i + 1 }

/-- The rest of an exchange, unit by unit. -/
def UpdNv.exchangeRest (u : UpdNv) : UpdNv :=
  { (List.range (u.total - u.done)).foldl (fun v i => v.exchange (u.done + i)) u with running := false }

/-! ### Messages (R359 to R362) -/

/-- STATUS of this module's BULK_ACK; a member of a pair reports RUNNING_NEW once it has re-formed (R371). -/
def State.updStatus (s : State) : Nat :=
  let u := s.nv.upd
  if u.state = 1 ∨ u.state = 2 ∨ u.state = 3 then 0
  else if u.state = 4 then 3
  else if u.state = 5 ∨ u.state = 6 then 4
  else if u.state = 7 then if u.confirmed && u.module then 6 else if s.role = 0 then 4 else 5
  else if u.state = 8 ∨ u.cause ≠ 0 then 7 else 6

/-- A big-endian field of a payload. -/
def beAt (l : List Nat) (i n : Nat) : Nat := ofBe ((l.drop i).take n)

/-- The session that a source's messages come on: head-end peers 1 to 4, upstream 5, partner 6 (R361). -/
def srcPeer (src : Nat) : Nat := if src = 6 then 6 else src - 1

/-- A bulk message of type `typ` on the session with a peer, its payload at least n bytes (R359): it counts for R269, and a
wrong one of a head-end is answered with ERROR (R265). DEDUCED: log entry 120. -/
def State.bulkFrom (s : State) (peer typ n : Nat) (m : List Nat) (f : List Nat → State → State) : State :=
  match s.sess peer with
  | none => s
  | some _ =>
    let s := s.heardPeer peer
    let err := fun (q c : Nat) => if peer < 4 then s.lspOut peer (lspError q c) else s
    match lspParse m with
    | none => err 0 3
    | some p =>
      if p.ver ≠ 1 then err p.reqId 1
      else if p.typ ≠ typ then err p.reqId 2
      else if p.len ≠ p.body.length ∨ p.len < n ∨ 1184 < p.len then err p.reqId 3
      else f p.body s

/-- A BULK_ACK goes to a source on a stream (R359): STATUS, REASON, NEXT and MAP. -/
def State.bulkReply (s : State) (src stream status reason : Nat) : State :=
  match s.sess (srcPeer src) with
  | none => s
  | some _ =>
    let u := s.nv.upd
    let key := src * 2 ^ 32 + stream
    let n := Tab.get (fun _ => 0) s.upd.ackSeq key + 1
    let m := lspBytes 0x22 0 n (beBytes 4 stream ++ [status, reason, 0, 0] ++ beBytes 4 u.next ++ u.map)
    let s := { s with upd := { s.upd with ack := some (src, m), ackSeq := Tab.set (fun _ => 0) s.upd.ackSeq key n } }
    (s.modUpd fun u => if u.ackTo = (src, stream) then { u with told := status } else u).lspOut (srcPeer src) m

/-- A BULK_ACK at a change of STATUS (R360). -/
def State.ackChange (s : State) : State :=
  let u := s.nv.upd
  if u.ackTo.1 = 0 ∨ s.updStatus = u.told ∨ s.sess (srcPeer u.ackTo.1) = none then s
  else
    let s := s.bulkReply u.ackTo.1 u.ackTo.2 s.updStatus (if s.updStatus = 7 then u.cause else 0)
    if u.state = 0 then s.modUpd fun u => { u with ackTo := (0, 0) } else s

/-- A stream this module sources. -/
def State.relay (s : State) (k : Nat) : UpdRelay := Tab.get (fun _ => UpdRelay.init) s.upd.relay k

/-- A stream this module sources, replaced. -/
def State.setRelay (s : State) (k : Nat) (r : UpdRelay) : State :=
  { s with upd := { s.upd with relay := Tab.set (fun _ => UpdRelay.init) s.upd.relay k r } }

/-- A message leaves on a stream this module sources; SEQ numbers them from 1 (R359). -/
def State.bulkSend (s : State) (k typ : Nat) (body : List Nat) : State :=
  let r := s.relay k
  let m := lspBytes typ 0 (r.seq + 1) body
  (s.setRelay k { r with seq := r.seq + 1, out := r.out ++ [m] }).lspOut k m

/-- A BULK_CLOSE goes out on a stream, at once or when its session is up; a STANDBY's REVERT takes the stream it receives. -/
def State.bulkClose (s : State) (k reason : Nat) : State :=
  let r := s.relay k
  let u := s.nv.upd
  if r.opens = 0 ∧ k ≠ 6 then s
  else match s.sess k with
    | none => s.setRelay k { r with due := some reason }
    | some _ =>
      (s.setRelay k { r with due := none }).bulkSend k 0x23
        (beBytes 4 (r.stream.getD (if u.ackTo.1 = 6 then u.ackTo.2 else 0)) ++ [reason, 0, 0, 0] ++
          beBytes 8 (if reason = 2 then u.actTick.getD 0 else 0))

/-- BULK_OPEN goes out (R362): to the downstream neighbour (5), or to the partner (6) when ACTIVE.  The STREAM number is the
source's choice. DESIGN CHOICE: log entry 213. -/
def State.bulkOffer (s : State) (k : Nat) : State :=
  let may := if k = 5 then s.transmits else k == 6 && s.role == 1
  let u := s.nv.upd
  if !may || !s.flag Fd.UPD_CFG_RELAY_EN || u.man.isEmpty || (s.sess k).isNone then s
  else
    let r := s.relay k
    let q := s.fresh
    let st := r.stream.getD q.1.toNat
    (q.2.setRelay k { r with stream := some st, opens := r.opens + 1, sent := 0 }).bulkSend k 0x20
      (beBytes 4 st ++ beBytes 8 u.contLen ++ beBytes 8 u.seq ++ beBytes 8 u.deadline ++ beBytes 8 u.actAt ++ [0, 0, 0, 0])

/-- BULK_OPEN_RESEND: every 60 s until the receiver is STAGED or later. DEDUCED: log entry 170. -/
def State.bulkOpenResend (s : State) (k : Nat) : State :=
  let st := (s.relay k).status
  if 3 ≤ st ∧ st ≤ 6 then s else s.bulkOffer k

/-- The receiver holds chunk c, as its latest BULK_ACK says (R359). -/
def UpdRelay.holds (r : UpdRelay) (c : Nat) : Bool :=
  decide (c < r.next) ||
    (decide (r.next < c) && (byteAt r.map ((c - r.next - 1) / 8)).testBit (7 - (c - r.next - 1) % 8))

/-- BULK_DATA of chunk c goes out. -/
def State.bulkChunk (s : State) (k c : Nat) : State :=
  let d := Tab.get (fun _ => []) s.nv.upd.held c
  s.bulkSend k 0x21 (beBytes 4 ((s.relay k).stream.getD 0) ++ beBytes 4 c ++ beBytes 2 d.length ++ List.replicate 6 0 ++ d)

/-- The chunks that may go out now: held here, not by the receiver, at most 64 beyond NEXT (R360, R362). -/
def State.bulkPump (s : State) (k : Nat) : State :=
  let r := s.relay k
  let u := s.nv.upd
  if r.status ≠ 0 ∨ s.sess k = none then s
  else
    let lo := max r.sent r.next
    let l := ((List.range (min (r.next + 64) u.chunks - lo)).map (lo + ·)).takeWhile u.has
    let s := (l.filter fun c => !r.holds c).foldl (fun s c => s.bulkChunk k c) s
    s.setRelay k { s.relay k with sent := lo + l.length }

/-- BULK_CHUNK_RESEND: a chunk still missing 200 ms after it was sent. DEDUCED: log entry 170. -/
def State.bulkChunkResend (s : State) (k c : Nat) : State :=
  let r := s.relay k
  if c < r.sent ∧ r.holds c = false ∧ s.nv.upd.has c ∧ (s.sess k).isSome then s.bulkChunk k c else s

/-! ### Node commands of the campaign (R367, R368) -/

/-- A node update operation is queued for a table index. -/
def State.updJob (s : State) (i op : Nat) (args : List Nat) : State :=
  s.addJob (i / 256) { kind := .update, op := op, addr := i % 256, args := args }

/-- Targets replaced through a function. -/
def State.modTargets (s : State) (f : UpdTarget → UpdTarget) : State :=
  s.modUpd fun u => { u with targets := u.targets.map f }

/-- A target fails, R367. -/
def State.targetFail (s : State) (i status : Nat) : State :=
  (s.modTargets fun t => if t.index = i then { t with failed := true } else t).raise Ev.UPD_NODE_FAIL Pg.upd
    [i / 256, i % 256, status]

/-- A target runs the new image: its FW_VER is the manifest VERSION (R356, R374). -/
def State.targetNew (s : State) (t : UpdTarget) : Bool :=
  match s.nv.upd.man[t.entry]? with
  | some e => (s.nodeAt t.index).ident.fwVer == e.version
  | none => false

/-- TARGETS (R377). -/
def State.updTargetsWord (s : State) : Word :=
  let u := s.nv.upd
  let ready := u.targets.filter fun t =>
    if u.state ≤ 4 then t.verified else if u.state = 5 then t.armed else s.targetNew t
  BitVec.ofNat 32 (u.targets.length * 65536 + ready.length)

/-- The targets of R367. -/
def State.updTargets (s : State) (m : List ManEntry) : List UpdTarget :=
  s.node.table.filterMap fun (i, n) =>
    match (List.range m.length).find? fun k => match m[k]? with
      | some e => e.kind == 6 && e.ntype == n.ident.ntype && e.version != n.ident.fwVer
      | none => false with
    | some k => if n.ident.state = 4 ∧ n.dyn.link % 2 = 0 then some { index := i, entry := k } else none
    | none => none

/-! ### Abort and refusal (R358, R366) -/

/-- The offer of a source is no longer being received. -/
def State.dropOffer (s : State) (src : Nat) : State :=
  let l := s.upd.offers.filter fun o => o.src != src
  let s := { s with upd := { s.upd with offers := l } }
  if s.nv.upd.state = 1 ∧ l = [] then s.updTo 0 else s

/-- An offer is refused; the campaign stays. -/
def State.updRefuse (s : State) (o : UpdOffer) (code seq : Nat) : State :=
  let s := (s.dropOffer o.src).modUpd fun u => { u with cause := code }
  ((s.irq Pg.upd 1).raise Ev.UPD_REFUSED Pg.upd [code, seq % 2 ^ 32, o.src]).bulkReply o.src o.stream 1 code

/-- The campaign is over: its space and staging are free (R366, R374). -/
def UpdNv.ended (u : UpdNv) : UpdNv :=
  { u with man := [], held := [], targets := [], actTick := none, contLen := 0, done := 0, total := 0, back := false
           running := false, partner := 255, downstream := 255, keptAt := none, mateNew := false, stgA := [], stgB := [] }

/-- An abort with its cause, R366. -/
def State.updAbort (s : State) (cause : Nat) : State :=
  let u := s.nv.upd
  let seq := if u.state = 1 then ((s.upd.offers.head?).map (·.seq)).getD 0 else u.seq
  let s := u.targets.foldl (fun s t => if t.begun || t.armed then s.updJob t.index 0x32 [t.entry + 1] else s) s
  let s := (s.bulkClose 5 1).bulkClose 6 1
  let s := { s with upd := { s.upd with stream := none, dist := [], offers := if u.state = 1 then [] else s.upd.offers } }
  let s := s.modUpd fun u => { u.ended with cause := cause, source := 0 }
  (((s.updTo 0).irq Pg.upd 2).raise Ev.UPD_ABORT Pg.upd [cause, seq % 2 ^ 32]).ackChange

/-! ### Offers (R358, R361, R365) -/

/-- The module may take an offer from source `src` (1 to 4 head-end, 5 upstream, 6 partner), R361. -/
def State.mayOffer (s : State) (src : Nat) : Bool :=
  if s.role = 2 ∨ s.role = 3 ∨ s.role = 5 then src == 6 else decide (1 ≤ src ∧ src ≤ 5)

/-- A valid offer opens a campaign. -/
def State.updOpen (s : State) (o : UpdOffer) (h : List Nat) : State :=
  let s := s.modUpd fun u => { u.ended with
    cause := 0, source := o.src, ackTo := (o.src, o.stream), told := 255, seq := hdrSeq h, contLen := leAt h 24 8, deadline := o.deadline, actAt := o.actAt
    minLedger := leAt h 12 4, manDigest := (h.drop 32).take 48, held := o.hdr
    confirmed := u.confirmed, boots := u.boots
    conflict := match u.conflict with
      | some c => if c < hdrSeq h then none else some c
      | none => none }
  let s := { s with upd := { s.upd with
    stream := some (o.src, o.stream), got := 4, offers := s.upd.offers.filter (fun x => x.src != o.src), dist := [], relay := [] } }
  ((s.updTo 2).raise Ev.UPD_OFFER Pg.upd [hdrSeq h % 2 ^ 32, o.src, leAt h 24 8 / 1024]).bulkReply o.src o.stream 0 0

/-- The header of an offer is complete: R358, then R365. DEDUCED: log entry 163. -/
def State.updOffered (s : State) (o : UpdOffer) : State :=
  let h := hdrBytes o.hdr
  let u := s.nv.upd
  let code := s.hdrCheck h
  let same := u.state ≠ 0 ∧ u.state ≠ 1 ∧ hdrSeq h = u.seq
  let differs := u.manDigest != (h.drop 32).take 48
  let conflict := fun (s : State) => (s.irq Pg.upd 4).raise Ev.UPD_CONFLICT Pg.upd [u.seq % 2 ^ 32, u.source, o.src]
  if code = 10 ∧ same ∧ differs ∧ u.state ≠ 8 then conflict (s.updRefuse o 10 (hdrSeq h))
  else if code ≠ 0 then s.updRefuse o code (hdrSeq h)
  else if same then
    if differs then
      let s := ((conflict (s.dropOffer o.src)).updAbort 9).modUpd fun v => { v with conflict := some u.seq }
      s.bulkReply o.src o.stream 1 9
    else (s.dropOffer o.src).bulkReply o.src o.stream 2 0
  else if 2 ≤ u.state then (s.updAbort 17).updOpen o h
  else s.updOpen o h

/-- BULK_OPEN from a source.  The campaign in progress resumes when its stream has closed (R363), and is answered with its
STATUS when it is offered again by its source, or by the partner once it is staged here (R360). DEDUCED: log entry 163. -/
def State.bulkOpen (s : State) (src : Nat) (b : List Nat) : State :=
  let stream := beAt b 0 4
  let contLen := beAt b 4 8
  let seq := beAt b 12 8
  let o : UpdOffer := ⟨src, stream, seq, beAt b 20 8, beAt b 28 8, []⟩
  let u := s.nv.upd
  let same := u.seq == seq && u.contLen == contLen
  if !s.mayOffer src then s
  else if o.actAt ≠ 0 ∧ o.actAt < o.deadline + 300 then s.updRefuse o 12 seq
  else if 2 ≤ u.state ∧ u.state ≤ 5 ∧ same ∧ (s.upd.stream.isNone ∨ s.upd.stream = some (src, stream)) then
    let s := if u.state = 2 ∧ s.upd.stream.isNone then
        s.raise Ev.UPD_RESUMED Pg.upd [2, (u.bitmapWord.toNat / 65536)] else s
    let s := { s with upd := { s.upd with stream := some (src, stream) } }
    (s.modUpd fun u => { u with source := src, ackTo := (src, stream) }).bulkReply src stream s.updStatus 0
  else if 4 ≤ u.state ∧ same ∧ (u.source = src ∨ src = 6) then
    (s.modUpd fun u => { u with ackTo := (src, stream) }).bulkReply src stream s.updStatus 0
  else
    let s := { s with upd := { s.upd with offers := s.upd.offers.filter (fun (x : UpdOffer) => x.src != src) ++ [o] } }
    (if u.state = 0 then s.updTo 1 else s).bulkReply src stream 0 0

/-- The manifest is complete (R356, R358): the campaign goes on, or aborts; its targets are fixed and it is offered
on. DEDUCED: log entry 162. -/
def State.updManifest (s : State) : State :=
  let u := s.nv.upd
  let region := u.bytes 4096 4096
  let n := u.byte 8
  let m := (List.range n).map (manEntry region)
  if sha384 region ≠ u.manDigest ∨ !manOk m u.contLen ∨
      (List.range (4096 - 80 * n)).any (fun k => byteAt region (80 * n + k) != 0) then s.updAbort 11
  else if s.pair.paired && m.any (fun e => decide (e.kind ≤ 4)) && !m.any (fun e => e.kind == 5) then s.updAbort 13
  else
    let s := s.modUpd fun u => { u with man := m, targets := s.updTargets m }
    (s.bulkOffer 5).bulkOffer 6

/-- BULK_ACK_SEND: the receiver answers its source (R360). -/
def State.bulkAckSend (s : State) : State :=
  match s.upd.stream with
  | some (src, stream) => s.bulkReply src stream s.updStatus (if s.updStatus = 7 then s.nv.upd.cause else 0)
  | none => s

/-- A chunk is held; with the eighth the manifest is checked, with the last the verification starts. -/
def State.bulkHold (s : State) (c : Nat) (data : List Nat) : State :=
  let s := s.modUpd fun u => { u with held := Tab.set (fun _ => []) u.held c data }
  let s := if s.nv.upd.man.isEmpty && (List.range 8).all s.nv.upd.has then s.updManifest else s
  let s := if s.nv.upd.state = 2 ∧ !s.nv.upd.man.isEmpty ∧ s.nv.upd.full then s.updTo 3 else s
  (s.bulkPump 5).bulkPump 6

/-- A chunk of the campaign arrives (R358, R363): it is held, answered every 16 chunks, and goes on to the receivers. -/
def State.bulkStore (s : State) (c : Nat) (data : List Nat) : State :=
  let u := s.nv.upd
  if u.chunks ≤ c ∨ (u.man.isEmpty ∧ 8 ≤ c) ∨ data.length ≠ min 1024 (u.contLen - 1024 * c) then s
  else
    let s := { s with upd := { s.upd with got := s.upd.got + 1 } }
    let s := if u.has c then s else s.bulkHold c data
    if s.upd.got % 16 = 0 then s.bulkAckSend else s

/-- BULK_DATA from a source, R358, R359, R363: a chunk of a header, or of the campaign's container. -/
def State.bulkData (s : State) (src : Nat) (b : List Nat) : State :=
  let stream := beAt b 0 4
  let c := beAt b 4 4
  let data := (b.drop 16).take (beAt b 8 2)
  match s.upd.offers.find? fun o => o.src == src && o.stream == stream with
  | some o =>
    if 4 ≤ c ∨ data.length ≠ 1024 then s
    else
      let o := { o with hdr := Tab.set (fun _ => []) o.hdr c data }
      let s := { s with upd := { s.upd with offers := s.upd.offers.map fun x => if x.src = src then o else x } }
      if o.hdr.length = 4 then s.updOffered o else s
  | none => if s.upd.stream ≠ some (src, stream) ∨ s.nv.upd.state ≠ 2 then s else s.bulkStore c data

/-- BULK_STREAM_TIMEOUT: no BULK_DATA for 30 s. DEDUCED: log entry 170. -/
def State.bulkTimeout (s : State) : State :=
  let s := { s with upd := { s.upd with stream := none, offers := [] } }
  if s.nv.upd.state = 1 then s.updTo 0 else s

/-- UPD_VERIFY_DONE, R364: payload digests, the copy to staging A, STAGED. -/
def State.updVerified (s : State) : State :=
  let u := s.nv.upd
  if u.state ≠ 3 then s
  else if u.man.any fun e => e.kind != 5 && sha384 (u.bytes e.offset e.length) != e.digest then s.updAbort 14
  else
    (((s.modUpd UpdNv.stage).updTo 4).raise Ev.UPD_STAGED Pg.upd
      [u.seq % 2 ^ 32, (u.targets.filter fun t => t.verified).length]).ackChange

/-! ### Distribution on a bus (R367) -/

/-- The node components in manifest order. -/
def UpdNv.nodeParts (u : UpdNv) : List (Nat × ManEntry) :=
  (List.range u.man.length).filterMap fun k => match u.man[k]? with
    | some e => if e.kind = 6 then some (k, e) else none
    | none => none

def State.dist (s : State) (b : Nat) : UpdDist := Tab.get (fun _ => UpdDist.init) s.upd.dist b

def State.setDist (s : State) (b : Nat) (d : UpdDist) : State :=
  { s with upd := { s.upd with dist := Tab.set (fun _ => UpdDist.init) s.upd.dist b d } }

/-- The targets of a component on a bus that have not failed. -/
def State.distTargets (s : State) (b k : Nat) : List UpdTarget :=
  s.nv.upd.targets.filter fun t => t.index / 256 == b && t.entry == k && !t.failed

/-- The data frame of a chunk of a component. -/
def UpdNv.bulkFrameOf (u : UpdNv) (k : Nat) (e : ManEntry) (addr c : Nat) : BulkOut :=
  let n := (e.length + 55) / 56
  { addr := addr, stream := k + 1, chunk := c, last := decide (c + 1 = n), ackReq := false
    data := u.bytes (e.offset + 56 * c) (min 56 (e.length - 56 * c)) }

/-- The arguments of UPD_BEGIN, R368. -/
def beginArgs (k : Nat) (e : ManEntry) : List Nat := [k + 1] ++ leBytes 4 e.length ++ leBytes 4 e.version ++ e.digest

/-- The payload of a component is held. DEDUCED: log entry 164. -/
def UpdNv.holds (u : UpdNv) (e : ManEntry) : Bool :=
  (List.range ((e.length + 1023) / 1024 + 1)).all fun k =>
    decide (e.offset + e.length ≤ 1024 * (e.offset / 1024 + k)) || u.has (e.offset / 1024 + k)

/-- The request to a target: LEN 0, ACK_REQ 1, one past the last chunk. -/
def State.distAsk (s : State) (b k : Nat) (e : ManEntry) (t : UpdTarget) (d : UpdDist) : State :=
  let o : BulkOut := ⟨t.index % 256, k + 1, (e.length + 55) / 56, false, true, []⟩
  (s.modFb b fun f => { f with bulkq := f.bulkq ++ [o] }).setDist b { d with waiting := true, at_ := s.tick.num }

/-- The next target of the component. -/
def UpdDist.advance (d : UpdDist) : UpdDist :=
  { d with target := d.target + 1, tries := 0, expect := 0, waiting := false, again := false }

/-- The distribution of bus b takes one step at an edge. DEDUCED: log entries 164, 165. -/
def State.distStep (s : State) (b : Nat) : State :=
  let u := s.nv.upd
  let d := s.dist b
  match u.nodeParts[d.comp]? with
  | none => s
  | some (k, e) =>
    let ts := s.distTargets b k
    if !u.holds e then s
    else if ts.isEmpty then s.setDist b { UpdDist.init with comp := d.comp + 1 }
    else if d.phase = 0 then
      if !d.asked then
        (ts.foldl (fun s t => s.updJob t.index 0x30 (beginArgs k e)) s).setDist b { d with asked := true }
      else if ts.all (·.begun) then s.setDist b { d with phase := 1 } else s
    else if d.phase = 1 then
      let n := (e.length + 55) / 56
      if d.chunk < n then
        if (s.fbs b).bulkq.length < 8 then
          (s.modFb b fun f => { f with bulkq := f.bulkq ++ [u.bulkFrameOf k e 0xFF d.chunk] }).setDist b
            { d with chunk := d.chunk + 1 }
        else s
      else if (s.fbs b).bulkq.isEmpty then s.setDist b { d with phase := 2, target := 0 } else s
    else
      let list := s.nv.upd.targets.filter fun t => t.index / 256 == b && t.entry == k
      match list[d.target]? with
      | none => s.setDist b { UpdDist.init with comp := d.comp + 1 }
      | some t =>
        if t.failed || t.verified then s.setDist b d.advance
        else if !d.waiting then if (s.fbs b).bulkq.isEmpty then s.distAsk b k e t d else s
        else if d.at_ + 50 ≤ s.tick.num then
          if 2 ≤ d.tries then (s.targetFail t.index 0xFF).setDist b d.advance
          else s.setDist b { d with tries := d.tries + 1, waiting := false }
        else s

/-- A BULK_ACK of a node, R367, R368. -/
def State.nodeBulkAck (s : State) (f : NodeFrame) : State :=
  let u := s.nv.upd
  let b := f.bus
  let d := s.dist b
  match u.nodeParts[d.comp]? with
  | none => s
  | some (k, e) =>
    let list := u.targets.filter fun t => t.index / 256 == b && t.entry == k
    match list[d.target]? with
    | none => s
    | some t =>
      if d.phase ≠ 2 ∨ t.index % 256 ≠ f.addr ∨ byteAt f.data 0 ≠ k + 1 then s
      else
        let st := byteAt f.data 1
        let i := t.index
        let n := (e.length + 55) / 56
        let resend := fun (l : List Nat) (d : UpdDist) (s : State) =>
          (s.modFb b fun g => { g with
            bulkq := g.bulkq ++ (l.filter (· < n)).map (u.bulkFrameOf k e (i % 256)) }).setDist b { d with waiting := false }
        if st = 1 then
          (s.modTargets fun t => if t.index = i then { t with verified := true } else t).setDist b d.advance
        else if st = 3 ∨ (st = 2 ∧ d.again) then (s.targetFail i st).setDist b d.advance
        else if st = 2 then resend (List.range n) { d with again := true, tries := 0, expect := 0 } s
        else
          let nxt := leAt f.data 2 4
          let missing := [nxt] ++ ((List.range 32).filter fun j => (leAt f.data 6 4).testBit j).map (nxt + 1 + ·)
          let tries := if d.expect < nxt then 0 else d.tries + 1
          if 3 ≤ tries then (s.targetFail i st).setDist b d.advance
          else resend missing { d with tries := tries, expect := nxt } s

/-- An acknowledgement of an update command: UPD_BEGIN and UPD_ACTIVATE count, a failure is the target's. DEDUCED: log
entry 165. -/
def State.updAcked (s : State) (a : Nat × Nat × Nat × Nat) : State :=
  let (b, addr, op, res) := a
  let i := b * 256 + addr
  if op = 0x30 then
    if res = 0 then s.modTargets fun t => if t.index = i then { t with begun := true } else t
    else if s.nv.upd.targets.any (fun t => t.index == i && !t.failed) then s.targetFail i res else s
  else if op = 0x31 then
    if res = 0 then s.modTargets fun t => if t.index = i then { t with armed := true } else t else s
  else s

/-- Targets that have left the set, R367. -/
def State.updDropped (s : State) : State :=
  let u := s.nv.upd
  let gone := u.targets.filter fun t =>
    let n := s.nodeAt t.index
    n.ident.state == 0 || n.ident.state == 5 || (match u.man[t.entry]? with
      | some e => e.ntype != n.ident.ntype
      | none => true)
  let s := gone.foldl (fun s t => s.raise Ev.UPD_NODE_DROPPED Pg.upd [t.index / 256, t.index % 256]) s
  if gone.isEmpty then s
  else s.modUpd fun u => { u with targets := u.targets.filter fun t => !gone.any fun g => g.index == t.index }

/-! ### Activation (R370, R371) -/

/-- Ticks until an instant `ms` ahead. -/
def State.ticksFor (s : State) (ms : Nat) : Nat := (ms + s.pms - 1) / s.pms

/-- The first tick whose aligned instant is at or after a UTC second (R370); the present tick's is the nearest multiple of P. -/
def State.tickAtUtc (s : State) (sec : Nat) : Nat :=
  let p := s.pms * 1000000
  let now : Int := ((s.tai + p / 2) / p * p : Nat)
  s.tick.num + ((((sec : Int) + s.utcOfs) * 1000000000 - now + p - 1) / p).toNat

/-- UPD_ACTIVATE goes to every target that has not acknowledged it, and BULK_CLOSE ACTIVATE to a partner that is not ARMED
(R370, R375). -/
def State.sendActivate (s : State) : State :=
  match s.nv.upd.actTick with
  | none => s
  | some tick =>
    let s := s.nv.upd.targets.foldl (fun s t =>
      if t.failed || t.armed then s else s.updJob t.index 0x31 ([t.entry + 1] ++ leBytes 5 tick)) s
    if s.updPaired && s.role == 1 && s.nv.upd.partner != 4 then s.bulkClose 6 2 else s

/-- ACT_TICK is set. -/
def State.updArm (s : State) (tick : Nat) : State := (s.modUpd fun u => { u with actTick := some tick }).sendActivate

/-- UPD_DEADLINE at an edge at or after DEADLINE, R370. DEDUCED: log entry 166. -/
def State.updDeadline (s : State) : State :=
  let u := s.nv.upd
  if u.state < 2 ∨ 4 < u.state ∨ s.utc < u.deadline ∨ !s.transmits then s
  else if u.state = 4 ∧ u.targets.all (·.verified) ∧ (!s.updPaired ∨ u.partner = 3) then
    let s := s.updTo 5
    if u.actAt = 0 then s else s.updArm (s.tickAtUtc u.actAt)
  else s.updAbort 15

/-- UPD.CMD ACTIVATE: the command lies inside the present tick, so that the first tick at least 300 s after it is one more. -/
def State.updActivateCmd (s : State) : State :=
  let u := s.nv.upd
  if u.state = 5 ∧ u.actAt = 0 ∧ u.actTick.isNone then s.updArm (s.tick.num + s.ticksFor 300000 + 1) else s

/-- UPD_ARM_TIMEOUT: 60 s before the activation instant. -/
def State.updArmTimeout (s : State) : State :=
  let u := s.nv.upd
  match u.actTick with
  | none => s
  | some t =>
    if u.state = 5 ∧ s.transmits ∧ t ≤ s.tick.num + s.ticksFor 60000 ∧
        (u.targets.any (fun t => !t.armed) || (s.updPaired && u.partner != 4)) then s.updAbort 16
    else s

/-- The loader starts an exchange, or the swap-back of one (R372, R373). -/
def State.loaderStart (s : State) (back : Bool) : State :=
  let s := s.modUpd fun u => { u with done := 0, total := u.units, back := back, running := true }
  { s with pwr := { s.pwr with exchange := true }, upd := { s.upd with lastUnit := false } }

/-- The nodes are sent back. -/
def State.nodesRevert (s : State) : State :=
  s.nv.upd.targets.foldl (fun s t => s.updJob t.index 0x33 []) s

/-- A swap-back starts: reason 1 BOOTS, 2 COMMAND, 3 PARTNER, 4 NODES (R373, R374).  A module on which no unit has been
exchanged has no image to swap back, and its campaign ends at once. DEDUCED: log entry 214. -/
def State.swapBack (s : State) (reason : Nat) : State :=
  let s := (s.irq Pg.upd 3).raise Ev.UPD_SWAPBACK Pg.upd [reason, s.nv.upd.boots]
  let s := if s.updPaired && reason ≠ 3 then s.bulkClose 6 3 else s
  if s.nv.upd.stgB.isEmpty then (s.modUpd UpdNv.ended).updTo 0
  else (s.updTo 8).loaderStart true

/-- At the edge of ACT_TICK, or at the first edge in NORMAL mode after it (R375), an armed campaign activates; the exchange starts as R371 has it by role. -/
def State.updActEdge (s : State) : State :=
  let u := s.nv.upd
  let s := match u.actTick with
    | none => s
    | some t =>
      if u.state = 5 ∧ (t = s.tick.num ∨ (t < s.tick.num ∧ s.mode = 1)) then
        let s := (s.modUpd fun u => { u with actSec := s.sec }).raise Ev.UPD_ACTIVATED Pg.upd [u.seq % 2 ^ 32, t % 2 ^ 32]
        if u.module then s.updTo 6 else s.updTo 7
      else s
  let u := s.nv.upd
  if u.state ≠ 6 ∨ u.running then s
  else if s.role = 1 then
    if s.peerStandby && u.partner == 5 then s.yield 2 0 true else s
  else (s.modUpd fun u => { u with confirmed := false, boots := 0 }).loaderStart false

/-- UPD_PARTNER_TIMEOUT: 600 s without RUNNING_NEW, R371. -/
def State.updPartnerTimeout (s : State) : State :=
  let u := s.nv.upd
  if u.state = 6 ∧ s.role = 1 ∧ u.partner ≠ 5 ∧ u.partner ≠ 6 ∧ u.actSec + 600 ≤ s.sec ∧ !u.running then
    (s.bulkClose 6 3).nodesRevert.updAbort 18
  else s

/-! ### The loader (R372) -/

/-- LOADER_UNIT_DONE; in HOLDUP the unit in progress is completed, and no further unit starts. -/
def State.loaderUnit (s : State) : State :=
  let u := s.nv.upd
  let low := s.pwr.state == .holdup
  if u.running ∧ u.done < u.total ∧ !(low && s.upd.lastUnit) then
    { (s.modUpd fun u => u.exchange u.done) with upd := { s.upd with lastUnit := low } }
  else s

/-- LOADER_EXCHANGE_DONE: a MODULE reset follows at the next edge. -/
def State.loaderDone (s : State) : State :=
  let u := s.nv.upd
  if u.running ∧ u.done = u.total then
    { (s.modUpd fun u => { u with running := false }) with
      pwr := { s.pwr with exchange := false }, upd := { s.upd with resetDue := true } }
  else s

/-- EXCHANGE. -/
def UpdNv.exchangeWord (u : UpdNv) : Word := BitVec.ofNat 32 (u.done % 65536 * 65536 + u.total % 65536)

/-! ### Confirmation (R373, R374) -/

/-- Seconds of stable run. -/
def State.stable (s : State) : Nat :=
  match s.upd.stableAt with
  | some t => s.sec - t
  | none => 0

/-- CONFIRM as read: MANUAL is held in MRAM with the campaign. -/
def State.confirmWord (s : State) : Word :=
  let u := s.nv.upd
  BitVec.ofNat 32 (b2n u.manual * 2 ^ 31 + b2n u.confirmed * 2 ^ 30 + u.boots % 16 * 2 ^ 24 + min s.stable (2 ^ 24 - 1))

/-- The downstream neighbour and the partner have reported STAGED or a later state, or there is none (R374). -/
def State.relayed (s : State) : Bool :=
  let u := s.nv.upd
  let past := fun (st : Nat) => decide (3 ≤ st ∧ st ≤ 6)
  (past u.downstream || s.net.ip.downstream.isNone) && (past u.partner || !s.pair.paired)

/-- The kept container is released once it has been relayed. -/
def State.keepOrFree (s : State) : State :=
  if s.nv.upd.keptAt.isSome && s.nv.upd.state == 0 && s.relayed then s.modUpd UpdNv.ended else s

/-- The campaign is CONFIRMED when the module, the partner and every target are (R374): staging is released, and the container
kept for those who still need it. DEDUCED: log entry 167. -/
def State.updTryConfirm (s : State) : State :=
  let u := s.nv.upd
  if u.state = 7 ∧ u.confirmed ∧ (!s.updPaired ∨ u.partner = 6 ∨ s.role ≠ 1) ∧
      u.targets.all (fun t => t.failed || s.targetNew t) then
    let led := max u.ledger u.minLedger
    let s := s.modUpd fun u => { u with
      runSeq := u.seq, ledger := led, targets := [], actTick := none, boots := 0, done := 0, total := 0, cause := 0
      stgA := [], stgB := [], keptAt := some s.sec }
    ((s.updTo 0).raise Ev.UPD_CONFIRMED Pg.upd [u.seq % 2 ^ 32, led]).ackChange.keepOrFree
  else s

/-- UPD_STABLE_CONFIRM: 600 s of stable run. -/
def State.updStable (s : State) : State :=
  let u := s.nv.upd
  if u.state = 7 ∧ !u.confirmed ∧ 600 ≤ s.stable ∧ !u.manual then
    (s.modUpd fun u => { u with confirmed := true }).updTryConfirm
  else s

/-- UPD.CMD CONFIRM: before 600 s of stable run it is dropped. -/
def State.updConfirmCmd (s : State) : State :=
  let u := s.nv.upd
  if u.state = 7 ∧ !u.confirmed ∧ 600 ≤ s.stable ∧ u.manual then
    (s.modUpd fun u => { u with confirmed := true }).updTryConfirm
  else s

/-- UPD_NODE_CONFIRM_TIMEOUT: 3,000 ticks after ACT_TICK (R374). -/
def State.updNodeTimeout (s : State) : State :=
  let u := s.nv.upd
  match u.actTick with
  | none => s
  | some t =>
    if u.state < 6 ∨ 7 < u.state ∨ s.tick.num < t + 3000 then s
    else
      let late := u.targets.filter fun t => !t.failed && !s.targetNew t
      let s := late.foldl (fun s t => (s.updJob t.index 0x33 []).targetFail t.index 0xFF) s
      if !late.isEmpty && s.flag Fd.UPD_CFG_NODE_STRICT then s.nodesRevert.swapBack 4 else s.updTryConfirm

/-- UPD_CONTAINER_RELEASE: 24 h after the confirmation. -/
def State.updRelease (s : State) : State :=
  match s.nv.upd.keptAt with
  | some t => if s.nv.upd.state = 0 ∧ t + 86400 ≤ s.sec then s.modUpd UpdNv.ended else s
  | none => s

/-- UPD.CMD: 1 ACTIVATE, 2 ABORT, 3 CONFIRM, 4 REVERT. -/
def State.updCmd (s : State) (op : Nat) : State :=
  let st := s.nv.upd.state
  if op = 1 then s.updActivateCmd
  else if op = 2 then if 1 ≤ st ∧ st ≤ 5 then s.updAbort 19 else s
  else if op = 3 then s.updConfirmCmd
  else if op = 4 then if st = 7 then s.swapBack 2 else s
  else s

/-! ### Messages of receivers and sources -/

/-- BULK_ACK of a receiver (5 downstream, 6 partner) on the stream offered to it. -/
def State.bulkAck (s : State) (k : Nat) (b : List Nat) : State :=
  let r := s.relay k
  if r.stream ≠ some (beAt b 0 4) then s
  else
    let status := beAt b 4 1
    let s := s.setRelay k { r with status := status, next := beAt b 8 4, map := (b.drop 12).take 32 }
    let s := if k = 6 then s.modUpd fun u => { u with
        partner := status, mateNew := u.mateNew || status == 5 || status == 6 }
      else s.modUpd fun u => { u with downstream := status }
    ((s.bulkPump k).updTryConfirm).keepOrFree

/-- A stream of a source is closed. -/
def State.streamEnd (s : State) (src stream : Nat) : State :=
  let s := if s.upd.offers.any fun o => o.src == src && o.stream == stream then s.dropOffer src else s
  if s.upd.stream = some (src, stream) then { s with upd := { s.upd with stream := none } } else s

/-- BULK_CLOSE DONE. -/
def State.bulkCloseDone (s : State) (src : Nat) (b : List Nat) : State := s.streamEnd src (beAt b 0 4)

/-- BULK_CLOSE ABORT: from the ACTIVE member the campaign aborts, from upstream the module waits (R366). DEDUCED: log
entry 154. -/
def State.bulkCloseAbort (s : State) (src : Nat) (b : List Nat) : State :=
  let s := s.streamEnd src (beAt b 0 4)
  let st := s.nv.upd.state
  if src = 6 ∧ 2 ≤ st ∧ st ≤ 5 then s.updAbort 18 else s

/-- BULK_CLOSE ACTIVATE: the partner arms (R370). -/
def State.bulkCloseActivate (s : State) (src : Nat) (b : List Nat) : State :=
  if src = 6 ∧ s.nv.upd.state = 4 then
    ((s.modUpd fun u => { u with actTick := some (beAt b 8 8) }).updTo 5).ackChange
  else s

/-- BULK_CLOSE REVERT from the other member (R373, R374). -/
def State.bulkCloseRevert (s : State) (src : Nat) : State :=
  let st := s.nv.upd.state
  if src ≠ 6 then s
  else if st = 6 ∨ st = 7 then s.swapBack 3
  else if 2 ≤ st ∧ st ≤ 5 then s.updAbort 18
  else s

/-- A BULK_CLOSE with its reason, R359. -/
def State.bulkClosed (s : State) (src reason : Nat) (m : List Nat) : State :=
  s.bulkFrom (srcPeer src) 0x23 16 m fun b s =>
    if beAt b 4 1 ≠ reason then s
    else if reason = 0 then s.bulkCloseDone src b
    else if reason = 1 then s.bulkCloseAbort src b
    else if reason = 2 then s.bulkCloseActivate src b
    else s.bulkCloseRevert src

/-! ### Edge and boot (R373, R375) -/

/-- A BULK_CLOSE that waited for its session goes out. -/
def State.closeDue (s : State) (k : Nat) : State :=
  match (s.relay k).due with
  | some r => if (s.sess k).isSome then s.bulkClose k r else s
  | none => s

/-- What Proof does at every edge. -/
def State.updEdge (s : State) : State :=
  let acks := s.node.updAcks
  let bulk := s.node.bulkAcks
  let s := { s with
    node := { s.node with updAcks := [], bulkAcks := [] }
    upd := { s.upd with relay := s.upd.relay.map fun (k, r) => (k, { r with out := [] }) } }
  let s := acks.foldl State.updAcked s
  let s := bulk.foldl State.nodeBulkAck s
  let s := if s.upd.stableAt.isNone && s.pwr.appOn && s.mode != 0 then
      { s with upd := { s.upd with stableAt := some s.sec } } else s
  let s := (s.closeDue 5).closeDue 6
  let u := s.nv.upd
  if u.state = 0 then s.ackChange
  else
    let s := s.updDropped
    let s := if s.transmits ∧ 2 ≤ u.state ∧ u.state ≤ 4 then (List.range 16).foldl State.distStep s else s
    let s := if s.upd.rearm && s.transmits then { s with upd := { s.upd with rearm := false } }.sendActivate else s
    let s := s.updActEdge
    (if s.nv.upd.state = 7 then s.updTryConfirm else s).ackChange

/-- The prior image boots: the campaign is over, and the partner is to go back as well (R374). -/
def State.bootBack (s : State) : State :=
  let s := if s.updPaired then s.setRelay 6 { UpdRelay.init with due := some 3 } else s
  s.modUpd fun u => { u.ended with state := 0, confirmed := true, boots := 0 }

/-- Before any other stage of a boot, R373, R375. DEDUCED: log entries 168, 169. -/
def State.updBoot (s : State) : State :=
  let u := s.nv.upd
  let s := { s with upd := { UpdSt.init with rearm := u.state == 5 } }
  if u.state = 1 then s.modUpd fun u => { u with state := 0 }
  else if u.state = 2 then
    s.modUpd fun u => { u with
      held := u.held.filter fun (c, _) => u.block (c / 64), man := if (List.range 8).all u.has then u.man else [] }
  else if u.state = 6 then
    if u.total = 0 then s
    else
      let s := if u.running then s.raise Ev.UPD_RESUMED Pg.upd [6, u.done] else s
      s.modUpd fun u => { u.exchangeRest with state := 7, confirmed := false, boots := 1 }
  else if u.state = 7 ∧ !u.confirmed then
    if 3 ≤ u.boots then
      let s := (s.irq Pg.upd 3).raise Ev.UPD_SWAPBACK Pg.upd [1, u.boots]
      (s.modUpd fun u => { u with back := true, done := 0, total := u.units }.exchangeRest).bootBack
    else s.modUpd fun u => { u with boots := u.boots + 1 }
  else if u.state = 8 then
    let s := if u.running then s.raise Ev.UPD_RESUMED Pg.upd [8, u.done] else s
    (s.modUpd UpdNv.exchangeRest).bootBack
  else s

/-- STAGE as read. -/
def UpdNv.stageWord (u : UpdNv) : Word := BitVec.ofNat 32 (u.cause % 256 * 2 ^ 24 + u.source % 256 * 2 ^ 16 + u.state)

end Sys2Proof.Machine
end

