-- ==== Sys2Proof/Machine/Block.lean ====
section
/-! DEFINITION. Enable, stop, soft reset, flush and watchdog of a block, page by page (R41, R44, R415 and the opening rule
of each page in its chapter). -/

namespace Sys2Proof.Machine

/-- Registers back at their reset values. DEDUCED: log entry 19. -/
def State.resetRegs (s : State) (l : List Nat) : State := l.foldl (fun s a => s.wr a (regReset a)) s

/-- Registers of the copies of a banked page back at their reset values. DEDUCED: log entry 19. -/
def State.resetBanks (s : State) (n : Nat) (l : List Nat) : State :=
  (List.range n).foldl (fun s k => s.resetRegs (l.map (bank k))) s

/-- Page p is one of FB0 to FB15. -/
def isFb (p : Nat) : Bool := decide (0x10 ≤ p ∧ p ≤ 0x1F)

/-- Page p is one of MET0 to MET3. -/
def isMet (p : Nat) : Bool := decide (0x30 ≤ p ∧ p ≤ 0x33)

/-- Page p is one of RING0, RING1, LAN0, LAN1. -/
def isPort (p : Nat) : Bool := decide (0x41 ≤ p ∧ p ≤ 0x44)

/-- Page p is one of IUC0 to IUC3. -/
def isIuc (p : Nat) : Bool := decide (0x49 ≤ p ∧ p ≤ 0x4C)

/-- The block of page p always runs, so that CTRL.EN reads 1. -/
def alwaysOn (p : Nat) : Bool := match pageInfo p with
  | some pi => pi.always
  | none => false

/-- CTRL.EN = 1: the block starts. -/
def State.blockStart (s : State) (p : Nat) : State :=
  if (pageInfo p).isNone || alwaysOn p then s
  else
    let was := s.flag (Fd.run p)
    let s := s.put (Fd.en p) 1
    if was then s.iuChanged
    else if isFb p then s.fbEnable (p - 0x10)
    else (s.put (Fd.run p) 1).iuChanged

/-- CTRL.EN = 0: the block is asked to stop; a port or link that is closed goes down at once. DEDUCED: log entry
20. -/
def State.blockStop (s : State) (p : Nat) : State :=
  if (pageInfo p).isNone || alwaysOn p || !s.flag (Fd.en p) then s
  else
    let s := s.put (Fd.en p) 0
    if isPort p then s.portDisable (p - 0x41)
    else if p = Pg.byell then s.byellOff
    else if p = Pg.pcie then if s.flag Fd.PCIE_LINK_UP then s.pcieLink false 0 0 else s
    else s

/-- BLOCK_STOP_POINT: HATCH stops at the end of its run (R97), an FB page at the end of the frame in progress (R157),
a MET page at the end of its window (R208; MET_WINDOW_END); any other block as soon as it is asked; none while a flush runs (R44). DEDUCED:
log entry 20. -/
def State.blockStopped (s : State) (p : Nat) : State :=
  if (pageInfo p).isNone || alwaysOn p || s.flag (Fd.en p) || !s.flag (Fd.run p) || s.flag (Fd.flushBusy p) then s
  else if isFb p then s.fbStop (p - 0x10)
  else if isMet p ∨ (p = Pg.hatch ∧ s.hatch.run.isSome = true) then s
  else s.put (Fd.run p) 0

/-- The metering set's part of a soft reset, R208. -/
def State.metSoftReset (s : State) (n : Nat) : State :=
  let keep := [0x40, 0x44, 0x48, 0x4C, 0xC4, 0xC8]
  let s := s.resetRegs (((List.range 64).map fun i => Rg.reg (Pg.met n) (4 * i)).filter fun a =>
    decide (0x40 ≤ a % 0x1000) && !keep.contains (a % 0x1000))
  let s := (List.range 6).foldl (fun s k => s.put (Fd.statBit (Pg.met n) (12 + k)) 0) s
  let m := s.metSt n
  s.setMet n { m with harm := [], above := [], under := [], quiet := [] }

/-- What a soft reset of page p does beside the header: FLUSH's effect where it has one, and the registers that its
chapter does not list as retained; PLATE keeps BUF_SEL and CSUM with the buffers they describe, which R119 does not list.
DEDUCED: log entries 18, 19; DESIGN CHOICE: log entry 196. -/
def State.softReset (s : State) (p : Nat) : State :=
  if p = Pg.sys then s.resetRegs [Rg.SYS_BUSERR_ADDR, Rg.SYS_BUSERR_INFO]
  else if p = Pg.tick then
    let s := s.resetRegs [Rg.TICK_OVR_CNT, Rg.TICK_CLEAN_CNT, Rg.TICK_MISS, Rg.TICK_PHASE_ERR, Rg.TICK_PHASE_MAX,
      Rg.TICK_FREEZE]
    s.modTick fun t => { t with irqs := [], shown := t.shown.map fun x => (0, 0, x.2.2) }
  else if p = Pg.hatch then s.hatchFlush.hatchZero
  else if p = Pg.hatchG then
    let s := if s.graphState = 4 then s else s.graphClear 0
    ((s.put Fd.HATCHG_GRAPH_STAT_ERR 0).put Fd.HATCHG_GRAPH_STAT_ERR_TABLE 0).put Fd.HATCHG_GRAPH_STAT_ERR_INDEX 0
      |>.resetRegs ([Rg.HATCHG_VTX_CNT, Rg.HATCHG_EDGE_CNT, Rg.HATCHG_ATT_CNT, Rg.HATCHG_SENS_CNT, Rg.HATCHG_LOAD_SEL,
        Rg.HATCHG_GRAPH_CRC] ++ (List.range 4).map Rg.HATCHG_LOAD_WIN)
  else if p = Pg.plate then
    s.resetRegs [Rg.PLATE_CAP_CNT, Rg.PLATE_COMP_US, Rg.PLATE_CHG_CNT, Rg.PLATE_SWAP_CNT]
  else if p = Pg.group then s.resetRegs [Rg.GROUP_GRP_SEL]
  else if p = Pg.node then
    let s := s.resetRegs [Rg.NODE_ENT_SEL, Rg.NODE_CMD_ARG0, Rg.NODE_CMD_ARG1]
    if s.flag Fd.NODE_CMD_STAT_BUSY then s else s.resetRegs [Rg.NODE_CMD_STAT]
  else if isFb p then s.fbSoftReset (p - 0x10)
  else if isMet p then s.metSoftReset (p - 0x30)
  else if p = Pg.trace then s.traceSoftReset.resetRegs [Rg.TRACE_CODE_SEL, Rg.TRACE_NODE_SEL]
  else if p = Pg.cal then s.calLoad
  else if p = Pg.rtc then s.rtcCancel.resetRegs [Rg.RTC_STAGE]
  else if p = Pg.time then 
    (s.resetRegs [Rg.TIME_STEP_CNT, Rg.TIME_STEP_LOG, Rg.TIME_DOM_A_OFS, Rg.TIME_DOM_B_OFS, Rg.TIME_GNSS_OFS]).put
      Fd.TIME_GNSS_STAT_CSUM_ERR 0
  else if p = Pg.sched then
    s.resetRegs [Rg.SCHED_ENT_SEL, Rg.SCHED_HOL_SEL, Rg.SCHED_SCENE_SEL, Rg.SCHED_BASE_SEL, Rg.SCHED_SOLAR_SEL]
  else if p = Pg.sw then s.swSoftReset
  else if isPort p then s.portSoftReset (p - 0x41)
  else if p = Pg.iu then (s.iuSoftReset.resetRegs [Rg.IU_SRC_SEL]).iuChanged
  else if isIuc p then s.iucSoftReset (p - 0x49)
  else if p = Pg.qm then s.qmSoftReset
  else if p = Pg.qmq then s.qmqSoftReset
  else if p = Pg.pcie then
    let s := s.pcieClear 3
    let s := (s.resetBanks 8 [Rg.PCIE_CQ_BASE_LO, Rg.PCIE_CQ_BASE_HI, Rg.PCIE_CQ_CFG, Rg.PCIE_CQ_HEAD, Rg.PCIE_CQ_TAIL,
      Rg.PCIE_CQ_OVF]).resetRegs [Rg.PCIE_CQ_SEL]
    { s with pcie := { s.pcie with stage := [], stat := [] } }
  else if p = Pg.pair then s.pairSoftReset
  else if p = Pg.byell then s.byellSoftReset.resetRegs [Rg.BYELL_LAT]
  else if p = Pg.wit then s.witSoftReset
  else if p = Pg.ground then s.groundFlush.resetRegs [Rg.GROUND_TAG_CNT, Rg.GROUND_SLOT_SEL]
  else if p = Pg.rec then
    let s := s.recSoftReset
    { s with rcd := { s.rcd with rdCfg := [], appParam := [] } }
  else if p = Pg.age then s.resetRegs [Rg.AGE_ITEM_SEL]
  else if p = Pg.pwr then s.resetRegs [Rg.PWR_CMD_STAT]
  else if p = Pg.boot then s.resetRegs [Rg.BOOT_STAGE_SEL]
  else if p = Pg.wdog then s.resetRegs [Rg.WDOG_EXP]
  else if p = Pg.io then (s.put Fd.IO_DI_STAT_STUCK 0).put Fd.IO_DI_STAT_CHATTER 0 |> fun s =>
    (List.range 8).foldl State.diEffect s
  else if p = Pg.dbg then s.dbgVoid
  else s

/-- SOFT_RESET of page p, R44: the block resets at once and is unavailable until SOFT_RESET_DONE; EN, the unlock and the
interrupt state clear, IRQ_EN and TMO_CFG stay, and queues that the page consumes return their items (R290). -/
def State.blockReset (s : State) (p : Nat) : State :=
  if (pageInfo p).isNone || s.flag (Fd.srstBusy p) then s
  else
    let s := s.softReset p
    let s := ((s.put (Fd.en p) 0).put (Fd.run p) 0).put (Fd.flushBusy p) 0
    let s := ((s.put (Fd.wdExp p) 0).wr (Rg.irqStat p) 0).wr (Rg.errCap p) 0
    let s := { s with acc := { s.acc with lock := Tab.set (fun _ => none) s.acc.lock p none } }
    ((s.put (Fd.srstBusy p) 1).qAbortPage p).iuChanged

/-- FLUSH of page p, R44: the queued work is discarded at once, and producers are held back until FLUSH_DONE. DEDUCED:
log entry 15. -/
def State.blockFlush (s : State) (p : Nat) : State :=
  match pageInfo p with
  | none => s
  | some pi =>
    if !pi.flush || s.flag (Fd.srstBusy p) then s
    else
      let s := if p = Pg.hatch then s.hatchFlush
        else if isFb p then s.fbFlush (p - 0x10)
        else if p = Pg.qmq then s.qFlushAll
        else if p = Pg.ground then s.groundFlush
        else if p = Pg.rec then s.recFlush
        else s
      s.put (Fd.flushBusy p) 1

/-- BLOCK_WATCHDOG_EXPIRE of page p, R415: WD_EXP is recorded; WD_ACT 1 raises bit 30 and 2 or 3 resets the block as well.
A run of Hatch in progress ends, so that its tick is an overrun (table after R62). The record and bit 30 outlive the soft
reset of the same expiry, which the spec leaves open. DESIGN CHOICE: log entry 188. -/
def State.blockWatchdog (s : State) (p : Nat) : State :=
  if (pageInfo p).isNone || !s.flag ⟨Rg.tmo p, 31, 1⟩ || s.flag (Fd.srstBusy p) then s
  else
    let act := s.get ⟨Rg.tmo p, 29, 2⟩
    let s := if p = Pg.hatch then s.hatchStop else s
    let s := if 2 ≤ act then s.blockReset p else s
    let s := s.put (Fd.wdExp p) 1
    if 1 ≤ act then s.irq p 30 else s

end Sys2Proof.Machine
end

