-- ==== Sys2Proof/Machine/Power.lean ====
section
/-! DEFINITION. Bring-up, power states, resets and watchdogs (R398 to R420; R47, R49). -/

namespace Sys2Proof.Machine

/-- The power controller's state replaced through a function. -/
def State.modPwr (s : State) (f : PwrSt → PwrSt) : State := { s with pwr := f s.pwr }

/-- The real-time domain is powered, R406. -/
def State.rtOn (s : State) : Bool := s.pwr.state == .run || s.pwr.state == .low || s.pwr.state == .holdup

/-- An effect of a block in the real-time domain: nothing happens while the domain is off. -/
def State.rt (s : State) (t : State) : State := if s.rtOn then t else s

/-- The network domain is powered. -/
def State.netUp (s : State) : Bool := s.rtOn && s.pwr.netOn

/-- An effect of a block in the network domain. -/
def State.nw (s : State) (t : State) : State := if s.netUp then t else s

/-- The application domain is powered. -/
def State.appUp (s : State) : Bool := s.rtOn && s.pwr.appOn

/-- An effect of a block in the application domain. -/
def State.app (s : State) (t : State) : State := if s.appUp then t else s

/-- The power state changes, R407: PWR_STATE, and the debug level of R350. Wake requests made before count no more.
DEDUCED: log entry 178. -/
def State.setPwr (s : State) (p : PowerState) : State :=
  if s.pwr.state = p then s
  else
    let old := s.pwr.state
    let s := s.modPwr ({ · with state := p, wakeReq := 0 })
    let s := s.irq Pg.pwr 0
    let s := if old = .off ∨ p = .off then s else s.raise Ev.PWR_STATE Pg.pwr [old.code, p.code]
    s.dbgPower

/-! ### Domains (R290, R291, R407, R412) -/

/-- Page p belongs to the application domain. -/
def inApp (p : Nat) : Bool := match pageInfo p with
  | some i => i.dom == .application
  | none => false

/-- Page p belongs to the network domain. -/
def inNet (p : Nat) : Bool := match pageInfo p with
  | some i => i.dom == .network
  | none => false

/-- The pages of the application domain. -/
def appPages : List Nat := [0x48, 0x49, 0x4A, 0x4B, 0x4C, 0x50, 0x51, 0x54]

/-- The pages of the network domain. -/
def netPages : List Nat := [0x40, 0x41, 0x42, 0x43, 0x44]

/-- The access side of the pages that `p` selects as after reset: LOCK unarmed, nothing latched, no half written, no write
held back. -/
def AccSt.clearPages (x : AccSt) (p : Nat → Bool) : AccSt :=
  let on := fun k => p (k % 0x100000 / 0x1000)
  { x with
    latch := Tab.clear on x.latch, held := Tab.clear on x.held, lock := Tab.clear p x.lock
    heldBack := x.heldBack.filter fun e => !on e.2.1 }

/-- Every word of the pages of a domain back at its reset value, header and block registers alike (R47). -/
def State.clearDomain (s : State) (p : Nat → Bool) : State :=
  { s with regs := Tab.clear (fun a => p (a % 0x100000 / 0x1000)) s.regs, acc := s.acc.clearPages p }

/-- The application domain is reset or loses power: queues return their items, sessions and mailbox commands of its
initiators end, its pages reset; queues 0 to 7 keep their contents. DEDUCED: log entry 121. -/
def State.appReset (s : State) : State :=
  let s := appPages.foldl State.qAbortPage s
  let s := s.lspRestart
  let o := s.get Fd.GROUND_MBX_STAT_OWNER
  let s := if s.ground.cmd.isSome ∧ 1 ≤ o ∧ o ≤ 5 then s.abortMbx.mbxDone.groundFlush else s
  let s := s.clearDomain inApp
  let keep : QmSt := { items := Tab.clear (fun q => decide (8 ≤ q)) s.qm.items }
  let pc := s.pcie
  { s with iu := .init, qm := keep, pcie := { hostMem := pc.hostMem, sent := pc.sent } }

/-- The network domain is reset or loses power. -/
def State.netReset (s : State) : State :=
  let s := netPages.foldl State.qAbortPage s
  let sfp := fun (s : State) (n : Nat) => (s.get (Fd.PORT_LINK_SFP_PRESENT n), s.get (Fd.PORT_LINK_TX_FAULT n))
  let a := sfp s 0
  let b := sfp s 1
  let s := (s.clearDomain inNet).netRestart
  let s := (s.put (Fd.PORT_LINK_SFP_PRESENT 0) a.1).put (Fd.PORT_LINK_TX_FAULT 0) a.2
  (s.put (Fd.PORT_LINK_SFP_PRESENT 1) b.1).put (Fd.PORT_LINK_TX_FAULT 1) b.2

/-- The application domain is powered down; its volatile memories lose their contents (R28). -/
def State.appDown (s : State) : State :=
  { s.appReset.modPwr ({ · with appOn := false }) with vol := { s.vol with l2 := [], dram := [] } }

/-- The network domain is powered down; every session ends with it. -/
def State.netDown (s : State) : State := (s.netReset.lspRestart).modPwr ({ · with netOn := false })

/-! ### The boot ledger and the stages (R400 to R405) -/

/-- FAIL_CNT of stage n. -/
def State.failCnt (s : State) (n : Nat) : Nat := Tab.get (fun _ => 0) s.nv.boot.fails n

/-- The ledger replaced through a function. -/
def State.modBoot (s : State) (f : NvBoot → NvBoot) : State := { s with nv := { s.nv with boot := f s.nv.boot } }

/-- FAIL_CNT of stage n stored. -/
def State.setFail (s : State) (n v : Nat) : State :=
  s.modBoot fun b => { b with fails := Tab.set (fun _ => 0) b.fails n (min v 255) }

/-- The result of stage n in this boot: 0 NOT_RUN, 1 PASSED, 2 FAILED, 3 RUNNING. -/
def State.stageRes (s : State) (n : Nat) : Nat := Tab.get (fun _ => 0) s.pwr.results n

/-- What was done about stage n in this boot: 0 normal, 1 alternate, 2 skipped. -/
def State.stageTaken (s : State) (n : Nat) : Nat := Tab.get (fun _ => 0) s.pwr.taken n

/-- The result of stage n recorded. -/
def State.setRes (s : State) (n v : Nat) : State :=
  s.modPwr fun p => { p with results := Tab.set (fun _ => 0) p.results n v }

/-- TAKEN_MAP. -/
def State.takenMap (s : State) : Nat :=
  ((List.range 24).filter fun i => s.stageTaken (i + 1) != 0).foldl (fun a i => a + 2 ^ i) 0

/-- The stage at which the LSP listener came up has passed (stage 20). -/
def State.lspUp (s : State) : Bool := s.appUp && s.stageRes 20 == 1

/-- No campaign action in this boot: stage 22 was bypassed. -/
def State.updIdle (s : State) : Bool := s.stageTaken 22 != 0

/-- Words of the configuration region loaded into the pages; `p` selects addresses. CTRL words load their block
controls only, and loaded sample points take effect as written ones do (R125). DEDUCED: log entries 11, 175. -/
def State.loadCfg (s : State) (p : Nat → Bool) : State :=
  s.nv.cfg.foldl (fun s e =>
    if p e.1 = false then s
    else if isFb (e.1 / 0x1000) && e.1 % 0x1000 == 0x44 then
      (s.wr e.1 e.2).modFb (e.1 / 0x1000 - 0x10) ({ · with spPend := some e.2 })
    else s.wr e.1 (if e.1 % 0x1000 = 0x008 then e.2 &&& 0xFFFFFF00 else e.2)) s

/-- The live table loaded from its MRAM copy, R404: an entry whose identity half fails its check is FREE, one whose dynamic
half alone fails has every dynamic field 0. -/
def State.loadNodes (s : State) : State :=
  let t := s.nv.nodeBad.foldl (fun (t : Tab Node) e =>
    let n := Tab.get (fun _ => Node.free) t e.1
    Tab.set (fun _ => Node.free) t e.1 (if e.2 = 1 then Node.free else if e.2 = 2 then { n with dyn := .zero } else n)) s.nv.nodes
  { s with node := { s.node with table := t } }

/-- Every entry's copy refreshed. -/
def State.copyAllNodes (s : State) : State := { s with nv := { s.nv with nodes := s.node.table, nodeBad := [] } }

/-- Address a lies on page SCHED. -/
def onSched (a : Nat) : Bool := a % 0x100000 / 0x1000 == Pg.sched

/-- The block watchdogs of R415's table. -/
def State.setWatchdogs (s : State) : State :=
  let wd := fun (s : State) (p us act : Nat) =>
    s.wr (Rg.tmo p) (BitVec.ofNat 32 (2 ^ 31 + act * 2 ^ 29 + us))
  let s := wd s Pg.hatch (400 * s.pms) 1
  let s := (List.range 16).foldl (fun s b => wd s (Pg.fb b) 50000 2) s
  let s := (List.range 4).foldl (fun s n => wd s (Pg.met n) 200000 2) s
  wd (wd s Pg.ground 100000 1) Pg.rec 100000 2

/-- The ROM executive takes the place of stage n and of every later one, R403: all buses at 125k/2M, the light from the
safe-light region. -/
def State.romExec (s : State) (n : Nat) : State :=
  let s := s.modPwr ({ · with romExec := true, todo := [], stage := 0, light := true })
  let s := s.raise Ev.BOOT_ROM_EXEC Pg.boot [n]
  let s := s.loadCfg (· == Rg.PAIR_CFG)
  let s := s.loadNodes
  let s : State := (List.range 16).foldl (fun (s : State) b =>
    let s := (s.put (Fd.FB_BITRATE_ARB b) 0).put (Fd.FB_BITRATE_DATA b) 0
    s.blockStart (Pg.fb b)) s.timeStart
  if s.stageRes 2 = 1 then s else (List.range 16).foldl (fun s b => s.enterHold b 6) s

/-- The action of R402 for stage n at FAIL_CNT 2 or more. -/
def State.stageAction (s : State) (n : Nat) : State :=
  if n = 1 ∨ n = 3 ∨ n = 5 then s.romExec n
  else if n = 2 then
    (List.range 16).foldl (fun s b => s.enterHold b 6) { s with ground := { s.ground with bypassed := true } }
  else if n = 4 then (List.range 16).foldl (fun s b => s.put (Fd.FB_CTRL_LISTEN b) 1) s
  else if n = 8 then s.graphActivate .empty
  else if n = 9 then s.modPwr ({ · with noSched := true })
  else if n = 12 then s.put Fd.logDegraded 1
  else if n = 14 ∨ n = 15 then (s.appDown.setPwr .low).modPwr fun p => { p with todo := p.todo.filter (· != 15) }
  else if n = 17 ∨ n = 18 ∨ n = 19 then
    let s := (s.blockStop (Pg.port 0)).blockStop (Pg.port 1)
    let s := ((s.put (Fd.run (Pg.port 0)) 0).put (Fd.run (Pg.port 1)) 0).put Fd.SW_ERPS_CFG_EN 0
    (s.setErps .init).put Fd.SW_ERPS_STAT_STATE 0
  else s

/-- Ring ports may run in this boot: none of stages 17 to 19 was bypassed. -/
def State.ringMay (s : State) : Bool := s.stageTaken 17 == 0 && s.stageTaken 18 == 0 && s.stageTaken 19 == 0

/-- HOLDUP is entered with a plan, R410, and power-down work at once under GASP and MINIMAL, R411. -/
def State.enterHoldup (s : State) (plan : Nat) : State :=
  let from_ := s.pwr.state
  let e := s.holdE
  let t := if plan = 0 then s.holdT else 0
  let s := s.setPwr .holdup
  let s := s.modPwr ({ · with fromLow := from_ == .low, holdAt := s.ns, irrev := plan != 0, throughHoldup := true })
  let s := (s.raise Ev.PWR_HOLDUP Pg.pwr [plan, t, e]).scapLost
  let s := s.modPwr fun p => { p with todo := p.todo.filter (· < 13), stage := if 13 ≤ p.stage then 0 else p.stage }
  let s := (s.appDown.netDown).yieldIfStandby
  let s := (s.recGasp).energySave true
  if plan = 1 then s.copyAllNodes else s

/-- The work of stage n when it passes, R402. DEDUCED: log entries 42, 108, 175, 176, 181. DESIGN CHOICE: log entry
174. -/
def State.stageWork (s : State) (n : Nat) : State :=
  if n = 1 then s.updBoot
  else if n = 2 then s.groundStart
  else if n = 4 then
    let s := s.loadCfg fun a => !onSched a
    let s := s.put Fd.TICK_PERIOD_CUR (s.get Fd.TICK_PERIOD_NEXT)
    s.loadNodes
  else if n = 5 then
    let s := (s.timeStart.setWatchdogs).modPwr ({ · with light := true })
    let s := (List.range 16).foldl (fun s b => s.blockStart (Pg.fb b)) s
    if s.pwr.pgood then s else s.enterHoldup 1
  else if n = 6 then
    let s := ((s.energyRestore s.nv.boot.lostAt).calCheck).calLoad
    (List.range 4).foldl (fun s k => s.blockStart (Pg.met k)) s
  else if n = 7 then s.blockStart Pg.hatch
  else if n = 8 then
    match s.nv.graphBoot with
    | some g => s.graphActivate g
    | none => s
  else if n = 9 then
    let s := s.loadCfg onSched
    { s with sched := { s.sched with ent := s.nv.sched, hol := s.nv.schedHol, scene := s.nv.schedScene } }
  else if n = 11 then
    if s.flag Fd.PAIR_CFG_PAIRED then (s.blockStart Pg.byell).blockStart Pg.wit else s
  else if n = 12 then s.recMount
  else if n = 13 then s.modBoot ({ · with trained := true })
  else if n = 15 then s.lspRestart
  else if n = 16 then
    let lan := fun (s : State) (k : Nat) =>
      if bitW (Tab.get (fun _ => 0) s.nv.cfg (Rg.ctrl (Pg.port k))) 0 then s.blockStart (Pg.port k) else s
    lan (lan ((s.modPwr ({ · with netOn := true })).loadCfg (fun a => inNet (a / 0x1000)) |>.blockStart Pg.sw) 2) 3
  else if n = 17 then if s.ringMay then s.blockStart (Pg.port 0) else s
  else if n = 18 then if s.ringMay then s.blockStart (Pg.port 1) else s
  else if n = 19 then if s.ringMay && s.flag Fd.SW_ERPS_CFG_EN then s.erpsStart else s
  else if n = 21 then { s with time := { s.time with on := true } }.srcCfg
  else if n = 24 then
    let ms := (s.pwr.durs.map (·.2)).sum
    ((s.modPwr ({ · with done := true })).irq Pg.boot 1).raise Ev.BOOT_DONE Pg.boot [ms, s.takenMap]
  else s

/-- Stages that cannot fail except by a reset, R402. DEDUCED: log entry 172. -/
def stageSure (n : Nat) : Bool := n == 10 || n == 23 || n == 24

/-- The next stages start: bypassed ones give way to their actions, the first other one runs, R400, R401. DEDUCED: log
entry 171. -/
def State.bootGo : Nat → State → State
  | 0, s => s
  | f + 1, s =>
    match s.pwr.todo with
    | [] => s
    | n :: rest =>
      if s.pwr.stage ≠ 0 then s
      else if 13 ≤ n ∧ n ≤ 15 ∧ s.pwr.exchange = true then s
      else
        let s := (s.modPwr ({ · with todo := rest })).put Fd.BOOT_PROGRESS_STAGE n
        let worn := decide (2 ≤ s.failCnt n) && !stageSure n && !s.pwr.noLedger
        let again := decide (s.nv.cnt.pwrcyc % 16 = 0)
        if worn && !again then
          let how := if n = 1 ∨ n = 3 ∨ n = 5 ∨ n = 8 ∨ n = 12 ∨ n = 13 then 1 else 2
          let s := s.modPwr fun p => { p with taken := Tab.set (fun _ => 0) p.taken n how }
          ((s.raise Ev.BOOT_STAGE_ALT Pg.boot [n, how]).stageAction n).bootGo f
        else
          let s : State := if worn then s.raise Ev.BOOT_STAGE_ALT Pg.boot [n, 3] else s
          let s := (s.setRes n 3).modPwr ({ · with stage := n, stageAt := s.ns })
          let s := s.modBoot ({ · with started := n })
          if n = 10 then s.modPwr ({ · with leave := true }) else s

/-- Stages are put in line, again if they have run, R407, R413. -/
def State.runStages (s : State) (l : List Nat) : State :=
  let p := s.pwr
  let s := s.modPwr fun p => { p with
    todo := p.todo.filter (fun n => !l.contains n) ++ l, stage := if l.contains p.stage then 0 else p.stage }
  let s := l.foldl (fun s n => s.setRes n 0) s
  let s : State := if l.contains p.stage then s.modBoot ({ · with started := 0 }) else s
  s.bootGo 32

/-- Stage n ends FAILED with a cause (1 check, 2 deadline, 3 reset during the stage). The active graph is empty when
stage 8 fails, R78, R402. DEDUCED: log entry 172. -/
def State.stageFail (s : State) (n cause : Nat) : State :=
  let s := (s.setFail n (s.failCnt n + 1)).setRes n 2
  let s := if n = 8 then s.graphActivate .empty else s
  (s.irq Pg.boot 0).raise Ev.BOOT_STAGE_FAIL Pg.boot [n, cause, s.failCnt n]

/-- The running stage ends: its duration is noted, and the next one starts. DEDUCED: log entry 172. -/
def State.stageNext (s : State) (n ms : Nat) : State :=
  let s := s.modPwr fun p => { p with stage := 0, durs := Tab.set (fun _ => 0) p.durs n (min ms 65535) }
  ((s.modBoot ({ · with started := 0 }))).bootGo 32

/-- Stage 8 fails when neither graph copy is valid, R402. -/
def State.stageOk (s : State) (n : Nat) : Bool := n != 8 || s.nv.graphBoot.isSome

/-- BOOT_STAGE_DONE: the running stage ends after `ms`, PASSED or FAILED. DESIGN CHOICE: log entry 174. -/
def State.stageDone (s : State) (ok : Bool) (ms : Nat) : State :=
  let n := s.pwr.stage
  if n = 0 then s
  else if (ok && s.stageOk n) || stageSure n then (((s.setFail n 0).setRes n 1).stageWork n).stageNext n ms
  else (s.stageFail n 1).stageNext n ms

/-- BOOT_STAGE_DEADLINE: the running stage has not completed by its deadline. -/
def State.stageLate (s : State) (ms : Nat) : State :=
  let n := s.pwr.stage
  if n = 0 ∨ stageSure n = true then s else (s.stageFail n 2).stageNext n ms

/-- The boot sequence starts, R400; a stage that a watchdog or the supervisor cut short has failed. DEDUCED: log entry
171. -/
def State.bootStart (s : State) : State :=
  let c := s.nv.cnt
  let s := { s with nv := { s.nv with cnt := { c with pwrcyc := (c.pwrcyc + 1) % 2 ^ 24 } } }
  let s := s.recBoot
  let s : State := if s.nv.boot.noHoldup then
      (s.modBoot ({ · with noHoldup := false })).raise Ev.PWR_NO_HOLDUP Pg.pwr []
    else s
  let n := s.nv.boot.started
  let hard := s.flag Fd.SYS_RST_CAUSE_WDOG || s.flag Fd.SYS_RST_CAUSE_SUPV
  let s : State := if n ≠ 0 ∧ hard = true then s.stageFail n 3 else s
  let s := (s.modBoot ({ · with started := 0 })).modPwr fun p => { p with
    noLedger := s.nv.boot.unreadable
    todo := (List.range 24).map (· + 1), stage := 0, results := [], taken := [], durs := [], pgAt := s.ns }
  s.bootGo 32

/-! ### Resets (R47, R414, R416) -/

/-- Fields that only a COLD reset touches: the RTC's block registers but STAGE, and TAMP.LATCH (R47, R236, R353). -/
def alwaysOnReg (a : Nat) : Bool :=
  (a / 0x1000 == Pg.rtc && decide (0x040 ≤ a % 0x1000) && a != Rg.RTC_STAGE) || a == Rg.TAMP_LATCH

/-- Every page but the always-on fields at its reset value; what lies outside the module, MRAM and NAND stay as they
are. -/
def State.afterReset (s : State) : State :=
  let s := s.calTorn
  let s := s.modBoot ({ · with lostAt := s.rtcSec })
  let p := s.pwr
  let g := s.ground
  let di := s.io.di.map fun (i, d) => (i, ({ raw := d.raw } : Di))
  let di := di.filter fun e => e.2.raw
  let sfp := [0, 1].map fun n => (s.get (Fd.PORT_LINK_SFP_PRESENT n), s.get (Fd.PORT_LINK_TX_FAULT n))
  let t : State := { State.reset with
    pending := s.pending, nv := s.nv, vol := s.vol, tai := s.tai, ns := s.ns, free := s.free
    regs := Tab.clear (fun a => !alwaysOnReg a) s.regs
    rtc := { s.rtc with stage := .init }
    ground := { early := false, live := g.live, asleep := g.asleep }
    io := { di := di, coFb := s.io.coFb }
    pcie := { hostMem := s.pcie.hostMem, sent := s.pcie.sent }
    pwr := { vin := p.vin, pgood := p.pgood, vhold := p.vhold, ready := p.ready, charging := p.charging, holdAt := p.holdAt } }
  let t := ([0, 1].zip sfp).foldl (fun (t : State) e =>
    (t.put (Fd.PORT_LINK_SFP_PRESENT e.1) e.2.1).put (Fd.PORT_LINK_TX_FAULT e.1) e.2.2) t
  ((List.range 16).foldl State.fvBoot t).calLoad

/-- A MODULE reset is started and held for the work of R414, unless `bare`. -/
def State.startReset (s : State) (c : ResetCause) (bare : Bool) : State :=
  if s.pwr.resetHold.isSome || !s.rtOn then s
  else
    let s := s.modPwr ({ · with resetHold := some c, noHold := bare })
    if bare then s else s.yieldIfStandby.recGasp

/-- The bit of SYS.RST_CAUSE for a reset cause; a wake sets none. DEDUCED: log entry 173. -/
def ResetCause.bit : ResetCause → Word
  | .por => 1
  | .supv => 4
  | .wdog => 8
  | .cmd => 16
  | .dbg => 32
  | .wake => 0

/-- MODULE_RESET: the reset that is held takes effect, and the boot sequence starts. DEDUCED: log entry 177. -/
def State.moduleReset (s : State) : State :=
  match s.pwr.resetHold with
  | none => s
  | some c =>
    let s := s.afterReset.wr Rg.SYS_RST_CAUSE c.bit
    let s := if c = .wdog then s.put Fd.WDOG_EXP_RT 1 else s
    s.bootStart

/-- Every page, the always-on fields too; RTC sets its oscillator-stopped flag, R47. DEDUCED: log entry 155. -/
def State.coldState (s : State) : State :=
  let s := s.afterReset
  let s := { s with
    regs := Tab.clear (fun a => alwaysOnReg a) s.regs, rtc := .init
    ground := { s.ground with early := true, asleep := false } }
  s.put Fd.RTC_OSF_OSF 1

/-- COLD_RESET: VBAT falls below 1.7 V while VIN is absent. -/
def State.coldReset (s : State) : State :=
  if s.pwr.state = .vbatOnly ∨ s.pwr.state = .off then
    s.coldState.modPwr ({ · with state := .off, pgood := false, ready := false, cold := true })
  else s

/-- SUPERVISOR_RESET: cause 1 no edge, 2 lockstep, 3 rail. -/
def State.supvReset (s : State) (cause : Nat) : State :=
  if s.pwr.resetHold.isSome || !s.rtOn || (s.pwr.halted && cause == 2) then s
  else
    let c := s.nv.cnt
    let s := { s with nv := { s.nv with cnt := { c with supvCnt := min 255 (c.supvCnt + 1), supvLast := cause } } }
    (s.raise Ev.SUPV_RESET Pg.wdog [cause]).startReset .supv (cause == 2)

/-- Initiator n has not written KICK for `ms` ms, at the latest by the end of the running tick (R415). Before stage 5 the
model keeps no time (log entry 174), and nothing bars the expiry. -/
def State.unkicked (s : State) (n ms : Nat) : Bool :=
  !s.pwr.light || decide (Tab.get (fun _ => 0) s.pwr.kicks n + 1000000 * ms ≤ s.ns + 1000000 * s.pms)

/-- RT_WATCHDOG_EXPIRE. DEDUCED: log entry 177. -/
def State.rtWatchdog (s : State) : State :=
  if s.pwr.halted || s.pwr.resetHold.isSome || !s.rtOn || !s.unkicked 0 (s.get Fd.WDOG_RT_WD_PERIOD) then s
  else ((s.irq Pg.wdog 0).raise Ev.WDOG_EXPIRED Pg.wdog [0, 1]).startReset .wdog false

/-- DEBUG_RESET_REQUEST: neither step of R414 runs while the complex is halted. -/
def State.dbgReset (s : State) : State := s.startReset .dbg s.pwr.halted

/-- ROM_EXEC_RESET: 24 h after the ROM executive began. DEDUCED: log entry 173. -/
def State.romReset (s : State) : State := if s.pwr.romExec then s.startReset .cmd false else s

/-- A DOMAIN reset of the application domain, R413; cause 1 command, 2 watchdog. -/
def State.domainApp (s : State) (cause : Nat) : State :=
  if !s.appUp then s
  else (s.appReset.raise Ev.DOMAIN_RESET Pg.pwr [1, cause]).runStages [13, 14, 15]

/-- A DOMAIN reset of the network domain. -/
def State.domainNet (s : State) (cause : Nat) : State :=
  if !s.netUp then s
  else (s.netReset.raise Ev.DOMAIN_RESET Pg.pwr [2, cause]).runStages [16, 17, 18, 19, 20, 21, 22]

/-- NET_WATCHDOG_EXPIRE. -/
def State.netWatchdog (s : State) : State := if s.flag (Fd.en Pg.sw) then s.domainNet 2 else s

/-- CORE_WATCHDOG_EXPIRE of core n. DEDUCED: log entry 177. -/
def State.coreWatchdog (s : State) (n : Nat) : State :=
  if 4 ≤ n ∨ s.appUp = false ∨ s.flag (Fd.WDOG_CORE_WD_EN n) = false ∨
      s.unkicked (n + 1) (s.get (Fd.WDOG_CORE_WD_PERIOD n)) = false then s
  else
    let act := s.get (Fd.WDOG_CORE_WD_ACT n)
    let s := (s.put ⟨Rg.WDOG_EXP, 1 + n, 1⟩ 1).irq Pg.wdog 0
    let s := s.raise Ev.WDOG_EXPIRED Pg.wdog [n + 1, act]
    if act = 1 then s.domainApp 2 else s

/-- KICK by initiator ini: the real-time complex or an application core. -/
def State.kick (s : State) (ini : Nat) : State :=
  if 4 < ini then s else s.modPwr fun p => { p with kicks := Tab.set (fun _ => 0) p.kicks ini s.ns }

/-! ### Power states (R398, R399, R406 to R411) -/

/-- No boot has begun since reset. -/
def PwrSt.fresh (p : PwrSt) : Bool := p.state == .run && p.results.isEmpty && p.taken.isEmpty && p.todo.isEmpty

/-- POWER_GOOD_RISE with VIN in mV: the boot starts from VBAT_ONLY, from Off (COLD) or from the reset state; after a reset in
HOLDUP the supply is back before stage 5 (R411). DEDUCED: log entry 173. -/
def State.powerRise (s : State) (vin : Nat) : State :=
  let p := s.pwr
  let cold := p.state == .off || p.fresh
  if p.state ≠ .vbatOnly ∧ cold = false then
    if (p.state = .run ∨ p.state = .low) ∧ p.pgood = false then s.modPwr ({ · with vin := vin, pgood := true, charging := true })
    else s
  else
    let s := if p.state = .vbatOnly then s.afterReset else s.coldState
    let s := s.modPwr ({ · with vin := vin, pgood := true, ready := false, vhold := 0, charging := true })
    let bits : Nat := 1 + 2 * b2n p.throughHoldup + 64 * b2n cold
    let s := s.wr Rg.SYS_RST_CAUSE (BitVec.ofNat 32 bits)
    let s := if p.state = .vbatOnly then (s.irq Pg.pwr 0).raise Ev.PWR_STATE Pg.pwr [4, 0] else s
    s.bootStart

/-- Power is gone, with or without VBAT: what the always-on domain does not hold is lost. -/
def State.powerGone (s : State) (vbat : Bool) : State :=
  let s := (((s.calTorn).recTorn).modBoot ({ · with lostAt := s.rtcSec })).rtcCancel
  let s := s.modPwr fun p => { p with
    state := if vbat then .vbatOnly else .off, light := false, appOn := false, netOn := false, pgood := false, ready := false
    charging := false, resetHold := none, wakeReq := 0 }
  { s with vol := {} }

/-- POWER_GOOD_FALL, R398, R399, R410. -/
def State.powerFall (s : State) (vin : Nat) (vbat : Bool) : State :=
  if (s.pwr.state ≠ .run ∧ s.pwr.state ≠ .low) ∨ s.pwr.pgood = false then s
  else
    let s := s.modPwr ({ · with vin := vin, pgood := false, charging := false })
    if s.pwr.ready then s.enterHoldup s.holdPlan
    else (s.modBoot ({ · with noHoldup := true })).powerGone vbat

/-- VHOLD_READY: VHOLD in mV has reached 4.5 V, or goes on rising to 5.0 V (R399). -/
def State.vholdReady (s : State) (mv : Nat) : State :=
  if !s.rtOn || !s.pwr.pgood || decide (mv < 4500) then s
  else if s.pwr.ready then s.modPwr ({ · with vhold := mv, charging := decide (mv < 5000) })
  else (s.modPwr ({ · with vhold := mv, ready := true, charging := decide (mv < 5000) })).irq Pg.pwr 1

/-- RIDE_THROUGH_END: T_r ends or VHOLD falls too low: power-down work begins with the node copies, R411. -/
def State.rideEnd (s : State) : State :=
  if s.pwr.state ≠ .holdup ∨ s.pwr.irrev = true then s
  else
    (s.modPwr ({ · with irrev := true })).copyAllNodes

/-- POWER_DOWN_DONE: the module is in VBAT_ONLY, or off. -/
def State.powerDown (s : State) (vbat : Bool) : State :=
  if s.pwr.state ≠ .holdup ∨ s.pwr.irrev = false then s
  else
    let s := if vbat then (s.raise Ev.PWR_STATE Pg.pwr [2, 4]).recGasp else s.recGasp
    s.powerGone vbat

/-- PWR_VIN_RETURN: VIN has held 9.0 V for 50 ms before power-down work began, R407. -/
def State.vinReturn (s : State) (vin : Nat) : State :=
  if s.pwr.state ≠ .holdup ∨ s.pwr.irrev = true then s
  else
    let low := s.pwr.fromLow
    let s := s.raise Ev.PWR_VIN_RETURN Pg.pwr [(s.ns - s.pwr.holdAt) / 1000000]
    let s := { s with rcd := { s.rcd with gasp := false, copying := s.rcd.mounted } }
    let s := (s.setPwr (if low then .low else .run)).modPwr ({ · with
      vin := vin, pgood := true, charging := true, netOn := true, appOn := !low, throughHoldup := false })
    let rest := if s.pwr.done || s.pwr.romExec then [] else [23, 24]
    s.runStages ([16, 17, 18, 19, 20, 21, 22] ++ (if low then [] else [13, 14, 15]) ++ rest)

/-- PWR.CMD_STAT. -/
def State.pwrStat (s : State) (r : Nat) : State := s.put Fd.PWR_CMD_STAT_RESULT r

/-- LOW to RUN: the application domain starts, R407. -/
def State.toRun (s : State) : State := ((s.setPwr .run).modPwr ({ · with appOn := true })).runStages [13, 14, 15]

/-- The pending records are written out: to NAND, or to the fallback region while the log is degraded. -/
def State.recDrain (s : State) : State :=
  let l := s.rcd.handed ++ s.rcd.waiting
  let s := { s with rcd := { s.rcd with ring := [], lost := none, handed := [] } }
  l.foldl (fun t r => if t.logUp then t.recToLog r else t.recToFallback r) s

/-- PWR.CMD STANDBY, R407, R408. DEDUCED: log entry 178. -/
def State.toStandby (s : State) : State :=
  if s.role = 1 then s.pwrStat 1
  else if s.nv.upd.state = 6 ∨ s.nv.upd.state = 8 then s.pwrStat 2
  else
    let s := ((s.pwrStat 0).setPwr .standby).calTorn
    let s := ((s.recDrain).energySave true).copyAllNodes
    let s := (s.modBoot ({ · with lostAt := s.rtcSec })).rtcCancel
    { s.modPwr ({ · with light := false, appOn := false, netOn := false }) with vol := {} }

/-- A write of PWR.CMD with operation op. -/
def State.pwrCmd (s : State) (op : Nat) : State :=
  if s.pwr.state ≠ .run ∧ s.pwr.state ≠ .low then s
  else
    let low := s.pwr.state == .low
    if op = 1 then if low then (s.pwrStat 0).toRun else s.pwrStat 3
    else if op = 2 then
      if low then s.pwrStat 3
      else
        let s := (((s.pwrStat 0).appDown).setPwr .low).modPwr fun p => { p with
          todo := p.todo.filter (fun n => n < 13 || 15 < n), stage := if 13 ≤ p.stage ∧ p.stage ≤ 15 then 0 else p.stage }
        s.bootGo 32
    else if op = 3 then s.toStandby
    else if op = 4 then (s.pwrStat 0).domainApp 1
    else if op = 5 then (s.pwrStat 0).domainNet 1
    else s

/-- The wake requests that WAKE_EN selects, in the layout of WAKE_SRC. -/
def State.wakeSrc (s : State) : Nat :=
  s.pwr.wakeReq &&& (s.get Fd.PWR_WAKE_EN_DI * 256 + s.get Fd.PWR_WAKE_EN_TIMER)

/-- PWR_WAKE, R407: from STANDBY in every respect a MODULE reset with no cause bit; from LOW to RUN. -/
def State.wake (s : State) : State :=
  let src := s.wakeSrc
  if src = 0 then s
  else if s.pwr.state = .standby then
    let s := s.afterReset.wr Rg.PWR_WAKE_SRC (BitVec.ofNat 32 src)
    let s := (s.irq Pg.pwr 0).raise Ev.PWR_STATE Pg.pwr [3, 0]
    (s.raise Ev.PWR_WAKE Pg.pwr [src]).bootStart
  else if s.pwr.state = .low then
    ((s.wr Rg.PWR_WAKE_SRC (BitVec.ofNat 32 src)).raise Ev.PWR_WAKE Pg.pwr [src]).toRun
  else s

/-- VIN_LOST_STANDBY. -/
def State.vinLost (s : State) (vbat : Bool) : State :=
  if s.pwr.state = .standby then s.powerGone vbat else s

/-- A write of BOOT.CMD, R419. -/
def State.bootCmd (s : State) (v : Word) : State :=
  let op := getF v 0 2
  if op = 1 then s.modBoot ({ · with fails := [] })
  else if op = 2 then s.setFail (getF v 2 5) 0
  else s

/-! ### Words as read (R418 to R420) -/

/-- PWR.STATE. -/
def State.pwrStateWord (s : State) : Word := BitVec.ofNat 32 (s.holdPlan * 256 + min s.pwr.state.code 2)

/-- PWR.VIN_MON. -/
def State.vinWord (s : State) : Word := BitVec.ofNat 32 (b2n s.pwr.pgood * 65536 + min s.pwr.vin 65535)

/-- PWR.VHOLD_MON. -/
def State.vholdWord (s : State) : Word :=
  BitVec.ofNat 32 (b2n s.pwr.charging * 2 ^ 17 + b2n s.pwr.ready * 65536 + min s.pwr.vhold 65535)

/-- BOOT.PROGRESS. -/
def State.progressWord (s : State) : Word :=
  BitVec.ofNat 32 (b2n s.pwr.noLedger * 1024 + b2n s.pwr.romExec * 512 + b2n s.pwr.done * 256 + s.get Fd.BOOT_PROGRESS_STAGE)

/-- BOOT.STAGE_STAT of the selected stage. -/
def State.stageWord (s : State) : Word :=
  let n := s.get ⟨Rg.BOOT_STAGE_SEL, 0, 5⟩
  BitVec.ofNat 32 (s.stageRes n * 2 ^ 30 + s.stageTaken n * 2 ^ 28 + Tab.get (fun _ => 0) s.pwr.durs n)

/-- WDOG.SUPV. -/
def State.supvWord (s : State) : Word := BitVec.ofNat 32 (s.nv.cnt.supvLast * 256 + s.nv.cnt.supvCnt)

end Sys2Proof.Machine
end

