-- ==== Sys2Proof/Machine/Read.lean ====
section
/-! DEFINITION. What a register reads as (R41, R48 and the register map of each page): the stored word, or the value that a
block computes. -/

namespace Sys2Proof.Machine

/-- The key of register o of page p: on GROUP, IU, QM and PCIE some registers act on the copy that a window register names
(R120, R301, R303, R305). -/
def State.regKey (s : State) (p o : Nat) : Nat :=
  if p = Pg.group ∧ 0x44 ≤ o ∧ o ≤ 0x54 then bank (s.get ⟨Rg.GROUP_GRP_SEL, 0, 9⟩) (Rg.reg p o)
  else if p = Pg.iu ∧ o = 0x48 then bank (s.get ⟨Rg.IU_SRC_SEL, 0, 8⟩) (Rg.reg p o)
  else if p = Pg.qm ∧ 0x44 ≤ o ∧ o ≤ 0x50 then bank (s.get ⟨Rg.QM_Q_SEL, 0, 6⟩) (Rg.reg p o)
  else if p = Pg.pcie ∧ 0x60 ≤ o ∧ o ≤ 0x7C then bank (s.get ⟨Rg.PCIE_CQ_SEL, 0, 3⟩) (Rg.reg p o)
  else Rg.reg p o

/-- The stored word of register o of page p. -/
def State.word (s : State) (p o : Nat) : Word := s.rd (s.regKey p o)

/-! ### The header (R41) -/

/-- ID. -/
def idWord (p base : Nat) : Word := BitVec.ofNat 32 ((0x4700 + base) * 65536 + (p - base) * 256 + 1)

/-- CTRL: EN as the page's chapter says, SRST and FLUSH while they are in progress, and the block controls. DEDUCED:
log entry 12. -/
def State.ctrlWord (s : State) (p : Nat) (pi : PageInfo) : Word :=
  let en := if p = Pg.tick then b2n (s.tick.booted && !s.flag (Fd.srstBusy p)) else if pi.always then 1 else s.get (Fd.en p)
  (s.rd (Rg.ctrl p) &&& BitVec.ofNat 32 pi.ctrl) |||
    BitVec.ofNat 32 (en + 2 * s.get (Fd.srstBusy p) + 4 * s.get (Fd.flushBusy p))

/-- STAT: RUN, SRST_BUSY, FLUSH_BUSY, ERR_PEND, WD_EXP and the block's bits. DEDUCED: log entries 12, 179. -/
def State.statWord (s : State) (p : Nat) (pi : PageInfo) : Word :=
  let run := if p = Pg.tick then b2n s.pwr.light else if pi.always then 1 else s.get (Fd.run p)
  let blk := if p = Pg.node then
      BitVec.ofNat 32 (s.get Fd.NODE_CMD_STAT_BUSY * 256 + b2n ((List.range 16).any s.walking) * 512)
    else if isFb p then
      (s.rd (Rg.stat p) &&& BitVec.ofNat 32 pi.stat) |||
        BitVec.ofNat 32 (b2n (s.flag (Fd.run p) && s.listening (p - 0x10)) * 256)
    else if isMet p then
      (s.rd (Rg.stat p) &&& BitVec.ofNat 32 pi.stat) ||| BitVec.ofNat 32 (b2n (s.metUncal (p - 0x30)) * 2048)
    else s.rd (Rg.stat p) &&& BitVec.ofNat 32 pi.stat
  blk ||| BitVec.ofNat 32 (run + 2 * s.get (Fd.srstBusy p) + 4 * s.get (Fd.flushBusy p) +
    8 * s.get ⟨Rg.errCap p, 31, 1⟩ + 16 * s.get (Fd.wdExp p))

/-- LOCK reads 1 while armed, R41. -/
def State.lockWord (s : State) (p : Nat) : Word :=
  if (Tab.get (fun _ => none) s.acc.lock p).isSome then 1 else 0

/-- A header register of page p. Every interrupt condition is 1 for one cycle only, so that IRQ_RAW reads 0 (DEDUCED: log
entry 13). IRQ_SET reads the doorbells on page IU (R12, R281) and 0 on every other page (R43). -/
def State.header (s : State) (p : Nat) (pi : PageInfo) (o : Nat) : Word :=
  if o = 0x000 then idWord p pi.base
  else if o = 0x004 then 0x42010000
  else if o = 0x008 then s.ctrlWord p pi
  else if o = 0x00C then s.statWord p pi
  else if o = 0x010 then 0
  else if o = 0x01C then if p = Pg.iu then s.rd Rg.IU_DOORBELL else 0
  else if o = 0x028 then s.lockWord p
  else s.rd (Rg.reg p o)

/-! ### Block registers that are computed -/

/-- Characters of the serial, R440. -/
def serialAlphabet : List Nat :=
  [48, 49, 50, 51, 52, 53, 54, 55, 56, 57, 65, 66, 67, 68, 69, 70, 71, 72, 74, 75, 77, 78, 80, 81, 82, 83, 84, 86, 87, 88,
    89, 90]

/-- Character k of the lid serial, from 0, in ASCII (R440). -/
def serialChar (k : Nat) : Nat :=
  let v := ((sha256 uidBytes).take 5).foldl (fun a b => a * 256 + b % 256) 0
  (serialAlphabet[v >>> (35 - 5 * k) % 32]?).getD 0

/-- Four characters of the serial from character k. -/
def serialWord (k : Nat) : Word := BitVec.ofNat 32 (ofLe ((List.range 4).map fun i => serialChar (k + i)))

/-- Bits 31:0 of a wide value. -/
def lo32 (n : Nat) : Word := BitVec.ofNat 32 (n % 2 ^ 32)

/-- Bits 63:32 of a wide value. -/
def hi32 (n : Nat) : Word := BitVec.ofNat 32 (n / 2 ^ 32 % 2 ^ 32)

/-- SYS, R48. -/
def State.sysRead (s : State) (o : Nat) : Word :=
  if 0x40 ≤ o ∧ o ≤ 0x4C then Config.uid ((o - 0x40) / 4)
  else if o = 0x50 then serialWord 0
  else if o = 0x54 then serialWord 4
  else if o = 0x58 then if Config.gradeAX then 1 else 0
  else if o = 0x60 then 0
  else if o = 0x6C then lo32 s.nv.cnt.opsec
  else if o = 0x70 then BitVec.ofNat 32 (s.nv.cnt.pwrcyc % 2 ^ 24)
  else s.word Pg.sys o

/-- TICK, R69; the outcome of the running tick shows from the guard band on (R55). -/
def State.tickRead (s : State) (o : Nat) : Word :=
  if o = 0x44 then lo32 s.tick.num else if o = 0x48 then hi32 s.tick.num
  else match s.tick.shown with
    | none => s.word Pg.tick o
    | some (ovr, clean, mode) =>
      if o = 0x58 then ovr else if o = 0x5C then clean
      else if o = 0x60 then setF mode 4 1 (s.get Fd.TICK_MODE_FORCE_SCHED)
      else s.word Pg.tick o

/-- MET, R208. -/
def State.metRead (s : State) (n o : Nat) : Word :=
  if o = 0xB4 then lo32 (s.metEnergy n)
  else if o = 0xB8 then hi32 (s.metEnergy n)
  else if o = 0xC0 then s.metHarmWord n
  else s.metQty n o

/-- TRACE, R209. -/
def State.traceRead (s : State) (o : Nat) : Word :=
  let k := s.get ⟨Rg.TRACE_CODE_SEL, 0, 6⟩
  if o = 0x48 then BitVec.ofNat 32 (b2n ((s.slot k).state == 1) * 2 ^ 31 + (s.slot k).nodeSel % 4096)
  else if o = 0x4C then s.traceResult k
  else if o = 0x50 then s.traceBusy 0
  else if o = 0x54 then s.traceBusy 1
  else if o = 0x58 then lo32 s.traceUnkP
  else if o = 0x5C then BitVec.ofNat 32 ((s.slot k).amp % 65536)
  else s.word Pg.trace o

/-- CAL, R210. -/
def State.calRead (s : State) (o : Nat) : Word :=
  if o = 0x50 then s.calSrcWord else if o = 0x5C then s.calMap 2 else if o = 0x60 then s.calMap 0 else s.word Pg.cal o

/-- RTC, R236. -/
def State.rtcRead (s : State) (o : Nat) : Word :=
  if o = 0x48 then BitVec.ofNat 32 s.rtcSub
  else if o = 0x4C then rtcDate s.rtcSec
  else if o = 0x50 then rtcTime s.rtcSec
  else if o = 0x68 then BitVec.ofNat 32 s.wakeRem
  else s.word Pg.rtc o

/-- TIME, R237. -/
def State.timeRead (s : State) (o : Nat) : Word :=
  if o = 0x44 then s.srcStatWord
  else if o = 0x74 then BitVec.ofInt 32 (sat31 s.time.slew)
  else if o = 0x80 then BitVec.ofNat 32 (s.tai % 1000000000)
  else if o = 0x84 then lo32 s.taiSec
  else if o = 0x88 then hi32 s.taiSec
  else s.word Pg.time o

/-- SCHED, R256. -/
def State.schedRead (s : State) (o : Nat) : Word :=
  if 0x44 ≤ o ∧ o ≤ 0x54 then s.schedWinWord ((o - 0x44) / 4)
  else if o = 0x5C then Tab.get (fun _ => 0) s.sched.hol (s.get ⟨Rg.SCHED_HOL_SEL, 0, 6⟩)
  else if o = 0x64 then Tab.get (fun _ => 0) s.sched.scene (s.get ⟨Rg.SCHED_SCENE_SEL, 0, 10⟩)
  else if o = 0x88 then s.schedBaseWord (s.get ⟨Rg.SCHED_BASE_SEL, 0, 9⟩)
  else if o = 0x90 then s.schedSolarWord (s.get ⟨Rg.SCHED_SOLAR_SEL, 0, 2⟩)
  else if o = 0x98 then s.fbStat
  else s.word Pg.sched o

/-- SW, R271. -/
def State.swRead (s : State) (o : Nat) : Word :=
  if o = 0x54 then setF (s.word Pg.sw o) 16 16 (min s.wtrRem 65535)
  else if o = 0x60 then lo32 baseMac
  else if o = 0x64 then BitVec.ofNat 32 (baseMac / 2 ^ 32 % 65536)
  else s.word Pg.sw o

/-- IU and IUCn, R301, R302. -/
def State.iuRead (s : State) (o : Nat) : Word :=
  if o = 0x4C then s.iuSrcStat (s.get ⟨Rg.IU_SRC_SEL, 0, 8⟩)
  else if 0x60 ≤ o ∧ o ≤ 0x7C then s.iuPendWord ((o - 0x60) / 4)
  else if o = 0xC0 then s.iuCoalStat
  else s.word Pg.iu o

/-- IUCn, R302. -/
def State.iucRead (s : State) (n o : Nat) : Word :=
  if o = 0x44 then s.iuVec n
  else if 0x60 ≤ o ∧ o ≤ 0x6C then s.iuStackWord n ((o - 0x60) / 4)
  else s.word (Pg.iuc n) o

/-- QM, R303. -/
def State.qmRead (s : State) (o : Nat) : Word :=
  let q := s.get ⟨Rg.QM_Q_SEL, 0, 6⟩
  if o = 0x44 then s.qCfgWord q else if o = 0x48 then s.qCfg2Word q else s.word Pg.qm o

/-- QMQ, R304; word 0 of a window is popped elsewhere. -/
def State.qmqRead (s : State) (ini o : Nat) : Word :=
  if o < 0x200 then s.qDepthWord ((o - 0x100) / 4) else s.qLatched ini ((o - 0x800) / 32) ((o - 0x800) / 4 % 8)

/-- PCIE, R305; HDB_SET is W1S and reads the doorbells (R12). -/
def State.pcieRead (s : State) (ini o : Nat) : Word :=
  if o = 0x54 then s.rd Rg.PCIE_HDB
  else if o = 0x78 then s.cqStatWord (s.get ⟨Rg.PCIE_CQ_SEL, 0, 3⟩)
  else if 0x80 ≤ o ∧ o ≤ 0x8C then Tab.get (fun _ => 0) s.pcie.stage (ini * 4 + (o - 0x80) / 4)
  else if o = 0x94 then BitVec.ofNat 32 (Tab.get (fun _ => 0) s.pcie.stat ini)
  else s.word Pg.pcie o

/-- GROUND, R352; MBX_OUT is popped elsewhere. -/
def State.groundRead (s : State) (o : Nat) : Word :=
  if o = 0x50 then BitVec.ofNat 32 s.lc
  else if o = 0x54 then lo32 s.nv.keys.ctr
  else if o = 0x58 then hi32 s.nv.keys.ctr
  else if o = 0x60 then s.slotStat (s.get ⟨Rg.GROUND_SLOT_SEL, 0, 7⟩)
  else s.word Pg.ground o

/-- UPD, R377. -/
def State.updRead (s : State) (o : Nat) : Word :=
  let u := s.nv.upd
  if o = 0x40 then u.stageWord
  else if o = 0x48 then lo32 u.seq
  else if o = 0x4C then hi32 u.seq
  else if o = 0x50 then lo32 u.runSeq
  else if o = 0x54 then hi32 u.runSeq
  else if o = 0x58 then lo32 u.ledger
  else if o = 0x5C then u.bitmapWord
  else if o = 0x60 then s.updTargetsWord
  else if o = 0x64 then lo32 u.deadline
  else if o = 0x68 then lo32 (u.actTick.getD 0)
  else if o = 0x6C then hi32 (u.actTick.getD 0)
  else if o = 0x70 then s.confirmWord
  else if o = 0x78 then u.exchangeWord
  else s.word Pg.upd o

/-- REC, R396. -/
def State.recRead (s : State) (ini o : Nat) : Word :=
  if o = 0x40 then lo32 (s.recSel ini)
  else if o = 0x44 then BitVec.ofNat 32 (Tab.get (fun _ => 0) s.rcd.rdCfg ini)
  else if o = 0x48 then s.recStat ini
  else if o = 0x4C then lo32 s.nv.cnt.nextIdx
  else if 0x50 ≤ o ∧ o ≤ 0x5C then BitVec.ofNat 32 (min (sevCount s.nv.log ((o - 0x50) / 4)) (2 ^ 24 - 1))
  else if o = 0x6C then BitVec.ofNat 32 (min s.nv.fb.length 4095)
  else if o = 0x70 then BitVec.ofNat 32 (min (s.rcd.used + b2n s.rcd.lost.isSome) 511)
  else if 0x74 ≤ o ∧ o ≤ 0x84 then lo32 (Tab.get (fun _ => 0) s.rcd.appParam (ini * 5 + (o - 0x74) / 4))
  else if 0xC0 ≤ o then Tab.get (fun _ => 0) s.rcd.rdWin (ini * 16 + (o - 0xC0) / 4)
  else s.word Pg.rec o

/-- AGE, R397. -/
def State.ageRead (s : State) (o : Nat) : Word :=
  let k := s.get ⟨Rg.AGE_ITEM_SEL, 0, 6⟩
  if o = 0x48 then s.ageMarginWord k
  else if o = 0x4C then BitVec.ofInt 32 (s.ageItem k).value
  else if o = 0x50 then BitVec.ofInt 32 (ageLimit k)
  else if o = 0x54 then BitVec.ofInt 32 ((s.ageNominal k).getD 0)
  else if o = 0x58 then lo32 (s.ageMeasAge k)
  else if o = 0x5C then s.avsWord
  else if o = 0x60 then BitVec.ofNat 32 (min s.age.nandDays 255)
  else if o = 0x68 then s.scapRes
  else s.word Pg.age o

/-- PWR, R418. -/
def State.pwrRead (s : State) (o : Nat) : Word :=
  if o = 0x40 then s.pwrStateWord
  else if o = 0x4C then s.vinWord
  else if o = 0x50 then s.vholdWord
  else if o = 0x58 then s.holdPlanWord
  else s.word Pg.pwr o

/-- BOOT, R419. -/
def State.bootRead (s : State) (o : Nat) : Word :=
  if o = 0x40 then s.progressWord
  else if o = 0x48 then s.stageWord
  else if o = 0x4C then BitVec.ofNat 32 (min (s.failCnt (s.get ⟨Rg.BOOT_STAGE_SEL, 0, 5⟩)) 255)
  else if o = 0x50 then BitVec.ofNat 32 s.takenMap
  else s.word Pg.boot o

/-- IO, R187. -/
def State.ioRead (s : State) (o : Nat) : Word :=
  if o = 0x50 then s.diRawWord else if o = 0x54 then s.coCmdWord else if o = 0x58 then s.coFbWord else s.word Pg.io o

/-- A bit per object of a bus whose STATE is one of a list, R157. -/
def State.moMap (s : State) (b k : Nat) (sts : List Nat) : Word :=
  BitVec.ofNat 32 (((List.range 32).filter fun j => sts.contains (s.moState b (32 * k + j)) &&
    (s.heads b).contains (32 * k + j)).foldl (fun a j => a + 2 ^ j) 0)

/-- Bits of a message-object word that exist: all of a continuation object's; MASK has none while the object is a
transmit object (R153). DEDUCED: log entry 24. -/
def State.moExist (s : State) (b o : Nat) : Word :=
  if (s.heads b).contains (o / 32) = false then 0xFFFFFFFF
  else if o % 32 = 0x0C ∨ o % 32 = 0x10 ∨ o % 32 = 0x14 then 0xFFFFFFFF
  else if o % 32 = 8 ∧ s.moTx b (o / 32) = true then 0
  else BitVec.ofNat 32 (impBits (Pg.fbmo b) o)

/-- A block register as it stands, R41.  Registers that only act when written read 0. -/
def State.block (s : State) (ini p o : Nat) : Word :=
  if p = Pg.sys then s.sysRead o
  else if p = Pg.tick then s.tickRead o
  else if p = Pg.plate ∧ o = 0x4C then s.plateWin.1
  else if p = Pg.group ∧ o = 0x58 then s.grpStat (s.get ⟨Rg.GROUP_GRP_SEL, 0, 9⟩)
  else if p = Pg.group ∧ 0x80 ≤ o then s.brokenWord ((o - 0x80) / 4)
  else if p = Pg.node ∧ o = 0x60 then s.nodeCounts
  else if p = Pg.node ∧ o = 0x64 then s.nodeCounts2
  else if p = Pg.node ∧ 0x80 ≤ o then s.entWord ((o - 0x80) / 4)
  else if isFb p ∧ 0x90 ≤ o ∧ o ≤ 0x9C then s.moMap (p - 0x10) ((o - 0x90) / 4) [1, 2]
  else if isFb p ∧ 0xA0 ≤ o then s.moMap (p - 0x10) ((o - 0xA0) / 4) [6]
  else if isMet p then s.metRead (p - 0x30) o
  else if p = Pg.trace then s.traceRead o
  else if p = Pg.cal then s.calRead o
  else if p = Pg.rtc then s.rtcRead o
  else if p = Pg.time then s.timeRead o
  else if p = Pg.sched then s.schedRead o
  else if p = Pg.sw then s.swRead o
  else if p = Pg.iu then s.iuRead o
  else if isIuc p then s.iucRead (p - 0x49) o
  else if p = Pg.qm then s.qmRead o
  else if p = Pg.qmq then s.qmqRead ini o
  else if p = Pg.pcie then s.pcieRead ini o
  else if p = Pg.wit ∧ o = 0x48 then s.leaseWord
  else if p = Pg.ground then s.groundRead o
  else if p = Pg.tamp ∧ o = 0x4C then s.tampLive
  else if p = Pg.upd then s.updRead o
  else if p = Pg.rec then s.recRead ini o
  else if p = Pg.age then s.ageRead o
  else if p = Pg.pwr then s.pwrRead o
  else if p = Pg.boot then s.bootRead o
  else if p = Pg.wdog ∧ o = 0x58 then s.supvWord
  else if p = Pg.io then s.ioRead o
  else s.word p o

/-- The value of the register at offset o of page p as it stands; bits that do not exist read 0. DEDUCED: log entry
12. -/
def State.live (s : State) (ini p o : Nat) : Word :=
  if isFbmo p then s.rd (Rg.reg p o) &&& s.moExist (p - 0x20) o
  else match pageInfo p with
    | none => 0
    | some pi => (if o < 0x40 then s.header p pi o else s.block ini p o) &&& BitVec.ofNat 32 (impBits p o)

end Sys2Proof.Machine
end

