-- ==== Sys2Proof/Machine/Write.lean ====
section
/-! DEFINITION. What a write of a register does, page by page (R41, R43 and the register map of each page). -/

namespace Sys2Proof.Machine

/-- The plain part of a write of a block register: fields that software writes take the value as `clampReg` stores it,
and 1s clear W1C bits. -/
def State.store (s : State) (p o : Nat) (v : Word) : State :=
  match pageInfo p with
  | none => s
  | some pi => match findRow pi.rows o with
    | none => s
    | some r =>
      let old := s.word p o
      let v' := clampReg p o old v
      let new := (old &&& ~~~(BitVec.ofNat 32 r.rw)) ||| (v' &&& BitVec.ofNat 32 r.rw)
      s.wr (s.regKey p o) (new &&& ~~~(v &&& BitVec.ofNat 32 r.w1c))

/-! ### The MRAM configuration region (R33) -/

/-- The register's contents are kept in the configuration region: the group table (R106), the feeder buses, the ports,
the pair settings, the switch, the time engine, the witness port, the catch-up time, the place and zone, and the tick
period (R49). DEDUCED: log entry 11. -/
def persists (p o : Nat) : Bool :=
  if p = Pg.tick then o == 0x40
  else if p = Pg.group then decide (0x44 ≤ o ∧ o ≤ 0x54)
  else if 0x10 ≤ p ∧ p ≤ 0x1F then [0x08, 0x40, 0x44, 0x4C, 0x58, 0x5C].contains o
  else if 0x41 ≤ p ∧ p ≤ 0x44 then [0x08, 0x40, 0x48].contains o
  else if p = Pg.pair then [0x40, 0x4C, 0x60].contains o
  else if p = Pg.sw then decide (0x40 ≤ o ∧ o ≤ 0x4C)
  else if p = Pg.time then [0x40, 0x48, 0x4C, 0x60, 0x6C, 0x8C, 0x90, 0x94].contains o
  else if p = Pg.wit then [0x40, 0x44, 0x50, 0x54].contains o
  else if p = Pg.sched then o == 0x68 || decide (0x70 ≤ o ∧ o ≤ 0x80)
  else false

/-- The stored word of a register goes into the configuration region if it is kept there; of UTC_OFS only CFG.
DEDUCED: log entry 11. -/
def State.persist (s : State) (p o : Nat) : State :=
  if persists p o then
    let k := s.regKey p o
    let w := if k = Rg.TIME_UTC_OFS then setF (s.rd k) 16 16 37 else s.rd k
    { s with nv := { s.nv with cfg := Tab.set regReset s.nv.cfg k w } }
  else s

/-! ### Header writes -/

/-- A write of CTRL of page p, R41, R44: SRST goes first, then EN and FLUSH. DEDUCED: log entry 18. -/
def State.ctrlWrite (s : State) (p : Nat) (pi : PageInfo) (v : Word) : State :=
  let c := BitVec.ofNat 32 pi.ctrl
  let s := s.wr (Rg.ctrl p) ((s.rd (Rg.ctrl p) &&& ~~~c) ||| (v &&& c))
  if bitW v 1 then (s.blockReset p).persist p 0x08
  else
    let s := if bitW v 0 then s.blockStart p else s.blockStop p
    let s := s.persist p 0x08
    if bitW v 2 then s.blockFlush p else s

/-- A write of a header register of page p but LOCK. DEDUCED: log entry 14. -/
def State.headerWrite (s : State) (p : Nat) (pi : PageInfo) (o : Nat) (v : Word) : State :=
  if o = 0x008 then s.ctrlWrite p pi v
  else if o = 0x014 then (s.withReq p (·.wr (Rg.irqEn p) v)).iuChanged
  else if o = 0x018 then (s.wr (Rg.irqStat p) (s.rd (Rg.irqStat p) &&& ~~~v)).iuChanged
  else if o = 0x01C then if p = Pg.iu then s.iuDoorbell v else s
  else if o = 0x024 then s.wr (Rg.tmo p) (clampReg p o (s.rd (Rg.tmo p)) v)
  else s

/-! ### Values held for a LO register (R39) -/

/-- Key of an initiator's latched or held word. -/
abbrev accKey (ini p o : Nat) : Nat := ini * 2 ^ 20 + Rg.reg p o

/-- A HI value held for an initiator. -/
def State.hold (s : State) (ini p o : Nat) (v : Word) : State :=
  { s with acc := { s.acc with held := Tab.set (fun _ => none) s.acc.held (accKey ini p o) (some v) } }

/-- The HI value held for an initiator. -/
def State.heldHi (s : State) (ini p o : Nat) : Option Word := Tab.get (fun _ => none) s.acc.held (accKey ini p o)

/-- A held HI value is used up. -/
def State.unhold (s : State) (ini p o : Nat) : State :=
  { s with acc := { s.acc with held := Tab.set (fun _ => none) s.acc.held (accKey ini p o) none } }

/-- A write of a LO register whose HI register is held: both halves apply at once. -/
def State.storeWide (s : State) (ini p lo hi : Nat) (v : Word) : State :=
  let t := match s.heldHi ini p hi with
    | some h => (s.store p hi h).persist p hi
    | none => s
  ((t.store p lo v).persist p lo).unhold ini p hi

/-! ### Block registers, page by page -/

/-- TICK: a PERIOD write is stored and reported, R49, also where it leaves NEXT unchanged, which the spec leaves open.
DEDUCED: log entry 31. -/
def State.tickWrite (s : State) (o : Nat) (v : Word) : State :=
  if o = 0x40 then
    let s := (s.store Pg.tick o v).persist Pg.tick o
    s.raise Ev.TICK_PERIOD_SET Pg.tick [s.get Fd.TICK_PERIOD_CUR, s.get Fd.TICK_PERIOD_NEXT]
  else s.store Pg.tick o v

/-- HATCH_G, R75 to R78. -/
def State.hatchgWrite (s : State) (o : Nat) (v : Word) : State :=
  if o = 0x40 then s.graphCtrl (getF v 0 2)
  else if 0x80 ≤ o then s.loadWin ((o - 0x80) / 4) v
  else s.store Pg.hatchG o v

/-- GROUP, R120. -/
def State.groupWrite (s : State) (o : Nat) (v : Word) : State :=
  if o = 0x5C then s.latchClr v
  else if 0x80 ≤ o then s.brokenClear ((o - 0x80) / 4) v
  else (s.store Pg.group o v).persist Pg.group o

/-- NODE, R186. -/
def State.nodeWrite (s : State) (o : Nat) (v : Word) : State :=
  if o = 0x44 then s.nodeCmdWrite v
  else if 0x80 ≤ o then s.entWrite ((o - 0x80) / 4) v
  else s.store Pg.node o v

/-- FBn, R125, R157. -/
def State.fbWrite (s : State) (b o : Nat) (v : Word) : State :=
  let s := (s.store (Pg.fb b) o v).persist (Pg.fb b) o
  if o = 0x44 then s.modFb b ({ · with spPend := some (s.rd (Rg.FB_SAMPLE_PT b)) }) else s

/-- TRACE, R209. -/
def State.traceWrite (s : State) (o : Nat) (v : Word) : State :=
  if o = 0x48 then s.traceSelWrite (s.get ⟨Rg.TRACE_CODE_SEL, 0, 6⟩) v else s.store Pg.trace o v

/-- CAL, R210. -/
def State.calWrite (s : State) (o : Nat) (v : Word) : State :=
  if o = 0x40 then s.calSelWrite v
  else if o = 0x54 then if bitW v 0 then s.calCommit else s
  else s.store Pg.cal o v

/-- RTC, R220, R236. -/
def State.rtcWrite (s : State) (ini o : Nat) (v : Word) : State :=
  if o = 0x40 then
    let hi := match s.heldHi ini Pg.rtc 0x44 with
      | some h => h.toNat % 256
      | none => s.get Fd.RTC_SEC_HI_SEC
    (s.rtcStageSec (hi * 2 ^ 32 + v.toNat)).unhold ini Pg.rtc 0x44
  else if o = 0x44 then s.hold ini Pg.rtc 0x44 v
  else if o = 0x4C then s.rtcStageDate v
  else if o = 0x50 then s.rtcStageTime v
  else if o = 0x54 then s.rtcStageWday (getF v 0 3)
  else if o = 0x5C then if bitW v 0 then s.rtcCancel else s
  else if o = 0x64 then s.wakeCfgWrite v
  else if o = 0x58 ∧ s.pwr.light = true then (s.store Pg.rtc o v).timeReselect
  else s.store Pg.rtc o v

/-- TIME, R237. -/
def State.timeWrite (s : State) (o : Nat) (v : Word) : State :=
  let s := if o = 0x40 then s.srcSelWrite v else s.store Pg.time o v
  (s.persist Pg.time o).srcCfg

/-- SCHED, R256. -/
def State.schedWrite (s : State) (ini o : Nat) (v : Word) : State :=
  if 0x44 ≤ o ∧ o ≤ 0x4C then s.schedStage ini ((o - 0x44) / 4) v
  else if o = 0x50 then s.schedCommit ini v
  else if o = 0x5C then
    let k := s.get ⟨Rg.SCHED_HOL_SEL, 0, 6⟩
    let t := Tab.set (fun _ => 0) s.sched.hol k v
    { s with sched := { s.sched with hol := t }, nv := { s.nv with schedHol := t } }
  else if o = 0x64 then
    let k := s.get ⟨Rg.SCHED_SCENE_SEL, 0, 10⟩
    let t := Tab.set (fun _ => 0) s.sched.scene k v
    { s with sched := { s.sched with scene := t }, nv := { s.nv with schedScene := t } }
  else
    let s := (s.store Pg.sched o v).persist Pg.sched o
    if o = 0x94 ∧ bitW v 31 = true then s.fbSave else s

/-- SW, R271. -/
def State.swWrite (s : State) (o : Nat) (v : Word) : State :=
  if o = 0x50 then s.erpsCmd v
  else
    let old := s.rd Rg.SW_ERPS_CFG
    let s := (s.store Pg.sw o v).persist Pg.sw o
    if o = 0x48 then s.erpsCfgChanged old else s

/-- IU, R301. -/
def State.iuWrite (s : State) (o : Nat) (v : Word) : State := (s.store Pg.iu o v).iuChanged

/-- IUCn, R302. -/
def State.iucWrite (s : State) (c o : Nat) (v : Word) : State :=
  if o = 0x48 then s.iuEoi c (getF v 0 8) else (s.store (Pg.iuc c) o v).iuChanged

/-- QM, R303. -/
def State.qmWrite (s : State) (o : Nat) (v : Word) : State :=
  let q := s.get ⟨Rg.QM_Q_SEL, 0, 6⟩
  if o = 0x44 then s.qCfgWrite q v else if o = 0x48 then s.qCfg2Write q v else s.store Pg.qm o v

/-- QMQ, R285, R304. -/
def State.qmqWrite (s : State) (ini o : Nat) (v : Word) : State :=
  if o < 0x800 then s
  else
    let q := (o - 0x800) / 32
    let w := (o - 0x800) / 4 % 8
    if w = 7 then s.qCommit ini q v else s.qStage ini q w v

/-- PCIE, R295, R296, R305. -/
def State.pcieWrite (s : State) (ini o : Nat) (v : Word) : State :=
  let k := s.get ⟨Rg.PCIE_CQ_SEL, 0, 3⟩
  if o = 0x54 then s.hdbSet v
  else if o = 0x58 then (s.store Pg.pcie o v).iuChanged
  else if o = 0x60 then s.storeWide ini Pg.pcie 0x60 0x64 v
  else if o = 0x64 then s.hold ini Pg.pcie 0x64 v
  else if o = 0x68 then s.cqCfgWrite k v
  else if o = 0x6C then (s.store Pg.pcie o v).cqDrain k
  else if 0x80 ≤ o ∧ o ≤ 0x8C then
    { s with pcie := { s.pcie with stage := Tab.set (fun _ => 0) s.pcie.stage (ini * 4 + (o - 0x80) / 4) v } }
  else if o = 0x90 then s.cplPost ini (getF v 0 3)
  else s.store Pg.pcie o v

/-- PAIR, R329. -/
def State.pairWrite (s : State) (o : Nat) (v : Word) : State :=
  if o = 0x48 then s.pairCmd (getF v 0 4) else (s.store Pg.pair o v).persist Pg.pair o

/-- WIT, R331. -/
def State.witWrite (s : State) (ini o : Nat) (v : Word) : State :=
  if o = 0x50 then s.storeWide ini Pg.wit 0x50 0x54 v
  else if o = 0x54 then s.hold ini Pg.wit 0x54 v
  else (s.store Pg.wit o v).persist Pg.wit o

/-- GROUND, R352: a command of a code that the page does not list starts nothing; the owner's MBX_CMD while its command
runs starts nothing either. -/
def State.groundWrite (s : State) (ini o : Nat) (v : Word) : State :=
  if o = 0x40 then
    if s.flag Fd.GROUND_MBX_STAT_BUSY ∨ getF v 0 8 = 0 ∨ 8 < getF v 0 8 ∨ s.ground.ready = false then s
    else s.mbxStart ini (getF v 0 8) (getF v 16 16)
  else if o = 0x44 then (s.mbxPush v).2
  else s.store Pg.ground o v

/-- TAMP, R346, R353: POLICY, SRC_EN and DOOR_SEL ignore writes in DEPLOYED and SCRAPPED; POLICY 3 is ignored. -/
def State.tampWrite (s : State) (o : Nat) (v : Word) : State :=
  if o = 0x48 then s.tampLatchClear v
  else if s.lc = 2 ∨ s.lc = 4 ∨ (o = 0x40 ∧ getF v 0 2 = 3) then s
  else
    let s := s.store Pg.tamp o v
    if o = 0x40 then { s with nv := { s.nv with keys := { s.nv.keys with policy := getF v 0 2 } } }
    else if o = 0x44 then { s with nv := { s.nv with keys := { s.nv.keys with srcEn := getF v 0 6 } } }
    else if o = 0x50 then s.diDoor (getF v 0 3)
    else s

/-- UPD, R377. -/
def State.updWrite (s : State) (o : Nat) (v : Word) : State :=
  if o = 0x44 then if s.updIdle then s else s.updCmd (getF v 0 3)
  else if o = 0x70 then s.modUpd ({ · with manual := bitW v 31 })
  else s.store Pg.upd o v

/-- REC, R380, R383, R387. -/
def State.recWrite (s : State) (ini o : Nat) (v : Word) : State :=
  if o = 0x40 then s.recSelWrite ini v.toNat
  else if o = 0x44 then { s with rcd := { s.rcd with rdCfg := Tab.set (fun _ => 0) s.rcd.rdCfg ini (getF v 0 1) } }
  else if o = 0x60 then s.quotaWrite v
  else if 0x74 ≤ o ∧ o ≤ 0x84 then
    { s with rcd := { s.rcd with appParam := Tab.set (fun _ => 0) s.rcd.appParam (ini * 5 + (o - 0x74) / 4) v.toNat } }
  else if o = 0x88 then s.appPost ini v
  else s.store Pg.rec o v

/-- AGE, R397. `m` is what a measurement of the selected item reads. DESIGN CHOICE: log entry 145. -/
def State.ageWrite (s : State) (m : Int) (o : Nat) (v : Word) : State :=
  if o = 0x6C then
    if getF v 0 2 = 1 then s.ageMeasure (s.get ⟨Rg.AGE_ITEM_SEL, 0, 6⟩) m
    else if getF v 0 2 = 2 then s.scapStart
    else s
  else s.store Pg.age o v

/-- IO, R114, R184, R187. -/
def State.ioWrite (s : State) (o : Nat) (v : Word) : State :=
  if o = 0x54 then s.coCmdWrite v
  else
    let s := s.store Pg.io o v
    if o = 0x40 then s.diCfg
    else if o = 0x5C then (List.range 8).foldl State.coSense s
    else s

/-- DBG, R349, R354. -/
def State.dbgWrite (s : State) (o : Nat) (v : Word) : State :=
  if o = 0x44 then
    let c := getF v 0 2
    if c = 1 then s.dbgNewChal
    else if c = 2 then s.dbgRequest (getF v 4 2)
    else if c = 3 then s.dbgLevel 0 false
    else s
  else if 0x70 ≤ o then
    { s with ground := { s.ground with resp := Tab.set (fun _ => 0) s.ground.resp ((o - 0x70) / 4) v } }
  else s

/-- A write of block register o of page p that the access rules let through. -/
def State.blockWrite (s : State) (ini p o : Nat) (v : Word) : State :=
  if p = Pg.sys then if o = 0x60 then if bitW v 0 then s.startReset .cmd false else s else s.store p o v
  else if p = Pg.tick then s.tickWrite o v
  else if p = Pg.hatchG then s.hatchgWrite o v
  else if p = Pg.group then s.groupWrite o v
  else if p = Pg.node then s.nodeWrite o v
  else if isFb p then s.fbWrite (p - 0x10) o v
  else if p = Pg.trace then s.traceWrite o v
  else if p = Pg.cal then s.calWrite o v
  else if p = Pg.rtc then s.rtcWrite ini o v
  else if p = Pg.time then s.timeWrite o v
  else if p = Pg.sched then s.schedWrite ini o v
  else if p = Pg.sw then s.swWrite o v
  else if isPort p then (s.store p o v).persist p o
  else if p = Pg.iu then s.iuWrite o v
  else if isIuc p then s.iucWrite (p - 0x49) o v
  else if p = Pg.qm then s.qmWrite o v
  else if p = Pg.qmq then s.qmqWrite ini o v
  else if p = Pg.pcie then s.pcieWrite ini o v
  else if p = Pg.pair then s.pairWrite o v
  else if p = Pg.wit then s.witWrite ini o v
  else if p = Pg.ground then s.groundWrite ini o v
  else if p = Pg.tamp then s.tampWrite o v
  else if p = Pg.upd then s.updWrite o v
  else if p = Pg.rec then s.recWrite ini o v
  else if p = Pg.age then
    if o = 0x6C ∧ getF v 0 2 = 1 then (s.fresh.2).ageWrite (signed 32 s.fresh.1.toNat) o v else s.ageWrite 0 o v
  else if p = Pg.pwr then if o = 0x44 then s.pwrCmd (getF v 0 3) else s.store p o v
  else if p = Pg.boot then if o = 0x54 then s.bootCmd v else s.store p o v
  else if p = Pg.wdog then if o = 0x54 then s.kick ini else s.store p o v
  else if p = Pg.io then s.ioWrite o v
  else if p = Pg.dbg then s.dbgWrite o v
  else s.store p o v

/-! ### Message objects (R153, R158) -/

/-- A write of a word of message-object memory: a continuation object's words are data; of a head object STAT, TS_SEC
and TS_NS ignore writes, and a CTL write acts under R154, R155.  `v` holds only bits that exist. -/
def State.moWrite (s : State) (b o : Nat) (v : Word) : State :=
  let i := o / 32
  let w := o % 32
  let k := Rg.reg (Pg.fbmo b) o
  if (s.heads b).contains i = false then s.wr k v
  else if w = 0x0C ∨ w = 0x10 ∨ w = 0x14 then s
  else if w = 0 then (s.wr k (v &&& 0xFB00007F)).moCtlWrite b i v
  else s.wr k v

end Sys2Proof.Machine
end

