-- ==== Sys2Proof/Machine/Access.lean ====
section
/-! DEFINITION. Register accesses over the window (R37 to R46): who may reach what, the unlock, error capture, snapshots,
and the write and read of one word. -/

namespace Sys2Proof.Machine

/-! ### Error capture (R41, R45, R48) -/

/-- The page whose header captures the errors of page p: message-object pages use their FB page (R41). -/
def capPage (p : Nat) : Nat := if isFbmo p then p - 0x10 else p

/-- An access error captured in the page's ERR_CAP, which raises IRQ bit 31; later ones set OVF only. DEDUCED: log
entry 23. -/
def State.capture (s : State) (ini p o : Nat) (write : Bool) (code : Nat) : State :=
  let q := capPage p
  if s.flag ⟨Rg.errCap q, 31, 1⟩ then s.put ⟨Rg.errCap q, 30, 1⟩ 1
  else
    let w := 2 ^ 31 + ini % 16 * 2 ^ 24 + b2n write * 2 ^ 23 + code * 4096 + o % 4096
    (s.wr (Rg.errCap q) (BitVec.ofNat 32 w)).irq q 31

/-- A window error captured in SYS, which raises SYS IRQ bit 0; both registers must have been read before the next
capture. DEDUCED: log entry 17. -/
def State.captureSys (s : State) (ini : Nat) (write : Bool) (code a : Nat) : State :=
  if s.rd Rg.SYS_BUSERR_ADDR = 0 ∧ s.flag ⟨Rg.SYS_BUSERR_INFO, 31, 1⟩ = false then
    let w := 2 ^ 31 + ini % 16 * 2 ^ 24 + b2n write * 2 ^ 23 + code * 4096
    ((s.wr Rg.SYS_BUSERR_ADDR (BitVec.ofNat 32 (0x40000000 + a))).wr Rg.SYS_BUSERR_INFO (BitVec.ofNat 32 w)).irq Pg.sys 0
  else s.put ⟨Rg.SYS_BUSERR_INFO, 30, 1⟩ 1

/-- The response of an access. -/
def State.respond (s : State) (data : Word) (err : Bool) : State := { s with acc := { s.acc with rsp := ⟨data, err⟩ } }

/-- A read of ERR_CAP or of a BUSERR register never produces an error, R45. -/
def quietRead (p o : Nat) (write : Bool) : Bool :=
  !write && ((o == 0x20 && !isFbmo p) || (p == Pg.sys && (o == 0x64 || o == 0x68)))

/-! ### Who may reach what -/

/-- The domain of page p is powered (R40, R406). -/
def State.pageOn (s : State) (p : Nat) : Bool :=
  if isFbmo p then s.rtOn
  else match pageInfo p with
    | none => false
    | some pi => match pi.dom with
      | .always | .realTime => s.rtOn
      | .network => s.netUp
      | .application => s.appUp

/-- The page exists in the index of R40. -/
def pageExists (p : Nat) : Bool := isFbmo p || (pageInfo p).isSome

/-- The PCIe host's reach, R294. -/
def State.hostDenied (s : State) (p o : Nat) (write : Bool) : Bool :=
  !bitW (s.rd (Rg.PCIE_HOST_MASK (p / 32))) (p % 32) ||
    (p == Pg.pcie && write && !(o == 0x54 || o == 0x6C))

/-- The debug port's reach at the level in force, R350. -/
def State.dbgDenied (s : State) (p o : Nat) : Bool :=
  let c := s.get Fd.DBG_LEVEL_CUR
  if p = Pg.dbg ∨ (p = Pg.sys ∧ (o = 0x000 ∨ o = 0x004)) then false
  else if c = 1 then !(p == Pg.sys || p == Pg.iu || isIuc p || p == Pg.qm || p == Pg.qmq || p == Pg.pcie)
  else if c = 2 then p == Pg.ground && !(decide (o < 0x40) || o == 0x4C)
  else true

/-- Writes that the pair mirrors, and that a module which is not ACTIVE or SOLO turns away (R311). -/
def mirrored (p o : Nat) : Bool :=
  p == Pg.hatch || p == Pg.hatchG || p == Pg.plate || p == Pg.group || p == Pg.node || p == Pg.trace || p == Pg.sched ||
    (isFb p && !(o == 0x08 || o == 0x44)) || (p == Pg.io && o == 0x54)

/-- The role turns mirrored writes away: STANDBY, ORPHAN_STANDBY, FENCED; NODE.LOCK and NODE.CMD are the exception. -/
def State.roleDenied (s : State) (p o : Nat) : Bool :=
  (s.role == 2 || s.role == 3 || s.role == 5) && mirrored p o && !(p == Pg.node && (o == 0x28 || o == 0x44))

/-- The access is beyond the initiator's reach: code DENIED.  `shadow` stands for a mirrored write, which the role does
not bar. -/
def State.denied (s : State) (ini p o : Nat) (write shadow : Bool) : Bool :=
  (ini == 5 && s.hostDenied p o write) || (ini == 6 && s.dbgDenied p o) ||
    (write && !shadow && s.roleDenied p o) ||
    (write && p == Pg.pcie && decide (0x44 ≤ o ∧ o ≤ 0x50) && !decide (1 ≤ ini ∧ ini ≤ 4)) ||
    (write && isIuc p && (o == 0x40 || o == 0x48 || o == 0x4C) && ini != p - 0x49 + 1) ||
    (write && p == Pg.ground && (o == 0x40 || o == 0x44) && s.flag Fd.GROUND_MBX_STAT_BUSY &&
      s.get Fd.GROUND_MBX_STAT_OWNER != ini)

/-- The initiator exists and can make accesses: cores only while their domain is powered, the debug port only in RUN
and LOW, where its protocol runs (R350). DEDUCED: log entry 25. -/
def State.mayAccess (s : State) (ini : Nat) : Bool :=
  s.rtOn && decide (ini ≤ 6) && (!decide (1 ≤ ini ∧ ini ≤ 5) || s.appUp) && (ini != 6 || s.pwr.state != .holdup)

/-- What an access meets before it reaches the register, in this order: a reserved page, a page without power, reach,
size, a running soft reset. The code, and whether SYS captures. A read of ERR_CAP or of a BUSERR register meets none of
them (R45). Message objects are no block registers at 0x040 and above of a header page, so that a soft reset of their FB
page turns no access to them away. DEDUCED: log entry 16. -/
def State.accessError (s : State) (ini a size : Nat) (write shadow : Bool) : Option (Nat × Bool) :=
  let p := a / 0x1000
  let o := a % 0x1000
  if !pageExists p then some (0x07, true)
  else if quietRead p o write then none
  else if !s.pageOn p then some (0x08, true)
  else if s.denied ini p o write shadow then some (0x06, false)
  else if size ≠ 4 ∨ a % 4 ≠ 0 then some (0x02, false)
  else if s.flag (Fd.srstBusy (capPage p)) ∧ 0x40 ≤ o ∧ isFbmo p = false then some (0x04, false)
  else none

/-! ### The unlock (R46) -/

/-- The initiator whose unlock of page p is armed. -/
def State.unlock (s : State) (p : Nat) : Option Nat := Tab.get (fun _ => none) s.acc.lock p

/-- The unlock of page p replaced. -/
def State.setUnlock (s : State) (p : Nat) (x : Option Nat) : State :=
  { s with acc := { s.acc with lock := Tab.set (fun _ => none) s.acc.lock p x } }

/-- A write of LOCK: the key arms the unlock for the writer; any other value disarms it. DEDUCED: log entry 21. -/
def State.lockWrite (s : State) (ini p : Nat) (v : Word) : State :=
  s.setUnlock p (if v = 0x5AFE0001 then some ini else none)

/-- UNLOCK_EXPIRE: 100 µs have passed without the owner's write. -/
def State.lockExpire (s : State) (p : Nat) : State := s.setUnlock p none

/-- The register holds a protected field. -/
def protectedReg (p o : Nat) : Bool := match pageInfo p with
  | none => false
  | some pi => match findRow pi.rows o with
    | some r => decide (0x40 ≤ o) && r.prot
    | none => false

/-- After the owner's next write to the page, at any offset other than LOCK, the unlock is used (R46). -/
def State.useLock (s : State) (ini p : Nat) : State := if s.unlock p = some ini then s.setUnlock p none else s

/-- An error response, with its capture. A write that gets one has used its owner's unlock, whatever its offset but LOCK
(R46). -/
def State.errorRsp (s : State) (ini a : Nat) (write : Bool) (e : Nat × Bool) : State :=
  let p := a / 0x1000
  let o := a % 0x1000
  let s := if e.2 then s.captureSys ini write e.1 a else s.capture ini p o write e.1
  (if write && o != 0x28 then s.useLock ini p else s).respond 0 true

/-! ### Writes -/

/-- The write posts work to a page whose flush runs: it is held back until the flush is done (R44). DEDUCED: log entry
15. -/
def State.flushHolds (s : State) (p o : Nat) : Bool :=
  s.flag (Fd.flushBusy (capPage p)) &&
    ((p == Pg.qmq && decide (0x800 ≤ o) && o / 4 % 8 == 7) || (p == Pg.ground && (o == 0x40 || o == 0x44)) ||
      (p == Pg.rec && o == 0x88) || (isFbmo p && o % 32 == 0))

/-- The register's part of a write: reserved bits are captured, the rest applies. -/
def State.applyWrite (s : State) (ini p o : Nat) (v : Word) : State :=
  let imp := if isFbmo p then s.moExist (p - 0x20) o else BitVec.ofNat 32 (impBits p o)
  let bad := v &&& ~~~imp != 0 || (p == Pg.rec && o == 0x88 && decide (getF v 0 16 < 0x8000))
  let s := if bad then s.capture ini p o true 0x01 else s
  if p = Pg.rec ∧ o = 0x88 ∧ getF v 0 16 < 0x8000 then s
  else if isFbmo p then s.moWrite (p - 0x20) o (v &&& imp)
  else match pageInfo p with
    | none => s
    | some pi => if o < 0x40 then s.headerWrite p pi o (v &&& imp) else s.blockWrite ini p o (v &&& imp)

/-- Page p belongs to a block of the light path (R23), whose register writes are inputs of the tick (R56). -/
def lightPage (p : Nat) : Bool :=
  isFbmo p || isFb p || isMet p ||
    [Pg.hatch, Pg.hatchG, Pg.plate, Pg.group, Pg.node, Pg.trace, Pg.cal, Pg.time, Pg.sched, Pg.io].contains p

/-- After a write has reached its register: it is an input of the tick (R56), and goes to the partner if the pair mirrors
it (R311). -/
def State.wrote (s : State) (a : Nat) (v : Word) : State :=
  let s := if lightPage (a / 0x1000) then s.countIn else s
  if mirrored (a / 0x1000) (a % 0x1000) then s.mirrorOut (.write a v) else s

/-- A write that has met no error: LOCK, a CTRL write during a soft reset, the protected registers, a flush in
progress, a full mailbox, and then the register. DEDUCED: log entry 16. -/
def State.writeReg (s : State) (ini a : Nat) (v : Word) : State :=
  let p := a / 0x1000
  let o := a % 0x1000
  let s := s.respond 0 false
  if o = 0x28 ∧ isFbmo p = false then s.lockWrite ini p v
  else if o = 0x08 ∧ isFbmo p = false ∧ s.flag (Fd.srstBusy p) then (s.useLock ini p).capture ini p o true 0x04
  else if protectedReg p o ∧ s.unlock p ≠ some ini then s.capture ini p o true 0x03
  else if p = Pg.ground ∧ o = 0x44 ∧ (s.mbxPush v).1 = false then (s.capture ini p o true 0x05).respond 0 true
  else
    let s := s.useLock ini p
    if s.flushHolds p o then { s with acc := { s.acc with heldBack := s.acc.heldBack ++ [(ini, a, v)] } }
    else (s.applyWrite ini p o v).wrote a v

/-- A write of the window by an initiator: `a` is the offset in the window, `size` the width in bytes. -/
def State.busWrite (s : State) (ini a size : Nat) (v : Word) : State :=
  let a := a % 0x80000
  if !s.mayAccess ini then s.respond 0 true
  else match s.accessError ini a size true false with
    | some e => s.errorRsp ini a true e
    | none => s.writeReg ini a v

/-- A mirrored write enters a standby's input set (R311): what R311 turns away for software applies here.  A flush of Hatch,
by FLUSH or by SRST, acts only on the module written (R97): here Hatch keeps what it holds; a command of NODE.CMD is not
executed (R176). -/
def State.mirrorWrite (s : State) (a : Nat) (v : Word) : State :=
  let a := a % 0x80000
  if mirrored (a / 0x1000) (a % 0x1000) = false ∨ a = Rg.NODE_CMD then s
  else match s.accessError 0 a 4 true true with
    | some _ => s
    | none =>
      if a = Rg.ctrl Pg.hatch then
        let run := s.get (Fd.statBit Pg.hatch 8)
        let t := s.applyWrite 0 Pg.hatch 0x008 (v &&& ~~~4)
        { t with hatch := s.hatch }.put (Fd.statBit Pg.hatch 8) run
      else s.applyWrite 0 (a / 0x1000) (a % 0x1000) v

/-- Producers' items that a flush of page p held back are accepted in order (R44). DEDUCED: log entry 15. -/
def State.releaseHeld (s : State) (p : Nat) : State :=
  let mine := fun (e : Nat × Nat × Word) => capPage (e.2.1 / 0x1000) == p
  let l := s.acc.heldBack.filter mine
  l.foldl (fun s e => s.applyWrite e.1 (e.2.1 / 0x1000) (e.2.1 % 0x1000) e.2.2)
    { s with acc := { s.acc with heldBack := s.acc.heldBack.filter (!mine ·) } }

/-- FLUSH_DONE of page p: what was held back is accepted. -/
def State.blockFlushDone (s : State) (p : Nat) : State :=
  if (pageInfo p).isNone || !s.flag (Fd.flushBusy p) then s
  else (s.put (Fd.flushBusy p) 0).releaseHeld p

/-- SOFT_RESET_DONE of page p. What a flush held back that the soft reset ended (R44) is accepted now: before, the page
turns accesses away. DEDUCED: log entry 15. -/
def State.blockResetDone (s : State) (p : Nat) : State :=
  if (pageInfo p).isNone then s else (s.put (Fd.srstBusy p) 0).releaseHeld p

/-! ### Reads and snapshots (R39) -/

/-- The offsets from a to b in steps of 4. -/
def span (a b : Nat) : List Nat := (List.range ((b - a) / 4 + 1)).map (a + 4 * ·)

/-- The registers that a read of offset o latches, R39 and the snapshots of the page chapters. -/
def latchSet (p o : Nat) : List Nat :=
  if p = Pg.sys ∧ o = 0x50 then [0x54]
  else if p = Pg.tick ∧ o = 0x44 then [0x48]
  else if p = Pg.node ∧ o = 0x80 then span 0x84 0xFC
  else if isMet p ∧ o = 0x54 then span 0x58 0xAC
  else if isMet p ∧ o = 0xB4 then [0xB8]
  else if p = Pg.trace ∧ o = 0x50 then [0x54]
  else if p = Pg.rtc ∧ o = 0x40 then span 0x44 0x54
  else if p = Pg.sched ∧ o = 0x44 then span 0x48 0x54
  else if p = Pg.sw ∧ o = 0x60 then [0x64]
  else if p = Pg.pcie ∧ o = 0x60 then [0x64]
  else if p = Pg.wit ∧ o = 0x50 then [0x54]
  else if p = Pg.ground ∧ o = 0x54 then [0x58]
  else if p = Pg.upd ∧ (o = 0x48 ∨ o = 0x50 ∨ o = 0x68) then [o + 4]
  else if p = Pg.age ∧ o = 0x48 then span 0x4C 0x58
  else []

/-- A register latched for an initiator. -/
def State.setLatch (s : State) (ini p o : Nat) (w : Word) : State :=
  { s with acc := { s.acc with latch := Tab.set (fun _ => none) s.acc.latch (accKey ini p o) (some w) } }

/-- The word latched for an initiator. DEDUCED: log entry 22. -/
def State.latched (s : State) (ini p o : Nat) : Option Word := Tab.get (fun _ => none) s.acc.latch (accKey ini p o)

/-- The registers that a read of offset o latches, latched; TICK.OFFSET and NOW are those of an instant between two edges,
which no command carries. DESIGN CHOICE: log entry 26. -/
def State.takeSnapshot (s : State) (ini p o : Nat) : State :=
  let s := if p = Pg.rtc ∧ (o = 0x40 ∨ (o = 0x48 ∧ (s.latched ini p o).isNone) ∨ o = 0x68) ∧ s.rtc.stopped = none then s.rtcDraw
    else s
  if p = Pg.tick ∧ o = 0x44 then
    let f := s.drawOfs
    (f.2.setLatch ini p 0x48 (s.live ini p 0x48)).setLatch ini p 0x4C (lo32 f.1)
  else if p = Pg.time ∧ o = 0x80 then
    let f := s.drawOfs
    let t := s.tai + f.1
    ((f.2.setLatch ini p 0x80 (BitVec.ofNat 32 (t % 1000000000))).setLatch ini p 0x84 (lo32 (t / 1000000000))).setLatch ini
      p 0x88 (hi32 (t / 1000000000))
  else (latchSet p o).foldl (fun t k => t.setLatch ini p k (s.live ini p k)) s

/-- The register is cleared by a read (RC). -/
def clearedByRead (p o : Nat) : Bool :=
  if isFbmo p then false
  else if o < 0x40 then o == 0x20
  else match pageInfo p with
    | none => false
    | some pi => match findRow pi.rows o with
      | some r => r.rc
      | none => false

/-- A read of a register that pops or advances something: its value and the state after. -/
def State.popRead (s : State) (ini p o : Nat) : Option (Word × State) :=
  if p = Pg.qmq ∧ 0x800 ≤ o ∧ o / 4 % 8 = 0 then some (s.qPop ini ((o - 0x800) / 32))
  else if p = Pg.qmq ∧ 0x100 ≤ o ∧ o < 0x200 then
    let t := s.qCheck ((o - 0x100) / 4)
    some (t.live ini p o, t)
  else if p = Pg.plate ∧ o = 0x4C then some s.plateWin
  else if p = Pg.ground ∧ o = 0x48 then some s.mbxPop
  else if isMet p ∧ o = 0xC0 then some (s.live ini p o, s.metHarmNext (p - 0x30))
  else if p = Pg.rec ∧ o = 0xC0 then
    let t := s.recLatch ini
    some (t.live ini p o, t)
  else if p = Pg.rec ∧ o = 0xFC then some (s.live ini p o, s.recAdvance ini)
  else if p = Pg.tick ∧ o = 0x4C ∧ (s.latched ini p o).isNone then some (lo32 s.drawOfs.1, s.drawOfs.2)
  else none

/-- NODE.ENT_SEL moves on after a read of ENT31 with AUTOINC, R186. -/
def State.entNext (s : State) (p o : Nat) : State :=
  if p = Pg.node ∧ o = 0xFC ∧ s.flag Fd.NODE_ENT_SEL_AUTOINC then
    s.put Fd.NODE_ENT_SEL_INDEX ((s.get Fd.NODE_ENT_SEL_INDEX + 1) % 4096)
  else s

/-- A read that has met no error: its value and what it does to the register. DEDUCED: log entry 22. -/
def State.readReg (s : State) (ini a : Nat) : Word × State :=
  let p := a / 0x1000
  let o := a % 0x1000
  match s.popRead ini p o with
  | some r => r
  | none =>
    let t := s.takeSnapshot ini p o
    let w := (t.latched ini p o).getD (t.live ini p o)
    let t := if clearedByRead p o then t.wr (s.regKey p o) 0 else t
    (w, t.entNext p o)

/-- A read of the window by an initiator. -/
def State.busRead (s : State) (ini a size : Nat) : State :=
  let a := a % 0x80000
  if !s.mayAccess ini then s.respond 0 true
  else match s.accessError ini a size false false with
    | some e => s.errorRsp ini a false e
    | none =>
      let r := s.readReg ini a
      r.2.respond r.1 false

/-- ACCESS_TIMEOUT: the block does not answer an access within 64 µs (R45); a read that never produces an error does not
meet it. -/
def State.accessTimeout (s : State) (ini a : Nat) (write : Bool) : State :=
  let a := a % 0x80000
  if !s.mayAccess ini || quietRead (a / 0x1000) (a % 0x1000) write then s
  else match s.accessError ini a 4 write false with
    | some e => s.errorRsp ini a write e
    | none => s.errorRsp ini a write (0x05, false)

end Sys2Proof.Machine
end

