-- ==== Sys2Proof/Machine/Cmd.lean ====
section
/-! DEFINITION. Small operations that the meanings of several commands share. -/

namespace Sys2Proof.Machine

/-- A command whose condition does not hold leaves the state as it is (log entry 2). -/
def State.ifOk (s : State) (c : Bool) (t : State) : State := if c then t else s

/-- The page exists and has the common header (R41). -/
def hasHeader (p : Nat) : Bool := decide (p < 0x80) && !isFbmo p && (pageInfo p).isSome

/-- The CTRL word of a page without EN, SRST and FLUSH. -/
def State.ctrlKeep (s : State) (p : Nat) : Word := s.rd (Rg.ctrl p) &&& 0xFFFFFFF8

/-- A read of offset o latches other registers (R39). -/
def splitLo (p o : Nat) : Bool :=
  !(latchSet p o).isEmpty || (p == Pg.time && o == 0x80)

/-- The HI registers whose LO register takes both halves at once (R39). -/
def splitHi : List Nat := [Rg.RTC_SEC_HI, Rg.PCIE_CQ_BASE_HI, Rg.WIT_HE_MAC_HI]

/-- An RC register that has no row of its own among the commands. -/
def otherRc (a : Nat) : Bool :=
  decide (a < 0x80000) && clearedByRead (a / 0x1000) (a % 0x1000) && a % 0x1000 != 0x020 &&
    !([Rg.SYS_BUSERR_ADDR, Rg.SYS_BUSERR_INFO, Rg.SYS_RST_CAUSE].contains a)

/-- A word for NODE.CMD, R186. -/
def nodeWord (index arg op : Nat) : Word := BitVec.ofNat 32 (index % 4096 * 65536 + arg % 256 * 256 + op)

/-- The staged RTC registers: SEC_LO, CAL_DATE, CAL_TIME, WEEKDAY (R220). -/
def rtcStageReg (w : Nat) : Nat :=
  if w = 0 then Rg.RTC_SEC_LO else if w = 1 then Rg.RTC_CAL_DATE else if w = 2 then Rg.RTC_CAL_TIME
  else Rg.RTC_WEEKDAY

/-- ITEMq_Ww of page QMQ, R285. -/
def itemReg (q w : Nat) : Nat := Rg.reg Pg.qmq (0x800 + 32 * q + 4 * w)

/-- EVAL_HOLD_EXPIRE: the hold of R117 over contactor j ends, between the guard band of its last held edge's tick and the
next edge; at any other time it has not run out.  DEDUCED: log entry 48. -/
def State.coHoldEnd (s : State) (j : Nat) : State :=
  if (s.co j).hold = 1 ∧ 800000 * s.pms ≤ s.tick.ofs then s.setCo j { s.co j with hold := 0 } else s

/-- The level at a feedback input moves, at any time; a module whose real-time domain is off only finds it later (R116,
R441). -/
def State.coExternal (s : State) (j : Nat) (level : Bool) : State :=
  let s := { s with io := { s.io with coFb := setBitN s.io.coFb j level } }
  s.rt (s.coSense j)

/-- TIME_RTC_FALLBACK: HOLD_MAX minutes of holdover are over, R226. -/
def State.holdExpire (s : State) : State :=
  if s.timeCur = 3 ∧ s.get Fd.TIME_HOLD_CFG_HOLD_MAX ≤ s.holdMin then s.rtcFallback s.holdMin else s

/-- RTC_DISCIPLINE, R216; item 9 of Burnish is the hour's rate error before TRIM. -/
def State.rtcHour (s : State) (cyc : Int) (trim : Option Int) : State :=
  let t := s.rtcDiscipline cyc trim
  match trim with
  | some e =>
    if 2 < s.timeCur ∨ s.rtc.stopped.isSome = true ∨ s.flag Fd.RTC_TRIM_AUTO = false then t else t.ageMeasure 9 (-e)
  | none => t

/-- HOST_ACCESS: a host access of `size` bytes through BAR0, R294. -/
def State.hostAccess (s : State) (a size : Nat) (write : Bool) (v : Word) : State :=
  let s := if s.flag Fd.PCIE_LINK_L1 then s.hostWake false else s
  if write then s.busWrite 5 a size v else s.busRead 5 a size

/-- Proof works while the real-time complex runs and stage 22 has not left it idle (R377). -/
def State.updGo (s : State) (t : State) : State := s.rt (s.ifOk (!s.updIdle) t)

/-- A message of the update chain: the application domain, which carries it, runs as well. -/
def State.updRun (s : State) (t : State) : State := s.ifOk (s.appUp && !s.updIdle) t

/-- REC_WRITE_DONE: the record's notice is posted, and events wait for the sessions (R266, R381). -/
def State.recWritten (s : State) : State :=
  let s := s.recWriteDone
  if s.appUp then s.lspSendAll else s

end Sys2Proof.Machine
end

