-- ==== Sys2Proof/Machine/CmdAccess.lean ====
section
/-! DEFINITION. The meanings of the commands: register access, block control and the module resets (R37 to R48, R414, R415). -/

namespace Sys2Proof.Machine

/-- REGISTER_WRITE, R12. The write goes through every check of R45, whichever register it names. -/
def execRegisterWrite (ini a size : Nat) (v : Word) (s : State) : Host.Outcome State Fault Refusal :=
  .next (s.busWrite ini a size v)

/-- ACCESS_TIMEOUT, R45. An access that meets an earlier error of R45 is answered with that one. -/
def execAccessTimeout (ini a : Nat) (write : Bool) (s : State) : Host.Outcome State Fault Refusal :=
  .next (s.accessTimeout ini a write)

/-- SPLIT_LO_READ, R39. An address that latches nothing is no such read. -/
def execSplitLoRead (ini a : Nat) (s : State) : Host.Outcome State Fault Refusal :=
  .next (s.ifOk (splitLo (a / 0x1000) (a % 0x1000)) (s.busRead ini a 4))

/-- SPLIT_HI_WRITE, R39. The writable pairs are RTC.SEC, PCIE.CQ_BASE and WIT.HE_MAC. -/
def execSplitHiWrite (ini a : Nat) (v : Word) (s : State) : Host.Outcome State Fault Refusal :=
  .next (s.ifOk (splitHi.contains a) (s.busWrite ini a 4 v))

/-- SPLIT_LO_WRITE, R39. The writable pairs are RTC.SEC, PCIE.CQ_BASE and WIT.HE_MAC. -/
def execSplitLoWrite (ini a : Nat) (v : Word) (s : State) : Host.Outcome State Fault Refusal :=
  .next (s.ifOk (splitHi.contains (a + 4)) (s.busWrite ini a 4 v))

/-- ERR_CAP_READ, R41. -/
def execErrCapRead (ini page : Nat) (s : State) : Host.Outcome State Fault Refusal :=
  .next (s.ifOk (hasHeader page) (s.busRead ini (Rg.errCap page) 4))

/-- BUSERR_READ, R48. -/
def execBuserrRead (ini : Nat) (info : Bool) (s : State) : Host.Outcome State Fault Refusal :=
  .next (s.busRead ini (if info then Rg.SYS_BUSERR_INFO else Rg.SYS_BUSERR_ADDR) 4)

/-- RST_CAUSE_READ, R48. -/
def execRstCauseRead (ini : Nat) (s : State) : Host.Outcome State Fault Refusal :=
  .next (s.busRead ini Rg.SYS_RST_CAUSE 4)

/-- IRQ_STAT_CLEAR, R42. -/
def execIrqStatClear (ini page : Nat) (v : Word) (s : State) : Host.Outcome State Fault Refusal :=
  .next (s.ifOk (hasHeader page) (s.busWrite ini (Rg.irqStat page) 4 v))

/-- BLOCK_ENABLE, R41. The other control bits keep what they hold. -/
def execBlockEnable (ini page : Nat) (s : State) : Host.Outcome State Fault Refusal :=
  .next (s.ifOk (hasHeader page) (s.busWrite ini (Rg.ctrl page) 4 (s.ctrlKeep page ||| 1)))

/-- BLOCK_DISABLE, R41. The other control bits keep what they hold. -/
def execBlockDisable (ini page : Nat) (s : State) : Host.Outcome State Fault Refusal :=
  .next (s.ifOk (hasHeader page) (s.busWrite ini (Rg.ctrl page) 4 (s.ctrlKeep page)))

/-- BLOCK_STOP_POINT, R41. -/
def execBlockStopPoint (page : Nat) (s : State) : Host.Outcome State Fault Refusal :=
  .next (s.rt (s.blockStopped page))

/-- SOFT_RESET, R44. The other control bits keep what they hold. -/
def execSoftReset (ini page : Nat) (s : State) : Host.Outcome State Fault Refusal :=
  .next (s.ifOk (hasHeader page) (s.busWrite ini (Rg.ctrl page) 4 (s.ctrlKeep page ||| 2)))

/-- SOFT_RESET_DONE, R44. -/
def execSoftResetDone (page : Nat) (s : State) : Host.Outcome State Fault Refusal :=
  .next (s.rt (s.blockResetDone page))

/-- FLUSH, R44. EN and the other control bits keep what they hold. -/
def execFlush (ini page : Nat) (s : State) : Host.Outcome State Fault Refusal :=
  .next (s.ifOk (hasHeader page) (s.busWrite ini (Rg.ctrl page) 4 (s.ctrlKeep page ||| ((s.rd (Rg.ctrl page) &&& 1) ||| 4))))

/-- FLUSH_DONE, R44. -/
def execFlushDone (page : Nat) (s : State) : Host.Outcome State Fault Refusal :=
  .next (s.rt (s.blockFlushDone page))

/-- LOCK_WRITE, R46. -/
def execLockWrite (ini page : Nat) (v : Word) (s : State) : Host.Outcome State Fault Refusal :=
  .next (s.ifOk (hasHeader page) (s.busWrite ini (Rg.reg page 0x028) 4 v))

/-- UNLOCK_EXPIRE, R46. -/
def execUnlockExpire (page : Nat) (s : State) : Host.Outcome State Fault Refusal :=
  .next (s.lockExpire page)

/-- BLOCK_WATCHDOG_EXPIRE, R415. -/
def execBlockWatchdogExpire (page : Nat) (s : State) : Host.Outcome State Fault Refusal :=
  .next (s.rt (s.blockWatchdog page))

/-- SYS_RST_CMD, R48. -/
def execSysRstCmd (ini : Nat) (s : State) : Host.Outcome State Fault Refusal :=
  .next (s.busWrite ini Rg.SYS_RST_CMD 4 1)

/-- MODULE_RESET, R47. It takes effect while one is held. -/
def execModuleReset (s : State) : Host.Outcome State Fault Refusal :=
  .next (s.moduleReset)

/-- COLD_RESET, R47. -/
def execColdReset (s : State) : Host.Outcome State Fault Refusal :=
  .next (s.coldReset)

/-- DEBUG_RESET_REQUEST, R414. -/
def execDebugResetRequest (s : State) : Host.Outcome State Fault Refusal :=
  .next (s.rt s.dbgReset)

/-- RT_WATCHDOG_EXPIRE, R415. -/
def execRtWatchdogExpire (s : State) : Host.Outcome State Fault Refusal :=
  .next (s.rt s.rtWatchdog)

/-- SUPERVISOR_RESET, R415. -/
def execSupervisorReset (cause : Nat) (s : State) : Host.Outcome State Fault Refusal :=
  .next (s.rt (s.supvReset cause))

/-- RC_REGISTER_READ, R12. -/
def execRcRegisterRead (ini a size : Nat) (s : State) : Host.Outcome State Fault Refusal :=
  .next (s.ifOk (otherRc a) (s.busRead ini a size))

end Sys2Proof.Machine
end

