-- ==== Sys2Proof/Machine/CmdApp.lean ====
section
/-! DEFINITION. The meanings of the commands: interrupt units, queues and the host link (R272 to R305). -/

namespace Sys2Proof.Machine

/-- IU_DELIVERY, R278. -/
def execIuDelivery (c : Nat) (s : State) : Host.Outcome State Fault Refusal :=
  .next (s.app (s.ifOk (decide (c < 4)) (s.iuDelivery c)))

/-- IU_EOI, R279. Core c writes its own unit's page. -/
def execIuEoi (c src : Nat) (s : State) : Host.Outcome State Fault Refusal :=
  .next (s.ifOk (decide (c < 4)) (s.busWrite (c + 1) (Rg.IUC_EOI c) 4 (BitVec.ofNat 32 src)))

/-- IU_DOORBELL_SET, R281. -/
def execIuDoorbellSet (ini : Nat) (v : Word) (s : State) : Host.Outcome State Fault Refusal :=
  .next (s.busWrite ini (Rg.reg Pg.iu 0x01C) 4 v)

/-- IU_DOORBELL_CLEAR, R281. -/
def execIuDoorbellClear (ini : Nat) (v : Word) (s : State) : Host.Outcome State Fault Refusal :=
  .next (s.busWrite ini Rg.IU_DOORBELL 4 v)

/-- COAL_OPEN, R282. The timer's end; the count opens a group with the request that reaches it. -/
def execCoalOpen (g : Nat) (s : State) : Host.Outcome State Fault Refusal :=
  .next (s.app (s.ifOk (decide (1 ≤ g ∧ g < 16)) (s.coalTimer g)))

/-- QUEUE_STAGE_WRITE, R285. -/
def execQueueStageWrite (ini q w : Nat) (v : Word) (s : State) : Host.Outcome State Fault Refusal :=
  .next (s.ifOk (decide (q < 64 ∧ w < 7)) (s.busWrite ini (itemReg q w) 4 v))

/-- QUEUE_PUSH, R285. -/
def execQueuePush (ini q : Nat) (v : Word) (s : State) : Host.Outcome State Fault Refusal :=
  .next (s.ifOk (decide (q < 64)) (s.busWrite ini (itemReg q 7) 4 v))

/-- QUEUE_POP, R285. -/
def execQueuePop (ini q : Nat) (s : State) : Host.Outcome State Fault Refusal :=
  .next (s.ifOk (decide (q < 64)) (s.busRead ini (itemReg q 0) 4))

/-- QUEUE_LATCH_READ, R285. -/
def execQueueLatchRead (ini q w : Nat) (s : State) : Host.Outcome State Fault Refusal :=
  .next (s.ifOk (decide (q < 64 ∧ 1 ≤ w ∧ w < 8)) (s.busRead ini (itemReg q w) 4))

/-- QUEUE_ENABLE, R283. Of the queue that Q_SEL names. -/
def execQueueEnable (ini : Nat) (v : Word) (s : State) : Host.Outcome State Fault Refusal :=
  .next (s.busWrite ini Rg.QM_Q_CFG 4 (v ||| 0x80000000))

/-- QUEUE_FLUSH, R287. Of the queue that Q_SEL names; its other fields keep what they hold. -/
def execQueueFlush (ini : Nat) (s : State) : Host.Outcome State Fault Refusal :=
  .next (s.busWrite ini Rg.QM_Q_CFG 4 (s.qCfgWord (s.get ⟨Rg.QM_Q_SEL, 0, 6⟩) ||| 0x20000000))

/-- QM_STALL, R289. -/
def execQmStall (q : Nat) (s : State) : Host.Outcome State Fault Refusal :=
  .next (s.app (s.ifOk (decide (q < 64)) (s.qStall q)))

/-- HOST_ACCESS, R294. -/
def execHostAccess (a size : Nat) (write : Bool) (v : Word) (s : State) : Host.Outcome State Fault Refusal :=
  .next (s.hostAccess a size write v)

/-- HDB_SET, R295. -/
def execHdbSet (v : Word) (s : State) : Host.Outcome State Fault Refusal :=
  .next (s.busWrite 5 Rg.PCIE_HDB_SET 4 v)

/-- HDB_CLEAR, R295. -/
def execHdbClear (ini : Nat) (v : Word) (s : State) : Host.Outcome State Fault Refusal :=
  .next (s.busWrite ini Rg.PCIE_HDB 4 v)

/-- CPL_CMD, R296. -/
def execCplCmd (ini : Nat) (v : Word) (s : State) : Host.Outcome State Fault Refusal :=
  .next (s.busWrite ini Rg.PCIE_CPL_CMD 4 v)

/-- CQ_ENTRY_WRITE, R296. -/
def execCqEntryWrite (k : Nat) (s : State) : Host.Outcome State Fault Refusal :=
  .next (s.app (s.ifOk (decide (k < 8)) (s.cqEntryWrite k)))

/-- CQ_HEAD_WRITE, R296. Of the completion queue that CQ_SEL names. -/
def execCqHeadWrite (v : Word) (s : State) : Host.Outcome State Fault Refusal :=
  .next (s.busWrite 5 Rg.PCIE_CQ_HEAD 4 v)

/-- MOD_TIMER_EXPIRE, R297. -/
def execModTimerExpire (k : Nat) (s : State) : Host.Outcome State Fault Refusal :=
  .next (s.app (s.ifOk (decide (k < 8)) (s.modExpire k)))

/-- MSIX_SEND, R297. -/
def execMsixSend (k : Nat) (s : State) : Host.Outcome State Fault Refusal :=
  .next (s.app (s.ifOk (decide (k < 8)) (s.msixSend k)))

/-- HOST_WAKE, R298. -/
def execHostWake (d0 : Bool) (s : State) : Host.Outcome State Fault Refusal :=
  .next (s.app (s.hostWake d0))

/-- PCIE_RESET, R299. -/
def execPcieReset (cause : Nat) (s : State) : Host.Outcome State Fault Refusal :=
  .next (s.app (s.pcieReset cause))

/-- PCIE_LINK, R300. -/
def execPcieLink (up : Bool) (speed width : Nat) (s : State) : Host.Outcome State Fault Refusal :=
  .next (s.app (s.pcieLink up speed width))

/-- PCIE_HOST_SLEEP, R298. -/
def execPcieHostSleep (l1 d3 : Bool) (s : State) : Host.Outcome State Fault Refusal :=
  .next (s.app (s.hostSleep l1 d3))

/-- MSIX_VECTOR_UNMASK, R297. -/
def execMsixVectorUnmask (v : Nat) (s : State) : Host.Outcome State Fault Refusal :=
  .next (s.app (s.ifOk (decide (v < 16)) (s.msixUnmask v)))

end Sys2Proof.Machine
end

