-- ==== Sys2Proof/Machine/CmdBus.lean ====
section
/-! DEFINITION. The meanings of the commands: lamp groups, contactors and the feeder buses (R101 to R159, R441). -/

namespace Sys2Proof.Machine

/-- BROKEN_CLEAR, R113. -/
def execBrokenClear (ini k : Nat) (v : Word) (s : State) : Host.Outcome State Fault Refusal :=
  .next (s.busWrite ini (Rg.GROUP_BROKEN (k % 16)) 4 v)

/-- LATCH_CLR, R113. -/
def execLatchClr (ini : Nat) (v : Word) (s : State) : Host.Outcome State Fault Refusal :=
  .next (s.busWrite ini Rg.GROUP_LATCH_CLR 4 v)

/-- CO_CMD_WRITE, R114. -/
def execCoCmdWrite (ini : Nat) (v : Word) (s : State) : Host.Outcome State Fault Refusal :=
  .next (s.busWrite ini Rg.IO_CO_CMD 4 v)

/-- CO_PULSE_START, R115. -/
def execCoPulseStart (j : Nat) (s : State) : Host.Outcome State Fault Refusal :=
  .next (s.rt (s.ifOk (decide (j < 8)) (s.coStart j)))

/-- CO_PULSE_END, R115. -/
def execCoPulseEnd (j : Nat) (s : State) : Host.Outcome State Fault Refusal :=
  .next (s.rt (s.ifOk (decide (j < 8)) (s.coEnd j)))

/-- CO_FEEDBACK_READ, R115. -/
def execCoFeedbackRead (j : Nat) (s : State) : Host.Outcome State Fault Refusal :=
  .next (s.rt (s.ifOk (decide (j < 8)) (s.coRead j)))

/-- CO_RETRY_PULSE, R115. -/
def execCoRetryPulse (j : Nat) (s : State) : Host.Outcome State Fault Refusal :=
  .next (s.rt (s.ifOk (decide (j < 8)) (s.coRetry j)))

/-- CO_EXTERNAL, R116. -/
def execCoExternal (j : Nat) (level : Bool) (s : State) : Host.Outcome State Fault Refusal :=
  .next (s.ifOk (decide (j < 8)) (s.coExternal j level))

/-- EVAL_HOLD_EXPIRE, R117. -/
def execEvalHoldExpire (j : Nat) (s : State) : Host.Outcome State Fault Refusal :=
  .next (s.rt (s.ifOk (decide (j < 8)) (s.coHoldEnd j)))

/-- FB_FRAME_START, R139. us: the time since the edge. -/
def execFbFrameStart (b us : Nat) (s : State) : Host.Outcome State Fault Refusal :=
  .next (s.rt (s.ifOk (decide (b < 16)) (s.fbStart b us)))

/-- FB_TAG_RESPONSE, R134. -/
def execFbTagResponse (b : Nat) (s : State) : Host.Outcome State Fault Refusal :=
  .next (s.rt (s.ifOk (decide (b < 16)) (s.tagResponse b)))

/-- FB_TAG_TIMEOUT, R136. -/
def execFbTagTimeout (b : Nat) (s : State) : Host.Outcome State Fault Refusal :=
  .next (s.rt (s.ifOk (decide (b < 16)) (s.tagTimeout b)))

/-- FB_WINDOW_CLOSE, R141. -/
def execFbWindowClose (b w : Nat) (s : State) : Host.Outcome State Fault Refusal :=
  .next (s.rt (s.ifOk (decide (b < 16)) (s.windowClose b w)))

/-- FB_FRAME_SENT, R154. us: the end of the frame after the edge; sof: the ns from the edge to its SOF; tec and rec_ are the
controller's error counters after the frame (ISO 11898-1). -/
def execFbFrameSent (b us : Nat) (sof : Int) (tec rec_ : Nat) (s : State) : Host.Outcome State Fault Refusal :=
  .next (s.rt (s.ifOk (decide (b < 16)) (s.fbSent b us sof tec rec_)))

/-- FB_FRAME_RECEIVED, R170. -/
def execFbFrameReceived (b : Nat) (f : RxFrame) (s : State) : Host.Outcome State Fault Refusal :=
  .next (s.rt (s.ifOk (decide (b < 16)) (s.fbReceive b f)))

/-- FB_ERROR, R148. tec and rec_ are the controller's error counters after the error (ISO 11898-1). -/
def execFbError (b code : Nat) (dataPhase : Bool) (id : Nat) (own : Bool) (tec rec_ : Nat)
    (s : State) : Host.Outcome State Fault Refusal :=
  .next (s.rt (s.ifOk (decide (b < 16)) (s.fbError b code dataPhase id own tec rec_)))

/-- FB_RECOVERED, R149. -/
def execFbRecovered (b : Nat) (s : State) : Host.Outcome State Fault Refusal :=
  .next (s.rt (s.ifOk (decide (b < 16)) (s.fbRecovered b)))

/-- FB_STORM_END, R149. -/
def execFbStormEnd (b : Nat) (s : State) : Host.Outcome State Fault Refusal :=
  .next (s.rt (s.ifOk (decide (b < 16)) (s.stormEnd b)))

/-- FB_RATE_DETECTED, R147. -/
def execFbRateDetected (b arb data : Nat) (s : State) : Host.Outcome State Fault Refusal :=
  .next (s.rt (s.ifOk (decide (b < 16)) (s.rateDetected b arb data)))

/-- FB_RATE_NONE, R147. -/
def execFbRateNone (b : Nat) (s : State) : Host.Outcome State Fault Refusal :=
  .next (s.rt (s.ifOk (decide (b < 16)) (s.rateNone b)))

/-- MO_TX_REQUEST, R154. -/
def execMoTxRequest (ini b i : Nat) (v : Word) (s : State) : Host.Outcome State Fault Refusal :=
  .next (s.ifOk (decide (b < 16 ∧ i < 128)) (s.busWrite ini (Rg.reg (Pg.fbmo b) (32 * i)) 4 (v ||| 0xC0000080)))

/-- MO_RX_ARM, R155. -/
def execMoRxArm (ini b i : Nat) (v : Word) (s : State) : Host.Outcome State Fault Refusal :=
  .next (s.ifOk (decide (b < 16 ∧ i < 128)) (s.busWrite ini (Rg.reg (Pg.fbmo b) (32 * i)) 4 ((v ||| 0x80000080) &&& 0xBFFFFFFF)))

/-- FB_INTEGRATED, R157. -/
def execFbIntegrated (b : Nat) (s : State) : Host.Outcome State Fault Refusal :=
  .next (s.rt (s.ifOk (decide (b < 16)) (s.fbIntegrated b)))

end Sys2Proof.Machine
end

