-- ==== Sys2Proof/Machine/CmdGround.lean ====
section
/-! DEFINITION. The meanings of the commands: Ground, tampers and debug access (R332 to R353). -/

namespace Sys2Proof.Machine

/-- GROUND_PORT_REQUEST, R335. port: 0 to 15 the buses' tags, 16 key wrap, 17 the witness tag, 18 and 19 verification;
extra: the signature, or the node's UID. -/
def execGroundPortRequest (port : Nat) (data extra : List Nat) (s : State) : Host.Outcome State Fault Refusal :=
  .next (s.rt (s.ifOk (decide (port < 20)) (s.portRequest port data extra)))

/-- MBX_IN_WRITE, R352. -/
def execMbxInWrite (ini : Nat) (v : Word) (s : State) : Host.Outcome State Fault Refusal :=
  .next (s.busWrite ini Rg.GROUND_MBX_IN 4 v)

/-- MBX_OUT_READ, R352. -/
def execMbxOutRead (ini : Nat) (s : State) : Host.Outcome State Fault Refusal :=
  .next (s.busRead ini Rg.GROUND_MBX_OUT 4)

/-- GROUND_KEY_UPDATE, R340. -/
def execGroundKeyUpdate (s : State) : Host.Outcome State Fault Refusal :=
  .next (s.rt s.mbxKeyUpdate)

/-- GROUND_PUBKEY, R333. -/
def execGroundPubkey (slot : Nat) (s : State) : Host.Outcome State Fault Refusal :=
  .next (s.rt (s.mbxPubkey slot))

/-- GROUND_SIGN, R334. slot and msg are what the input words carry. -/
def execGroundSign (slot : Nat) (msg : List Nat) (s : State) : Host.Outcome State Fault Refusal :=
  .next (s.rt (s.mbxSign slot msg))

/-- GROUND_CMAC, R334. slot and msg are what the input words carry. -/
def execGroundCmac (slot : Nat) (msg : List Nat) (s : State) : Host.Outcome State Fault Refusal :=
  .next (s.rt (s.mbxSlotOp 4 slot 7 fun k => some (aesCmac k.aes msg)))

/-- GROUND_AEAD_ENC, R334. head: the nonce of 12 bytes and the additional data; slot, head and msg are what the input words carry. -/
def execGroundAeadEnc (slot : Nat) (head msg : List Nat) (s : State) : Host.Outcome State Fault Refusal :=
  .next (s.rt (s.mbxSlotOp 5 slot 8 fun k => some (gcmSeal k.aes (head.take 12) (head.drop 12) msg)))

/-- GROUND_AEAD_DEC, R334. head: the nonce of 12 bytes and the additional data; slot, head and msg are what the input words carry. -/
def execGroundAeadDec (slot : Nat) (head msg : List Nat) (s : State) : Host.Outcome State Fault Refusal :=
  .next (s.rt (s.mbxSlotOp 6 slot 8 fun k => gcmOpen k.aes (head.take 12) (head.drop 12) msg))

/-- GROUND_RANDOM, R352. -/
def execGroundRandom (n : Nat) (s : State) : Host.Outcome State Fault Refusal :=
  .next (s.rt (s.mbxRandom n))

/-- GROUND_GENERATE, R339. -/
def execGroundGenerate (slot : Nat) (s : State) : Host.Outcome State Fault Refusal :=
  .next (s.rt (s.mbxGenerate slot))

/-- GROUND_COMMAND_DONE, R340. -/
def execGroundCommandDone (s : State) : Host.Outcome State Fault Refusal :=
  .next (s.rt s.mbxDone)

/-- TAMPER, R347. active: the source's level, which the DOOR takes from its input while the module is awake; vioC: the supply
of bank C is present. -/
def execTamper (src : Nat) (active vioC : Bool) (s : State) : Host.Outcome State Fault Refusal :=
  .next (s.ifOk (decide (src < 6)) (s.tamperIn src active vioC))

/-- TAMP_LATCH_CLEAR, R347. -/
def execTampLatchClear (ini : Nat) (v : Word) (s : State) : Host.Outcome State Fault Refusal :=
  .next (s.busWrite ini Rg.TAMP_LATCH 4 v)

/-- DBG_NEW_CHAL, R349. -/
def execDbgNewChal (ini : Nat) (s : State) : Host.Outcome State Fault Refusal :=
  .next (s.busWrite ini Rg.DBG_CMD 4 1)

/-- DBG_REQUEST, R349. -/
def execDbgRequest (ini level : Nat) (s : State) : Host.Outcome State Fault Refusal :=
  .next (s.busWrite ini Rg.DBG_CMD 4 (BitVec.ofNat 32 (2 + level % 4 * 16)))

/-- DBG_END, R349. -/
def execDbgEnd (ini : Nat) (s : State) : Host.Outcome State Fault Refusal :=
  .next (s.busWrite ini Rg.DBG_CMD 4 3)

/-- DBG_CHAL_EXPIRE, R349. -/
def execDbgChalExpire (s : State) : Host.Outcome State Fault Refusal :=
  .next (s.rt s.dbgChalExpire)

/-- DBG_LOCKOUT_END, R349. -/
def execDbgLockoutEnd (s : State) : Host.Outcome State Fault Refusal :=
  .next (s.rt s.dbgLockEnd)

end Sys2Proof.Machine
end

