-- ==== Sys2Proof/Machine/CmdMet.lean ====
section
/-! DEFINITION. The meanings of the commands: feeder metering, Trace and calibration (R189 to R209). -/

namespace Sys2Proof.Machine

/-- MET_WINDOW_END, R192. -/
def execMetWindowEnd (n : Nat) (w : MetWin) (s : State) : Host.Outcome State Fault Refusal :=
  .next (s.rt (s.ifOk (decide (n < 4)) (s.metWindow n w)))

/-- MET_WIN_CNT_READ, R192. -/
def execMetWinCntRead (ini n : Nat) (s : State) : Host.Outcome State Fault Refusal :=
  .next (s.ifOk (decide (n < 4)) (s.busRead ini (Rg.MET_WIN_CNT n) 4))

/-- MET_ENERGY_SAVE, R196. -/
def execMetEnergySave (s : State) : Host.Outcome State Fault Refusal :=
  .next (s.rt (s.energySave false))

/-- TRACE_START, R202. -/
def execTraceStart (ini node : Nat) (s : State) : Host.Outcome State Fault Refusal :=
  .next (s.busWrite ini Rg.TRACE_NODE_SEL 4 (BitVec.ofNat 32 (2 ^ 31 + node % 4096)))

/-- TRACE_DECISION, R203. -/
def execTraceDecision (k : Nat) (s : State) : Host.Outcome State Fault Refusal :=
  .next (s.rt (s.ifOk (decide (k < 64)) (s.traceDecide k)))

/-- CAL_CH_SEL, R206. -/
def execCalChSel (ini : Nat) (v : Word) (s : State) : Host.Outcome State Fault Refusal :=
  .next (s.busWrite ini Rg.CAL_CH_SEL 4 v)

/-- CAL_COMMIT, R206. -/
def execCalCommit (ini : Nat) (s : State) : Host.Outcome State Fault Refusal :=
  .next (s.busWrite ini Rg.CAL_CAL_CMD 4 1)

/-- HARM_WIN_READ, R208. -/
def execHarmWinRead (ini n : Nat) (s : State) : Host.Outcome State Fault Refusal :=
  .next (s.ifOk (decide (n < 4)) (s.busRead ini (Rg.MET_HARM_WIN n) 4))

/-- CAL_COMMIT_DONE, R206. -/
def execCalCommitDone (s : State) : Host.Outcome State Fault Refusal :=
  .next (s.rt s.calDone)

/-- FEEDER_HISTORY_RECORD, R198. -/
def execFeederHistoryRecord (s : State) : Host.Outcome State Fault Refusal :=
  .next (s.app s.feederHistory)

end Sys2Proof.Machine
end

