-- ==== Sys2Proof/Machine/Batch.lean ====
section
/-! DEFINITION. LSP register batches (R265 to R269) and the accesses of the named register commands. -/

namespace Sys2Proof.Machine

/-- The error code of an access that a core is about to make: 0 when it completes normally. -/
def State.accessCode (s : State) (ini a : Nat) (write : Bool) : Nat :=
  match s.accessError ini a 4 write false with
  | some e => e.1
  | none => 0

/-- One access of a batch at a full address; outside the window nothing is accessed and STATUS is a free value, which
the spec does not state. DESIGN CHOICE: log entry 123. -/
def State.batchAccess (s : State) (ini : Nat) (o : BatchOp) (write : Bool) : BatchOp × State :=
  if o.addr < 0x40000000 ∨ 0x40080000 ≤ o.addr then ({ o with status := s.fresh.1.toNat % 256 }, s.fresh.2)
  else
    let a := o.addr - 0x40000000
    let c := s.accessCode ini a write
    if write then
      let t := s.busWrite ini a 4 o.value
      ({ o with status := if t.acc.rsp.err ∧ c = 0 then 0x05 else c }, t)
    else
      let t := s.busRead ini a 4
      ({ o with status := c, value := t.acc.rsp.data }, t)

/-- One operation of a batch, R266: READ, WRITE, UNLOCK_WRITE; another OP makes no access, and its STATUS is free.
DESIGN CHOICE: log entry 123. -/
def State.batchOp (s : State) (ini : Nat) (o : BatchOp) : BatchOp × State :=
  if o.op = 1 then s.batchAccess ini o false
  else if o.op = 2 then s.batchAccess ini o true
  else if o.op = 3 then
    let lock : BatchOp := { o with addr := o.addr / 0x1000 * 0x1000 + 0x28, value := 0x5AFE0001 }
    (s.batchAccess ini lock true).2.batchAccess ini o true
  else ({ o with status := s.fresh.1.toNat % 256 }, s.fresh.2)

/-- The operations in order; with STOP_ON_ERR those after the first error are not executed and show 0xFF. DEDUCED: log
entry 122. -/
def State.batchRun (ini : Nat) (stop : Bool) : State → List BatchOp → List BatchOp × State
  | s, [] => ([], s)
  | s, o :: t =>
    let r := s.batchOp ini o
    if stop && r.1.status != 0 then (r.1 :: t.map ({ · with status := 0xFF }), r.2)
    else
      let q := r.2.batchRun ini stop t
      (r.1 :: q.1, q.2)

/-- An operation from its 12 bytes, and back, R266. -/
def BatchOp.read (b : List Nat) : BatchOp :=
  ⟨ofBe (b.take 1), 0, ofBe ((b.drop 4).take 4), BitVec.ofNat 32 (ofBe ((b.drop 8).take 4))⟩

def BatchOp.bytes (o : BatchOp) : List Nat := [o.op, o.status % 256, 0, 0] ++ beBytes 4 o.addr ++ beBytes 4 o.value.toNat

/-- The operations of a payload. -/
def batchOps : Nat → List Nat → List BatchOp
  | 0, _ => []
  | n + 1, b => BatchOp.read (b.take 12) :: batchOps n (b.drop 12)

/-- The response to a REG_BATCH. -/
def batchRsp (reqId : Nat) (ops : List BatchOp) : List Nat := lspBytes 0x02 reqId 0 (ops.flatMap BatchOp.bytes)

/-- A REG_BATCH of head-end peer k, with the number of batches queued before it and the core that runs it. DEDUCED: log entry
122. -/
def State.regBatch (s : State) (k queued core reqId : Nat) (stop : Bool) (ops : List BatchOp) : State :=
  let kept := Tab.get (fun _ => []) s.net.store k
  match kept.find? fun e => e.1 == reqId with
  | some e => s.lspOut k (batchRsp reqId e.2)
  | none =>
    if 4 ≤ queued then s.lspOut k (lspError reqId 4)
    else
      let r := s.batchRun (core % 4 + 1) stop ops
      let l := (kept ++ [(reqId, r.1)]).drop (kept.length - 15)
      ({ r.2 with net := { r.2.net with store := Tab.set (fun _ => []) r.2.net.store k l } }).lspOut k (batchRsp reqId r.1)

/-- The payload that a message of a head-end may have: 1 to 98 operations for REG_BATCH, none for EVENT_ACK and KEEPALIVE, bulk
messages as Update chain gives them. -/
def LspMsg.lenOk (m : LspMsg) : Bool :=
  m.len == m.body.length && decide (m.len ≤ 1184) &&
    (if m.typ = 1 then m.len % 12 == 0 && decide (12 ≤ m.len) && decide (m.len ≤ 1176)
      else if m.typ = 0x11 ∨ m.typ = 0x30 then m.len == 0 else true)

/-- A type that a head-end may send. -/
def LspMsg.typOk (m : LspMsg) : Bool := m.typ == 1 || m.typ == 0x11 || m.typ == 0x30 || decide (0x20 ≤ m.typ ∧ m.typ < 0x30)

/-- A message of the session with peer k as it arrives, R265: every one counts for R269; a wrong one of a head-end is answered
with ERROR, in the order of the codes. Relay sessions carry bulk messages and KEEPALIVE only (R264), and their other messages get
no answer. DEDUCED: log entry 120. -/
def State.lspReceive (s : State) (k queued core : Nat) (m : List Nat) : State :=
  match s.sess k with
  | none => s
  | some _ =>
    let s := s.heardPeer k
    if 4 ≤ k then s
    else match lspParse m with
      | none => s.lspOut k (lspError 0 3)
      | some p =>
        if p.ver ≠ 1 then s.lspOut k (lspError p.reqId 1)
        else if !p.typOk then s.lspOut k (lspError p.reqId 2)
        else if !p.lenOk then s.lspOut k (lspError p.reqId 3)
        else if p.typ = 1 then s.regBatch k queued core p.reqId (p.flags.testBit 0) (batchOps (p.len / 12) p.body)
        else if p.typ = 0x11 then s.eventAck k p.seq
        else s

end Sys2Proof.Machine
end

