-- ==== Sys2Proof/Machine/CmdNet.lean ====
section
/-! DEFINITION. The meanings of the commands: the uplink switch, the ring and the lamp service protocol (R256 to R271). -/

namespace Sys2Proof.Machine

/-- SW_FRAME_FORWARD, R257. p: 0 and 1 the ring ports, 2 and 3 the LAN ports, 4 the internal port. -/
def execSwFrameForward (p : Nat) (f : NetFrame) (s : State) : Host.Outcome State Fault Refusal :=
  .next (s.rt (s.swFrame p f))

/-- MAC_AGE, R257. -/
def execMacAge (vid mac : Nat) (s : State) : Host.Outcome State Fault Refusal :=
  .next (s.nw (s.macAge vid mac))

/-- RING_SF, R259. -/
def execRingSf (n : Nat) (s : State) : Host.Outcome State Fault Refusal :=
  .next (s.nw (s.ringSf n))

/-- RING_SIGNAL_RESTORE, R259. -/
def execRingSignalRestore (n : Nat) (s : State) : Host.Outcome State Fault Refusal :=
  .next (s.nw (s.ringRestore n))

/-- RAPS_RECEIVED, R259. -/
def execRapsReceived (m : RapsMsg) (s : State) : Host.Outcome State Fault Refusal :=
  .next (s.nw (s.rapsReceived m))

/-- WTR_EXPIRE, R259. -/
def execWtrExpire (s : State) : Host.Outcome State Fault Refusal :=
  .next (s.nw s.wtrExpire)

/-- HOLDOFF_EXPIRE, R259. -/
def execHoldoffExpire (n : Nat) (s : State) : Host.Outcome State Fault Refusal :=
  .next (s.nw (s.holdoffExpire n))

/-- GUARD_EXPIRE, R259. -/
def execGuardExpire (s : State) : Host.Outcome State Fault Refusal :=
  .next (s.nw s.guardExpire)

/-- ERPS_FORCED_SWITCH, R261. -/
def execErpsForcedSwitch (ini port : Nat) (s : State) : Host.Outcome State Fault Refusal :=
  .next (s.busWrite ini Rg.SW_ERPS_CMD 4 (BitVec.ofNat 32 (port % 2 * 256 + 1)))

/-- ERPS_MANUAL_SWITCH, R261. -/
def execErpsManualSwitch (ini port : Nat) (s : State) : Host.Outcome State Fault Refusal :=
  .next (s.busWrite ini Rg.SW_ERPS_CMD 4 (BitVec.ofNat 32 (port % 2 * 256 + 2)))

/-- ERPS_CLEAR, R261. -/
def execErpsClear (ini : Nat) (s : State) : Host.Outcome State Fault Refusal :=
  .next (s.busWrite ini Rg.SW_ERPS_CMD 4 3)

/-- ERPS_CFG_WRITE, R261. -/
def execErpsCfgWrite (ini : Nat) (v : Word) (s : State) : Host.Outcome State Fault Refusal :=
  .next (s.busWrite ini Rg.SW_ERPS_CFG 4 v)

/-- RING_SFP, R261. fault: the module's own fault or an unsupported type. -/
def execRingSfp (n : Nat) (inserted fault : Bool) (s : State) : Host.Outcome State Fault Refusal :=
  .next (s.nw (s.ringSfp n inserted fault))

/-- PORT_LINK_UP, R270. -/
def execPortLinkUp (n mbps : Nat) (s : State) : Host.Outcome State Fault Refusal :=
  .next (s.nw (s.portLinkUp n mbps))

/-- PORT_LINK_DOWN, R270. -/
def execPortLinkDown (n : Nat) (s : State) : Host.Outcome State Fault Refusal :=
  .next (s.nw (s.portLinkDown n))

/-- DTLS_HANDSHAKE, R264. -/
def execDtlsHandshake (h : DtlsHello) (s : State) : Host.Outcome State Fault Refusal :=
  .next (s.ifOk s.lspUp (s.dtlsHandshake h))

/-- LSP_REG_BATCH, R265, R266: the bytes of the message on the session with peer k, which its connection ID names. queued:
batches that wait when it arrives; core: the application core that executes it. -/
def execLspRegBatch (k queued core : Nat) (m : List Nat) (s : State) : Host.Outcome State Fault Refusal :=
  .next (s.app (s.lspReceive k queued core m))

/-- EVENT_ACK, R268. -/
def execEventAck (k : Nat) (m : List Nat) (s : State) : Host.Outcome State Fault Refusal :=
  .next (s.app (s.lspReceive k 0 0 m))

/-- LSP_EVENT_RESEND, R268. -/
def execLspEventResend (k seq : Nat) (s : State) : Host.Outcome State Fault Refusal :=
  .next (s.app (s.eventResend k seq))

/-- KEEPALIVE, R269. -/
def execKeepalive (k : Nat) (s : State) : Host.Outcome State Fault Refusal :=
  .next (s.app (s.keepalive k))

/-- KEEPALIVE_RECEIVED, R269. -/
def execKeepaliveReceived (k : Nat) (m : List Nat) (s : State) : Host.Outcome State Fault Refusal :=
  .next (s.app (s.lspReceive k 0 0 m))

/-- LSP_SESSION_DOWN, R269. alert: the peer closed it. -/
def execLspSessionDown (k : Nat) (alert : Bool) (s : State) : Host.Outcome State Fault Refusal :=
  .next (s.app (s.sessionDown k alert))

end Sys2Proof.Machine
end

