-- ==== Sys2Proof/Machine/CmdNode.lean ====
section
/-! DEFINITION. The meanings of the commands: node management, lifecycle, digital inputs, histories (R160 to R188). -/

namespace Sys2Proof.Machine

/-- POLL_RESPONSE_TIMEOUT, R172. -/
def execPollResponseTimeout (b : Nat) (s : State) : Host.Outcome State Fault Refusal :=
  .next (s.rt (s.ifOk (decide (b < 16)) (s.pollTimeout b)))

/-- FAULT_EVENT_HOLD_EXPIRE, R175. -/
def execFaultEventHoldExpire (i code : Nat) (s : State) : Host.Outcome State Fault Refusal :=
  .next (s.rt (s.ifOk (decide (i < 4096)) (s.faultExpire i code)))

/-- NODE_PLAN, R176. The UID stands in CMD_ARG0 and CMD_ARG1. -/
def execNodePlan (ini index : Nat) (s : State) : Host.Outcome State Fault Refusal :=
  .next (s.busWrite ini Rg.NODE_CMD 4 (nodeWord index 0 1))

/-- NODE_UNPLAN, R186. -/
def execNodeUnplan (ini index : Nat) (s : State) : Host.Outcome State Fault Refusal :=
  .next (s.busWrite ini Rg.NODE_CMD 4 (nodeWord index 0 2))

/-- NODE_DECOMMISSION, R186. -/
def execNodeDecommission (ini index : Nat) (s : State) : Host.Outcome State Fault Refusal :=
  .next (s.busWrite ini Rg.NODE_CMD 4 (nodeWord index 0 3))

/-- NODE_QUARANTINE, R180. -/
def execNodeQuarantine (ini index : Nat) (s : State) : Host.Outcome State Fault Refusal :=
  .next (s.busWrite ini Rg.NODE_CMD 4 (nodeWord index 0 4))

/-- NODE_UNQUARANTINE, R180. -/
def execNodeUnquarantine (ini index : Nat) (s : State) : Host.Outcome State Fault Refusal :=
  .next (s.busWrite ini Rg.NODE_CMD 4 (nodeWord index 0 5))

/-- NODE_RECOMMISSION, R181. -/
def execNodeRecommission (ini index : Nat) (s : State) : Host.Outcome State Fault Refusal :=
  .next (s.busWrite ini Rg.NODE_CMD 4 (nodeWord index 0 6))

/-- NODE_IDENT, R171. -/
def execNodeIdent (ini index : Nat) (s : State) : Host.Outcome State Fault Refusal :=
  .next (s.busWrite ini Rg.NODE_CMD 4 (nodeWord index 0 7))

/-- NODE_MOVE, R186. -/
def execNodeMove (ini index arg : Nat) (s : State) : Host.Outcome State Fault Refusal :=
  .next (s.busWrite ini Rg.NODE_CMD 4 (nodeWord index arg 8))

/-- NODE_WINK, R168. -/
def execNodeWink (ini index arg : Nat) (s : State) : Host.Outcome State Fault Refusal :=
  .next (s.busWrite ini Rg.NODE_CMD 4 (nodeWord index arg 9))

/-- NODE_CMD_RESEND, R168. -/
def execNodeCmdResend (b a op : Nat) (s : State) : Host.Outcome State Fault Refusal :=
  .next (s.rt (s.ifOk (decide (b < 16 ∧ a < 256)) (s.cmdResend b a op)))

/-- PROBE_OUTCOME, R177. busy: a frame that began in the slot has not ended. -/
def execProbeOutcome (b : Nat) (busy : Bool) (s : State) : Host.Outcome State Fault Refusal :=
  .next (s.rt (s.ifOk (decide (b < 16)) (s.probeOutcome b busy)))

/-- KEY_INSTALL_TIMEOUT, R179. -/
def execKeyInstallTimeout (i : Nat) (s : State) : Host.Outcome State Fault Refusal :=
  .next (s.rt (s.ifOk (decide (i < 4096)) (s.keyingTimeout i)))

/-- RECOM_RELEASE, R181. -/
def execRecomRelease (i : Nat) (s : State) : Host.Outcome State Fault Refusal :=
  .next (s.rt (s.ifOk (decide (i < 4096)) (s.recomRelease i)))

/-- NODE_RECOM_FAIL, R181. -/
def execNodeRecomFail (i : Nat) (s : State) : Host.Outcome State Fault Refusal :=
  .next (s.rt (s.ifOk (decide (i < 4096)) (s.recomFail i)))

/-- KEY_ROLLOUT_SWITCH, R343. -/
def execKeyRolloutSwitch (b : Nat) (s : State) : Host.Outcome State Fault Refusal :=
  .next (s.rt (s.ifOk (decide (b < 16)) (s.rolloutSwitch b)))

/-- SAT_WINDOW_END, R182. -/
def execSatWindowEnd (i : Nat) (s : State) : Host.Outcome State Fault Refusal :=
  .next (s.rt (s.ifOk (decide (i < 4096)) (s.satWindow i)))

/-- NODE_ENT_READ, R186. -/
def execNodeEntRead (ini k : Nat) (s : State) : Host.Outcome State Fault Refusal :=
  .next (s.busRead ini (Rg.NODE_ENT (k % 32)) 4)

/-- NODE_ENT_WRITE, R186. -/
def execNodeEntWrite (ini k : Nat) (v : Word) (s : State) : Host.Outcome State Fault Refusal :=
  .next (s.busWrite ini (Rg.NODE_ENT (k % 32)) 4 v)

/-- DI_CONFIRM, R183. -/
def execDiConfirm (i : Nat) (s : State) : Host.Outcome State Fault Refusal :=
  .next (s.rt (s.ifOk (decide (i < 8)) (s.diConfirm i)))

/-- DI_STUCK, R183. -/
def execDiStuck (i : Nat) (s : State) : Host.Outcome State Fault Refusal :=
  .next (s.rt (s.ifOk (decide (i < 8)) (s.diStuckAt i)))

/-- DI_CHATTER_WINDOW_END, R183. -/
def execDiChatterWindowEnd (i : Nat) (s : State) : Host.Outcome State Fault Refusal :=
  .next (s.rt (s.ifOk (decide (i < 8)) (s.diChatterEnd i)))

/-- DI_LEVEL_CHANGE, R183. vioC: the always-on supply of bank C is present, so that a change in STANDBY can wake
(R407). -/
def execDiLevelChange (i : Nat) (level vioC : Bool) (s : State) : Host.Outcome State Fault Refusal :=
  .next (s.diLevel i level vioC)

/-- NODE_HISTORY_RECORD, R173. -/
def execNodeHistoryRecord (s : State) : Host.Outcome State Fault Refusal :=
  .next (s.app s.nodeHistory)

end Sys2Proof.Machine
end

