-- ==== Sys2Proof/Machine/Edge.lean ====
section
/-! DEFINITION. The tick edge and the freeze cut (R52 to R57, R312, R314): the order of the edge actions over every block. -/

namespace Sys2Proof.Machine

/-! ### Input freeze (R56, R57) -/

/-- Frames among node management's inputs; detections are among them. -/
def NodeMgmt.frames (n : NodeMgmt) : Nat := (n.inputs.filter fun x => match x with
  | .frame _ => true
  | _ => false).length

/-- Every input complete in the tick just ended is handed to the new tick; of feeder frames those of a bus up to the
sequence number that `upTo` admits. IN_CNT counts frames, register writes of the light path, digital input changes and
metering windows (R56). DEDUCED: log entry 36. -/
def State.freeze (s : State) (upTo : Nat → Nat → Bool) : State :=
  let n := s.node.frames
  let s := s.nodeFreeze fun x => match x with
    | .frame f => upTo f.bus f.seq
    | _ => true
  let take := s.hatch.inq.filter fun d => upTo d.bus d.rxSeq
  let s := { s with
    hatch := { s.hatch with frozen := s.hatch.frozen ++ take, inq := s.hatch.inq.filter fun d => !upTo d.bus d.rxSeq }
    pair := { s.pair with frozen := take }
    io := { s.io with coFrozen := s.io.coFrozen ++ s.io.coReq, coReq := [] }
    plate := { s.plate with
      brkFrz := s.plate.brkFrz ++ s.plate.brkReq, brkReq := []
      latFrz := s.plate.latFrz ++ s.plate.latReq, latReq := [] } }
  let s := s.schedFreeze.put Fd.TICK_FREEZE_IN_CNT (min (n - s.node.frames + s.tick.inCnt) 65535)
  { s with tick := { s.tick with inCnt := 0 } }

/-! ### What the frozen inputs and the snapshot drive -/

/-- The sensed contactor states as a cut names them (R312). -/
def State.coFreezeFrom (s : State) (l : List Bool) : State := s.coFreezeAs fun j => (l[j]?).getD true

/-- Frozen node inputs, the graph's swap and the configuration snapshot of R53 step 4. DEDUCED: log entry 37. -/
def State.edgeTable (s : State) : State :=
  let s := (s.nodeEdge).graphSwap
  { s with snap := s.regs }

/-- The schedule engine and the contactor requests, R114, R245; requests frozen at the first edge do nothing (R441).
DEDUCED: log entry 37. -/
def State.edgeSched (s : State) (first : Bool) : State :=
  let s := s.schedEdge
  if first then s.coDrop else s.coApply

/-- Keys due at this edge (R339), roll-outs (R342), metering and the update chain. DEDUCED: log entries 37, 48. -/
def State.edgeRest (s : State) (old : Nat) (cur : List Nat) : State :=
  let s := s.keyEdge
  let s := if s.ground.segNew then { s with ground := { s.ground with segNew := false } }.rolloutStart else s
  let s := (List.range 16).foldl State.rolloutEdge s
  let s := ((s.calEdge).traceEdge old cur).reconEdge
  if s.updIdle then s else s.updEdge

/-- The first edge after a MODULE reset: the pair's start (R307), the contactors' read (R441), the freshness values (R135),
the node table (R442). -/
def State.firstEdge (s : State) : State :=
  let s := (s.pairFirst).coInitialRead
  ((List.range 16).foldl State.fvFirst s).nodeBoot

/-- How far the inputs have come at the edge: per bus the latest receive sequence number (R145), and the latest MIRROR sent or
received. An ACTIVE module's cut names it, and a standby without that cut freezes up to here (R57). -/
def State.edgeMark (s : State) : State :=
  s.modPair fun p => { p with
    mark := (List.range 16).map fun b => (s.rd (Rg.FB_RX_SEQ b)).toNat
    mirMark := if s.role = 1 then some p.mirSent else p.mirGot }

/-- The cut that an ACTIVE module sends: its tick, how far each input queue reached at the edge, UTC_OFS.CUR and the sensed
contactor states (R57, R310, R312). -/
def State.cutOf (s : State) : CutMsg :=
  { num := s.tick.num, rxSeq := s.pair.mark, mirror := s.pair.mirMark.getD 0, utcOfs := s.utcOfs
    sensed := (List.range 8).map fun j => (s.co j).on, ofs := 0 }

/-- The state of the running tick starts afresh; an ACTIVE module sends its cut and takes the Impression snapshot (R53
step 6, R54, R57). -/
def State.edgeFlags (s : State) : State :=
  let send := s.role == 1 && s.linkUp
  let s := s.modTick fun t => { t with
    winOpen := true, runDone := false, overrun := false, flushed := false, composeDone := false
    ownCut := false, cutGot := false, impBusy := send, started := false, ofs := 0 }
  let s := { s with hatch := { s.hatch with cut := 0 } }
  if send then (s.modPair ({ · with cutOut := some s.cutOf, out := s.impTake })).byellSend 1 else s

/-- The edge of a module that is not a standby. DEDUCED: log entry 37. -/
def State.edgeFull (s : State) (first : Bool) (old : Nat) (cur : List Nat) : State :=
  let s := s.freeze fun _ _ => true
  let s := (s.put Fd.TICK_FREEZE_OWN_CUT 0).edgeTable
  let s := s.edgeModes
  let s := if first then s.firstEdge else s
  ((s.coFreeze).edgeSched first).edgeRest old cur

/-- A completed compose swaps the buffers, R53 step 3. -/
def State.edgeSwap (s : State) : State := if s.tick.composeDone then s.plateSwap else s

/-- The end of the edge on every module: the buses, the phase, the flags, a reset that the update chain asks for, boot
stages that waited, the interrupt. -/
def State.edgeEnd (s : State) (us : Nat) (err : Int) : State :=
  let s := (List.range 16).foldl State.fbEdge s
  let s := ((s.edgeSteps us).edgePhase err).edgeFlags
  let s := if s.upd.resetDue then { s with upd := { s.upd with resetDue := false } }.startReset .cmd false else s
  (s.bootGo 32).settle.irq Pg.tick 0

/-- Operating seconds count on (SYS.OPSEC, R33). DESIGN CHOICE: log entry 3. -/
def State.opsecAdvance (s : State) (before : Nat) : State :=
  let n := s.sec - before
  { s with nv := { s.nv with cnt := { s.nv.cnt with opsec := (s.nv.cnt.opsec + n) % 2 ^ 32 } } }

/-- TICK_EDGE after `dt` ns, with the phase error `err` and the tick's mean phase currents `cur` (set * 3 + phase),
R53. While the real-time complex is halted each edge counts as an overrun and no block works (R416); the overrun raises no
TICK_OVERRUN there, which the spec leaves open; after the irreversible work of a power-down no further edge runs (R411).
DESIGN CHOICE: log entries 3, 190. -/
def State.tickEdge (s : State) (dt : Nat) (err : Int) (cur : List Nat) : State :=
  if !s.pwr.light then s
  else if s.pwr.irrev then s.modPwr ({ · with light := false })
  else
    let before := s.sec
    let s := (((s.timeAdvance dt).opsecAdvance before).metTick dt).settle
    let old := s.tick.num
    let s := (List.range 16).foldl State.fbEdgeClose s
    if s.pwr.halted then
      let s := ((s.edgeNumber).edgeSteps (dt / 1000)).edgePhase err
      let s := (List.range 16).foldl State.fbEdge s
      let s := s.countOverrun.modTick ({ · with composeDone := false, ofs := 0 })
      s.settle.irq Pg.tick 0
    else
      let first := !s.tick.booted
      let s := (((s.impMissing).edgeNumber).roleEdge).edgeMark
      let s := (s.traceUnsent.edgeSwap).pairEdge
      let s := if s.role = 2 then s.edgeModes else s.edgeFull first old cur
      s.edgeEnd (dt / 1000) err

/-! ### The standby's cut (R57, R312) -/

/-- A mirrored input takes effect, R311. -/
def State.applyMirror (s : State) : MirrorIn → State
  | .write a v => s.mirrorWrite a v
  | .ident i n => s.putIdent i { s.nodeAt i with ident := n }
  | .cap i v => s.putIdent i { s.nodeAt i with ident := { (s.nodeAt i).ident with driveCap := v } }
  | .samplePt b w => s.modFb b ({ · with spPend := some w })

/-- Mirrored inputs up to a MIRROR number enter the frozen set. DEDUCED: log entry 152. -/
def State.takeMirror (s : State) (upTo : Nat → Bool) : State :=
  let l := s.pair.mirror.filter fun e => upTo e.1
  let s := s.modPair fun p => { p with mirror := p.mirror.filter fun e => !upTo e.1 }
  l.foldl (fun s e => s.applyMirror e.2) s

/-- A receive sequence number of bus b lies within a cut. -/
def withinCut (cut : List Nat) (b q : Nat) : Bool := !seqBefore ((cut[b]?).getD 0) q

/-- OWN_CUT at 0.5 ms: no cut has come, and the standby freezes up to its own edge. DEDUCED: log entry 152. -/
def State.ownCut (s : State) : State :=
  if !s.ticking || s.role ≠ 2 || s.tick.cutGot || s.tick.ownCut then s
  else
    let m := s.pair.mirMark
    let s := (s.takeMirror fun i => m.isSome && idxBefore i (m.getD 0)).freeze (withinCut s.pair.mark)
    let s := ((s.put Fd.TICK_FREEZE_OWN_CUT 1).modTick ({ · with ownCut := true })).edgeTable
    ((s.coFreeze).edgeSched false).edgeRest (s.tick.num - 1) []

/-- CUT_RECEIVED: the standby builds the tick's frozen inputs from the active's cut; EDGE_OFS beyond 250 µs starts the
count of R314 anew. DEDUCED: log entry 152. -/
def State.cutReceived (s : State) (m : CutMsg) (ok : Bool) : State :=
  s.byellGot ok fun s =>
    if s.role ≠ 2 then s
    else
      let s := s.putInt (whole Rg.PAIR_EDGE_OFS) (sat31 m.ofs)
      let s := if 250000 < m.ofs.natAbs then (s.modPair ({ · with run := 0 })).fitUpdate else s
      if !s.ticking || s.tick.cutGot || s.tick.ownCut || m.num ≠ s.tick.num then s
      else
        let s := s.takeMirror fun i => idxBefore i m.mirror
        let s := s.freeze (withinCut m.rxSeq)
        let s := ((s.put Fd.TICK_FREEZE_OWN_CUT 0).modTick ({ · with cutGot := true })).edgeTable
        let ofs := s.utcOfs
        let s := (s.putInt Fd.TIME_UTC_OFS_CUR m.utcOfs).coFreezeFrom m.sensed
        let s := (s.edgeSched false).edgeRest (s.tick.num - 1) []
        s.putInt Fd.TIME_UTC_OFS_CUR ofs

end Sys2Proof.Machine
end

