-- ==== Sys2Proof/Machine/CmdPair.lean ====
section
/-! DEFINITION. The meanings of the commands: the redundant pair, the Byell link and the witness (R306 to R331). -/

namespace Sys2Proof.Machine

/-- BYELL_UP, R309. -/
def execByellUp (lanes : Nat) (s : State) : Host.Outcome State Fault Refusal :=
  .next (s.rt (s.byellUp lanes))

/-- BYELL_DOWN, R309. -/
def execByellDown (s : State) : Host.Outcome State Fault Refusal :=
  .next (s.rt s.byellDown)

/-- BYELL_LANE, R309. -/
def execByellLane (lane : Nat) (s : State) : Host.Outcome State Fault Refusal :=
  .next (s.rt (s.byellLane lane))

/-- CUT_RECEIVED, R310. -/
def execCutReceived (m : CutMsg) (ok : Bool) (s : State) : Host.Outcome State Fault Refusal :=
  .next (s.rt (s.cutReceived m ok))

/-- MIRROR_RECEIVED, R311. -/
def execMirrorReceived (seq : Nat) (x : MirrorIn) (ok : Bool) (s : State) : Host.Outcome State Fault Refusal :=
  .next (s.rt (s.mirrorGot seq x ok))

/-- IMP_DATA_RECEIVED, R310. -/
def execImpDataReceived (l : List ImpPiece) (ok : Bool) (s : State) : Host.Outcome State Fault Refusal :=
  .next (s.rt (s.impData l ok))

/-- IMP_END_RECEIVED, R313. -/
def execImpEndReceived (m : ImpEndMsg) (s : State) : Host.Outcome State Fault Refusal :=
  .next (s.rt (s.impEnd m))

/-- STATUS_RECEIVED, R310. -/
def execStatusReceived (m : StatusMsg) (ok : Bool) (s : State) : Host.Outcome State Fault Refusal :=
  .next (s.rt (s.statusGot m ok))

/-- STATUS_TIMEOUT, R320. -/
def execStatusTimeout (s : State) : Host.Outcome State Fault Refusal :=
  .next (s.rt s.statusTimeout)

/-- YIELD_RECEIVED, R319. -/
def execYieldReceived (lastEnd : Nat) (ok : Bool) (s : State) : Host.Outcome State Fault Refusal :=
  .next (s.rt (s.yieldGot lastEnd ok))

/-- SYNC_DATA_RECEIVED, R308. -/
def execSyncDataReceived (x : SyncPiece) (ok : Bool) (s : State) : Host.Outcome State Fault Refusal :=
  .next (s.rt (s.syncData x ok))

/-- FORMATION_TIMEOUT, R308. -/
def execFormationTimeout (s : State) : Host.Outcome State Fault Refusal :=
  .next (s.rt s.formationTimeout)

/-- JOIN_CLAIM_TIMEOUT, R308. -/
def execJoinClaimTimeout (s : State) : Host.Outcome State Fault Refusal :=
  .next (s.rt s.joinClaim)

/-- WIT_HEARTBEAT, R317. -/
def execWitHeartbeat (s : State) : Host.Outcome State Fault Refusal :=
  .next (s.rt s.heartbeat)

/-- WIT_REPLY_RECEIVED, R317. -/
def execWitReplyReceived (m : WitMsg) (s : State) : Host.Outcome State Fault Refusal :=
  .next (s.rt (s.witReply m))

/-- WIT_REPLY_TIMEOUT, R317. -/
def execWitReplyTimeout (s : State) : Host.Outcome State Fault Refusal :=
  .next (s.rt s.witTimeout)

/-- LEASE_LOST, R322. -/
def execLeaseLost (s : State) : Host.Outcome State Fault Refusal :=
  .next (s.rt s.leaseLost)

/-- PAIR_SWAP, R325. -/
def execPairSwap (ini : Nat) (s : State) : Host.Outcome State Fault Refusal :=
  .next (s.busWrite ini Rg.PAIR_CMD 4 1)

/-- PAIR_FENCE, R319. -/
def execPairFence (ini : Nat) (s : State) : Host.Outcome State Fault Refusal :=
  .next (s.busWrite ini Rg.PAIR_CMD 4 2)

/-- PAIR_UNFENCE, R307. -/
def execPairUnfence (ini : Nat) (s : State) : Host.Outcome State Fault Refusal :=
  .next (s.busWrite ini Rg.PAIR_CMD 4 3)

/-- SWAP_PERIOD_EXPIRE, R325. -/
def execSwapPeriodExpire (s : State) : Host.Outcome State Fault Refusal :=
  .next (s.rt s.swapDue)

/-- BYELL_LANE_RESTORED, R309. -/
def execByellLaneRestored (s : State) : Host.Outcome State Fault Refusal :=
  .next (s.rt s.byellLaneBack)

end Sys2Proof.Machine
end

