-- ==== Sys2Proof/Machine/CmdPower.lean ====
section
/-! DEFINITION. The meanings of the commands: bring-up, power states and watchdogs (R398 to R420). -/

namespace Sys2Proof.Machine

/-- POWER_GOOD_RISE, R398. vin in mV. -/
def execPowerGoodRise (vin : Nat) (s : State) : Host.Outcome State Fault Refusal :=
  .next (s.powerRise vin)

/-- POWER_GOOD_FALL, R398. vin in mV; vbat: VBAT is present. -/
def execPowerGoodFall (vin : Nat) (vbat : Bool) (s : State) : Host.Outcome State Fault Refusal :=
  .next (s.powerFall vin vbat)

/-- VHOLD_READY, R399. -/
def execVholdReady (mv : Nat) (s : State) : Host.Outcome State Fault Refusal :=
  .next (s.vholdReady mv)

/-- RIDE_THROUGH_END, R411. -/
def execRideThroughEnd (s : State) : Host.Outcome State Fault Refusal :=
  .next (s.rideEnd)

/-- POWER_DOWN_DONE, R411. vbat: VBAT is present. -/
def execPowerDownDone (vbat : Bool) (s : State) : Host.Outcome State Fault Refusal :=
  .next (s.powerDown vbat)

/-- PWR_VIN_RETURN, R407. vin in mV. -/
def execPwrVinReturn (vin : Nat) (s : State) : Host.Outcome State Fault Refusal :=
  .next (s.vinReturn vin)

/-- PWR_CMD_RUN, R407. -/
def execPwrCmdRun (ini : Nat) (s : State) : Host.Outcome State Fault Refusal :=
  .next (s.busWrite ini Rg.PWR_CMD 4 1)

/-- PWR_CMD_LOW, R407. -/
def execPwrCmdLow (ini : Nat) (s : State) : Host.Outcome State Fault Refusal :=
  .next (s.busWrite ini Rg.PWR_CMD 4 2)

/-- PWR_CMD_STANDBY, R408. -/
def execPwrCmdStandby (ini : Nat) (s : State) : Host.Outcome State Fault Refusal :=
  .next (s.busWrite ini Rg.PWR_CMD 4 3)

/-- DOMAIN_RST_APP, R413. -/
def execDomainRstApp (ini : Nat) (s : State) : Host.Outcome State Fault Refusal :=
  .next (s.busWrite ini Rg.PWR_CMD 4 4)

/-- DOMAIN_RST_NET, R413. -/
def execDomainRstNet (ini : Nat) (s : State) : Host.Outcome State Fault Refusal :=
  .next (s.busWrite ini Rg.PWR_CMD 4 5)

/-- NET_WATCHDOG_EXPIRE, R413. -/
def execNetWatchdogExpire (s : State) : Host.Outcome State Fault Refusal :=
  .next (s.nw s.netWatchdog)

/-- CORE_WATCHDOG_EXPIRE, R415. -/
def execCoreWatchdogExpire (n : Nat) (s : State) : Host.Outcome State Fault Refusal :=
  .next (s.app (s.coreWatchdog n))

/-- WDOG_KICK, R420. -/
def execWdogKick (ini : Nat) (v : Word) (s : State) : Host.Outcome State Fault Refusal :=
  .next (s.busWrite ini Rg.WDOG_KICK 4 v)

/-- PWR_WAKE, R407. -/
def execPwrWake (s : State) : Host.Outcome State Fault Refusal :=
  .next (s.wake)

/-- VIN_LOST_STANDBY, R407. vbat: VBAT is present. -/
def execVinLostStandby (vbat : Bool) (s : State) : Host.Outcome State Fault Refusal :=
  .next (s.vinLost vbat)

/-- BOOT_STAGE_DONE, R400. -/
def execBootStageDone (ok : Bool) (ms : Nat) (s : State) : Host.Outcome State Fault Refusal :=
  .next (s.rt (s.stageDone ok ms))

/-- BOOT_STAGE_DEADLINE, R400. -/
def execBootStageDeadline (ms : Nat) (s : State) : Host.Outcome State Fault Refusal :=
  .next (s.rt (s.stageLate ms))

/-- ROM_EXEC_RESET, R403. -/
def execRomExecReset (s : State) : Host.Outcome State Fault Refusal :=
  .next (s.rt s.romReset)

/-- BOOT_RETRY_ALL, R419. -/
def execBootRetryAll (ini : Nat) (s : State) : Host.Outcome State Fault Refusal :=
  .next (s.busWrite ini Rg.BOOT_CMD 4 1)

/-- BOOT_RETRY_SEL, R419. -/
def execBootRetrySel (ini stage : Nat) (s : State) : Host.Outcome State Fault Refusal :=
  .next (s.busWrite ini Rg.BOOT_CMD 4 (BitVec.ofNat 32 (2 + 4 * (stage % 32))))

end Sys2Proof.Machine
end

