-- ==== Sys2Proof/Machine/CmdRec.lean ====
section
/-! DEFINITION. The meanings of the commands: the recorder and Burnish (R378 to R397). -/

namespace Sys2Proof.Machine

/-- REC_WRITE_DONE, R381. -/
def execRecWriteDone (s : State) : Host.Outcome State Fault Refusal :=
  .next (s.rt s.recWritten)

/-- LOG_DEGRADED, R384. -/
def execLogDegraded (cause : Nat) (s : State) : Host.Outcome State Fault Refusal :=
  .next (s.rt (s.logFail cause))

/-- REC_TRIAL_WRITE, R385. ok: whether the write succeeds. -/
def execRecTrialWrite (ok : Bool) (s : State) : Host.Outcome State Fault Refusal :=
  .next (s.rt (s.recTrial ok))

/-- LOG_RESTORED, R385. -/
def execLogRestored (s : State) : Host.Outcome State Fault Refusal :=
  .next (s.rt s.recRestored)

/-- REC_RD_SEL_WRITE, R387. -/
def execRecRdSelWrite (ini : Nat) (v : Word) (s : State) : Host.Outcome State Fault Refusal :=
  .next (s.busWrite ini Rg.REC_RD_SEL 4 v)

/-- REC_RD_WIN0_READ, R387. -/
def execRecRdWin0Read (ini : Nat) (s : State) : Host.Outcome State Fault Refusal :=
  .next (s.busRead ini (Rg.REC_RD_WIN 0) 4)

/-- REC_RD_WIN15_READ, R387. -/
def execRecRdWin15Read (ini : Nat) (s : State) : Host.Outcome State Fault Refusal :=
  .next (s.busRead ini (Rg.REC_RD_WIN 15) 4)

/-- REC_QUOTA_WRITE, R383. -/
def execRecQuotaWrite (ini : Nat) (v : Word) (s : State) : Host.Outcome State Fault Refusal :=
  .next (s.busWrite ini Rg.REC_QUOTA 4 v)

/-- REC_APP_POST, R380. -/
def execRecAppPost (ini : Nat) (v : Word) (s : State) : Host.Outcome State Fault Refusal :=
  .next (s.busWrite ini Rg.REC_APP_POST 4 v)

/-- AGE_MEASURE, R388. v: the value the sensor reads. -/
def execAgeMeasure (k : Nat) (v : Int) (s : State) : Host.Outcome State Fault Refusal :=
  .next (s.rt (s.ifOk (decide (k < 64)) (s.ageMeasure k v)))

/-- NAND_SCAN_DONE, R390. v: the largest count of corrected bits. -/
def execNandScanDone (v : Nat) (s : State) : Host.Outcome State Fault Refusal :=
  .next (s.rt (s.nandScan v))

/-- SCAP_TEST_START, R391. -/
def execScapTestStart (s : State) : Host.Outcome State Fault Refusal :=
  .next (s.rt s.scapHour)

/-- AGE_SCAP_TEST, R391. c in mF and esr in mΩ, as the test measures them. -/
def execAgeScapTest (c esr : Nat) (s : State) : Host.Outcome State Fault Refusal :=
  .next (s.rt (s.scapDone c esr))

/-- SAMPLE_POINT_REPLAN, R392. -/
def execSamplePointReplan (b : Nat) (s : State) : Host.Outcome State Fault Refusal :=
  .next (s.rt (s.ifOk (decide (b < 16)) (s.spReplan b)))

/-- DRIVE_CAP_REPLAN, R393. -/
def execDriveCapReplan (s : State) : Host.Outcome State Fault Refusal :=
  .next (s.rt s.capReplan)

/-- AGE_CMD_MEASURE, R394. -/
def execAgeCmdMeasure (ini : Nat) (s : State) : Host.Outcome State Fault Refusal :=
  .next (s.busWrite ini Rg.AGE_CMD 4 1)

/-- AGE_CMD_SCAP_TEST, R391. -/
def execAgeCmdScapTest (ini : Nat) (s : State) : Host.Outcome State Fault Refusal :=
  .next (s.busWrite ini Rg.AGE_CMD 4 2)

/-- AGE_MARGIN_READ, R397. -/
def execAgeMarginRead (ini : Nat) (s : State) : Host.Outcome State Fault Refusal :=
  .next (s.busRead ini Rg.AGE_MARGIN 4)

end Sys2Proof.Machine
end

