-- ==== Sys2Proof/Machine/CmdTick.lean ====
section
/-! DEFINITION. The meanings of the commands: the tick edge, the Hatch run, compose and the street graph (R50 to R120). -/

namespace Sys2Proof.Machine

/-- TICK_EDGE, R53. dt: ns since the edge before; err: edge time minus aligned instant in ns; cur: the tick's mean
phase currents. -/
def execTickEdge (dt : Nat) (err : Int) (cur : List Nat) (s : State) : Host.Outcome State Fault Refusal :=
  .next (s.rt (s.tickEdge dt err cur))

/-- OWN_CUT, R57. -/
def execOwnCut (s : State) : Host.Outcome State Fault Refusal :=
  .next (s.rt s.ownCut)

/-- HATCH_RUN_START, R72. -/
def execHatchRunStart (s : State) : Host.Outcome State Fault Refusal :=
  .next (s.rt s.hatchStart)

/-- HATCH_RUN_DONE, R95. -/
def execHatchRunDone (us : Nat) (s : State) : Host.Outcome State Fault Refusal :=
  .next (s.rt (s.hatchDone us))

/-- HATCH_WINDOW_END, R58. -/
def execHatchWindowEnd (us : Nat) (s : State) : Host.Outcome State Fault Refusal :=
  .next (s.rt (s.windowEnd us))

/-- COMPOSE_START, R104. -/
def execComposeStart (s : State) : Host.Outcome State Fault Refusal :=
  .next (s.rt s.composeBegin)

/-- COMPOSE_DONE, R109. -/
def execComposeDone (us : Nat) (s : State) : Host.Outcome State Fault Refusal :=
  .next (s.rt (s.composeEnd us))

/-- TICK_COMPOSE_MISS, R62. -/
def execTickComposeMiss (nodes : Nat) (s : State) : Host.Outcome State Fault Refusal :=
  .next (s.rt (s.composeLate nodes))

/-- TICK_IMP_LATE, R54. -/
def execTickImpLate (bytes : Nat) (s : State) : Host.Outcome State Fault Refusal :=
  .next (s.rt (s.impLate bytes))

/-- IMP_COPY_COMPLETE, R54. -/
def execImpCopyComplete (s : State) : Host.Outcome State Fault Refusal :=
  .next (s.rt s.impDone)

/-- GUARD_BAND, R55. -/
def execGuardBand (s : State) : Host.Outcome State Fault Refusal :=
  .next (s.rt s.guardBand)

/-- GRAPH_OPEN, R76. -/
def execGraphOpen (ini : Nat) (s : State) : Host.Outcome State Fault Refusal :=
  .next (s.busWrite ini Rg.HATCHG_GRAPH_CTRL 4 1)

/-- GRAPH_COMMIT, R77. -/
def execGraphCommit (ini : Nat) (s : State) : Host.Outcome State Fault Refusal :=
  .next (s.busWrite ini Rg.HATCHG_GRAPH_CTRL 4 2)

/-- GRAPH_ABORT, R78. -/
def execGraphAbort (ini : Nat) (s : State) : Host.Outcome State Fault Refusal :=
  .next (s.busWrite ini Rg.HATCHG_GRAPH_CTRL 4 3)

/-- GRAPH_RECORD_STORE, R76. Only the last word of the selected table's record stores it. -/
def execGraphRecordStore (ini w : Nat) (v : Word) (s : State) : Host.Outcome State Fault Refusal :=
  .next (s.busWrite ini (Rg.HATCHG_LOAD_WIN (w % 4)) 4 v)

/-- GRAPH_VALIDATION_DONE, R77. -/
def execGraphValidationDone (s : State) : Host.Outcome State Fault Refusal :=
  .next (s.rt s.graphValidated)

/-- GRAPH_PERSIST_DONE, R78. -/
def execGraphPersistDone (s : State) : Host.Outcome State Fault Refusal :=
  .next (s.rt s.graphPersisted)

/-- PLATE_WIN_READ, R119. -/
def execPlateWinRead (ini : Nat) (s : State) : Host.Outcome State Fault Refusal :=
  .next (s.busRead ini Rg.PLATE_WIN 4)

/-- RT_HALT, R416. -/
def execRtHalt (s : State) : Host.Outcome State Fault Refusal :=
  .next (s.rt s.rtHalt)

/-- RT_RESUME, R416. -/
def execRtResume (s : State) : Host.Outcome State Fault Refusal :=
  .next (s.rt s.rtResume)

end Sys2Proof.Machine
end

