-- ==== Sys2Proof/Machine/CmdTime.lean ====
section
/-! DEFINITION. The meanings of the commands: RTC, time base and schedules (R210 to R255). -/

namespace Sys2Proof.Machine

/-- RTC_SECOND, R220. dev: the boundary minus the disciplined second in ns, which matters while CUR is RTC. -/
def execRtcSecond (dev : Int) (s : State) : Host.Outcome State Fault Refusal :=
  .next (s.rtcSecond dev)

/-- RTC_STAGE_WRITE, R220. w: 0 SEC_LO, 1 CAL_DATE, 2 CAL_TIME, 3 WEEKDAY. -/
def execRtcStageWrite (ini w : Nat) (v : Word) (s : State) : Host.Outcome State Fault Refusal :=
  .next (s.busWrite ini (rtcStageReg w) 4 v)

/-- RTC_STAGE_CANCEL, R220. -/
def execRtcStageCancel (ini : Nat) (s : State) : Host.Outcome State Fault Refusal :=
  .next (s.busWrite ini Rg.RTC_STAGE 4 1)

/-- RTC_SEC_LO_READ, R219. -/
def execRtcSecLoRead (ini : Nat) (s : State) : Host.Outcome State Fault Refusal :=
  .next (s.busRead ini Rg.RTC_SEC_LO 4)

/-- RTC_CRYSTAL_STOP, R217. -/
def execRtcCrystalStop (s : State) : Host.Outcome State Fault Refusal :=
  .next (s.crystalStop)

/-- RTC_CRYSTAL_START, R217. -/
def execRtcCrystalStart (s : State) : Host.Outcome State Fault Refusal :=
  .next (s.crystalStart)

/-- WAKE_TIMER_EXPIRE, R221. -/
def execWakeTimerExpire (s : State) : Host.Outcome State Fault Refusal :=
  .next (s.wakeExpire)

/-- WAKE_CFG_WRITE, R221. -/
def execWakeCfgWrite (ini : Nat) (v : Word) (s : State) : Host.Outcome State Fault Refusal :=
  .next (s.busWrite ini Rg.RTC_WAKE_CFG 4 v)

/-- PTP_SYNC_RECEIVED, R223. rx: the disciplined time of arrival. -/
def execPtpSyncReceived (h : PtpHdr) (port seq : Nat) (twoStep : Bool) (sec ns : Nat) (corr rx : Int) (s : State) :
    Host.Outcome State Fault Refusal :=
  .next (s.nw (s.ptpBoth fun t k => t.ptpSync k port seq h twoStep sec ns corr rx))

/-- PTP_ANNOUNCE_RECEIVED, R223. -/
def execPtpAnnounceReceived (h : PtpHdr) (port : Nat) (m : AnnounceMsg) (s : State) : Host.Outcome State Fault Refusal :=
  .next (s.nw (s.ptpBoth fun t k => t.ptpAnnounce k port h m))

/-- PTP_DELAY_RESP_RECEIVED, R222. -/
def execPtpDelayRespReceived (h : PtpHdr) (port seq sec ns : Nat) (corr : Int) (s : State) :
    Host.Outcome State Fault Refusal :=
  .next (s.nw (s.ptpBoth fun t k => t.ptpDelayResp k port seq h sec ns corr))

/-- PTP_DELAY_REQ_SEND, R232. -/
def execPtpDelayReqSend (k seq : Nat) (t : Int) (s : State) : Host.Outcome State Fault Refusal :=
  .next (s.nw (s.ptpDelayReq k seq t))

/-- PTP_TIMEOUT, R223. -/
def execPtpTimeout (k : Nat) (s : State) : Host.Outcome State Fault Refusal :=
  .next (s.rt (s.ptpTimeout k))

/-- GNSS_SENTENCE_RECEIVED, R224. kind: 0 RMC with status A, 1 RMC with status V, 2 ZDA, else another
sentence; ok: the checksum is valid. -/
def execGnssSentenceReceived (kind sec : Nat) (ok : Bool) (s : State) : Host.Outcome State Fault Refusal :=
  .next (s.rt (s.gnssSentence kind sec ok))

/-- PPS_IN_EDGE, R224. t: the disciplined time of the edge in ns. -/
def execPpsInEdge (t : Int) (s : State) : Host.Outcome State Fault Refusal :=
  .next (s.rt (s.ppsIn t))

/-- GNSS_LOST, R224. -/
def execGnssLost (reason : Nat) (s : State) : Host.Outcome State Fault Refusal :=
  .next (s.rt (s.gnssDrop reason))

/-- SRC_REVERT, R225. -/
def execSrcRevert (k : Nat) (s : State) : Host.Outcome State Fault Refusal :=
  .next (s.rt (s.srcRevert k))

/-- TIME_RTC_FALLBACK, R226. -/
def execTimeRtcFallback (s : State) : Host.Outcome State Fault Refusal :=
  .next (s.rt s.holdExpire)

/-- STEP_WAIT_END, R229. -/
def execStepWaitEnd (s : State) : Host.Outcome State Fault Refusal :=
  .next (s.rt s.stepWaitEnd)

/-- TIME_LEAP, R213. -/
def execTimeLeap (s : State) : Host.Outcome State Fault Refusal :=
  .next (s.rt s.timeLeap)

/-- RTC_DISCIPLINE, R216. cyc: the crystal cycles by which the boundary moves; trim: the hourly rate estimate, which Burnish
reports too. -/
def execRtcDiscipline (cyc : Int) (trim : Option Int) (s : State) : Host.Outcome State Fault Refusal :=
  .next (s.rt (s.rtcHour cyc trim))

/-- PPS_OUT_PULSE, R234. -/
def execPpsOutPulse (s : State) : Host.Outcome State Fault Refusal :=
  .next (s.rt s.ppsOut)

/-- TIME_NOW_READ, R237. -/
def execTimeNowRead (ini : Nat) (s : State) : Host.Outcome State Fault Refusal :=
  .next (s.busRead ini Rg.TIME_NOW_NS 4)

/-- PTP_FOLLOW_UP_RECEIVED, R222. -/
def execPtpFollowUpReceived (h : PtpHdr) (port seq sec ns : Nat) (corr : Int) (s : State) :
    Host.Outcome State Fault Refusal :=
  .next (s.nw (s.ptpBoth fun t k => t.ptpFollowUp k port seq h sec ns corr))

/-- SCHED_ENT_STAGE, R242. -/
def execSchedEntStage (ini w : Nat) (v : Word) (s : State) : Host.Outcome State Fault Refusal :=
  .next (s.busWrite ini (Rg.SCHED_ENT_WIN (w % 3)) 4 v)

/-- SCHED_ENT_COMMIT, R242. -/
def execSchedEntCommit (ini : Nat) (v : Word) (s : State) : Host.Outcome State Fault Refusal :=
  .next (s.busWrite ini (Rg.SCHED_ENT_WIN 3) 4 v)

/-- SCHED_ENT_READ, R242. -/
def execSchedEntRead (ini : Nat) (s : State) : Host.Outcome State Fault Refusal :=
  .next (s.busRead ini (Rg.SCHED_ENT_WIN 0) 4)

/-- SCHED_FB_SAVE, R253. lvl is written to FB_CFG.DEF_LVL with it. -/
def execSchedFbSave (ini lvl : Nat) (s : State) : Host.Outcome State Fault Refusal :=
  .next (s.busWrite ini Rg.SCHED_FB_CFG 4 (BitVec.ofNat 32 (2 ^ 31 + lvl % 65536)))

/-- SCHED_FB_SAVED, R253. -/
def execSchedFbSaved (s : State) : Host.Outcome State Fault Refusal :=
  .next (s.rt s.fbSaved)

end Sys2Proof.Machine
end

