-- ==== Sys2Proof/Machine/CmdUpd.lean ====
section
/-! DEFINITION. The meanings of the commands: the update chain (R354 to R377). -/

namespace Sys2Proof.Machine

/-- BULK_OPEN, R358, R359. src: 1 to 4 head-end peers, 5 upstream, 6 partner; m: the LSP message. -/
def execBulkOpen (src : Nat) (m : List Nat) (s : State) : Host.Outcome State Fault Refusal :=
  .next (s.updRun (s.ifOk (decide (1 ≤ src ∧ src ≤ 6)) (s.bulkFrom (srcPeer src) 0x20 40 m fun b s => s.bulkOpen src b)))

/-- BULK_DATA, R359, R363. src, m as for BULK_OPEN. -/
def execBulkData (src : Nat) (m : List Nat) (s : State) : Host.Outcome State Fault Refusal :=
  .next (s.updRun (s.ifOk (decide (1 ≤ src ∧ src ≤ 6)) (s.bulkFrom (srcPeer src) 0x21 17 m fun b s => s.bulkData src b)))

/-- BULK_ACK, R359, R360. k: 5 the downstream neighbour, 6 the partner; m: the LSP message. -/
def execBulkAck (k : Nat) (m : List Nat) (s : State) : Host.Outcome State Fault Refusal :=
  .next (s.updRun (s.ifOk (decide (5 ≤ k ∧ k ≤ 6)) (s.bulkFrom k 0x22 44 m fun b s => s.bulkAck k b)))

/-- BULK_ACK_SEND, R360. -/
def execBulkAckSend (s : State) : Host.Outcome State Fault Refusal :=
  .next (s.updRun s.bulkAckSend)

/-- BULK_CHUNK_RESEND, R360. -/
def execBulkChunkResend (k c : Nat) (s : State) : Host.Outcome State Fault Refusal :=
  .next (s.updRun (s.ifOk (decide (5 ≤ k ∧ k ≤ 6)) (s.bulkChunkResend k c)))

/-- BULK_OPEN_RESEND, R362. -/
def execBulkOpenResend (k : Nat) (s : State) : Host.Outcome State Fault Refusal :=
  .next (s.updRun (s.ifOk (decide (5 ≤ k ∧ k ≤ 6)) (s.bulkOpenResend k)))

/-- BULK_STREAM_TIMEOUT, R363. -/
def execBulkStreamTimeout (s : State) : Host.Outcome State Fault Refusal :=
  .next (s.updRun s.bulkTimeout)

/-- BULK_CLOSE_DONE, R359. src, m as for BULK_OPEN. -/
def execBulkCloseDone (src : Nat) (m : List Nat) (s : State) : Host.Outcome State Fault Refusal :=
  .next (s.updRun (s.ifOk (decide (1 ≤ src ∧ src ≤ 6)) (s.bulkClosed src 0 m)))

/-- BULK_CLOSE_ABORT, R366. src, m as for BULK_OPEN. -/
def execBulkCloseAbort (src : Nat) (m : List Nat) (s : State) : Host.Outcome State Fault Refusal :=
  .next (s.updRun (s.ifOk (decide (1 ≤ src ∧ src ≤ 6)) (s.bulkClosed src 1 m)))

/-- BULK_CLOSE_ACTIVATE, R370. src, m as for BULK_OPEN. -/
def execBulkCloseActivate (src : Nat) (m : List Nat) (s : State) : Host.Outcome State Fault Refusal :=
  .next (s.updRun (s.ifOk (decide (1 ≤ src ∧ src ≤ 6)) (s.bulkClosed src 2 m)))

/-- BULK_CLOSE_REVERT, R373. src, m as for BULK_OPEN. -/
def execBulkCloseRevert (src : Nat) (m : List Nat) (s : State) : Host.Outcome State Fault Refusal :=
  .next (s.updRun (s.ifOk (decide (1 ≤ src ∧ src ≤ 6)) (s.bulkClosed src 3 m)))

/-- UPD_VERIFY_DONE, R364. -/
def execUpdVerifyDone (s : State) : Host.Outcome State Fault Refusal :=
  .next (s.updGo s.updVerified)

/-- UPD_DEADLINE, R370. -/
def execUpdDeadline (s : State) : Host.Outcome State Fault Refusal :=
  .next (s.updGo s.updDeadline)

/-- UPD_CMD_ACTIVATE, R370. -/
def execUpdCmdActivate (ini : Nat) (s : State) : Host.Outcome State Fault Refusal :=
  .next (s.busWrite ini Rg.UPD_CMD 4 1)

/-- UPD_CMD_ABORT, R366. -/
def execUpdCmdAbort (ini : Nat) (s : State) : Host.Outcome State Fault Refusal :=
  .next (s.busWrite ini Rg.UPD_CMD 4 2)

/-- UPD_CMD_CONFIRM, R373. -/
def execUpdCmdConfirm (ini : Nat) (s : State) : Host.Outcome State Fault Refusal :=
  .next (s.busWrite ini Rg.UPD_CMD 4 3)

/-- UPD_CMD_REVERT, R373. -/
def execUpdCmdRevert (ini : Nat) (s : State) : Host.Outcome State Fault Refusal :=
  .next (s.busWrite ini Rg.UPD_CMD 4 4)

/-- UPD_ARM_TIMEOUT, R370. -/
def execUpdArmTimeout (s : State) : Host.Outcome State Fault Refusal :=
  .next (s.updGo s.updArmTimeout)

/-- UPD_PARTNER_TIMEOUT, R371. -/
def execUpdPartnerTimeout (s : State) : Host.Outcome State Fault Refusal :=
  .next (s.updGo s.updPartnerTimeout)

/-- LOADER_UNIT_DONE, R372. -/
def execLoaderUnitDone (s : State) : Host.Outcome State Fault Refusal :=
  .next (s.rt s.loaderUnit)

/-- LOADER_EXCHANGE_DONE, R372. -/
def execLoaderExchangeDone (s : State) : Host.Outcome State Fault Refusal :=
  .next (s.rt s.loaderDone)

/-- UPD_STABLE_CONFIRM, R373. -/
def execUpdStableConfirm (s : State) : Host.Outcome State Fault Refusal :=
  .next (s.updGo s.updStable)

/-- UPD_NODE_CONFIRM_TIMEOUT, R374. -/
def execUpdNodeConfirmTimeout (s : State) : Host.Outcome State Fault Refusal :=
  .next (s.updGo s.updNodeTimeout)

/-- UPD_CONTAINER_RELEASE, R374. -/
def execUpdContainerRelease (s : State) : Host.Outcome State Fault Refusal :=
  .next (s.updGo s.updRelease)

end Sys2Proof.Machine
end

