-- ==== Sys2Proof/Machine/Dispatch.lean ====
section
/-! DEFINITION. The command dispatch: one arm per constructor, each a direct call of its meaning. -/

namespace Sys2Proof.Machine

/-- The effect of one command on everything but the queue. -/
def exec (i : Instr) (s : State) : Host.Outcome State Fault Refusal :=
  match i with
  | .registerWrite ini a size v => Sys2Proof.Machine.execRegisterWrite ini a size v s
  | .accessTimeout ini a write => Sys2Proof.Machine.execAccessTimeout ini a write s
  | .splitLoRead ini a => Sys2Proof.Machine.execSplitLoRead ini a s
  | .splitHiWrite ini a v => Sys2Proof.Machine.execSplitHiWrite ini a v s
  | .splitLoWrite ini a v => Sys2Proof.Machine.execSplitLoWrite ini a v s
  | .errCapRead ini page => Sys2Proof.Machine.execErrCapRead ini page s
  | .buserrRead ini info => Sys2Proof.Machine.execBuserrRead ini info s
  | .rstCauseRead ini => Sys2Proof.Machine.execRstCauseRead ini s
  | .irqStatClear ini page v => Sys2Proof.Machine.execIrqStatClear ini page v s
  | .blockEnable ini page => Sys2Proof.Machine.execBlockEnable ini page s
  | .blockDisable ini page => Sys2Proof.Machine.execBlockDisable ini page s
  | .blockStopPoint page => Sys2Proof.Machine.execBlockStopPoint page s
  | .softReset ini page => Sys2Proof.Machine.execSoftReset ini page s
  | .softResetDone page => Sys2Proof.Machine.execSoftResetDone page s
  | .flush ini page => Sys2Proof.Machine.execFlush ini page s
  | .flushDone page => Sys2Proof.Machine.execFlushDone page s
  | .lockWrite ini page v => Sys2Proof.Machine.execLockWrite ini page v s
  | .unlockExpire page => Sys2Proof.Machine.execUnlockExpire page s
  | .blockWatchdogExpire page => Sys2Proof.Machine.execBlockWatchdogExpire page s
  | .sysRstCmd ini => Sys2Proof.Machine.execSysRstCmd ini s
  | .moduleReset => Sys2Proof.Machine.execModuleReset s
  | .coldReset => Sys2Proof.Machine.execColdReset s
  | .debugResetRequest => Sys2Proof.Machine.execDebugResetRequest s
  | .rtWatchdogExpire => Sys2Proof.Machine.execRtWatchdogExpire s
  | .supervisorReset cause => Sys2Proof.Machine.execSupervisorReset cause s
  | .tickEdge dt err cur => Sys2Proof.Machine.execTickEdge dt err cur s
  | .ownCut => Sys2Proof.Machine.execOwnCut s
  | .hatchRunStart => Sys2Proof.Machine.execHatchRunStart s
  | .hatchRunDone us => Sys2Proof.Machine.execHatchRunDone us s
  | .hatchWindowEnd us => Sys2Proof.Machine.execHatchWindowEnd us s
  | .composeStart => Sys2Proof.Machine.execComposeStart s
  | .composeDone us => Sys2Proof.Machine.execComposeDone us s
  | .tickComposeMiss nodes => Sys2Proof.Machine.execTickComposeMiss nodes s
  | .tickImpLate bytes => Sys2Proof.Machine.execTickImpLate bytes s
  | .impCopyComplete => Sys2Proof.Machine.execImpCopyComplete s
  | .guardBand => Sys2Proof.Machine.execGuardBand s
  | .graphOpen ini => Sys2Proof.Machine.execGraphOpen ini s
  | .graphCommit ini => Sys2Proof.Machine.execGraphCommit ini s
  | .graphAbort ini => Sys2Proof.Machine.execGraphAbort ini s
  | .graphRecordStore ini w v => Sys2Proof.Machine.execGraphRecordStore ini w v s
  | .graphValidationDone => Sys2Proof.Machine.execGraphValidationDone s
  | .graphPersistDone => Sys2Proof.Machine.execGraphPersistDone s
  | .plateWinRead ini => Sys2Proof.Machine.execPlateWinRead ini s
  | .brokenClear ini k v => Sys2Proof.Machine.execBrokenClear ini k v s
  | .latchClr ini v => Sys2Proof.Machine.execLatchClr ini v s
  | .coCmdWrite ini v => Sys2Proof.Machine.execCoCmdWrite ini v s
  | .coPulseStart j => Sys2Proof.Machine.execCoPulseStart j s
  | .coPulseEnd j => Sys2Proof.Machine.execCoPulseEnd j s
  | .coFeedbackRead j => Sys2Proof.Machine.execCoFeedbackRead j s
  | .coRetryPulse j => Sys2Proof.Machine.execCoRetryPulse j s
  | .coExternal j level => Sys2Proof.Machine.execCoExternal j level s
  | .evalHoldExpire j => Sys2Proof.Machine.execEvalHoldExpire j s
  | .fbFrameStart b us => Sys2Proof.Machine.execFbFrameStart b us s
  | .fbTagResponse b => Sys2Proof.Machine.execFbTagResponse b s
  | .fbTagTimeout b => Sys2Proof.Machine.execFbTagTimeout b s
  | .fbWindowClose b w => Sys2Proof.Machine.execFbWindowClose b w s
  | .fbFrameSent b us sof tec rec_ => Sys2Proof.Machine.execFbFrameSent b us sof tec rec_ s
  | .fbFrameReceived b f => Sys2Proof.Machine.execFbFrameReceived b f s
  | .fbError b code dataPhase id own tec rec_ => Sys2Proof.Machine.execFbError b code dataPhase id own tec rec_ s
  | .fbRecovered b => Sys2Proof.Machine.execFbRecovered b s
  | .fbStormEnd b => Sys2Proof.Machine.execFbStormEnd b s
  | .fbRateDetected b arb data => Sys2Proof.Machine.execFbRateDetected b arb data s
  | .fbRateNone b => Sys2Proof.Machine.execFbRateNone b s
  | .moTxRequest ini b idx v => Sys2Proof.Machine.execMoTxRequest ini b idx v s
  | .moRxArm ini b idx v => Sys2Proof.Machine.execMoRxArm ini b idx v s
  | .pollResponseTimeout b => Sys2Proof.Machine.execPollResponseTimeout b s
  | .faultEventHoldExpire idx code => Sys2Proof.Machine.execFaultEventHoldExpire idx code s
  | .nodePlan ini index => Sys2Proof.Machine.execNodePlan ini index s
  | .nodeUnplan ini index => Sys2Proof.Machine.execNodeUnplan ini index s
  | .nodeDecommission ini index => Sys2Proof.Machine.execNodeDecommission ini index s
  | .nodeQuarantine ini index => Sys2Proof.Machine.execNodeQuarantine ini index s
  | .nodeUnquarantine ini index => Sys2Proof.Machine.execNodeUnquarantine ini index s
  | .nodeRecommission ini index => Sys2Proof.Machine.execNodeRecommission ini index s
  | .nodeIdent ini index => Sys2Proof.Machine.execNodeIdent ini index s
  | .nodeMove ini index arg => Sys2Proof.Machine.execNodeMove ini index arg s
  | .nodeWink ini index arg => Sys2Proof.Machine.execNodeWink ini index arg s
  | .nodeCmdResend b a op => Sys2Proof.Machine.execNodeCmdResend b a op s
  | .probeOutcome b busy => Sys2Proof.Machine.execProbeOutcome b busy s
  | .keyInstallTimeout idx => Sys2Proof.Machine.execKeyInstallTimeout idx s
  | .recomRelease idx => Sys2Proof.Machine.execRecomRelease idx s
  | .nodeRecomFail idx => Sys2Proof.Machine.execNodeRecomFail idx s
  | .keyRolloutSwitch b => Sys2Proof.Machine.execKeyRolloutSwitch b s
  | .satWindowEnd idx => Sys2Proof.Machine.execSatWindowEnd idx s
  | .nodeEntRead ini k => Sys2Proof.Machine.execNodeEntRead ini k s
  | .nodeEntWrite ini k v => Sys2Proof.Machine.execNodeEntWrite ini k v s
  | .diConfirm idx => Sys2Proof.Machine.execDiConfirm idx s
  | .diStuck idx => Sys2Proof.Machine.execDiStuck idx s
  | .metWindowEnd n w => Sys2Proof.Machine.execMetWindowEnd n w s
  | .metWinCntRead ini n => Sys2Proof.Machine.execMetWinCntRead ini n s
  | .metEnergySave => Sys2Proof.Machine.execMetEnergySave s
  | .traceStart ini node => Sys2Proof.Machine.execTraceStart ini node s
  | .traceDecision k => Sys2Proof.Machine.execTraceDecision k s
  | .calChSel ini v => Sys2Proof.Machine.execCalChSel ini v s
  | .calCommit ini => Sys2Proof.Machine.execCalCommit ini s
  | .rtcSecond dev => Sys2Proof.Machine.execRtcSecond dev s
  | .rtcStageWrite ini w v => Sys2Proof.Machine.execRtcStageWrite ini w v s
  | .rtcStageCancel ini => Sys2Proof.Machine.execRtcStageCancel ini s
  | .rtcSecLoRead ini => Sys2Proof.Machine.execRtcSecLoRead ini s
  | .rtcCrystalStop => Sys2Proof.Machine.execRtcCrystalStop s
  | .rtcCrystalStart => Sys2Proof.Machine.execRtcCrystalStart s
  | .wakeTimerExpire => Sys2Proof.Machine.execWakeTimerExpire s
  | .wakeCfgWrite ini v => Sys2Proof.Machine.execWakeCfgWrite ini v s
  | .ptpSyncReceived h port seq twoStep sec ns corr rx => Sys2Proof.Machine.execPtpSyncReceived h port seq twoStep sec ns corr rx s
  | .ptpAnnounceReceived h port m => Sys2Proof.Machine.execPtpAnnounceReceived h port m s
  | .ptpDelayRespReceived h port seq sec ns corr => Sys2Proof.Machine.execPtpDelayRespReceived h port seq sec ns corr s
  | .ptpDelayReqSend k seq t => Sys2Proof.Machine.execPtpDelayReqSend k seq t s
  | .ptpTimeout k => Sys2Proof.Machine.execPtpTimeout k s
  | .gnssSentenceReceived kind sec ok => Sys2Proof.Machine.execGnssSentenceReceived kind sec ok s
  | .ppsInEdge t => Sys2Proof.Machine.execPpsInEdge t s
  | .gnssLost reason => Sys2Proof.Machine.execGnssLost reason s
  | .srcRevert k => Sys2Proof.Machine.execSrcRevert k s
  | .timeRtcFallback => Sys2Proof.Machine.execTimeRtcFallback s
  | .stepWaitEnd => Sys2Proof.Machine.execStepWaitEnd s
  | .timeLeap => Sys2Proof.Machine.execTimeLeap s
  | .rtcDiscipline cyc trim => Sys2Proof.Machine.execRtcDiscipline cyc trim s
  | .ppsOutPulse => Sys2Proof.Machine.execPpsOutPulse s
  | .timeNowRead ini => Sys2Proof.Machine.execTimeNowRead ini s
  | .schedEntStage ini w v => Sys2Proof.Machine.execSchedEntStage ini w v s
  | .schedEntCommit ini v => Sys2Proof.Machine.execSchedEntCommit ini v s
  | .schedEntRead ini => Sys2Proof.Machine.execSchedEntRead ini s
  | .schedFbSave ini lvl => Sys2Proof.Machine.execSchedFbSave ini lvl s
  | .schedFbSaved => Sys2Proof.Machine.execSchedFbSaved s
  | .swFrameForward p f => Sys2Proof.Machine.execSwFrameForward p f s
  | .macAge vid mac => Sys2Proof.Machine.execMacAge vid mac s
  | .ringSf n => Sys2Proof.Machine.execRingSf n s
  | .ringSignalRestore n => Sys2Proof.Machine.execRingSignalRestore n s
  | .rapsReceived m => Sys2Proof.Machine.execRapsReceived m s
  | .wtrExpire => Sys2Proof.Machine.execWtrExpire s
  | .holdoffExpire n => Sys2Proof.Machine.execHoldoffExpire n s
  | .guardExpire => Sys2Proof.Machine.execGuardExpire s
  | .erpsForcedSwitch ini port => Sys2Proof.Machine.execErpsForcedSwitch ini port s
  | .erpsManualSwitch ini port => Sys2Proof.Machine.execErpsManualSwitch ini port s
  | .erpsClear ini => Sys2Proof.Machine.execErpsClear ini s
  | .erpsCfgWrite ini v => Sys2Proof.Machine.execErpsCfgWrite ini v s
  | .ringSfp n inserted fault => Sys2Proof.Machine.execRingSfp n inserted fault s
  | .portLinkUp n mbps => Sys2Proof.Machine.execPortLinkUp n mbps s
  | .portLinkDown n => Sys2Proof.Machine.execPortLinkDown n s
  | .dtlsHandshake h => Sys2Proof.Machine.execDtlsHandshake h s
  | .lspRegBatch k queued core m => Sys2Proof.Machine.execLspRegBatch k queued core m s
  | .eventAck k m => Sys2Proof.Machine.execEventAck k m s
  | .lspEventResend k seq => Sys2Proof.Machine.execLspEventResend k seq s
  | .keepalive k => Sys2Proof.Machine.execKeepalive k s
  | .keepaliveReceived k m => Sys2Proof.Machine.execKeepaliveReceived k m s
  | .lspSessionDown k alert => Sys2Proof.Machine.execLspSessionDown k alert s
  | .iuDelivery c => Sys2Proof.Machine.execIuDelivery c s
  | .iuEoi c src => Sys2Proof.Machine.execIuEoi c src s
  | .iuDoorbellSet ini v => Sys2Proof.Machine.execIuDoorbellSet ini v s
  | .iuDoorbellClear ini v => Sys2Proof.Machine.execIuDoorbellClear ini v s
  | .coalOpen g => Sys2Proof.Machine.execCoalOpen g s
  | .queueStageWrite ini q w v => Sys2Proof.Machine.execQueueStageWrite ini q w v s
  | .queuePush ini q v => Sys2Proof.Machine.execQueuePush ini q v s
  | .queuePop ini q => Sys2Proof.Machine.execQueuePop ini q s
  | .queueLatchRead ini q w => Sys2Proof.Machine.execQueueLatchRead ini q w s
  | .queueEnable ini v => Sys2Proof.Machine.execQueueEnable ini v s
  | .queueFlush ini => Sys2Proof.Machine.execQueueFlush ini s
  | .qmStall q => Sys2Proof.Machine.execQmStall q s
  | .hostAccess a size write v => Sys2Proof.Machine.execHostAccess a size write v s
  | .hdbSet v => Sys2Proof.Machine.execHdbSet v s
  | .hdbClear ini v => Sys2Proof.Machine.execHdbClear ini v s
  | .cplCmd ini v => Sys2Proof.Machine.execCplCmd ini v s
  | .cqEntryWrite k => Sys2Proof.Machine.execCqEntryWrite k s
  | .cqHeadWrite v => Sys2Proof.Machine.execCqHeadWrite v s
  | .modTimerExpire k => Sys2Proof.Machine.execModTimerExpire k s
  | .msixSend k => Sys2Proof.Machine.execMsixSend k s
  | .hostWake d0 => Sys2Proof.Machine.execHostWake d0 s
  | .pcieReset cause => Sys2Proof.Machine.execPcieReset cause s
  | .pcieLink up speed width => Sys2Proof.Machine.execPcieLink up speed width s
  | .byellUp lanes => Sys2Proof.Machine.execByellUp lanes s
  | .byellDown => Sys2Proof.Machine.execByellDown s
  | .byellLane lane => Sys2Proof.Machine.execByellLane lane s
  | .cutReceived m ok => Sys2Proof.Machine.execCutReceived m ok s
  | .mirrorReceived seq x ok => Sys2Proof.Machine.execMirrorReceived seq x ok s
  | .impDataReceived l ok => Sys2Proof.Machine.execImpDataReceived l ok s
  | .impEndReceived m => Sys2Proof.Machine.execImpEndReceived m s
  | .statusReceived m ok => Sys2Proof.Machine.execStatusReceived m ok s
  | .statusTimeout => Sys2Proof.Machine.execStatusTimeout s
  | .yieldReceived lastEnd ok => Sys2Proof.Machine.execYieldReceived lastEnd ok s
  | .syncDataReceived x ok => Sys2Proof.Machine.execSyncDataReceived x ok s
  | .formationTimeout => Sys2Proof.Machine.execFormationTimeout s
  | .joinClaimTimeout => Sys2Proof.Machine.execJoinClaimTimeout s
  | .witHeartbeat => Sys2Proof.Machine.execWitHeartbeat s
  | .witReplyReceived m => Sys2Proof.Machine.execWitReplyReceived m s
  | .witReplyTimeout => Sys2Proof.Machine.execWitReplyTimeout s
  | .leaseLost => Sys2Proof.Machine.execLeaseLost s
  | .pairSwap ini => Sys2Proof.Machine.execPairSwap ini s
  | .pairFence ini => Sys2Proof.Machine.execPairFence ini s
  | .pairUnfence ini => Sys2Proof.Machine.execPairUnfence ini s
  | .swapPeriodExpire => Sys2Proof.Machine.execSwapPeriodExpire s
  | .groundPortRequest port data extra => Sys2Proof.Machine.execGroundPortRequest port data extra s
  | .mbxInWrite ini v => Sys2Proof.Machine.execMbxInWrite ini v s
  | .mbxOutRead ini => Sys2Proof.Machine.execMbxOutRead ini s
  | .groundKeyUpdate => Sys2Proof.Machine.execGroundKeyUpdate s
  | .groundPubkey slot => Sys2Proof.Machine.execGroundPubkey slot s
  | .groundSign slot msg => Sys2Proof.Machine.execGroundSign slot msg s
  | .groundCmac slot msg => Sys2Proof.Machine.execGroundCmac slot msg s
  | .groundAeadEnc slot head msg => Sys2Proof.Machine.execGroundAeadEnc slot head msg s
  | .groundAeadDec slot head msg => Sys2Proof.Machine.execGroundAeadDec slot head msg s
  | .groundRandom n => Sys2Proof.Machine.execGroundRandom n s
  | .groundGenerate slot => Sys2Proof.Machine.execGroundGenerate slot s
  | .groundCommandDone => Sys2Proof.Machine.execGroundCommandDone s
  | .tamper src active vioC => Sys2Proof.Machine.execTamper src active vioC s
  | .tampLatchClear ini v => Sys2Proof.Machine.execTampLatchClear ini v s
  | .dbgNewChal ini => Sys2Proof.Machine.execDbgNewChal ini s
  | .dbgRequest ini level => Sys2Proof.Machine.execDbgRequest ini level s
  | .dbgEnd ini => Sys2Proof.Machine.execDbgEnd ini s
  | .dbgChalExpire => Sys2Proof.Machine.execDbgChalExpire s
  | .dbgLockoutEnd => Sys2Proof.Machine.execDbgLockoutEnd s
  | .rtHalt => Sys2Proof.Machine.execRtHalt s
  | .rtResume => Sys2Proof.Machine.execRtResume s
  | .bulkOpen src m => Sys2Proof.Machine.execBulkOpen src m s
  | .bulkData src m => Sys2Proof.Machine.execBulkData src m s
  | .bulkAck k m => Sys2Proof.Machine.execBulkAck k m s
  | .bulkAckSend => Sys2Proof.Machine.execBulkAckSend s
  | .bulkChunkResend k c => Sys2Proof.Machine.execBulkChunkResend k c s
  | .bulkOpenResend k => Sys2Proof.Machine.execBulkOpenResend k s
  | .bulkStreamTimeout => Sys2Proof.Machine.execBulkStreamTimeout s
  | .bulkCloseDone src m => Sys2Proof.Machine.execBulkCloseDone src m s
  | .bulkCloseAbort src m => Sys2Proof.Machine.execBulkCloseAbort src m s
  | .bulkCloseActivate src m => Sys2Proof.Machine.execBulkCloseActivate src m s
  | .bulkCloseRevert src m => Sys2Proof.Machine.execBulkCloseRevert src m s
  | .updVerifyDone => Sys2Proof.Machine.execUpdVerifyDone s
  | .updDeadline => Sys2Proof.Machine.execUpdDeadline s
  | .updCmdActivate ini => Sys2Proof.Machine.execUpdCmdActivate ini s
  | .updCmdAbort ini => Sys2Proof.Machine.execUpdCmdAbort ini s
  | .updCmdConfirm ini => Sys2Proof.Machine.execUpdCmdConfirm ini s
  | .updCmdRevert ini => Sys2Proof.Machine.execUpdCmdRevert ini s
  | .updArmTimeout => Sys2Proof.Machine.execUpdArmTimeout s
  | .updPartnerTimeout => Sys2Proof.Machine.execUpdPartnerTimeout s
  | .loaderUnitDone => Sys2Proof.Machine.execLoaderUnitDone s
  | .loaderExchangeDone => Sys2Proof.Machine.execLoaderExchangeDone s
  | .updStableConfirm => Sys2Proof.Machine.execUpdStableConfirm s
  | .updNodeConfirmTimeout => Sys2Proof.Machine.execUpdNodeConfirmTimeout s
  | .updContainerRelease => Sys2Proof.Machine.execUpdContainerRelease s
  | .recWriteDone => Sys2Proof.Machine.execRecWriteDone s
  | .logDegraded cause => Sys2Proof.Machine.execLogDegraded cause s
  | .recTrialWrite ok => Sys2Proof.Machine.execRecTrialWrite ok s
  | .logRestored => Sys2Proof.Machine.execLogRestored s
  | .recRdSelWrite ini v => Sys2Proof.Machine.execRecRdSelWrite ini v s
  | .recRdWin0Read ini => Sys2Proof.Machine.execRecRdWin0Read ini s
  | .recRdWin15Read ini => Sys2Proof.Machine.execRecRdWin15Read ini s
  | .recQuotaWrite ini v => Sys2Proof.Machine.execRecQuotaWrite ini v s
  | .recAppPost ini v => Sys2Proof.Machine.execRecAppPost ini v s
  | .ageMeasure k v => Sys2Proof.Machine.execAgeMeasure k v s
  | .nandScanDone v => Sys2Proof.Machine.execNandScanDone v s
  | .scapTestStart => Sys2Proof.Machine.execScapTestStart s
  | .ageScapTest c esr => Sys2Proof.Machine.execAgeScapTest c esr s
  | .samplePointReplan b => Sys2Proof.Machine.execSamplePointReplan b s
  | .driveCapReplan => Sys2Proof.Machine.execDriveCapReplan s
  | .ageCmdMeasure ini => Sys2Proof.Machine.execAgeCmdMeasure ini s
  | .ageCmdScapTest ini => Sys2Proof.Machine.execAgeCmdScapTest ini s
  | .powerGoodRise vin => Sys2Proof.Machine.execPowerGoodRise vin s
  | .powerGoodFall vin vbat => Sys2Proof.Machine.execPowerGoodFall vin vbat s
  | .vholdReady mv => Sys2Proof.Machine.execVholdReady mv s
  | .rideThroughEnd => Sys2Proof.Machine.execRideThroughEnd s
  | .powerDownDone vbat => Sys2Proof.Machine.execPowerDownDone vbat s
  | .pwrVinReturn vin => Sys2Proof.Machine.execPwrVinReturn vin s
  | .pwrCmdRun ini => Sys2Proof.Machine.execPwrCmdRun ini s
  | .pwrCmdLow ini => Sys2Proof.Machine.execPwrCmdLow ini s
  | .pwrCmdStandby ini => Sys2Proof.Machine.execPwrCmdStandby ini s
  | .domainRstApp ini => Sys2Proof.Machine.execDomainRstApp ini s
  | .domainRstNet ini => Sys2Proof.Machine.execDomainRstNet ini s
  | .netWatchdogExpire => Sys2Proof.Machine.execNetWatchdogExpire s
  | .coreWatchdogExpire n => Sys2Proof.Machine.execCoreWatchdogExpire n s
  | .wdogKick ini v => Sys2Proof.Machine.execWdogKick ini v s
  | .pwrWake => Sys2Proof.Machine.execPwrWake s
  | .vinLostStandby vbat => Sys2Proof.Machine.execVinLostStandby vbat s
  | .bootStageDone ok ms => Sys2Proof.Machine.execBootStageDone ok ms s
  | .bootStageDeadline ms => Sys2Proof.Machine.execBootStageDeadline ms s
  | .romExecReset => Sys2Proof.Machine.execRomExecReset s
  | .bootRetryAll ini => Sys2Proof.Machine.execBootRetryAll ini s
  | .bootRetrySel ini stage => Sys2Proof.Machine.execBootRetrySel ini stage s
  | .nodeHistoryRecord => Sys2Proof.Machine.execNodeHistoryRecord s
  | .feederHistoryRecord => Sys2Proof.Machine.execFeederHistoryRecord s
  | .rcRegisterRead ini a size => Sys2Proof.Machine.execRcRegisterRead ini a size s
  | .ageMarginRead ini => Sys2Proof.Machine.execAgeMarginRead ini s
  | .harmWinRead ini n => Sys2Proof.Machine.execHarmWinRead ini n s
  | .byellLaneRestored => Sys2Proof.Machine.execByellLaneRestored s
  | .pcieHostSleep l1 d3 => Sys2Proof.Machine.execPcieHostSleep l1 d3 s
  | .msixVectorUnmask v => Sys2Proof.Machine.execMsixVectorUnmask v s
  | .ptpFollowUpReceived h port seq sec ns corr => Sys2Proof.Machine.execPtpFollowUpReceived h port seq sec ns corr s
  | .diChatterWindowEnd idx => Sys2Proof.Machine.execDiChatterWindowEnd idx s
  | .diLevelChange idx level vioC => Sys2Proof.Machine.execDiLevelChange idx level vioC s
  | .fbIntegrated b => Sys2Proof.Machine.execFbIntegrated b s
  | .calCommitDone => Sys2Proof.Machine.execCalCommitDone s

end Sys2Proof.Machine
end

