-- ==== Sys2Proof/Safety.lean ====
section
/-! DEFINITION. What the statements speak of. -/

namespace Sys2Proof.Machine

/-- The register words, and the configuration snapshot of R53 step 4, stand in canonical form: keys rise, and no word at
its reset value is listed, so that two machines with the same registers have the same tables. -/
def State.regsOk (s : State) : Bool := Tab.wf regReset s.regs && Tab.wf regReset s.snap

/-- The lifecycle state is SCRAPPED (R348). -/
def State.scrapped (s : State) : Bool := s.nv.keys.lc == 4

/-- A 32-bit access of initiator `ini` to the register at `a` meets none of the errors of R45. -/
def State.reaches (s : State) (ini a : Nat) (write : Bool) : Bool :=
  s.mayAccess ini && (s.accessError ini a 4 write false).isNone

/-- A 32-bit write of `ini` to the register at `a` takes effect: no error of R45, no soft reset of the page that runs, the
unlock of R46 held where the register is protected, and no flush that holds the write back (R44). -/
def State.takes (s : State) (ini a : Nat) : Bool :=
  s.reaches ini a true && !(a % 0x1000 == 0x008 && s.flag (Fd.srstBusy (a / 0x1000))) &&
    (!protectedReg (a / 0x1000) (a % 0x1000) || s.unlock (a / 0x1000) == some ini) &&
    !s.flushHolds (a / 0x1000) (a % 0x1000)

/-- The state in which a write that takes effect reaches its register: the response is OK and the unlock of the page is
used (R46). -/
def State.begun (s : State) (ini a : Nat) : State := (s.respond 0 false).useLock ini (a / 0x1000)

/-- After a write of the register at `a`: it counts as an input of the tick (R56), and what the pair mirrors goes to the
partner (R311). -/
def State.toPartner (s : State) (a : Nat) (v : Word) : State := s.wrote a v

/-- No bit of `v` is a reserved bit of the register at `a` (R45). -/
def noReserved (a : Nat) (v : Word) : Bool := v &&& ~~~(BitVec.ofNat 32 (impBits (a / 0x1000) (a % 0x1000))) == 0

/-- `a` is a register from offset 0x40 up of a page that has the common header; MBX_IN and APP_POST, whose writes can be turned
away by their value, apart. -/
def blockReg (a : Nat) : Bool :=
  decide (a < 0x80000) && !isFbmo (a / 0x1000) && (pageInfo (a / 0x1000)).isSome && decide (0x40 ≤ a % 0x1000) &&
    a != Rg.GROUND_MBX_IN && a != Rg.REC_APP_POST

/-- The register at `a` lies on a page whose block does nothing at a write beyond storing the writable bits. -/
def plainReg (a : Nat) : Bool :=
  let p := a / 0x1000
  blockReg a && !isFb p && !isPort p && !isIuc p &&
    !([Pg.tick, Pg.hatchG, Pg.group, Pg.node, Pg.trace, Pg.cal, Pg.rtc, Pg.time, Pg.sched, Pg.sw, Pg.iu, Pg.qm, Pg.qmq,
      Pg.pcie, Pg.pair, Pg.wit, Pg.ground, Pg.tamp, Pg.upd, Pg.rec, Pg.age, Pg.io, Pg.dbg].contains p) &&
    !([Rg.SYS_RST_CMD, Rg.PWR_CMD, Rg.BOOT_CMD, Rg.WDOG_KICK].contains a)

/-- The row of the register table that describes the register at `a`. -/
def rowAt (a : Nat) : Option RegRow := (pageInfo (a / 0x1000)).bind fun pi => findRow pi.rows (a % 0x1000)

/-- NODE.CMD accepted (R186): CMD_STAT names the command and is BUSY, and the command takes effect with the node inputs
of the next edge. -/
def State.nodeAccept (s : State) (op i arg : Nat) : State :=
  (((s.put Fd.NODE_CMD_STAT_INDEX i).put Fd.NODE_CMD_STAT_OP op).put Fd.NODE_CMD_STAT_BUSY 1).nodeInput
    (.cmd op i arg ((s.rd Rg.NODE_CMD_ARG0).toNat + getF (s.rd Rg.NODE_CMD_ARG1) 0 16 * 2 ^ 32))

end Sys2Proof.Machine
end

