-- ==== Sys2Proof/Certificates/Slice0/Obligations.lean ====
section
/-! DEFINITION. The statements for the provers: one conjunct for each command or case that a statement names. -/

open Sys2Proof Sys2Proof.Machine

/-- Register writes: the word is stored by the access class of its bits, and a HI half waits for its LO half (R12,
R39). Clauses that rest on the model's own choices: log entries 11, 16 and 21. -/
def Obligations.WritesStore : Prop :=
  (∀ (s : State) (ini a : Nat) (v : Word) (r : RegRow), plainReg a = true → rowAt a = some r → s.takes ini a = true →
     noReserved a v = true →
     exec (.registerWrite ini a 4 v) s = .next (
       let t := s.begun ini a
       let old := t.word (a / 0x1000) (a % 0x1000)
       let rw := BitVec.ofNat 32 r.rw
       (t.wr (t.regKey (a / 0x1000) (a % 0x1000))
         (((old &&& ~~~rw) ||| (clampReg (a / 0x1000) (a % 0x1000) old v &&& rw)) &&& ~~~(v &&& BitVec.ofNat 32 r.w1c))).toPartner a v)) ∧
  (∀ (s : State) (ini a : Nat) (v : Word), splitHi.contains a = true → s.takes ini a = true → noReserved a v = true →
     exec (.splitHiWrite ini a v) s = .next ((s.begun ini a).hold ini (a / 0x1000) (a % 0x1000) v)) ∧
  (∀ (s : State) (ini : Nat) (v : Word),
     (s.takes ini Rg.RTC_SEC_LO = true → noReserved Rg.RTC_SEC_LO v = true →
       exec (.splitLoWrite ini Rg.RTC_SEC_LO v) s = .next (
       let t := s.begun ini Rg.RTC_SEC_LO
       let hi := match t.heldHi ini Pg.rtc 0x44 with
         | some h => h.toNat % 256
         | none => t.get Fd.RTC_SEC_HI_SEC
       (t.rtcStageSec (hi * 2 ^ 32 + v.toNat)).unhold ini Pg.rtc 0x44)) ∧
     (s.takes ini Rg.PCIE_CQ_BASE_LO = true → noReserved Rg.PCIE_CQ_BASE_LO v = true →
       exec (.splitLoWrite ini Rg.PCIE_CQ_BASE_LO v) s = .next (
         let t := s.begun ini Rg.PCIE_CQ_BASE_LO
         let u := match t.heldHi ini Pg.pcie 0x64 with
           | some h => t.store Pg.pcie 0x64 h
           | none => t
         (u.store Pg.pcie 0x60 v).unhold ini Pg.pcie 0x64)) ∧
     (s.takes ini Rg.WIT_HE_MAC_LO = true → noReserved Rg.WIT_HE_MAC_LO v = true →
       exec (.splitLoWrite ini Rg.WIT_HE_MAC_LO v) s = .next (
       let t := s.begun ini Rg.WIT_HE_MAC_LO
       let u := match t.heldHi ini Pg.wit 0x54 with
         | some h => (t.store Pg.wit 0x54 h).persist Pg.wit 0x54
         | none => t
       ((u.store Pg.wit 0x50 v).persist Pg.wit 0x50).unhold ini Pg.wit 0x54)))

/-- Reads with an effect (R12, R39, R41, R48): the response holds the value before the read; the equations name the
whole next state. Clauses that rest on the model's own choices: log entries 17, 22 and 26. -/
def Obligations.ReadsLatchAndClear : Prop :=
  (∀ (s : State) (ini a : Nat), a < 0x80000 → splitLo (a / 0x1000) (a % 0x1000) = true → s.reaches ini a false = true →
     exec (.splitLoRead ini a) s = .next (
       let t := s.takeSnapshot ini (a / 0x1000) (a % 0x1000)
       t.respond ((t.latched ini (a / 0x1000) (a % 0x1000)).getD (t.live ini (a / 0x1000) (a % 0x1000))) false)) ∧
  (∀ (s : State) (ini p : Nat), hasHeader p = true → s.reaches ini (Rg.errCap p) false = true →
     exec (.errCapRead ini p) s =
       .next ((s.wr (Rg.errCap p) 0).respond ((s.latched ini p 0x20).getD (s.live ini p 0x20)) false)) ∧
  (∀ (s : State) (ini : Nat),
     (s.reaches ini Rg.SYS_BUSERR_ADDR false = true → exec (.buserrRead ini false) s =
       .next ((s.wr Rg.SYS_BUSERR_ADDR 0).respond ((s.latched ini Pg.sys 0x64).getD (s.live ini Pg.sys 0x64)) false)) ∧
     (s.reaches ini Rg.SYS_BUSERR_INFO false = true → exec (.buserrRead ini true) s =
       .next ((s.wr Rg.SYS_BUSERR_INFO 0).respond ((s.latched ini Pg.sys 0x68).getD (s.live ini Pg.sys 0x68)) false))) ∧
  (∀ (s : State) (ini : Nat), s.reaches ini Rg.SYS_RST_CAUSE false = true →
     exec (.rstCauseRead ini) s =
       .next ((s.wr Rg.SYS_RST_CAUSE 0).respond ((s.latched ini Pg.sys 0x5C).getD (s.live ini Pg.sys 0x5C)) false)) ∧
  (∀ (s : State) (ini a : Nat), otherRc a = true → s.reaches ini a false = true →
     exec (.rcRegisterRead ini a 4) s = .next (
       (s.wr (s.regKey (a / 0x1000) (a % 0x1000)) 0).respond
         ((s.latched ini (a / 0x1000) (a % 0x1000)).getD (s.live ini (a / 0x1000) (a % 0x1000))) false))

/-- Block control through the common header (R41, R42, R44, R415). Every equation names the whole next state. Clauses
that rest on the model's own choices: log entries 15, 18, 19 and 20. -/
def Obligations.BlockControl : Prop :=
  (∀ (s : State) (ini p : Nat) (pi : PageInfo), p < 0x80 → isFbmo p = false → pageInfo p = some pi →
     s.takes ini (Rg.ctrl p) = true → noReserved (Rg.ctrl p) (s.ctrlKeep p ||| 1) = true →
     exec (.blockEnable ini p) s = .next (
       let t := s.begun ini (Rg.ctrl p)
       let c := BitVec.ofNat 32 pi.ctrl
       let u := t.wr (Rg.ctrl p) ((t.rd (Rg.ctrl p) &&& ~~~c) ||| ((s.ctrlKeep p ||| 1) &&& c))
       let w := if pi.always then u
         else if u.flag (Fd.run p) then (u.put (Fd.en p) 1).iuChanged
         else if isFb p then (u.put (Fd.en p) 1).fbEnable (p - 0x10)
         else ((u.put (Fd.en p) 1).put (Fd.run p) 1).iuChanged
       (w.persist p 0x08).toPartner (Rg.ctrl p) (s.ctrlKeep p ||| 1))) ∧
  (∀ (s : State) (ini p : Nat) (pi : PageInfo), p < 0x80 → isFbmo p = false → pageInfo p = some pi →
     s.takes ini (Rg.ctrl p) = true → noReserved (Rg.ctrl p) (s.ctrlKeep p) = true →
     exec (.blockDisable ini p) s = .next (
       let t := s.begun ini (Rg.ctrl p)
       let c := BitVec.ofNat 32 pi.ctrl
       let u := t.wr (Rg.ctrl p) ((t.rd (Rg.ctrl p) &&& ~~~c) ||| (s.ctrlKeep p &&& c))
       let v := u.put (Fd.en p) 0
       let w := if pi.always || !u.flag (Fd.en p) then u
         else if isPort p then v.portDisable (p - 0x41)
         else if p = Pg.byell then v.byellOff
         else if p = Pg.pcie then if v.flag Fd.PCIE_LINK_UP then v.pcieLink false 0 0 else v
         else v
       (w.persist p 0x08).toPartner (Rg.ctrl p) (s.ctrlKeep p))) ∧
  (∀ (s : State) (p : Nat) (pi : PageInfo), s.rtOn = true → pageInfo p = some pi → pi.always = false →
     s.flag (Fd.en p) = false → s.flag (Fd.run p) = true → s.flag (Fd.flushBusy p) = false →
     ¬(p = Pg.hatch ∧ s.hatch.run.isSome = true) → isMet p = false →
     exec (.blockStopPoint p) s = .next (if isFb p then s.fbStop (p - 0x10) else s.put (Fd.run p) 0)) ∧
  (∀ (s : State) (ini p : Nat) (pi : PageInfo), p < 0x80 → isFbmo p = false → pageInfo p = some pi →
     s.takes ini (Rg.ctrl p) = true → noReserved (Rg.ctrl p) (s.ctrlKeep p ||| 2) = true →
     exec (.softReset ini p) s = .next (
       let t := s.begun ini (Rg.ctrl p)
       let c := BitVec.ofNat 32 pi.ctrl
       let u := (t.wr (Rg.ctrl p) ((t.rd (Rg.ctrl p) &&& ~~~c) ||| ((s.ctrlKeep p ||| 2) &&& c))).softReset p
       let w := (((((u.put (Fd.en p) 0).put (Fd.run p) 0).put (Fd.flushBusy p) 0).put (Fd.wdExp p) 0).wr (Rg.irqStat p) 0).wr
         (Rg.errCap p) 0
       let x := (w.setUnlock p none).put (Fd.srstBusy p) 1
       (((x.qAbortPage p).iuChanged).persist p 0x08).toPartner (Rg.ctrl p) (s.ctrlKeep p ||| 2))) ∧
  (∀ (s : State) (p : Nat) (pi : PageInfo), s.rtOn = true → pageInfo p = some pi →
     exec (.softResetDone p) s = .next (
       let mine := fun (e : Nat × Nat × Word) => capPage (e.2.1 / 0x1000) == p
       (s.acc.heldBack.filter mine).foldl (fun t e => t.applyWrite e.1 (e.2.1 / 0x1000) (e.2.1 % 0x1000) e.2.2)
         ({ s with acc := { s.acc with heldBack := s.acc.heldBack.filter (!mine ·) } }.put (Fd.srstBusy p) 0))) ∧
  (∀ (s : State) (ini p : Nat) (pi : PageInfo), p < 0x80 → isFbmo p = false → pageInfo p = some pi → pi.flush = true →
     s.takes ini (Rg.ctrl p) = true →
     noReserved (Rg.ctrl p) (s.ctrlKeep p ||| ((s.rd (Rg.ctrl p) &&& 1) ||| 4)) = true →
     exec (.flush ini p) s = .next (
       let t := s.begun ini (Rg.ctrl p)
       let c := BitVec.ofNat 32 pi.ctrl
       let u := t.wr (Rg.ctrl p)
         ((t.rd (Rg.ctrl p) &&& ~~~c) ||| ((s.ctrlKeep p ||| ((s.rd (Rg.ctrl p) &&& 1) ||| 4)) &&& c))
       let v := (if bitW ((s.rd (Rg.ctrl p) &&& 1) ||| 4) 0 then u.blockStart p else u.blockStop p).persist p 0x08
       let w := if p = Pg.hatch then v.hatchFlush
         else if isFb p then v.fbFlush (p - 0x10)
         else if p = Pg.qmq then v.qFlushAll
         else if p = Pg.ground then v.groundFlush
         else if p = Pg.rec then v.recFlush
         else v
       (if v.flag (Fd.srstBusy p) then v else w.put (Fd.flushBusy p) 1).toPartner (Rg.ctrl p)
         (s.ctrlKeep p ||| ((s.rd (Rg.ctrl p) &&& 1) ||| 4)))) ∧
  (∀ (s : State) (p : Nat) (pi : PageInfo), s.rtOn = true → pageInfo p = some pi → s.flag (Fd.flushBusy p) = true →
     exec (.flushDone p) s = .next (
       let mine := fun (e : Nat × Nat × Word) => capPage (e.2.1 / 0x1000) == p
       (s.acc.heldBack.filter mine).foldl (fun t e => t.applyWrite e.1 (e.2.1 / 0x1000) (e.2.1 % 0x1000) e.2.2)
         ({ s with acc := { s.acc with heldBack := s.acc.heldBack.filter (!mine ·) } }.put (Fd.flushBusy p) 0))) ∧
  (∀ (s : State) (ini p : Nat) (v : Word) (pi : PageInfo), p < 0x80 → isFbmo p = false → pageInfo p = some pi →
     s.takes ini (Rg.irqStat p) = true → noReserved (Rg.irqStat p) v = true →
     exec (.irqStatClear ini p v) s = .next (
       let t := s.begun ini (Rg.irqStat p)
       ((t.wr (Rg.irqStat p) (t.rd (Rg.irqStat p) &&& ~~~v)).iuChanged).toPartner (Rg.irqStat p) v)) ∧
  (∀ (s : State) (p : Nat) (pi : PageInfo), s.rtOn = true → pageInfo p = some pi →
     s.flag ⟨Rg.tmo p, 31, 1⟩ = true → s.flag (Fd.srstBusy p) = false →
     exec (.blockWatchdogExpire p) s = .next (
       let t := if p = Pg.hatch then s.hatchStop else s
       let u := if 2 ≤ s.get ⟨Rg.tmo p, 29, 2⟩ then t.blockReset p else t
       let w := u.put (Fd.wdExp p) 1
       if 1 ≤ s.get ⟨Rg.tmo p, 29, 2⟩ then w.irq p 30 else w))

/-- R46. The first two equations name the whole next state; the third says what a locked write does. Clauses that
rest on the model's own choices: log entry 21. -/
def Obligations.LockArms : Prop :=
  (∀ (s : State) (ini p : Nat) (v : Word), hasHeader p = true → s.reaches ini (Rg.reg p 0x028) true = true →
     exec (.lockWrite ini p v) s =
       .next ((s.respond 0 false).setUnlock p (if v = 0x5AFE0001 then some ini else none))) ∧
  (∀ (s : State) (p : Nat), exec (.unlockExpire p) s = .next (s.setUnlock p none)) ∧
  (∀ (s : State) (ini a : Nat) (v : Word), a < 0x80000 → s.reaches ini a true = true →
     protectedReg (a / 0x1000) (a % 0x1000) = true → s.unlock (a / 0x1000) ≠ some ini →
     exec (.registerWrite ini a 4 v) s = .next ((s.respond 0 false).capture ini (a / 0x1000) (a % 0x1000) true 0x03))

/-- Resets (R47, R48, R413 to R415). `startReset` and `bootStart` are the shared operations; the equations name which
one runs, on which state. Clauses that rest on the model's own choices: log entries 4, 173 and 177. -/
def Obligations.ModuleResets : Prop :=
  (∀ (s : State) (ini : Nat), s.takes ini Rg.SYS_RST_CMD = true → s.pwr.resetHold = none →
     exec (.sysRstCmd ini) s = .next (
       let t := (s.begun ini Rg.SYS_RST_CMD).modPwr ({ · with resetHold := some .cmd, noHold := false })
       t.yieldIfStandby.recGasp)) ∧
  (∀ (s : State) (c : ResetCause), s.pwr.resetHold = some c →
     exec .moduleReset s = .next (
       let t := s.afterReset.wr Rg.SYS_RST_CAUSE c.bit
       (if c = .wdog then t.put Fd.WDOG_EXP_RT 1 else t).bootStart)) ∧
  (∀ (s : State), s.pwr.state = .vbatOnly ∨ s.pwr.state = .off →
     exec .coldReset s =
       .next (s.coldState.modPwr ({ · with state := .off, pgood := false, ready := false, cold := true }))) ∧
  (∀ (s : State), s.rtOn = true → s.pwr.resetHold = none →
     exec .debugResetRequest s = .next (
       let t := s.modPwr ({ · with resetHold := some .dbg, noHold := s.pwr.halted })
       if s.pwr.halted then t else t.yieldIfStandby.recGasp)) ∧
  (∀ (s : State), s.rtOn = true → s.pwr.resetHold = none → s.pwr.halted = false →
     s.unkicked 0 (s.get Fd.WDOG_RT_WD_PERIOD) = true →
     exec .rtWatchdogExpire s =
       .next (((s.irq Pg.wdog 0).raise Ev.WDOG_EXPIRED Pg.wdog [0, 1]).startReset .wdog false)) ∧
  (∀ (s : State) (cause : Nat), s.rtOn = true → s.pwr.resetHold = none → s.pwr.halted = false →
     exec (.supervisorReset cause) s = .next (
       let t : State := { s with nv := { s.nv with cnt := { s.nv.cnt with
         supvCnt := min 255 (s.nv.cnt.supvCnt + 1), supvLast := cause } } }
       (t.raise Ev.SUPV_RESET Pg.wdog [cause]).startReset .supv (cause == 2))) ∧
  (∀ (s : State), s.netUp = true → s.flag (Fd.en Pg.sw) = true → exec .netWatchdogExpire s = .next (s.domainNet 2)) ∧
  (∀ (s : State) (n : Nat), s.appUp = true → n < 4 → s.flag (Fd.WDOG_CORE_WD_EN n) = true →
     s.unkicked (n + 1) (s.get (Fd.WDOG_CORE_WD_PERIOD n)) = true →
     exec (.coreWatchdogExpire n) s = .next (
       let act := s.get (Fd.WDOG_CORE_WD_ACT n)
       let t := ((s.put ⟨Rg.WDOG_EXP, 1 + n, 1⟩ 1).irq Pg.wdog 0).raise Ev.WDOG_EXPIRED Pg.wdog [n + 1, act]
       if act = 1 then t.domainApp 2 else t))

/-- Power (R398, R399, R406, R407, R411). Clauses that rest on the model's own choices: log entries 143, 173 and 178. -/
def Obligations.PowerStates : Prop :=
  (∀ (s : State) (vin : Nat),
     (s.pwr.state = .vbatOnly → exec (.powerGoodRise vin) s = .next (
       let cold := s.pwr.fresh
       let t := s.afterReset.modPwr ({ · with vin := vin, pgood := true, ready := false, vhold := 0, charging := true })
       let u := t.wr Rg.SYS_RST_CAUSE (BitVec.ofNat 32 (1 + 2 * b2n s.pwr.throughHoldup + 64 * b2n cold))
       ((u.irq Pg.pwr 0).raise Ev.PWR_STATE Pg.pwr [4, 0]).bootStart)) ∧
     (s.pwr.state = .off → exec (.powerGoodRise vin) s = .next (
       let t := s.coldState.modPwr ({ · with vin := vin, pgood := true, ready := false, vhold := 0, charging := true })
       (t.wr Rg.SYS_RST_CAUSE (BitVec.ofNat 32 (1 + 2 * b2n s.pwr.throughHoldup + 64 * b2n true))).bootStart))) ∧
  (∀ (s : State) (vin : Nat) (vbat : Bool), s.pwr.state = .run ∨ s.pwr.state = .low → s.pwr.pgood = true →
     exec (.powerGoodFall vin vbat) s = .next (
       let t := s.modPwr ({ · with vin := vin, pgood := false, charging := false })
       if s.pwr.ready then t.enterHoldup t.holdPlan else (t.modBoot ({ · with noHoldup := true })).powerGone vbat)) ∧
  (∀ (s : State) (mv : Nat), s.rtOn = true → s.pwr.pgood = true → s.pwr.ready = false → 4500 ≤ mv →
     exec (.vholdReady mv) s =
       .next ((s.modPwr ({ · with vhold := mv, ready := true, charging := decide (mv < 5000) })).irq Pg.pwr 1)) ∧
  (∀ (s : State), s.pwr.state = .holdup → s.pwr.irrev = false →
     exec .rideThroughEnd s = .next { s.modPwr ({ · with irrev := true }) with nv := { s.nv with nodes := s.node.table, nodeBad := [] } }) ∧
  (∀ (s : State) (vbat : Bool), s.pwr.state = .holdup → s.pwr.irrev = true →
     exec (.powerDownDone vbat) s =
       .next ((if vbat then (s.raise Ev.PWR_STATE Pg.pwr [2, 4]).recGasp else s.recGasp).powerGone vbat)) ∧
  (∀ (s : State) (vin : Nat), s.pwr.state = .holdup → s.pwr.irrev = false →
     exec (.pwrVinReturn vin) s = .next (
       let low := s.pwr.fromLow
       let t := s.raise Ev.PWR_VIN_RETURN Pg.pwr [(s.ns - s.pwr.holdAt) / 1000000]
       let u : State := { t with rcd := { t.rcd with gasp := false, copying := t.rcd.mounted } }
       let w := (u.setPwr (if low then .low else .run)).modPwr ({ · with
         vin := vin, pgood := true, charging := true, netOn := true, appOn := !low, throughHoldup := false })
       w.runStages ([16, 17, 18, 19, 20, 21, 22] ++ (if low then [] else [13, 14, 15]) ++
         (if w.pwr.done || w.pwr.romExec then [] else [23, 24])))) ∧
  (∀ (s : State), s.wakeSrc ≠ 0 →
     (s.pwr.state = .standby → exec .pwrWake s = .next (
       let t := s.afterReset.wr Rg.PWR_WAKE_SRC (BitVec.ofNat 32 s.wakeSrc)
       (((t.irq Pg.pwr 0).raise Ev.PWR_STATE Pg.pwr [3, 0]).raise Ev.PWR_WAKE Pg.pwr [s.wakeSrc]).bootStart)) ∧
     (s.pwr.state = .low → exec .pwrWake s =
       .next (((s.wr Rg.PWR_WAKE_SRC (BitVec.ofNat 32 s.wakeSrc)).raise Ev.PWR_WAKE Pg.pwr [s.wakeSrc]).toRun))) ∧
  (∀ (s : State) (vbat : Bool), s.pwr.state = .standby → exec (.vinLostStandby vbat) s = .next (s.powerGone vbat))

/-- Command registers of power and boot (R407, R408, R413, R419, R420). Clauses that rest on the model's own choices:
log entry 178. -/
def Obligations.PowerCommands : Prop :=
  (∀ (s : State) (ini : Nat), s.takes ini Rg.PWR_CMD = true → s.pwr.state = .low →
     exec (.pwrCmdRun ini) s = .next (((s.begun ini Rg.PWR_CMD).pwrStat 0).toRun)) ∧
  (∀ (s : State) (ini : Nat), s.takes ini Rg.PWR_CMD = true → s.pwr.state = .run →
     exec (.pwrCmdLow ini) s = .next (
       let t := ((((s.begun ini Rg.PWR_CMD).pwrStat 0).appDown).setPwr .low).modPwr fun p => { p with
         todo := p.todo.filter (fun n => n < 13 || 15 < n), stage := if 13 ≤ p.stage ∧ p.stage ≤ 15 then 0 else p.stage }
       t.bootGo 32)) ∧
  (∀ (s : State) (ini : Nat), s.takes ini Rg.PWR_CMD = true → s.pwr.state = .run ∨ s.pwr.state = .low →
     exec (.pwrCmdStandby ini) s = .next ((s.begun ini Rg.PWR_CMD).toStandby)) ∧
  (∀ (s : State) (ini : Nat), s.takes ini Rg.PWR_CMD = true → s.pwr.state = .run ∨ s.pwr.state = .low →
     exec (.domainRstApp ini) s = .next (((s.begun ini Rg.PWR_CMD).pwrStat 0).domainApp 1)) ∧
  (∀ (s : State) (ini : Nat), s.takes ini Rg.PWR_CMD = true → s.pwr.state = .run ∨ s.pwr.state = .low →
     exec (.domainRstNet ini) s = .next (((s.begun ini Rg.PWR_CMD).pwrStat 0).domainNet 1)) ∧
  (∀ (s : State) (ini : Nat), s.takes ini Rg.BOOT_CMD = true →
     exec (.bootRetryAll ini) s = .next ((s.begun ini Rg.BOOT_CMD).modBoot ({ · with fails := [] }))) ∧
  (∀ (s : State) (ini stage : Nat), stage < 32 → s.takes ini Rg.BOOT_CMD = true →
     exec (.bootRetrySel ini stage) s = .next ((s.begun ini Rg.BOOT_CMD).setFail stage 0)) ∧
  (∀ (s : State) (ini : Nat) (v : Word), ini ≤ 4 → s.takes ini Rg.WDOG_KICK = true → noReserved Rg.WDOG_KICK v = true →
     exec (.wdogKick ini v) s = .next ((s.begun ini Rg.WDOG_KICK).modPwr fun p =>
       { p with kicks := Tab.set (fun _ => 0) p.kicks ini s.ns }))

/-- Bring-up (R400, R401, R403). Clauses that rest on the model's own choices: log entries 171, 172 and 174. -/
def Obligations.BootStages : Prop :=
  (∀ (s : State) (ok : Bool) (ms : Nat), s.rtOn = true → s.pwr.stage ≠ 0 →
     exec (.bootStageDone ok ms) s = .next (
       if (ok && s.stageOk s.pwr.stage) || stageSure s.pwr.stage then
         (((s.setFail s.pwr.stage 0).setRes s.pwr.stage 1).stageWork s.pwr.stage).stageNext s.pwr.stage ms
       else (s.stageFail s.pwr.stage 1).stageNext s.pwr.stage ms)) ∧
  (∀ (s : State) (ms : Nat), s.rtOn = true → s.pwr.stage ≠ 0 → stageSure s.pwr.stage = false →
     exec (.bootStageDeadline ms) s = .next ((s.stageFail s.pwr.stage 2).stageNext s.pwr.stage ms)) ∧
  (∀ (s : State), s.rtOn = true → s.pwr.romExec = true → s.pwr.resetHold = none →
     exec .romExecReset s =
       .next ((s.modPwr ({ · with resetHold := some .cmd, noHold := false })).yieldIfStandby.recGasp))

/-- The tick (R50, R53, R57, R416). The equations name the operations of R53 in their order and the whole next state;
log entry 3 says how time stands in the model. Clauses that rest on the model's own choices: log entries 34, 37, 152
and 190. -/
def Obligations.TickEdge : Prop :=
  (∀ (s : State) (dt : Nat) (err : Int) (cur : List Nat), s.rtOn = true → s.pwr.light = true → s.pwr.irrev = false →
     exec (.tickEdge dt err cur) s = .next (
       let t := (((s.timeAdvance dt).opsecAdvance s.sec).metTick dt).settle
       let u := (List.range 16).foldl State.fbEdgeClose t
       if u.pwr.halted then
         let v := (List.range 16).foldl State.fbEdge (((u.edgeNumber).edgeSteps (dt / 1000)).edgePhase err)
         ((v.countOverrun).modTick ({ · with composeDone := false, ofs := 0 })).settle.irq Pg.tick 0
       else
         let w := (((((u.impMissing).edgeNumber).roleEdge).edgeMark.traceUnsent).edgeSwap).pairEdge
         (if w.role = 2 then w.edgeModes else w.edgeFull (!u.tick.booted) t.tick.num cur).edgeEnd (dt / 1000) err)) ∧
  (∀ (s : State), s.rtOn = true → s.ticking = true → s.role = 2 → s.tick.cutGot = false → s.tick.ownCut = false →
     exec .ownCut s = .next (
       let t := (s.takeMirror fun i => s.pair.mirMark.isSome && idxBefore i (s.pair.mirMark.getD 0)).freeze
         (withinCut s.pair.mark)
       let u := ((t.put Fd.TICK_FREEZE_OWN_CUT 1).modTick ({ · with ownCut := true })).edgeTable
       ((u.coFreeze).edgeSched false).edgeRest (u.tick.num - 1) []))

/-- The Hatch within the tick (R55, R58 to R61, R71, R72, R95 to R97). Clauses that rest on the model's own choices: log
entries 27 to 30, 34, 189 and 190. -/
def Obligations.HatchTick : Prop :=
  (∀ (s : State), s.rtOn = true → s.mode ≠ 0 → s.ticking = true → s.tick.winOpen = true → s.tick.started = false →
     s.tick.flushed = false → s.hatch.run = none → (s.role = 2 → s.tick.cutGot = true ∨ s.tick.ownCut = true) →
     s.hatchReady = true → s.tick.k ≤ 8 →
     exec .hatchRunStart s = .next (
       let t := ((s.modPair ({ · with frozen := s.hatch.frozen })).modTick ({ · with started := true })).atLeast 500000
       { t with hatch := { t.hatch with
         run := some (hatchRun s.hatch.act s.hatchCfg s.tick.k s.hatch.pulses s.hatch.frozen) } }.put
           (Fd.statBit Pg.hatch 8) 1)) ∧
  (∀ (s : State) (us : Nat), s.rtOn = true → s.ticking = true → s.tick.winOpen = true →
     exec (.hatchRunDone us) s = .next (s.hatchCommit us)) ∧
  (∀ (s : State) (us : Nat), s.rtOn = true → s.ticking = true → s.tick.winOpen = true → s.mode ≠ 0 →
     exec (.hatchWindowEnd us) s = .next (
       let s := s.holdOutcome.atLeast (400000 * s.pms)
       if s.tick.runDone then
         let t := ((s.add Fd.TICK_CLEAN_CNT_CLEAN 1).put Fd.TICK_OVR_CNT_CONSEC 0).modTick fun t =>
           { t with k := 1, winOpen := false }
         if t.mode = 1 then if 3 ≤ s.get Fd.TICK_OVR_CNT_CONSEC then t.degrade 1 else t
         else if t.mode = 2 ∧ t.get Fd.TICK_CLEAN_CNT_CLEAN = 50 ∧ t.flag Fd.TICK_MODE_FORCE_SCHED = false ∧
             t.flag (Fd.en Pg.hatch) = true then t.restoreMode
         else t
       else
         let t := (s.hatchAbort us).countOverrun
         let u := if t.tick.flushed then t.modTick ({ · with k := 1 }) else t
         let n := u.get Fd.TICK_OVR_CNT_CONSEC
         let v := u.raise Ev.TICK_OVERRUN Pg.tick [s.tick.k, if s.hatch.run.isSome then us else u.hatch.cut, n]
         if v.mode = 1 ∧ 3 ≤ n then v.degrade 1 else v)) ∧
  (∀ (s : State), s.rtOn = true → s.ticking = true →
     exec .guardBand s = .next (
       let t := (s.tickSave).copyNode s.node.walkCopy
       let u : State := { t with node := { t.node with walkCopy := (t.node.walkCopy + 1) % 4096 } }
       let v := (List.range 16).foldl State.keyTest u
       (v.settle.atLeast (800000 * v.pms)).statusSend.avsGuard.recHandOff)) ∧
  (∀ (s : State), s.rtOn = true → s.pwr.halted = false → s.get Fd.DBG_LEVEL_CUR = 2 →
     exec .rtHalt s = .next (
       let t : State := { s with pwr := { s.pwr with halted := true } }
       let u := ({ t with plate := { t.plate with work := none } }.put (Fd.statBit Pg.plate 8) 0).modTick
         ({ · with composeDone := false })
       if u.pwr.light && u.tick.booted && u.tick.winOpen then u.hatchStop.holdOutcome.countOverrun else u)) ∧
  (∀ (s : State), s.rtOn = true → s.pwr.halted = true →
     exec .rtResume s = .next
       { s with pwr := { s.pwr with halted := false, kicks := Tab.set (fun _ => 0) s.pwr.kicks 0 s.ns } })

/-- Compose and the Impression copy (R54, R61, R62, R104, R108, R109, R119). The equations name the whole next state: what
a compose computes (`State.compose`) is set aside when it starts and is committed only when it completes. Clauses that rest
on the model's own choices: log entries 44, 45 and 192. -/
def Obligations.ComposeAndImport : Prop :=
  (∀ (s : State), s.rtOn = true → s.ticking = true → s.tick.winOpen = false → s.tick.composeDone = false →
     s.plate.work = none → s.flag (Fd.srstBusy Pg.plate) = false → (s.mode = 1 → s.tick.overrun = false) →
     exec .composeStart s = .next
       ({ s with plate := { s.plate with work := some s.compose } }.put (Fd.statBit Pg.plate 8) 1)) ∧
  (∀ (s : State) (us : Nat) (w : ComposeWork), s.rtOn = true → s.ticking = true → s.plate.work = some w →
     exec (.composeDone us) s = .next (
       let t : State := { s with
         plate := { s.plate with
           work := none, grp := w.grp, csum := BitVec.ofNat 32 (bufCsum w.back), brkFrz := [], latFrz := []
           buf0 := if s.get Fd.PLATE_BUF_SEL_FRONT = 0 then s.plate.buf0 else w.back
           buf1 := if s.get Fd.PLATE_BUF_SEL_FRONT = 0 then w.back else s.plate.buf1 }
         tick := { s.tick with composeDone := true } }
       let t := w.nodes.foldl (fun t e => t.commitNode e.1 e.2) t
       let t := w.chips.foldl (fun t e => t.recordChip e.1 e.2) t
       let t := w.raises.foldl (fun t r => (t.irq Pg.group (groupIrq r.ev)).raise r.ev r.src r.params) t
       let t := (t.put ⟨Rg.PLATE_CAP_CNT, 0, 13⟩ w.capCnt).put ⟨Rg.PLATE_COMP_US, 0, 16⟩ (min us 65535)
       let t := (t.put (Fd.statBit Pg.plate 8) 0).irq Pg.plate 1
       if w.capCnt = 0 then t
       else
         let t := t.irq Pg.plate 2
         if limitOk t.plate.cappedAt t.ns 3600 then
           { t with plate := { t.plate with cappedAt := some t.ns } }.raise Ev.DRIVE_CAPPED Pg.plate [w.capCnt, w.capLow]
         else t)) ∧
  (∀ (s : State) (nodes : Nat), s.rtOn = true → s.ticking = true → s.plate.work.isSome = true →
     exec (.tickComposeMiss nodes) s = .next (
       let t : State := { s with plate := { s.plate with work := none } }.put (Fd.statBit Pg.plate 8) 0
       ((t.add Fd.TICK_MISS_COMPOSE_MISS 1).outcomeIrq 4).raise Ev.TICK_COMPOSE_MISS Pg.tick [nodes])) ∧
  (∀ (s : State) (bytes : Nat), s.rtOn = true → s.ticking = true → s.tick.impBusy = true →
     exec (.tickImpLate bytes) s =
       .next (((s.add Fd.TICK_MISS_IMP_LATE 1).outcomeIrq 5).raise Ev.TICK_IMP_LATE Pg.tick [bytes])) ∧
  (∀ (s : State), s.rtOn = true → s.ticking = true → s.tick.impBusy = true →
     exec .impCopyComplete s = .next (
       let kb := s.fresh.1.toNat % 385
       let t := s.fresh.2.put Fd.PAIR_IMP_STAT_KB kb
       let m : ImpEndMsg :=
         { num := t.tick.num, csum := t.pair.csum, digest := t.pair.digest, kb, ok := true, us := 0
           fv := (List.range 16).map fun b => t.get (Fd.FB_TX_FV_FV b) }
       ((t.modTick ({ · with impBusy := false })).modPair ({ · with endOut := some m })).byellSend 1)) ∧
  (∀ (s : State) (ini : Nat), s.reaches ini Rg.PLATE_WIN false = true →
     exec (.plateWinRead ini) s = .next (
       let i := s.get Fd.PLATE_WIN_SEL_INDEX / 2 * 2
       let b := if s.flag Fd.PLATE_WIN_SEL_BUF then s.back else s.front
       let e := fun j => Tab.get (fun _ => 0) b j
       let t := if s.flag Fd.PLATE_WIN_SEL_AUTOINC then s.put Fd.PLATE_WIN_SEL_INDEX ((i + 2) % 4096) else s
       t.respond (BitVec.ofNat 32 (e (i + 1) * 65536 + e i)) false))

/-- The street graph's load window (R75 to R78). Writes start from a write that takes effect and are mirrored to the
partner. Clauses that rest on the model's own choices: log entries 38 and 39. -/
def Obligations.StreetGraph : Prop :=
  (∀ (s : State) (ini : Nat), s.takes ini Rg.HATCHG_GRAPH_CTRL = true → s.graphState ≠ 4 →
     exec (.graphOpen ini) s = .next
       (((s.begun ini Rg.HATCHG_GRAPH_CTRL).graphClear 1).toPartner Rg.HATCHG_GRAPH_CTRL 1)) ∧
  (∀ (s : State) (ini : Nat), s.takes ini Rg.HATCHG_GRAPH_CTRL = true → s.graphState = 1 →
     exec (.graphCommit ini) s = .next (
       let t := s.begun ini Rg.HATCHG_GRAPH_CTRL
       let g : Graph := { s.hatch.load with
         nVtx := getF (s.rd Rg.HATCHG_VTX_CNT) 0 13, nEdge := getF (s.rd Rg.HATCHG_EDGE_CNT) 0 15,
         nAtt := getF (s.rd Rg.HATCHG_ATT_CNT) 0 15, nSens := getF (s.rd Rg.HATCHG_SENS_CNT) 0 11,
         crc := s.rd Rg.HATCHG_GRAPH_CRC, seq := 0 }
       ({ t with hatch := { t.hatch with valid := some g } }.put Fd.HATCHG_GRAPH_STAT_STATE 2).toPartner
         Rg.HATCHG_GRAPH_CTRL 2)) ∧
  (∀ (s : State) (ini : Nat), s.takes ini Rg.HATCHG_GRAPH_CTRL = true → s.graphState ≠ 4 → s.graphState ≠ 0 →
     exec (.graphAbort ini) s = .next
       (((s.begun ini Rg.HATCHG_GRAPH_CTRL).graphClear 0).toPartner Rg.HATCHG_GRAPH_CTRL 3)) ∧
  (∀ (s : State) (ini k : Nat) (v : Word), k < 4 → s.takes ini (Rg.HATCHG_LOAD_WIN k) = true →
     noReserved (Rg.HATCHG_LOAD_WIN k) v = true → s.graphState = 1 →
     s.get Fd.HATCHG_LOAD_SEL_INDEX < s.loadCount (s.get Fd.HATCHG_LOAD_SEL_TABLE) →
     exec (.graphRecordStore ini k v) s = .next (
       let t := s.begun ini (Rg.HATCHG_LOAD_WIN k)
       let n := s.get Fd.HATCHG_LOAD_SEL_TABLE
       let i := s.get Fd.HATCHG_LOAD_SEL_INDEX
       let u := t.wr (Rg.HATCHG_LOAD_WIN k) v
       (if k ≠ lastWin n then u
       else
         let w := fun j => u.rd (Rg.HATCHG_LOAD_WIN j)
         let g := s.hatch.load
         let g := if n = 0 then { g with vtx := Tab.set (fun _ => 0) g.vtx i (w 0) }
           else if n = 1 then { g with edge := Tab.set (fun _ => ⟨0, 0, 0⟩) g.edge i ⟨w 0, w 1, w 2⟩ }
           else if n = 2 then { g with att := Tab.set (fun _ => 0) g.att i (w 0) }
           else { g with sens := Tab.set (fun _ => ⟨0, 0⟩) g.sens i ⟨w 0, w 1⟩ }
         { u with hatch := { u.hatch with load := g } }.addWrap Fd.HATCHG_LOAD_SEL_INDEX 1).toPartner
           (Rg.HATCHG_LOAD_WIN k) v)) ∧
  (∀ (s : State) (g : Graph), s.rtOn = true → s.graphState = 2 → s.hatch.valid = some g →
     (s.tick.winOpen = false ∨ s.tick.ofs < 500000) →
     exec .graphValidationDone s = .next (match g.check with
       | none => s.put Fd.HATCHG_GRAPH_STAT_STATE 3
       | some e =>
         let t : State := { s with hatch := { s.hatch with valid := none } }
         (((t.graphErr e).put Fd.HATCHG_GRAPH_STAT_STATE 5).irq Pg.hatchG 1).raise Ev.HATCH_GRAPH_REFUSED Pg.hatchG
           [e.err, e.table, e.index])) ∧
  (∀ (s : State), s.rtOn = true → s.graphState = 4 →
     exec .graphPersistDone s = .next (
       let g := s.hatch.act
       let nv := if s.nv.graphTurn then { s.nv with graph1 := some g, graphTurn := false }
         else { s.nv with graph0 := some g, graphTurn := true }
       { s with nv := nv }.put Fd.HATCHG_GRAPH_STAT_STATE 0))

/-- Lamp groups and contactors (R113 to R117, R441). The equations name the whole next state. Clauses that rest on
the model's own choices: log entries 45, 48, 49, 50 and 186. -/
def Obligations.Contactors : Prop :=
  (∀ (s : State) (ini k : Nat) (v : Word), k < 16 → s.takes ini (Rg.GROUP_BROKEN k) = true →
     noReserved (Rg.GROUP_BROKEN k) v = true →
     exec (.brokenClear ini k v) s = .next (
       let t := s.begun ini (Rg.GROUP_BROKEN k)
       let gs := ((List.range 32).filter fun j => bitW v j).map (32 * k + ·)
       { t with plate := { t.plate with brkReq := t.plate.brkReq ++ gs } }.toPartner (Rg.GROUP_BROKEN k) v)) ∧
  (∀ (s : State) (ini : Nat) (v : Word), s.takes ini Rg.GROUP_LATCH_CLR = true → noReserved Rg.GROUP_LATCH_CLR v = true →
     exec (.latchClr ini v) s = .next (
       let t := s.begun ini Rg.GROUP_LATCH_CLR
       let r : LatchReq := { group := s.get ⟨Rg.GROUP_GRP_SEL, 0, 9⟩, all := bitW v 31, node := getF v 0 12 }
       { t with plate := { t.plate with latReq := t.plate.latReq ++ [r] } }.toPartner Rg.GROUP_LATCH_CLR v)) ∧
  (∀ (s : State) (ini : Nat) (v : Word), s.takes ini Rg.IO_CO_CMD = true → noReserved Rg.IO_CO_CMD v = true →
     exec (.coCmdWrite ini v) s = .next (
       (((List.range 8).filter fun j => bitW v (8 + j)).foldl (fun t j =>
         let r : CoReq := { co := j, on := bitW v j, src := 1 }
         if (t.co j).busy then t.coRequest r
         else { t with io := { t.io with coReq := t.io.coReq ++ [r] } })
           (s.begun ini Rg.IO_CO_CMD)).toPartner Rg.IO_CO_CMD v)) ∧
  (∀ (s : State) (j : Nat), s.rtOn = true → j < 8 → s.coPulsing.length < 2 → (s.co j).phase = .queued →
     s.coMayPulse j = true →
     ((List.range 8).find? fun i => ((s.co i).phase == .queued) && s.coMayPulse i) = some j →
     exec (.coPulseStart j) s = .next (s.setCo j { s.co j with phase := .pulse })) ∧
  (∀ (s : State) (j : Nat), s.rtOn = true → j < 8 → (s.co j).phase = .pulse →
     exec (.coPulseEnd j) s = .next (s.setCo j { s.co j with phase := .await })) ∧
  (∀ (s : State) (j : Nat), s.rtOn = true → j < 8 → (s.co j).phase = .await →
     exec (.coFeedbackRead j) s = .next (
       let c := s.co j
       let fb := s.coFeedback j
       if fb = c.target then
         ((s.senseCo j ({ c with sensed := some fb } : Co).seqEnd).raise Ev.CO_SWITCHED Pg.group [j, b2n fb, c.src])
       else if c.second then
         ((s.senseCo j ({ c with sensed := none } : Co).seqEnd).irq Pg.group 3).raise Ev.CO_FAIL Pg.group
           [j, b2n c.cmd, b2n fb]
       else s.setCo j { c with phase := .retry })) ∧
  (∀ (s : State) (j : Nat), s.rtOn = true → j < 8 → (s.co j).phase = .retry → s.coMayPulse j = true →
     s.coPulsing.length < 2 →
     exec (.coRetryPulse j) s = .next (s.setCo j { s.co j with phase := .pulse, second := true })) ∧
  (∀ (s : State) (j : Nat) (level : Bool), j < 8 →
     exec (.coExternal j level) s = .next (
       let t : State := { s with io := { s.io with coFb := setBitN s.io.coFb j level } }
       let c := t.co j
       let on := t.coFeedback j
       if t.rtOn ∧ t.tick.booted ∧ c.phase ≠ .pulse ∧ c.phase ≠ .await ∧ c.sensed ≠ some on then
         let u := t.senseCo j { c with sensed := some on }
         if bitN (u.get Fd.IO_CO_CFG_EN) j then (u.irq Pg.group 4).raise Ev.CO_EXTERNAL Pg.group [j, b2n on] else u
       else t)) ∧
  (∀ (s : State) (j : Nat), s.rtOn = true → j < 8 → (s.co j).hold = 1 → 800000 * s.pms ≤ s.tick.ofs →
     exec (.evalHoldExpire j) s = .next (s.setCo j { s.co j with hold := 0 }))

/-- Frames on a feeder bus (R133 to R141, R154). The equations name the whole next state. Clauses that rest on the
model's own choices: log entries 57 and 59 to 62. -/
def Obligations.FeederFrames : Prop :=
  (∀ (s : State) (b us : Nat), s.rtOn = true → b < 16 → s.maySend b = true → (s.fbs b).tx = none → (s.fbs b).req = none →
     exec (.fbFrameStart b us) s = .next (
       let safe := if (s.fbs b).hold = 0 then s.bestObject b us (fun c => c == 0) else none
       match s.bestAgain b us 6, safe with
       | some t, some i => if t.id ≤ s.moId b i then s.resend b t else s.startObject b i
       | some t, none => s.resend b t
       | none, some i => s.startObject b i
       | none, none => match s.bestAgain b us 0, (s.fbs b).sync with
         | some t, _ => s.resend b t
         | none, some p => (s.modFb b ({ · with sync := none })).onWire b (plainFrame .sync (frameId 1 0 255 s.tick.num) p)
         | none, none => match s.window b us with
           | 1 => match s.bestAgain b us 1 with
             | some t => s.resend b t
             | none => s.startPd b us
           | 2 => s.startPoll b us
           | 3 => s.startEvent b us
           | 4 => s.startBulk b us
           | _ => s)) ∧
  (∀ (s : State) (b : Nat) (t : TxFrame) (a : TagAnswer), s.rtOn = true → b < 16 → (s.fbs b).req = some (t, a) →
     exec (.fbTagResponse b) s = .next (
       match a with
       | .tag bytes => ((s.fvNext b).modFb b ({ · with req := none, asked := true, tmoRun := 0 })).onWire b
           { t with data := t.data ++ leBytes 2 (t.fv.getD 0) ++ padTo 4 bytes }
       | .refused code =>
         if code = 10 then s.tagFail b
         else ((s.dropReq b).modFb b ({ · with asked := true })).enterHold b (holdCause code (!(s.fbs b).asked)))) ∧
  (∀ (s : State) (b : Nat) (t : TxFrame) (a : TagAnswer), s.rtOn = true → b < 16 → (s.fbs b).req = some (t, a) →
     exec (.fbTagTimeout b) s = .next (
       let n := (s.fbs b).tmoRun + 1
       let u := (s.dropReq b).modFb b fun f => { f with asked := true, tmoRun := n, stalled := t.id :: f.stalled }
       if 16 ≤ n then u.enterHold b 3 else u)) ∧
  (∀ (s : State) (b us : Nat) (sof : Int) (tec rec_ : Nat) (t : TxFrame), s.rtOn = true → b < 16 → (s.fbs b).tx = some t →
     exec (.fbFrameSent b us sof tec rec_) s = .next (
       let v := (((s.setFb b { s.fbs b with
         tx := none, lastErr := none, burstOpen := (s.fbs b).burstOpen.filter fun e => e.1 != t.id }).add
           (Fd.FB_FRAME_CNT_TX b) 1).setErrCnt b tec rec_).modFb b fun f => { f with frames := f.frames + 1 }
       let u : State := { v with pair := { v.pair with lastEnd := some (v.ns + us * 1000) } }
       match t.kind with
       | .pd l => l.foldl (fun s a => s.mark (b * 256 + a) false) u
       | .poll a ask => u.pollOpen b a (idTag t.id) ask us
       | .probe m p => u.modFb b fun f => { f with
           probe := some ⟨m, p, idTag t.id, u.pairEnd b us, .nothing⟩, lastM := m, lastPfx := p
           probes := min 65535 (f.probes + 1) }
       | .assign a x => u.nodeInput (.assigned b a x)
       | .job op a tag =>
         match (s.fbs b).jobs.find? fun j => j.op == op && j.addr == a && j.tag == tag with
         | none => u
         | some j =>
           let drop := u.modFb b fun f => { f with jobs := f.jobs.erase j }
           if j.kind = .decom then drop.nodeInput (.released (b * 256 + a))
           else if j.kind = .recom then drop
           else u.modJob b op a tag fun j => { j with waiting := true, tries := j.tries + 1, sentAt := u.tick.num }
       | .bulk => u.modFb b fun f => { f with bulkq := f.bulkq.tail }
       | .object i =>
         let at_ := u.stamp sof
         let w := (u.wr (moKey b i 16) (BitVec.ofNat 32 at_.1)).wr (moKey b i 20) (BitVec.ofNat 32 at_.2)
         (w.moSet b i 3).moIrq b i 0
       | _ => u)) ∧
  (∀ (s : State) (b w : Nat), s.rtOn = true → b < 16 →
     exec (.fbWindowClose b w) s = .next (
       let t := s.giveUp b fun t => t.win == w
       let t := if ((t.fbs b).req.map (·.1.win)) = some w then t.dropReq b else t
       let u := t.modFb b ({ · with stalled := [] })
       let f := u.fbs b
       let can := u.maySend b
       if w = 1 then
         (u.modFb b ({ · with pdq := [], pdLost := 0 })).shed b 1
           (if f.hold = 0 ∧ u.transmits then f.pdq.length + f.pdLost else 0)
       else if w = 2 then
         if can then
           let x := u.skipIdle b (u.fbPlan b).poll
           x.shed b 2 ((x.fbPlan b).poll - (x.fbs b).pairs)
         else u
       else if w = 3 then
         let objs := (u.moIn b 1).filter fun i => idClass (u.moId b i) == 2 || idClass (u.moId b i) == 5
         let inst := (f.jobs.filter fun j => j.op == 0x80 && u.jobReady b j).length
         let cmds := (f.jobs.filter fun j => j.op != 0x80 && u.jobReady b j).length
         if can then u.shed b 3 (objs.length + if f.hold = 0 then min inst (6 - f.keySent) + cmds else 0) else u
       else if w = 4 then
         let objs := (u.moIn b 1).filter fun i => idClass (u.moId b i) == 6 || idClass (u.moId b i) == 7
         if can then u.shed b 4 (objs.length + f.bulkq.length) else u
       else u))

/-- Message objects (R154, R155). Clauses that rest on the model's own choices: log entries 58 and 59. -/
def Obligations.MessageObjects : Prop :=
  (∀ (s : State) (ini b i : Nat) (v : Word), b < 16 → i < 128 → s.takes ini (Rg.reg (Pg.fbmo b) (32 * i)) = true →
     (s.heads b).contains i = true → (v ||| 0xC0000080) &&& ~~~(0xFB0000FF#32) = 0 →
     exec (.moTxRequest ini b i v) s = .next (
       let k := Rg.reg (Pg.fbmo b) (32 * i)
       let t := (s.begun ini k).wr k ((v ||| 0xC0000080) &&& 0xFB00007F)
       let w :=
         if t.moState b i = 1 ∨ t.moState b i = 2 then t
         else
           let u := t.put (mo b i 12 0 16) 0
           match u.moCheck b i with
           | 0 =>
             if (u.busState b = 5 ∨ u.busState b = 6) ∧ idClass (u.moId b i) = 0 ∧ u.moOneshot b i then u.moFail b i 3
             else u.moSet b i 1
           | c => u.moFail b i c
       w.countIn)) ∧
  (∀ (s : State) (ini b i : Nat) (v : Word), b < 16 → i < 128 → s.takes ini (Rg.reg (Pg.fbmo b) (32 * i)) = true →
     (s.heads b).contains i = true → ((v ||| 0x80000080) &&& 0xBFFFFFFF) &&& ~~~(0xFB0000FF#32) = 0 →
     exec (.moRxArm ini b i v) s = .next (
       let k := Rg.reg (Pg.fbmo b) (32 * i)
       let t := (s.begun ini k).wr k (((v ||| 0x80000080) &&& 0xBFFFFFFF) &&& 0xFB00007F)
       (if t.moChainOk b i then ((t.moSet b i 5).put (mo b i 12 23 1) 0).put (mo b i 12 22 1) 0
       else t.moFail b i 10).countIn))

/-- Receiving and errors (R142, R147 to R149, R157, R170, R171). Clauses that rest on the model's own choices: log
entries 53, 55, 56, 63 and 66. -/
def Obligations.FeederReceive : Prop :=
  (∀ (s : State) (b : Nat) (f : RxFrame), s.rtOn = true → b < 16 → s.busState b ≠ 2 → s.onLine b = true →
     exec (.fbFrameReceived b f) s = .next (
       let t := (s.probeSees b f).modFb b ({ · with lastErr := none, burstOpen := [] })
       let seq := (t.get ⟨Rg.FB_RX_SEQ b, 0, 16⟩ + 1) % 65536
       let u := (((t.put ⟨Rg.FB_RX_SEQ b, 0, 16⟩ seq).add (Fd.FB_FRAME_CNT_RX b) 1).modFb b fun g => { g with
         frames := g.frames + 1 }).setErrCnt b f.tec f.rec_
       if f.ext = false ∨ f.remote = true ∨ idAddr f.id = 0 then u
       else
         let cls := idClass f.id
         let mine := fromNode f.id == false
         let i := b * 256 + idAddr f.id
         let q : Bool × State :=
           if cls = 0 ∨ cls = 2 then
             if mine then
               match u.rxAuth b f (u.get (Fd.FB_TX_FV_FV b)) with
               | (some c, w) => (true, (if w.transmits then w else w.put (Fd.FB_TX_FV_FV b) c).pairDiff b true)
               | (none, w) => (false, w.pairDiff b false)
             else match u.rxAuth b f (u.nodeAt i).dyn.rxFv with
               | (some c, w) =>
                 (true, if (w.nodeAt i).ident.state = 0 then w else w.setDyn i { (w.nodeAt i).dyn with rxFv := c })
               | (none, w) => (false, w)
           else (true, u)
         if q.1 = false then q.2
         else
           let w := q.2.moOffer b f seq false
           if mine then if w.transmits then w else w.heardModule b f else w.nodeRx b f seq)) ∧
  (∀ (s : State) (b code : Nat) (dataPhase : Bool) (id : Nat) (own : Bool) (tec rec_ : Nat), s.rtOn = true → b < 16 →
     s.busState b = 2 ∨ s.onLine b = true → code ≠ 0 →
     exec (.fbError b code dataPhase id own tec rec_) s = .next (
       let t := ((s.put (Fd.FB_LAST_ERR_VALID b) 1).put (Fd.FB_LAST_ERR_DATA_PHASE b) (b2n dataPhase)).put
         (Fd.FB_LAST_ERR_CODE b) code
       let u := (t.modFb b fun f => { f with
         probe := f.probe.map fun p => { p with seen := .failed }
         clean := 0
         errD := f.errD + b2n dataPhase, errA := f.errA + b2n (!dataPhase) }).burst b id own
           (dataPhase && (own == false || code == 4 || code == 5))
       if own ∧ 256 ≤ tec ∧ u.listening b = false then
         let oneshot := (u.fbs b).tx.map fun t => t.oneshot && idClass t.id == 0
         (if oneshot = some true then u else u.ownFailed b 1).busOff b
       else (if own then u.ownFailed b 1 else u).setErrCnt b tec rec_)) ∧
  (∀ (s : State) (b : Nat), s.rtOn = true → b < 16 → s.busState b = 5 →
     exec (.fbRecovered b) s = .next (
       let t := ((s.put (Fd.FB_STAT_BUS_STATE b) 3).wr (Rg.FB_ERR_CNT b) 0).irq (Pg.fb b) 5
       t.raise Ev.FB_RECOVERED (Pg.fb 0) [b, t.ms - (t.fbs b).boAt])) ∧
  (∀ (s : State) (b : Nat), s.rtOn = true → b < 16 → s.busState b = 6 →
     exec (.fbStormEnd b) s = .next (
       let t := (s.wr (Rg.FB_ERR_CNT b) 0).modFb b ({ · with joined := false })
       if t.detects b then t.startDetect b else t.put (Fd.FB_STAT_BUS_STATE b) 3)) ∧
  (∀ (s : State) (b arb data : Nat), s.rtOn = true → b < 16 → s.busState b = 2 → arb ≤ 2 → data ≤ 2 →
     s.get (Fd.FB_DET_CFG_FRAMES b) ≤ (s.fbs b).clean →
     exec (.fbRateDetected b arb data) s = .next (
       let d := if (s.fbs b).heardFd then data else s.get (Fd.FB_BITRATE_DATA b)
       let diff := arb != s.get (Fd.FB_BITRATE_ARB b) || d != s.get (Fd.FB_BITRATE_DATA b)
       (s.detected b arb d).raise Ev.FB_RATE_DETECTED (Pg.fb 0) [b, arb, d, b2n diff])) ∧
  (∀ (s : State) (b : Nat), s.rtOn = true → b < 16 → s.busState b = 2 →
     exec (.fbRateNone b) s = .next (
       let t := s.detected b (s.get (Fd.FB_BITRATE_ARB b)) (s.get (Fd.FB_BITRATE_DATA b))
       t.raise Ev.FB_RATE_NONE (Pg.fb 0) [b, (t.fbs b).heard])) ∧
  (∀ (s : State) (b : Nat), s.rtOn = true → b < 16 → s.busState b = 1 →
     exec (.fbIntegrated b) s = .next (s.put (Fd.FB_STAT_BUS_STATE b) 3))

/-- NODE.CMD (R186). `nodeAccept` (Safety) names what acceptance does; what each command then does to the entry is
stated by NodeCommandsAct. Clauses that rest on the model's own choices: log entries 70 and 71. -/
def Obligations.NodeCommands : Prop :=
  (∀ (s : State) (ini i : Nat), i < 4096 → s.takes ini Rg.NODE_CMD = true → s.flag Fd.NODE_CMD_STAT_BUSY = false →
     s.transmits = true → exec (.nodePlan ini i) s = .next
       (((s.begun ini Rg.NODE_CMD).nodeAccept 1 i 0).toPartner Rg.NODE_CMD (nodeWord i 0 1))) ∧
  (∀ (s : State) (ini i : Nat), i < 4096 → s.takes ini Rg.NODE_CMD = true → s.flag Fd.NODE_CMD_STAT_BUSY = false →
     s.transmits = true → exec (.nodeUnplan ini i) s = .next
       (((s.begun ini Rg.NODE_CMD).nodeAccept 2 i 0).toPartner Rg.NODE_CMD (nodeWord i 0 2))) ∧
  (∀ (s : State) (ini i : Nat), i < 4096 → s.takes ini Rg.NODE_CMD = true → s.flag Fd.NODE_CMD_STAT_BUSY = false →
     s.transmits = true → exec (.nodeDecommission ini i) s = .next
       (((s.begun ini Rg.NODE_CMD).nodeAccept 3 i 0).toPartner Rg.NODE_CMD (nodeWord i 0 3))) ∧
  (∀ (s : State) (ini i : Nat), i < 4096 → s.takes ini Rg.NODE_CMD = true → s.flag Fd.NODE_CMD_STAT_BUSY = false →
     s.transmits = true → exec (.nodeQuarantine ini i) s = .next
       (((s.begun ini Rg.NODE_CMD).nodeAccept 4 i 0).toPartner Rg.NODE_CMD (nodeWord i 0 4))) ∧
  (∀ (s : State) (ini i : Nat), i < 4096 → s.takes ini Rg.NODE_CMD = true → s.flag Fd.NODE_CMD_STAT_BUSY = false →
     s.transmits = true → exec (.nodeUnquarantine ini i) s = .next
       (((s.begun ini Rg.NODE_CMD).nodeAccept 5 i 0).toPartner Rg.NODE_CMD (nodeWord i 0 5))) ∧
  (∀ (s : State) (ini i : Nat), i < 4096 → s.takes ini Rg.NODE_CMD = true → s.flag Fd.NODE_CMD_STAT_BUSY = false →
     s.transmits = true → exec (.nodeRecommission ini i) s = .next
       (((s.begun ini Rg.NODE_CMD).nodeAccept 6 i 0).toPartner Rg.NODE_CMD (nodeWord i 0 6))) ∧
  (∀ (s : State) (ini i : Nat), i < 4096 → s.takes ini Rg.NODE_CMD = true → s.flag Fd.NODE_CMD_STAT_BUSY = false →
     exec (.nodeIdent ini i) s = .next
       (((s.begun ini Rg.NODE_CMD).nodeAccept 7 i 0).toPartner Rg.NODE_CMD (nodeWord i 0 7))) ∧
  (∀ (s : State) (ini i arg : Nat), i < 4096 → arg < 256 → s.takes ini Rg.NODE_CMD = true →
     s.flag Fd.NODE_CMD_STAT_BUSY = false → s.transmits = true →
     exec (.nodeMove ini i arg) s = .next
       (((s.begun ini Rg.NODE_CMD).nodeAccept 8 i arg).toPartner Rg.NODE_CMD (nodeWord i arg 8))) ∧
  (∀ (s : State) (ini i arg : Nat), i < 4096 → arg < 256 → s.takes ini Rg.NODE_CMD = true →
     s.flag Fd.NODE_CMD_STAT_BUSY = false → s.transmits = true →
     exec (.nodeWink ini i arg) s = .next
       (((s.begun ini Rg.NODE_CMD).nodeAccept 9 i arg).toPartner Rg.NODE_CMD (nodeWord i arg 9))) ∧
  (∀ (s : State) (ini i : Nat), i < 4096 → s.takes ini Rg.NODE_CMD = true → s.flag Fd.NODE_CMD_STAT_BUSY = true →
     exec (.nodePlan ini i) s = .next
       (((s.begun ini Rg.NODE_CMD).put Fd.NODE_CMD_STAT_RESULT 3).toPartner Rg.NODE_CMD (nodeWord i 0 1)))

/-- NODE.CMD's effect at the edge (R176, R180, R181, R186, R443). Clauses that rest on the model's own choices: log
entries 69, 70, 71 and 75. -/
def Obligations.NodeCommandsAct : Prop :=
  ∀ (s : State) (i arg uid : Nat), i % 256 ≠ 0 → i % 256 ≠ 255 →
    (s.nodeExec 1 i arg uid =
      if (s.nodeAt i).ident.state ≠ 0 then s.cmdDone 2
      else if (s.holders uid).isEmpty = false then s.cmdDone 6
      else (s.setIdent i { dyn := NodeDyn.fresh, ident := { NodeId.free with uid := uid, state := 1, cfg := 2 } }).cmdDone 0) ∧
    (s.nodeExec 2 i arg uid = if (s.nodeAt i).ident.state = 1 then (s.freeNode i).cmdDone 0 else s.cmdDone 2) ∧
    (s.nodeExec 3 i arg uid = if (s.nodeAt i).ident.state < 2 then s.cmdDone 2
      else s.addJob (i / 256) { kind := .decom, op := 2, addr := i % 256 }) ∧
    (s.nodeExec 4 i arg uid =
      if (s.nodeAt i).ident.state = 2 ∨ (s.nodeAt i).ident.state = 3 ∨ (s.nodeAt i).ident.state = 4
      then (s.quarantine i 3).cmdDone 0 else s.cmdDone 2) ∧
    (s.nodeExec 5 i arg uid =
      if (s.nodeAt i).ident.state = 5 ∧ (s.nodeAt i).ident.qcause = 3 then
        if s.sensorsFull (s.nodeAt i).ident.kind then s.cmdDone 4
        else ((s.setIdent i { s.nodeAt i with ident := { (s.nodeAt i).ident with state := 4, qcause := 0 } }).setProg i
          { s.prog i with recom := false }).cmdDone 0
      else s.cmdDone 2) ∧
    (s.nodeExec 6 i arg uid =
      if (s.nodeAt i).ident.state = 5 ∧ (s.nodeAt i).ident.qcause = 3 ∧ (s.prog i).recom = false
      then (s.startRecom i).cmdDone 0 else s.cmdDone 2) ∧
    (s.nodeExec 7 i arg uid = if (s.nodeAt i).ident.state = 4 then (s.setNode i ((s.nodeAt i).setLink 4 true)).cmdDone 0
      else s.cmdDone 2) ∧
    (s.nodeExec 8 i arg uid =
      if arg = 0 ∨ arg = 255 then s.cmdDone 8
      else if (s.nodeAt i).ident.state = 4 ∧ s.effState (i / 256 * 256 + arg) = 0
      then s.addJob (i / 256) { kind := .move arg, op := 1, addr := i % 256, args := [arg] } else s.cmdDone 2) ∧
    (s.nodeExec 9 i arg uid =
      if arg = 0 ∨ 60 < arg then s.cmdDone 8
      else if (s.nodeAt i).ident.state = 4
      then s.addJob (i / 256) { kind := .wink, op := 3, addr := i % 256, args := [arg] } else s.cmdDone 2)

/-- Timers of the node manager (R168 to R182, R343). Clauses that rest on the model's own choices: log entries 64,
65, 72, 73, 76 and 77. -/
def Obligations.NodeFaults : Prop :=
  (∀ (s : State) (b : Nat), s.rtOn = true → b < 16 → exec (.pollResponseTimeout b) s = .next (s.fbEdgeClose b)) ∧
  (∀ (s : State) (i code : Nat), s.rtOn = true → i < 4096 → (s.fault i code).running = true →
     (s.fault i code).until_ ≤ s.ns →
     exec (.faultEventHoldExpire i code) s = .next (
       let h := s.fault i code
       let on := (s.nodeAt i).dyn.fault.testBit (code - 1)
       let t := s.setFault i code { h with running := false }
       if on = h.shown then t.setFault i code FaultHold.init else t.faultEvent i code on h.chan h.detail h.alarm)) ∧
  (∀ (s : State) (b a op : Nat) (j : NodeJob), s.rtOn = true → b < 16 → a < 256 →
     (s.fbs b).jobs.find? (fun j => j.waiting && j.addr == a && j.op == op) = some j → j.sentAt + 50 ≤ s.tick.num →
     j.tries < 3 →
     exec (.nodeCmdResend b a op) s = .next (s.modJob b op a j.tag fun j => { j with waiting := false })) ∧
  (∀ (s : State) (b : Nat) (busy : Bool) (p : Probe), s.rtOn = true → b < 16 → (s.fbs b).probe = some p →
     exec (.probeOutcome b busy) s = .next (
       let t := s.modFb b ({ · with probe := none })
       match (if busy then .failed else p.seen) with
       | .nothing => t
       | .found u => t.foundUid b u
       | .failed => t.modFb b fun f => { f with
           collided := min 65535 (f.collided + 1)
           stack := if p.m < 48 then (p.m + 1, p.pfx) :: (p.m + 1, p.pfx + 2 ^ (47 - p.m)) :: f.stack else f.stack })) ∧
  (∀ (s : State) (i : Nat), s.rtOn = true → i < 4096 → (s.nodeAt i).ident.state = 3 →
     (s.prog i).keyTick + 500 ≤ s.tick.num →
     exec (.keyInstallTimeout i) s = .next (s.commFail i 4)) ∧
  (∀ (s : State) (i : Nat), s.rtOn = true → i < 4096 → (s.prog i).recom = true → (s.prog i).releases < 3 →
     (s.prog i).releases = 0 ∨ (s.prog i).relAt + 50 ≤ s.tick.num → s.transmits = true →
     exec (.recomRelease i) s = .next (
       (s.setProg i { s.prog i with releases := (s.prog i).releases + 1, relAt := s.tick.num }).addJob (i / 256)
         { kind := .recom, op := 2, addr := i % 256 })) ∧
  (∀ (s : State) (i : Nat), s.rtOn = true → i < 4096 → (s.prog i).recom = true → (s.nodeAt i).ident.state = 5 →
     (s.prog i).recStart + 15000 ≤ s.tick.num →
     exec (.nodeRecomFail i) s = .next (
       (s.setProg i { s.prog i with recom := false }).nodeEv Ev.NODE_RECOM_FAIL i [(s.nodeAt i).ident.qcause])) ∧
  (∀ (s : State) (b : Nat), s.rtOn = true → b < 16 → (s.ground.oldKey.any fun e => e.1 == b) = true →
     ((s.fbs b).jobs.any fun j => j.kind == .rollout) = false ∨ (s.fbs b).keyAt + 3000 ≤ s.tick.num →
     exec (.keyRolloutSwitch b) s = .next (s.setFb b { s.fbs b with keySwitch := true })) ∧
  (∀ (s : State) (i : Nat), s.rtOn = true → i < 4096 → s.tick.num % (1000 / s.pms) = 0 → (s.nodeAt i).ident.state = 4 →
     (s.nodeAt i).isSensor = true → (s.prog i).satAt ≠ s.tick.num →
     exec (.satWindowEnd i) s = .next (
       let n := s.nodeAt i
       let t := s.setProg i { s.prog i with satAt := s.tick.num }
       let rate := t.get Fd.NODE_SAT_CFG_RATE_MAX
       let cnt := n.dyn.satCnt
       let sat := n.dyn.link.testBit 2
       let hit := if sat then decide (cnt ≤ rate / 2) else decide (rate < cnt)
       let run := if hit then n.dyn.satRun + 1 else 0
       let need := if sat then t.get Fd.NODE_SAT_CFG_OFF_S else t.get Fd.NODE_SAT_CFG_ON_S
       if hit ∧ need ≤ run then
         let u := t.setNode i (({ n with dyn := { n.dyn with satCnt := 0, satRun := 0 } } : Node).setLink 2 (!sat))
         if sat then u.nodeEv Ev.NODE_SENSOR_OK i [n.dyn.detDrop] else (u.irq Pg.node 6).nodeEv Ev.NODE_SENSOR_SAT i [cnt]
       else t.setDyn i { n.dyn with satCnt := 0, satRun := run })) ∧
  (∀ (s : State), s.appUp = true → s.nv.hist.nodeAt < s.utc / 900 →
     exec .nodeHistoryRecord s = .next (
       let q := s.utc / 900
       let h := s.nv.hist
       let n := if h.nodeAt = 0 then 1 else q - h.nodeAt
       let live := s.node.table.filter fun e => e.2.ident.state == 4 || e.2.ident.state == 5
       let recs := live.flatMap fun e => s.nodeRecords e.1 e.2 q n
       let tot := live.foldl (fun t e => Tab.set (fun _ => 0) t e.1 e.2.dyn.eTot) []
       { s with nv := { s.nv with hist := { h with
         node := newest nodeHistCap (h.node ++ recs), nodeAt := q, nodeE := tot } } }))

/-- The table window and the inputs (R183, R186, R407). Clauses that rest on the model's own choices: log entries 79
and 80. -/
def Obligations.TableWindowAndInputs : Prop :=
  (∀ (s : State) (ini k : Nat), k < 32 → s.reaches ini (Rg.NODE_ENT k) false = true →
     exec (.nodeEntRead ini k) s = .next (
       let t := s.takeSnapshot ini Pg.node (0x80 + 4 * k)
       (t.entNext Pg.node (0x80 + 4 * k)).respond
         ((t.latched ini Pg.node (0x80 + 4 * k)).getD (s.live ini Pg.node (0x80 + 4 * k))) false)) ∧
  (∀ (s : State) (ini k : Nat) (v : Word), k = 3 ∨ k = 4 → s.takes ini (Rg.NODE_ENT k) = true →
     noReserved (Rg.NODE_ENT k) v = true → (s.nodeAt (s.get Fd.NODE_ENT_SEL_INDEX)).ident.state ≠ 0 →
     s.get Fd.NODE_ENT_SEL_INDEX % 256 ≠ 0 → s.get Fd.NODE_ENT_SEL_INDEX % 256 ≠ 255 →
     exec (.nodeEntWrite ini k v) s = .next
       (((s.begun ini (Rg.NODE_ENT k)).nodeInput (.entWrite (s.get Fd.NODE_ENT_SEL_INDEX) k v)).toPartner
         (Rg.NODE_ENT k) v)) ∧
  (∀ (s : State) (i : Nat), s.rtOn = true → i < 8 → s.diOn i = true →
     (s.di i).raw ≠ (s.di i).lvl →
     exec (.diConfirm i) s = .next (
       let act := (s.di i).raw != bitN (s.get Fd.IO_DI_CFG_INVERT) i
       let l := s.ms :: s.diRecent i
       let v := (s.setDi i { s.di i with lvl := (s.di i).raw, changes := l, lastChange := s.ms }).countIn
       let w := if act = false ∧ v.flag (diStuck i) then
           ((v.put (diStuck i) 0).irq Pg.io 3).raise Ev.DI_CLEARED Pg.io [i, 1]
         else v
       let n := w.get Fd.IO_DI_CHATTER_N_N
       let x := if n ≠ 0 ∧ n < l.length ∧ w.flag (diChat i) = false then
           ((w.put (diChat i) 1).irq Pg.io 2).raise Ev.DI_CHATTER Pg.io [i, l.length]
         else w
       if x.flag (diDeb i) = (x.diOn i && act) then x.diEffect i
       else
         let y := x.put (diDeb i) (b2n (x.diOn i && act))
         ((if x.diOn i && act then y.diWake i else y).diEffect i).diDoor i)) ∧
  (∀ (s : State) (i : Nat), s.rtOn = true → i < 8 → s.diOn i = true → s.get ⟨Rg.IO_DI_STUCK_T, 0, 16⟩ ≠ 0 →
     s.flag (diDeb i) = true → s.flag (diStuck i) = false →
     (s.di i).lastChange + 1000 * s.get ⟨Rg.IO_DI_STUCK_T, 0, 16⟩ < s.ms →
     exec (.diStuck i) s = .next ((((s.put (diStuck i) 1).irq Pg.io 1).raise Ev.DI_STUCK Pg.io [i]).diEffect i)) ∧
  (∀ (s : State) (i : Nat), s.rtOn = true → i < 8 → s.flag (diChat i) = true →
     (s.di i).lastChange + 100 * s.get Fd.IO_DI_CHATTER_N_WIN ≤ s.ms →
     exec (.diChatterWindowEnd i) s =
       .next ((((s.put (diChat i) 0).irq Pg.io 3).raise Ev.DI_CLEARED Pg.io [i, 2]).diEffect i)) ∧
  (∀ (s : State) (i : Nat) (level vioC : Bool), i < 8 →
     exec (.diLevelChange i level vioC) s = .next (
       let t := s.setDi i { s.di i with raw := level }
       if t.pwr.state == .standby && vioC && level != bitN (t.get Fd.IO_DI_CFG_INVERT) i then t.diWake i else t))

/-- Feeder metering (R192, R196, R198, R208). The equations name the whole next state. Clauses that rest on the
model's own choices: log entries 82 and 85 to 88. -/
def Obligations.Metering : Prop :=
  (∀ (s : State) (n : Nat) (w : MetWin), s.rtOn = true → n < 4 → s.flag (Fd.run (Pg.met n)) = true →
     s.metFits n w.raw.length = true →
     exec (.metWindowEnd n w) s = .next (
       let ref := s.metRef n
       let freq := (w.freqs[ref.getD 0]?).getD 0
       let full := ref.isSome && decide (45000 ≤ freq) && decide (freq ≤ 65000)
       let m := s.metSt n
       let c := (List.range 7).map fun k => m.correct k (w.raw.map fun r => (r[k]?).getD 0)
       let ch := fun (k : Nat) => ((c.map (·.1))[k]?).getD []
       let ns := m.winNs w.raw.length
       let t := (s.metRefFlags n ref.isSome freq).metClip n w.clip
       let r := t.fresh
       let t := if ref.isSome then t.wr (Rg.MET_FREQ n) (BitVec.ofNat 32 (freq % 2 ^ 17))
         else r.2.wr (Rg.MET_FREQ n) (r.1 &&& 0x1FFFF)
       let t := (List.range 3).foldl (fun t p => t.metPhase n p ns (ch p) (ch (3 + p)) full) t
       let si := (t.rd (Rg.MET_SCALE_I n)).toNat
       let nn := if t.metOn n 6 then (dot (ch 6) (ch 6)).toNat else 0
       let t := t.wr (Rg.MET_IRMS n 3) (BitVec.ofNat 32 (rootDiv (nn * si * si) ((ch 6).length * 2 ^ 46)))
       let t := (t.metHarm n (c.map (·.1)) full).metMinute n
       let t := (t.setMet n ((t.metSt n).nextWin w.raw.length (c.map (·.2)))).addWrap ⟨Rg.MET_WIN_CNT n, 0, 32⟩ 1
       let t := (t.countIn.irq (Pg.met n) 0).postNotice 3 2 (Pg.met n) (t.rd (Rg.MET_WIN_CNT n)).toNat []
       if t.flag (Fd.en (Pg.met n)) then t else t.put (Fd.run (Pg.met n)) 0)) ∧
  (∀ (s : State) (ini n : Nat), n < 4 → s.reaches ini (Rg.MET_WIN_CNT n) false = true →
     exec (.metWinCntRead ini n) s = .next (
       let t := (span 0x58 0xAC).foldl (fun t k => t.setLatch ini (Pg.met n) k (s.live ini (Pg.met n) k)) s
       t.respond ((t.latched ini (Pg.met n) 0x54).getD (t.live ini (Pg.met n) 0x54)) false)) ∧
  (∀ (s : State) (ini n : Nat), n < 4 → s.reaches ini (Rg.MET_HARM_WIN n) false = true →
     exec (.harmWinRead ini n) s = .next (
       let t := if s.flag (Fd.MET_HARM_SEL_AUTOINC n) then
           s.put (Fd.MET_HARM_SEL_ORDER n)
             (if s.get (Fd.MET_HARM_SEL_ORDER n) = 31 then 1 else s.get (Fd.MET_HARM_SEL_ORDER n) + 1)
         else s
       t.respond (s.live ini (Pg.met n) 0xC0) false)) ∧
  (∀ (s : State), s.rtOn = true →
     exec .metEnergySave s = .next (
       let all := (List.range 72).foldl (fun t i =>
         Tab.set (fun _ => 0) t i (Tab.get (fun _ => 0) (s.metSt (i / 18)).energy (i % 18))) []
       { s with nv := { s.nv with energy := all, energyAt := s.get ⟨Rg.RTC_SEC_LO, 0, 32⟩, energyHoldup := false
                                  energyEver := true } })) ∧
  (∀ (s : State), s.appUp = true → s.nv.hist.feederAt < s.utc / 60 →
     exec .feederHistoryRecord s = .next (
       let q := s.utc / 60
       let h := s.nv.hist
       let due := if h.feederAt = 0 then 1 else q - h.feederAt
       let recs := (List.range due).flatMap fun k => (List.range 4).map fun n => s.feederRec n (q - 1) due k
       let e := (List.range 72).foldl (fun t i =>
         Tab.set (fun _ => 0) t (i / 18 * 64 + i % 18) (Tab.get (fun _ => 0) (s.metSt (i / 18)).energy (i % 18))) []
       let t : State := { s with nv := { s.nv with hist := { h with
         feeder := newest feederHistCap (h.feeder ++ recs), feederAt := q, feederE := e } } }
       (List.range 4).foldl (fun t n => t.setMet n { t.metSt n with
         sumV := [], sumI := [], sumF := 0, wins := 0, badRef := false, clipped := false }) t))

/-- Trace and calibration (R202, R203, R206). Clauses that rest on the model's own choices: log entries 89 to 91. -/
def Obligations.TraceAndCalibration : Prop :=
  (∀ (s : State) (ini node : Nat), node < 4096 → s.takes ini Rg.TRACE_NODE_SEL = true →
     (s.slot (s.get ⟨Rg.TRACE_CODE_SEL, 0, 6⟩)).state ≠ 1 →
     exec (.traceStart ini node) s = .next (
       let k := s.get ⟨Rg.TRACE_CODE_SEL, 0, 6⟩
       ((s.begun ini Rg.TRACE_NODE_SEL).setSlot k
         { s.slot k with nodeSel := node, want := true, node := node }).toPartner Rg.TRACE_NODE_SEL
           (BitVec.ofNat 32 (2 ^ 31 + node)))) ∧
  (∀ (s : State) (k : Nat), s.rtOn = true → k < 64 → (s.slot k).state = 1 → (s.slot k).start + 128 ≤ s.tick.num →
     exec (.traceDecision k) s = .next (
       let t := s.slot k
       let n := k / 16
       let ph := s.metPhases n
       let x := fun (p : Nat) => traceSum k t p 0
       let b := ph.foldl (fun b p => if x b < x p then p else b) 0
       let second := ph.foldl (fun m p => if p = b then m else max m (x p).natAbs) 0
       let len := (t.sent.filter (·)).length
       let den := max (max second (traceSum k t b 4).natAbs) (max len 1)
       let best := (x b).toNat
       if 0 < x b ∧ s.get Fd.TRACE_CFG_RATIO * den ≤ 10 * best then
         let u := s.setSlot k { t with
           state := 2, cause := 0, phase := b + 1, ratio := min (10 * best / den) 255
           amp := best / (max 1 (len * len)) % 65536, phaseWr := some (b + 1 + 4 * n) }
         (u.irq Pg.trace 0).raise Ev.TRACE_DONE Pg.trace
           [k, t.node, b + 1 + 4 * n, 10 * best / den, (s.nodeAt t.node).ident.phase]
       else s.traceFail k 8)) ∧
  (∀ (s : State) (ini : Nat) (v : Word), s.takes ini Rg.CAL_CH_SEL = true → noReserved Rg.CAL_CH_SEL v = true →
     getF v 0 5 ≤ 27 →
     exec (.calChSel ini v) s =
       .next (((s.begun ini Rg.CAL_CH_SEL).wr Rg.CAL_CH_SEL (BitVec.ofNat 32 (getF v 0 5))).calLoad.toPartner
         Rg.CAL_CH_SEL v)) ∧
  (∀ (s : State) (ini : Nat), s.takes ini Rg.CAL_CAL_CMD = true → s.flag Fd.CAL_CAL_STAT_BUSY = false →
     s.get ⟨Rg.CAL_GAIN, 0, 24⟩ ≠ 0 →
     exec (.calCommit ini) s = .next (
       let t := s.begun ini Rg.CAL_CAL_CMD
       let c := s.get ⟨Rg.CAL_CH_SEL, 0, 5⟩
       let r : CalRec := {
         gain := s.get ⟨Rg.CAL_GAIN, 0, 24⟩, phase := s.get ⟨Rg.CAL_PHASE, 0, 12⟩
         offset := s.get ⟨Rg.CAL_OFFSET, 0, 24⟩, src := 2, writes := min 65535 ((s.calRec c).writes + 1) }
       ((({ t with met := { t.met with calWr := some (c, r) } }.put Fd.CAL_CAL_STAT_BUSY 1).put Fd.CAL_CAL_STAT_RESULT
         0).put Fd.CAL_CAL_STAT_CH c).toPartner Rg.CAL_CAL_CMD 1)) ∧
  (∀ (s : State) (c : Nat) (r : CalRec), s.rtOn = true → s.met.calWr = some (c, r) →
     exec .calCommitDone s = .next (
       let old := s.calRec c
       let t : State := { s with met := { s.met with calWr := none } }
       let u : State := { t with nv := { t.nv with cal := Tab.set (fun _ => CalRec.factory) t.nv.cal c r } }
       (((u.put Fd.CAL_CAL_STAT_BUSY 0).irq Pg.cal 0).raise Ev.CAL_WRITTEN Pg.cal
         [c, old.gain, old.phase, old.offset, r.gain]).calCheck))

/-- The RTC (R216 to R221). The equations name the whole next state. Clauses that rest on the model's own choices:
log entries 96 to 99. -/
def Obligations.RealTimeClock : Prop :=
  (∀ (s : State) (dev : Int), s.rtc.stopped = none →
     exec (.rtcSecond dev) s = .next (
       let sec := (s.rtcSec + 1) % 2 ^ 40
       let r := s.rtcReach (s.rtc.secAt + 1000000000)
       let t := (({ r with rtc := { r.rtc with secAt := r.rtcNow } }).setRtcSec sec).irq Pg.rtc 0
       let u := if sec % 86400 = 0 then
           let w := t.get Fd.RTC_WEEKDAY_WDAY
           (t.put Fd.RTC_WEEKDAY_WDAY (if 6 ≤ w then 0 else w + 1)).irq Pg.rtc 5
         else t
       let v : State := if u.rtc.stage == RtcStage.init then u else u.rtcApplyStage
       if v.timeCur = 4 ∧ v.pwr.light = true ∧ 61000 < dev.natAbs then v.timeCorrect dev 4 else v)) ∧
  (∀ (s : State) (ini : Nat) (v : Word), s.rtcHeld = false →
     (s.takes ini Rg.RTC_CAL_DATE = true → noReserved Rg.RTC_CAL_DATE v = true →
       exec (.rtcStageWrite ini 1 v) s = .next ((s.begun ini Rg.RTC_CAL_DATE).setStage
         { s.rtc.stage with sec := none, date := some (v &&& 0x0FFF0F1F) })) ∧
     (s.takes ini Rg.RTC_CAL_TIME = true → noReserved Rg.RTC_CAL_TIME v = true →
       exec (.rtcStageWrite ini 2 v) s = .next ((s.begun ini Rg.RTC_CAL_TIME).setStage
         { s.rtc.stage with sec := none, time := some (v &&& 0x001F3F3F) })) ∧
     (s.takes ini Rg.RTC_WEEKDAY = true → noReserved Rg.RTC_WEEKDAY v = true → getF v 0 3 ≠ 7 →
       exec (.rtcStageWrite ini 3 v) s = .next ((s.begun ini Rg.RTC_WEEKDAY).setStage
         { s.rtc.stage with wday := some (getF v 0 3) })) ∧
     (s.takes ini Rg.RTC_SEC_LO = true → noReserved Rg.RTC_SEC_LO v = true →
       exec (.rtcStageWrite ini 0 v) s = .next (
         let hi := match s.heldHi ini Pg.rtc 0x44 with
           | some h => h.toNat % 256
           | none => s.get Fd.RTC_SEC_HI_SEC
         ((s.begun ini Rg.RTC_SEC_LO).setStage
           { s.rtc.stage with sec := some ((hi * 2 ^ 32 + v.toNat) % 2 ^ 40), date := none, time := none }).unhold
             ini Pg.rtc 0x44))) ∧
  (∀ (s : State) (ini : Nat), s.takes ini Rg.RTC_STAGE = true →
     exec (.rtcStageCancel ini) s = .next ((s.begun ini Rg.RTC_STAGE).setStage RtcStage.init)) ∧
  (∀ (s : State) (ini : Nat), s.reaches ini Rg.RTC_SEC_LO false = true →
     exec (.rtcSecLoRead ini) s = .next (
       let r := if s.rtc.stopped = none then s.rtcDraw else s
       let t := (span 0x44 0x54).foldl (fun t k => t.setLatch ini Pg.rtc k (r.live ini Pg.rtc k)) r
       t.respond ((t.latched ini Pg.rtc 0x40).getD (t.live ini Pg.rtc 0x40)) false)) ∧
  (∀ (s : State), s.rtc.stopped = none →
     exec .rtcCrystalStop s = .next (
       let r := s.rtcDraw
       let t : State := { r with rtc := { r.rtc with
         stopped := some r.rtcSub, wakeHeld := some ((r.rtcNow - r.rtc.wakeAt) / 3906250) } }
       let u := if t.flag Fd.RTC_OSF_OSF then t else (t.put Fd.RTC_OSF_OSF 1).irq Pg.rtc 2
       if u.timeCur = 4 ∧ u.pwr.light = true then u.timeReselect else u)) ∧
  (∀ (s : State) (c : Nat), s.rtc.stopped = some c →
     exec .rtcCrystalStart s = .next { s with rtc := { s.rtc with
       stopped := none, secAt := s.rtcNow - c * 1000000000 / 32768
       wakeHeld := none, wakeAt := s.rtcNow - s.rtc.wakeHeld.getD 0 * 3906250 } }) ∧
  (∀ (s : State), s.wakeOn = true → s.rtc.stopped = none →
     s.pwr.light = false ∨ s.rtc.wakeAt + s.get Fd.RTC_WAKE_CFG_COUNT * 3906250 ≤ s.rtcNow + 1000000 * s.pms →
     exec .wakeTimerExpire s = .next (
       let due := s.rtc.wakeAt + s.get Fd.RTC_WAKE_CFG_COUNT * 3906250
       let r := s.rtcReach due
       let t : State := { r with
         rtc := { r.rtc with wakeAt := due }, pwr := { r.pwr with wakeReq := setBitN r.pwr.wakeReq 0 true } }
       (if t.get Fd.RTC_WAKE_CFG_MODE = 2 then t.put Fd.RTC_WAKE_CFG_MODE 0 else t).irq Pg.rtc 1)) ∧
  (∀ (s : State) (ini : Nat) (v : Word), s.takes ini Rg.RTC_WAKE_CFG = true → noReserved Rg.RTC_WAKE_CFG v = true →
     exec (.wakeCfgWrite ini v) s = .next (
       let t := s.begun ini Rg.RTC_WAKE_CFG
       let w := setF (v &&& 0xC1FFFFFF) 0 25 (max 1 (min (getF v 0 25) 22118400))
       let r := (t.wr Rg.RTC_WAKE_CFG w).rtcDraw
       { r with rtc := { r.rtc with
           wakeAt := r.rtc.secAt + ((r.rtcNow - r.rtc.secAt) / 3906250 + 1) * 3906250
           wakeHeld := r.rtc.wakeHeld.map fun _ => 0 } })) ∧
  (∀ (s : State) (cyc : Int) (trim : Option Int), s.rtOn = true → s.timeCur ≤ 2 → s.get Fd.TIME_SRC_STAT_STATE = 3 →
     s.rtc.stopped = none →
     exec (.rtcDiscipline cyc trim) s = .next (
       let c := max (-2) (min cyc 2)
       let t : State := { s with rtc := { s.rtc with secAt := ((s.rtc.secAt : Int) + c * 1000000000 / 32768).toNat } }
       let utc := (((t.tai + t.tick.ofs : Nat) - (t.rtcNow - t.rtc.secAt : Nat) + 500000000 : Int) / 1000000000 - t.utcOfs -
         946684800).toNat
       let u := if t.rtcSec = utc then t else t.setStage { t.rtc.stage with engine := some ((utc + 1) % 2 ^ 40) }
       match trim with
       | some x =>
         if s.flag Fd.RTC_TRIM_AUTO then (u.putInt Fd.RTC_TRIM_TRIM (max (-2000) (min x 2000))).ageMeasure 9 (-x) else u
       | none => u))

/-- The time base (R213, R222 to R226, R229, R232, R234). The equations name the whole next state. Clauses that rest
on the model's own choices: log entries 92 to 95, 100 and 101. -/
def Obligations.TimeSources : Prop :=
  (∀ (s : State) (h : PtpHdr) (port seq : Nat) (two : Bool) (sec ns : Nat) (corr rx : Int), s.netUp = true →
     exec (.ptpSyncReceived h port seq two sec ns corr rx) s =
       .next ((s.ptpSync 0 port seq h two sec ns corr rx).ptpSync 1 port seq h two sec ns corr rx)) ∧
  (∀ (s : State) (h : PtpHdr) (port seq sec ns : Nat) (corr : Int), s.netUp = true →
     exec (.ptpFollowUpReceived h port seq sec ns corr) s =
       .next ((s.ptpFollowUp 0 port seq h sec ns corr).ptpFollowUp 1 port seq h sec ns corr)) ∧
  (∀ (s : State) (h : PtpHdr) (port : Nat) (m : AnnounceMsg), s.netUp = true →
     exec (.ptpAnnounceReceived h port m) s = .next ((s.ptpAnnounce 0 port h m).ptpAnnounce 1 port h m)) ∧
  (∀ (s : State) (h : PtpHdr) (port seq sec ns : Nat) (corr : Int), s.netUp = true →
     exec (.ptpDelayRespReceived h port seq sec ns corr) s =
       .next ((s.ptpDelayResp 0 port seq h sec ns corr).ptpDelayResp 1 port seq h sec ns corr)) ∧
  (∀ (s : State) (k port : Nat) (h : PtpHdr), s.ptpHears k port h =
     (s.time.on && s.pwr.netOn && !h.unicast && decide (h.minor ≤ 1) && decide (h.carrier ≤ 2) && decide (h.dom ≤ 239) &&
       h.dom == s.domNum k && s.srcState k != 0 && !(k == 1 && s.time.same) && (s.domPorts k).testBit port)) ∧
  (∀ (s : State) (k port seq : Nat) (h : PtpHdr) (two : Bool) (sec ns : Nat) (corr rx : Int), s.ptpHears k port h = true →
     s.ptpSync k port seq h two sec ns corr rx =
       if (s.ptp k).master = some h.src ∧ -7 ≤ h.interval ∧ h.interval ≤ 1 then
         let t := s.setPtp k { s.ptp k with transport := h.carrier }
         if two then t.setPtp k { t.ptp k with sync := some (seq, rx, corr) }
         else
           let ms := rx - (ptpExtend (s.taiSec : Int) ((sec % 2 ^ 48 : Nat) : Int) * 1000000000 + ns) - corr
           (t.setPtp k { t.ptp k with toSlave := some ms, sync := none }).timeMeasure k ((s.ptp k).delay - ms)
       else s) ∧
  (∀ (s : State) (k port seq q sec ns : Nat) (h : PtpHdr) (corr rx c : Int), s.ptpHears k port h = true →
     (s.ptp k).master = some h.src → (s.ptp k).sync = some (q, rx, c) →
     s.ptpFollowUp k port seq h sec ns corr =
       if q = seq then
         let ms := rx - (ptpExtend (s.taiSec : Int) ((sec % 2 ^ 48 : Nat) : Int) * 1000000000 + ns) - (c + corr)
         (s.setPtp k { s.ptp k with toSlave := some ms, sync := none }).timeMeasure k ((s.ptp k).delay - ms)
       else s) ∧
  (∀ (s : State) (k port seq q sec ns : Nat) (h : PtpHdr) (corr t3 ms : Int), s.ptpHears k port h = true →
     (s.ptp k).master = some h.src → (s.ptp k).req = some (q, t3) → (s.ptp k).toSlave = some ms →
     s.ptpDelayResp k port seq h sec ns corr =
       if q = seq then s.setPtp k { s.ptp k with
         req := none
         delay := (ms + (ptpExtend (s.taiSec : Int) ((sec % 2 ^ 48 : Nat) : Int) * 1000000000 + ns - t3 - corr)) / 2 }
       else s) ∧
  (∀ (s : State) (k port : Nat) (h : PtpHdr) (m : AnnounceMsg), s.ptpHears k port h = true →
     s.ptpAnnounce k port h m =
       if s.domMax k < m.cls then
         if (s.ptp k).master = some h.src then (s.ptpNoMaster k).timeReselect else s
       else if m.best = false then s
       else
         let mine := (s.ptp k).master == some h.src
         let d := if mine then s.ptp k else { PtpDom.init with out := (s.ptp k).out }
         let t := s.setPtp k { d with
           master := some h.src, dom := h.dom, utcOfs := m.utcOfs, utcValid := m.utcValid
           leap := if m.leap61 then 1 else if m.leap59 then 2 else 0 }
         let u := if k = 0 then (t.put Fd.TIME_DOM_A_STAT_CLASS m.cls).put Fd.TIME_DOM_A_STAT_PORT port
           else (t.put Fd.TIME_DOM_B_STAT_CLASS m.cls).put Fd.TIME_DOM_B_STAT_PORT port
         if mine then u.updUtc else (if u.srcState k = 5 then u else u.put (srcField k) 2).timeReselect) ∧
  (∀ (s : State) (k port seq sec ns : Nat) (h : PtpHdr) (two : Bool) (corr rx : Int) (m : AnnounceMsg),
     s.ptpHears k port h = false →
     s.ptpSync k port seq h two sec ns corr rx = s ∧ s.ptpFollowUp k port seq h sec ns corr = s ∧
     s.ptpDelayResp k port seq h sec ns corr = s ∧ s.ptpAnnounce k port h m = s) ∧
  (∀ (s : State) (k seq : Nat) (t : Int), s.netUp = true → k ≤ 1 → s.time.on = true → (s.ptp k).master.isSome = true →
     exec (.ptpDelayReqSend k seq t) s = .next (s.setPtp k { s.ptp k with
       req := some (seq, t)
       out := some {
         seq, carrier := (s.ptp k).transport, fix := ⟨(s.ptp k).transport == 0, (s.ptp k).transport == 1⟩
         mac := portMac (s.get (if k = 0 then Fd.TIME_DOM_A_STAT_PORT else Fd.TIME_DOM_B_STAT_PORT))
         sec := (t / 1000000000 % 2 ^ 48).toNat, ns := (t % 1000000000).toNat } })) ∧
  (∀ (s : State) (k : Nat), s.rtOn = true → k ≤ 1 → s.time.on = true → s.srcState k ≠ 0 → s.srcState k ≠ 5 →
     exec (.ptpTimeout k) s = .next (
       let t := s.setPtp k { PtpDom.init with transport := (s.ptp k).transport, out := (s.ptp k).out }
       let u := t.put (if k = 0 then Fd.TIME_DOM_A_STAT_CLASS else Fd.TIME_DOM_B_STAT_CLASS) 255
       (u.put (srcField k) 1).timeReselect)) ∧
  (∀ (s : State) (kind sec : Nat), s.rtOn = true → s.gnssOn = true → kind = 0 ∨ kind = 2 →
     exec (.gnssSentenceReceived kind sec true) s = .next (
       if s.flag Fd.TIME_GNSS_CFG_PPS_REL then
         match s.time.gnss.edge with
         | some e => s.gnssPair sec e
         | none => s
       else s.setGnss { s.time.gnss with named := some sec })) ∧
  (∀ (s : State) (t : Int), s.rtOn = true → s.gnssOn = true →
     exec (.ppsInEdge t) s = .next (
       if s.flag Fd.TIME_GNSS_CFG_PPS_REL then s.setGnss { s.time.gnss with edge := some t }
       else match s.time.gnss.named with
         | some sec => s.gnssPair sec t
         | none => s)) ∧
  (∀ (s : State) (reason : Nat), s.rtOn = true → 2 ≤ s.srcState 2 →
     exec (.gnssLost reason) s = .next (
       (((s.setGnss GnssSt.init).put (srcField 2) 1).raise Ev.GNSS_LOST Pg.time [reason]).timeReselect)) ∧
  (∀ (s : State) (k : Nat), s.rtOn = true → s.flag Fd.TIME_SRC_SEL_FORCE = false → s.timeCur ≤ 2 → s.srcOk k = true →
     k ≠ s.timeCur → k ∈ s.srcOrder → s.srcOrder.idxOf k < s.srcOrder.idxOf s.timeCur →
     exec (.srcRevert k) s = .next ((s.timeSelect k).updUtc)) ∧
  (∀ (s : State), s.rtOn = true → s.timeCur = 3 → s.get Fd.TIME_HOLD_CFG_HOLD_MAX ≤ s.holdMin →
     exec .timeRtcFallback s = .next (s.rtcFallback s.holdMin)) ∧
  (∀ (s : State) (w : StepWait), s.rtOn = true → s.time.wait = some w →
     exec .stepWaitEnd s = .next (
       let t : State := { s with time := { s.time with wait := none } }
       if w.ok then (t.timeStep w.latest s.timeCur).timeState
       else (((t.put (srcField s.timeCur) 2).setMeas s.timeCur SrcMeas.init).timeSelect 3).updUtc)) ∧
  (∀ (s : State), s.rtOn = true → s.leapPending = 1 ∨ s.leapPending = 2 →
     exec .timeLeap s = .next (
       let delta : Int := if s.leapPending = 1 then 1 else -1
       let new := s.utcOfs + delta
       let t := match s.utcSource with
         | some k => s.setPtp k { s.ptp k with utcOfs := (s.ptp k).utcOfs + delta, leap := 0 }
         | none => s.putInt Fd.TIME_UTC_OFS_CFG new
       let u := (t.put Fd.TIME_LEAP_PEND 0).putInt Fd.TIME_UTC_OFS_CUR new
       let v : State := { u with sched := { u.sched with adjusted := u.sched.adjusted || s.leapPending == 2 } }
       (v.irq Pg.time 4).raise Ev.TIME_LEAP Pg.time [pInt delta, pInt new])) ∧
  (∀ (s : State), s.rtOn = true → s.flag Fd.TIME_PPS_CFG_EN = true →
     s.flag Fd.TIME_PPS_CFG_LOCKED_ONLY = false ∨ s.get Fd.TIME_SRC_STAT_STATE = 3 →
     (∀ t, s.time.ppsAt = some t → t + 500000000 ≤ s.ns) →
     exec .ppsOutPulse s =
       .next { s with time := { s.time with ppsAt := some s.ns, ppsCnt := s.time.ppsCnt + 1 } }) ∧
  (∀ (s : State) (ini : Nat), s.reaches ini Rg.TIME_NOW_NS false = true →
     exec (.timeNowRead ini) s = .next (
       let t := s.takeSnapshot ini Pg.time 0x80
       t.respond ((t.latched ini Pg.time 0x80).getD (t.live ini Pg.time 0x80)) false))

/-- Schedules (R242, R253). The equations name the whole next state. Clauses that rest on the model's own choices:
log entry 109. -/
def Obligations.Schedules : Prop :=
  (∀ (s : State) (ini k : Nat) (v : Word), k < 3 → s.takes ini (Rg.SCHED_ENT_WIN k) = true →
     noReserved (Rg.SCHED_ENT_WIN k) v = true →
     exec (.schedEntStage ini k v) s = .next (
       let t := s.begun ini (Rg.SCHED_ENT_WIN k)
       ({ t with sched := { t.sched with stage := Tab.set (fun _ => 0) t.sched.stage (ini * 4 + k) v } } : State).toPartner
         (Rg.SCHED_ENT_WIN k) v)) ∧
  (∀ (s : State) (ini : Nat) (v : Word), s.takes ini (Rg.SCHED_ENT_WIN 3) = true →
     noReserved (Rg.SCHED_ENT_WIN 3) v = true →
     exec (.schedEntCommit ini v) s = .next (
       let t := s.begun ini (Rg.SCHED_ENT_WIN 3)
       let g := fun (w : Nat) => Tab.get (fun _ => 0) t.sched.stage (ini * 4 + w)
       let e : SchedEnt := { SchedEnt.init with w0 := g 0, w1 := g 1, w2 := g 2, w3 := v, fresh := true }
       let u : State := { t with sched := { t.sched with stage := Tab.clear (fun k => k / 4 == ini) t.sched.stage } }
       (if e.ok then
         ({ u with sched := { u.sched with commits := u.sched.commits ++ [(u.get Fd.SCHED_ENT_SEL_INDEX, e)] } }).put
           Fd.SCHED_ENT_SEL_ERR 0
       else u.put Fd.SCHED_ENT_SEL_ERR 1).toPartner (Rg.SCHED_ENT_WIN 3) v)) ∧
  (∀ (s : State) (ini : Nat), s.reaches ini (Rg.SCHED_ENT_WIN 0) false = true →
     exec (.schedEntRead ini) s = .next (
       let t := (span 0x48 0x54).foldl (fun t k => t.setLatch ini Pg.sched k (s.live ini Pg.sched k)) s
       t.respond ((t.latched ini Pg.sched 0x44).getD (t.live ini Pg.sched 0x44)) false)) ∧
  (∀ (s : State) (ini lvl : Nat), lvl < 65536 → s.takes ini Rg.SCHED_FB_CFG = true →
     exec (.schedFbSave ini lvl) s = .next (
       let v := BitVec.ofNat 32 (2 ^ 31 + lvl)
       ((((s.begun ini Rg.SCHED_FB_CFG).store Pg.sched 0x94 v).persist Pg.sched 0x94).fbSave).toPartner Rg.SCHED_FB_CFG v)) ∧
  (∀ (s : State) (f : FbSched), s.rtOn = true → s.sched.saving = some f →
     exec .schedFbSaved s = .next (
       let first := match s.nv.schedFb0, s.nv.schedFb1 with
         | none, _ => true
         | some _, none => false
         | some a, some b => seqNewer a.seq b.seq
       let t : State := { s with sched := { s.sched with saving := none } }
       let u : State := if first then { t with nv := { t.nv with schedFb0 := some f } }
         else { t with nv := { t.nv with schedFb1 := some f } }
       ((u.put (Fd.statBit Pg.sched 8) 0).irq Pg.sched 5).raise Ev.SCHED_FB_SAVED Pg.sched [f.saved, f.left, f.seq]))

/-- Ring switch and ERPS (R257, R259 to R261). The equations name the whole next state; what G.8032 leaves to the
standard is the model's reading (log entries 110 to 116 and 180). -/
def Obligations.RingProtection : Prop :=
  (∀ (s : State) (p v : Nat) (f : NetFrame), s.rtOn = true → s.pwr.netOn = true → s.flag (Fd.en Pg.sw) = true → p ≤ 4 →
     (if p = 4 then s.pwr.appOn else s.portUp p) = true → f.fcsOk = true → f.raps = false → f.vid = some v →
     (p < 2 → bitN (s.get Fd.SW_ERPS_STAT_BLOCKED) p = false) →
     exec (.swFrameForward p f) s = .next (
       let t := if p < 4 then s.add (whole (Rg.PORT_RX_FRAMES p)) 1 else s
       let r := t.frameRoute p f
       let dest := if t.ringTransit p f && !unicast f.dst then r.1 ++ (if r.1.contains 4 then [] else [4]) else r.1
       let u := match r.2 with
         | some w => t.macLearn w f.src p
         | none => t
       let egress := dest.filter u.egressOk
       let w := if egress.isEmpty || (dest.contains 4 && !u.pwr.appOn) then u.add (whole Rg.SW_DROP) 1 else u
       if egress.isEmpty then w
       else
         let prio := if f.ptp == 1 || f.ptp == 2 then 7 else f.pcp % 8
         let tc := w.flag Fd.TIME_TC_CFG_EN && decide (p < 4) && (f.ptp == 1 || f.ptp == 2) && decide (f.carrier < 3) &&
           egress.any (· < 4)
         let x := egress.foldl (fun t q => if q < 4 then t.add (whole (Rg.PORT_TX_FRAMES q)) 1 else t) w
         { x with net := { x.net with
             out := some ⟨egress, prio, r.2, if tc then f.res else 0, if tc then some ⟨f.carrier == 0, f.carrier == 1⟩
               else none⟩ } })) ∧
  (∀ (s : State) (vid mac : Nat) (e : Nat × Nat), s.netUp = true →
     Tab.get (fun _ => none) s.net.mac (macKey vid mac) = some e → s.pwr.light = false ∨ e.2 + 300000 ≤ s.ms + s.pms →
     exec (.macAge vid mac) s = .next
       { s with net := { s.net with mac := Tab.set (fun _ => none) s.net.mac (macKey vid mac) none } }) ∧
  (∀ (s : State) (n : Nat), s.netUp = true → n < 2 → bitN s.net.erps.present n = false →
     exec (.ringSf n) s = .next (
       let t := (s.put (Fd.PORT_LINK_SIGNAL n) 0).setErps { s.net.erps with present := setBitN s.net.erps.present n true }
       if !t.erpsOn then t
       else if t.get Fd.SW_ERPS_TMR_HOLDOFF ≠ 0 then
         t.setErps { t.net.erps with hold := setBitN t.net.erps.hold n true }
       else t.erpsSf n)) ∧
  (∀ (s : State) (n : Nat), s.netUp = true → n < 2 → bitN s.net.erps.present n = true → s.erpsOn = true →
     bitN s.net.erps.acted n = true → s.get Fd.SW_ERPS_STAT_STATE = 2 →
     exec (.ringSignalRestore n) s = .next (
       let e := s.net.erps
       let t := (s.put (Fd.PORT_LINK_SIGNAL n) 1).setErps
         { e with present := setBitN e.present n false, hold := setBitN e.hold n false, acted := setBitN e.acted n false }
       if t.net.erps.acted ≠ 0 then t.erpsBlock t.net.erps.acted
       else (((t.setErps { t.net.erps with guard := true }).erpsTx (some .nr)).startWtr).erpsTo 5)) ∧
  (∀ (s : State) (m : RapsMsg), s.netUp = true → s.erpsOn = true → s.net.erps.guard = false →
     m.ringId = s.get Fd.SW_ERPS_CFG_RING_ID → m.mel = s.get Fd.SW_ERPS_CFG_MEL →
     exec (.rapsReceived m) s =
       .next ((if s.get Fd.SW_ERPS_STAT_STATE = 0 then s.erpsInitDone else s).rapsAct m)) ∧
  (∀ (s : State) (t : Nat), s.netUp = true → s.erpsOn = true → s.net.erps.wtr = some t → s.rplOwner = true →
     s.get Fd.SW_ERPS_STAT_STATE = 5 →
     exec .wtrExpire s = .next ((((s.stopWtr.erpsBlock s.rplMask).erpsTx (some .nrRb))).erpsTo 1)) ∧
  (∀ (s : State) (n : Nat), s.netUp = true → s.erpsOn = true → bitN s.net.erps.hold n = true →
     exec (.holdoffExpire n) s = .next (if bitN s.net.erps.present n then s.erpsSf n
       else s.setErps { s.net.erps with hold := setBitN s.net.erps.hold n false })) ∧
  (∀ (s : State), s.netUp = true → s.net.erps.guard = true →
     exec .guardExpire s = .next (s.setErps { s.net.erps with guard := false })) ∧
  (∀ (s : State) (ini n : Nat), n < 2 → s.takes ini Rg.SW_ERPS_CMD = true → s.erpsOn = true →
     exec (.erpsForcedSwitch ini n) s = .next (
       let t := s.begun ini Rg.SW_ERPS_CMD
       let e := s.net.erps
       let other := if bitN e.acted (1 - n) || bitN e.present (1 - n) then 2 ^ (1 - n) else 0
       (((t.stopWtr.erpsBlock (2 ^ n + other)).erpsTx (some .fs)).erpsTo 4).erpsCmdDone 1 false)) ∧
  (∀ (s : State) (ini n : Nat), n < 2 → s.takes ini Rg.SW_ERPS_CMD = true → s.erpsOn = true →
     exec (.erpsManualSwitch ini n) s = .next (
       let t := s.begun ini Rg.SW_ERPS_CMD
       let st := s.get Fd.SW_ERPS_STAT_STATE
       if s.net.erps.present ≠ 0 ∨ s.net.erps.acted ≠ 0 ∨ (st ≠ 1 ∧ st ≠ 5) then t.erpsCmdDone 2 true
       else (((t.stopWtr.erpsBlock (2 ^ n)).erpsTx (some .ms)).erpsTo 3).erpsCmdDone 2 false)) ∧
  (∀ (s : State) (ini : Nat), s.takes ini Rg.SW_ERPS_CMD = true → s.erpsOn = true →
     exec (.erpsClear ini) s = .next (
       let t := s.begun ini Rg.SW_ERPS_CMD
       let st := s.get Fd.SW_ERPS_STAT_STATE
       let e := s.net.erps
       let u :=
         if (st = 4 ∧ e.tx = some .fs) ∨ (st = 3 ∧ e.tx = some .ms) then
           if e.acted ≠ 0 then ((t.erpsBlock e.acted).erpsTx (some .sf)).erpsTo 2
           else (((t.setErps { e with guard := true }).erpsTx (some .nr)).startWtr).erpsTo 5
         else if st = 5 ∧ t.rplOwner then t.erpsRevert
         else t
       u.erpsCmdDone 3 false)) ∧
  (∀ (s : State) (ini : Nat) (v : Word), s.takes ini Rg.SW_ERPS_CFG = true → noReserved Rg.SW_ERPS_CFG v = true →
     exec (.erpsCfgWrite ini v) s = .next (
       let t := s.begun ini Rg.SW_ERPS_CFG
       let u := (t.store Pg.sw 0x48 v).persist Pg.sw 0x48
       if u.rd Rg.SW_ERPS_CFG = t.rd Rg.SW_ERPS_CFG then u
       else if u.flag Fd.SW_ERPS_CFG_EN then u.erpsStart
       else ((u.setErps { Erps.init with present := u.net.erps.present }).erpsBlock 0).put Fd.SW_ERPS_STAT_STATE 0)) ∧
  (∀ (s : State) (n : Nat) (inserted fault : Bool), s.netUp = true → n < 2 → s.portOn n = true →
     exec (.ringSfp n inserted fault) s = .next (
       let t := (s.put (Fd.PORT_LINK_SFP_PRESENT n) (b2n inserted)).put (Fd.PORT_LINK_TX_FAULT n) (b2n fault)
       let u := (t.irq (Pg.port n) 2).raise Ev.RING_SFP (Pg.port n) [n, b2n inserted]
       if inserted then u else u.ringSf n)) ∧
  (∀ (s : State) (n mbps : Nat), s.netUp = true → s.portOn n = true → s.flag (Fd.PORT_LINK_UP n) = false →
     n < 2 ∨ mbps = 1000 →
     exec (.portLinkUp n mbps) s = .next ((((s.put (Fd.PORT_LINK_UP n) 1).put (Fd.PORT_LINK_SIGNAL n) 1).irq
       (Pg.port n) 0).raise Ev.PORT_LINK_UP (Pg.port n) [n])) ∧
  (∀ (s : State) (n : Nat), s.netUp = true → n < 4 → s.flag (Fd.PORT_LINK_UP n) = true →
     exec (.portLinkDown n) s = .next (
       ((((s.put (Fd.PORT_LINK_UP n) 0).put (Fd.PORT_LINK_SIGNAL n) 0).add (whole (Rg.PORT_DOWN_CNT n)) 1).irq
         (Pg.port n) 1).raise Ev.PORT_LINK_DOWN (Pg.port n) [n]))

/-- The lamp service protocol (R264, R266, R268, R269). Clauses that rest on the model's own choices: log entries 117
to 123. -/
def Obligations.HeadEndLink : Prop :=
  (∀ (s : State) (h : DtlsHello) (k : Nat), s.lspUp = true → s.pwr.appOn = true → s.pwr.netOn = true →
     s.peerOf h.addr = some k → h.v13 = true → h.psk = false → (0x1301 ∈ h.suites ∨ 0x1302 ∈ h.suites) →
     exec (.dtlsHandshake h) s = .next (
       if h.certOk = false then s.raise Ev.LSP_AUTH_FAIL Pg.sw [k]
       else
         let t := match s.sess k with
           | some _ => s.raise Ev.LSP_SESSION_DOWN Pg.sw [k, 2]
           | none => s
         let suite := if 0x1301 ∈ h.suites then 0x1301 else 0x1302
         let u := t.setSess k (some {
           suite, lastRx := t.ms, lastTx := t.ms, nextSeq := 1, cursor := t.lspStart k, msgs := [] })
         ((u.raise Ev.LSP_SESSION_UP Pg.sw [k]).lspResume k).lspSend k 8)) ∧
  (∀ (s : State) (k queued core : Nat) (x : Session) (m : List Nat) (p : LspMsg), s.appUp = true → k < 4 →
     s.sess k = some x → lspParse m = some p → p.ver = 1 → p.typ = 1 → p.len = p.body.length → p.len % 12 = 0 →
     12 ≤ p.len → p.len ≤ 1176 → queued < 4 →
     ((Tab.get (fun _ => []) (s.heardPeer k).net.store k).find? fun e => e.1 == p.reqId) = none →
     exec (.lspRegBatch k queued core m) s = .next (
       let t := s.heardPeer k
       let kept := Tab.get (fun _ => []) t.net.store k
       let r := t.batchRun (core % 4 + 1) (p.flags.testBit 0) (batchOps (p.len / 12) p.body)
       let l := (kept ++ [(p.reqId, r.1)]).drop (kept.length - 15)
       let u : State := { r.2 with net := { r.2.net with store := Tab.set (fun _ => []) r.2.net.store k l } }
       u.lspOut k (lspBytes 2 p.reqId 0 (r.1.flatMap BatchOp.bytes)))) ∧
  (∀ (s : State) (k : Nat) (x : Session) (m : List Nat) (p : LspMsg), s.appUp = true → k < 4 → s.sess k = some x →
     lspParse m = some p → p.ver = 1 → p.typ = 0x11 → p.len = 0 → p.body = [] →
     exec (.eventAck k m) s = .next ((s.heardPeer k).eventAck k p.seq)) ∧
  (∀ (s : State) (k seq : Nat) (x : Session), s.sess k = some x → seq < x.nextSeq →
     s.eventAck k seq = (
       let done := x.msgs.filter fun m => decide (m.seq ≤ seq)
       let t := s.setSess k (some { x with lastRx := s.ms, msgs := x.msgs.filter fun m => decide (seq < m.seq) })
       let u := match done.getLast?.bind (fun m => m.recs.getLast?) with
         | none => t
         | some i => { t with net := { t.net with
             acked := Tab.set (fun _ => none) t.net.acked k (some ((i + 1) % 2 ^ 32)) } }
       u.lspSend k 8)) ∧
  (∀ (s : State) (k seq : Nat) (x : Session) (e : EvMsg), s.appUp = true → s.sess k = some x →
     x.msgs.find? (fun m => m.seq == seq) = some e →
     exec (.lspEventResend k seq) s = .next (
       let t := s.setSess k (some { x with msgs := x.msgs.map fun m => if m.seq = seq then { m with sentAt := s.ms } else m })
       (t.lspOut k (lspBytes 0x10 0 e.seq e.body)).lspSend k 8)) ∧
  (∀ (s : State) (k : Nat) (x : Session), s.appUp = true → s.sess k = some x →
     exec (.keepalive k) s = .next (s.setSess k (some { x with
       lastTx := s.ms, sent := [1, 0x30, 0, 0, 0, 0, 0, 0, 0, 0, 0, 0, 0, 0, 0, 0] }))) ∧
  (∀ (s : State) (k : Nat) (x : Session) (m : List Nat), s.appUp = true → s.sess k = some x →
     4 ≤ k ∨ (∃ p, lspParse m = some p ∧ p.ver = 1 ∧ p.typ = 0x30 ∧ p.len = 0 ∧ p.body = []) →
     exec (.keepaliveReceived k m) s = .next (s.setSess k (some { x with lastRx := s.ms }))) ∧
  (∀ (s : State) (k queued core : Nat) (x : Session) (m : List Nat) (p : LspMsg), s.appUp = true → k < 4 →
     s.sess k = some x → lspParse m = some p → p.ver ≠ 1 →
     exec (.lspRegBatch k queued core m) s =
       .next ((s.heardPeer k).lspOut k (lspBytes 0x3F p.reqId 0 [0, 1]))) ∧
  (∀ (s : State) (k : Nat) (alert : Bool) (x : Session), s.appUp = true → s.sess k = some x →
     exec (.lspSessionDown k alert) s =
       .next ((s.setSess k none).raise Ev.LSP_SESSION_DOWN Pg.sw [k, if alert then 3 else 1]))

/-- The interrupt unit (R278, R279, R281, R282). Clauses that rest on the model's own choices: log entries 124 and
125. -/
def Obligations.InterruptUnit : Prop :=
  (∀ (s : State) (c i : Nat), s.appUp = true → c < 4 → s.iuEntry c = some i →
     exec (.iuDelivery c) s = .next (
       let t := s.setEntry c none
       match t.iuPick c i with
       | none => t
       | some j => ((t.setStack c ((j, t.get (inBank Fd.IU_SRC_CFG_PRIO j)) :: t.iuStack c)).iuJump c
         (0x20 * j)).iuLook c)) ∧
  (∀ (s : State) (c src : Nat), c < 4 → src < 256 → s.takes (c + 1) (Rg.IUC_EOI c) = true →
     exec (.iuEoi c src) s = .next (
       let t := s.begun (c + 1) (Rg.IUC_EOI c)
       match t.iuStack c with
       | [] => t.iuFault c src
       | e :: l => if e.1 = src then ((t.setStack c l).coalSettle).iuLook c else t.iuFault c src)) ∧
  (∀ (s : State) (ini : Nat) (v : Word), s.takes ini (Rg.reg Pg.iu 0x1C) = true →
     exec (.iuDoorbellSet ini v) s = .next ((List.range 32).foldl (fun t j =>
       if bitW v j then t.withReq (224 + j) (·.put ⟨Rg.IU_DOORBELL, j, 1⟩ 1) else t) (s.begun ini (Rg.reg Pg.iu 0x1C)))) ∧
  (∀ (s : State) (ini : Nat) (v : Word), s.takes ini Rg.IU_DOORBELL = true → noReserved Rg.IU_DOORBELL v = true →
     exec (.iuDoorbellClear ini v) s = .next (
       let t := s.begun ini Rg.IU_DOORBELL
       ((t.wr Rg.IU_DOORBELL (t.rd Rg.IU_DOORBELL &&& ~~~v)).coalSettle).iuLookAll)) ∧
  (∀ (s : State) (g : Nat), s.appUp = true → 1 ≤ g → g < 16 → (s.coal g).timer = true → (s.coal g).opened = false →
     exec (.coalOpen g) s = .next (((s.setCoal g { s.coal g with opened := true }).coalSettle).iuLookAll))

/-- The queue manager (R283, R285, R287, R289). Clauses that rest on the model's own choices: log entries 131 to 133. -/
def Obligations.Queues : Prop :=
  (∀ (s : State) (ini q w : Nat) (v : Word), q < 64 → w < 7 → s.takes ini (itemReg q w) = true →
     noReserved (itemReg q w) v = true →
     exec (.queueStageWrite ini q w v) s = .next (
       let t := s.begun ini (itemReg q w)
       { t with qm := { t.qm with
         stage := Tab.set (fun _ => 0) t.qm.stage (qwKey ini q w) v
         part := Tab.set (fun _ => false) t.qm.part (ini * 64 + q) true } })) ∧
  (∀ (s : State) (ini q : Nat) (v : Word), q < 64 → s.takes ini (itemReg q 7) = true → noReserved (itemReg q 7) v = true →
     exec (.queuePush ini q v) s = .next (
       let t := s.begun ini (itemReg q 7)
       if Tab.get (fun _ => false) t.qm.torn (ini * 64 + q) then
         (t.qUnstage ini q).add (inBank Fd.QM_Q_ERR_TORN q) 1
       else
         let it := (List.range 7).map (fun w => Tab.get (fun _ => 0) t.qm.stage (qwKey ini q w)) ++ [v]
         let u := (t.qUnstage ini q).qCheck q
         if getF (it.headD 0) 0 8 = 0xFF then u.add (inBank Fd.QM_Q_ERR_BAD q) 1
         else if !u.qOn q || decide (u.qCap q ≤ (u.qItems q).length) then u.qOverflow q
         else u.setItems q (u.qItems q ++ [setAborted it false]))) ∧
  (∀ (s : State) (ini q : Nat), q < 64 → s.reaches ini (itemReg q 0) false = true →
     exec (.queuePop ini q) s = .next (
       let t := s.qCheck q
       let ok := fun (x : State) => ({ x with qm := { x.qm with
         stalled := Tab.set (fun _ => false) x.qm.stalled q false } } : State)
       match t.qOn q, t.qItems q with
       | true, it :: l => ((ok ((t.setItems q l).qLatch ini q it)).coalSettle).respond (it.headD 0) false
       | _, _ => ((ok t).qLatch ini q idleItem).respond 0xFF false)) ∧
  (∀ (s : State) (ini q w : Nat), q < 64 → 1 ≤ w → w < 8 → s.reaches ini (itemReg q w) false = true →
     (s.latched ini Pg.qmq (0x800 + 32 * q + 4 * w)) = none →
     exec (.queueLatchRead ini q w) s = .next (s.respond (s.live ini Pg.qmq (0x800 + 32 * q + 4 * w)) false)) ∧
  (∀ (s : State) (ini : Nat) (v : Word), s.takes ini Rg.QM_Q_CFG = true → noReserved Rg.QM_Q_CFG (v ||| 0x80000000) = true →
     exec (.queueEnable ini v) s =
       .next ((s.begun ini Rg.QM_Q_CFG).qCfgWrite (s.get ⟨Rg.QM_Q_SEL, 0, 6⟩) (v ||| 0x80000000))) ∧
  (∀ (s : State) (ini : Nat), s.takes ini Rg.QM_Q_CFG = true →
     noReserved Rg.QM_Q_CFG (s.qCfgWord (s.get ⟨Rg.QM_Q_SEL, 0, 6⟩) ||| 0x20000000) = true →
     exec (.queueFlush ini) s = .next ((s.begun ini Rg.QM_Q_CFG).qCfgWrite (s.get ⟨Rg.QM_Q_SEL, 0, 6⟩)
       (s.qCfgWord (s.get ⟨Rg.QM_Q_SEL, 0, 6⟩) ||| 0x20000000))) ∧
  (∀ (s : State) (q : Nat) (v : Word), 8 ≤ q → q < 64 → bitW v 31 = true →
     s.qCfgWrite q v =
       if s.flag (inBank Fd.QM_Q_CFG_EN q) then
         let t := s.wr (bank q Rg.QM_Q_CFG) ((s.rd (bank q Rg.QM_Q_CFG) &&& 0x003F8FFF) ||| (v &&& 0x9FC00000))
         if bitW v 29 then t.qFlush q else t
       else
         let t := s.wr (bank q Rg.QM_Q_CFG) (v &&& 0x1FFF8FFF)
         if t.qFits q then
           let u := ((t.put (inBank Fd.QM_Q_CFG_EN q) 1).setItems q []).put (Fd.statBit Pg.qm 8) 0
           if bitW v 29 then u.qFlush q else u
         else t.put (Fd.statBit Pg.qm 8) 1) ∧
  (∀ (s : State) (q : Nat), s.appUp = true → q < 64 → s.get (inBank Fd.QM_Q_CFG2_STALL q) ≠ 0 → (s.qItems q).length ≠ 0 →
     s.qOn q = true → Tab.get (fun _ => false) s.qm.stalled q = false →
     exec (.qmStall q) s = .next (
       (({ s with qm := { s.qm with stalled := Tab.set (fun _ => false) s.qm.stalled q true } }).irq Pg.qm 2).raise
         Ev.QM_STALL Pg.qm [q, (s.qItems q).length]))

/-- The PCIe endpoint (R294 to R300). Clauses that rest on the model's own choices: log entries 126 to 129. -/
def Obligations.HostLink : Prop :=
  (∀ (s : State) (a size : Nat) (w : Bool) (v : Word), exec (.hostAccess a size w v) s = .next (
       let t := if s.flag Fd.PCIE_LINK_L1 then s.hostWake false else s
       if w then t.busWrite 5 a size v else t.busRead 5 a size)) ∧
  (∀ (s : State) (v : Word), s.takes 5 Rg.PCIE_HDB_SET = true → noReserved Rg.PCIE_HDB_SET v = true →
     exec (.hdbSet v) s = .next ((List.range 8).foldl (fun t k =>
       if bitW v k then t.withReq (192 + k) (·.put ⟨Rg.PCIE_HDB, k, 1⟩ 1) else t) (s.begun 5 Rg.PCIE_HDB_SET))) ∧
  (∀ (s : State) (ini : Nat) (v : Word), s.takes ini Rg.PCIE_HDB = true → noReserved Rg.PCIE_HDB v = true →
     exec (.hdbClear ini v) s = .next (
       let t := s.begun ini Rg.PCIE_HDB
       ((t.wr Rg.PCIE_HDB (t.rd Rg.PCIE_HDB &&& ~~~(v &&& 0xFF#32))).coalSettle).iuLookAll)) ∧
  (∀ (s : State) (ini : Nat) (v : Word), s.takes ini Rg.PCIE_CPL_CMD = true → noReserved Rg.PCIE_CPL_CMD v = true →
     exec (.cplCmd ini v) s = .next (
       let t := s.begun ini Rg.PCIE_CPL_CMD
       let k := getF v 0 3
       let ws := (List.range 4).map fun i => Tab.get (fun _ => 0) t.pcie.stage (ini * 4 + i)
       let x := t.cq k
       if !t.cqOn k then (t.cqRefuse k).setCplStat ini 1
       else if t.hostUp && x.held.isEmpty && !t.cqFull k then ((t.cqWrite k ws).cqCount k).setCplStat ini 0
       else if x.held.length < 64 then ((t.setCq k { x with held := x.held ++ [ws] }).cqCount k).setCplStat ini 0
       else (t.cqRefuse k).setCplStat ini 2)) ∧
  (∀ (s : State) (k : Nat) (e : List Word) (l : List (List Word)), s.appUp = true → k < 8 → (s.cq k).held = e :: l →
     s.hostUp = true → s.cqOn k = true → s.cqFull k = false →
     exec (.cqEntryWrite k) s = .next ((s.setCq k { s.cq k with held := l }).cqWrite k e)) ∧
  (∀ (s : State) (v : Word), s.takes 5 Rg.PCIE_CQ_HEAD = true → noReserved Rg.PCIE_CQ_HEAD v = true →
     exec (.cqHeadWrite v) s = .next (
       (((s.begun 5 Rg.PCIE_CQ_HEAD).store Pg.pcie 0x6C v)).cqDrain (s.get ⟨Rg.PCIE_CQ_SEL, 0, 3⟩))) ∧
  (∀ (s : State) (k : Nat), s.appUp = true → k < 8 → (s.cq k).timer = true →
     exec (.modTimerExpire k) s = .next (
       let t := s.setCq k { s.cq k with timer := false, due := true }
       if t.hostAsleep && t.flag ⟨Rg.PCIE_WAKE_ON_CPL, 0, 1⟩ then { t with pcie := { t.pcie with wake := true } } else t)) ∧
  (∀ (s : State) (k : Nat), s.appUp = true → k < 8 → (s.cq k).due = true → (s.cq k).held = [] → s.hostUp = true →
     exec (.msixSend k) s = .next ((s.setCq k { s.cq k with unsig := 0, timer := false, due := false }).msixFire
       (s.get (inBank Fd.PCIE_CQ_CFG_VECTOR k)))) ∧
  (∀ (s : State) (d0 : Bool), s.appUp = true →
     exec (.hostWake d0) s = .next (
       let t := s.put Fd.PCIE_LINK_L1 0
       let t := if d0 then t.put Fd.PCIE_LINK_D3HOT 0 else t
       if t.hostUp then
         let u : State := { t with pcie := { t.pcie with wake := false } }
         let u := (List.range 8).foldl (fun t k => t.cqDrain k) u
         let u := (List.range 8).foldl (fun t k => t.msixSend k) u
         (List.range 16).foldl (fun t v =>
           if Tab.get (fun _ => false) t.pcie.pba v && Tab.get (fun _ => false) t.pcie.unmasked v then t.msixFire v else t) u
       else t)) ∧
  (∀ (s : State) (cause : Nat), s.appUp = true → s.flag (Fd.en Pg.pcie) = true →
     exec (.pcieReset cause) s = .next (
       let n := (List.range 8).foldl (fun a k => a + (s.cq k).held.length) 0
       let t := (List.range 8).foldl (fun t k =>
         let x := t.cq k
         (t.put (inBank Fd.PCIE_CQ_CFG_EN k) 0).setCq k { CqSt.init with ovfAt := x.ovfAt, ovfCnt := x.ovfCnt }) s
       let t := (t.wr Rg.PCIE_HDB 0).coalSettle
       let t : State := { t with pcie := { t.pcie with wake := false, pba := [], unmasked := [] } }
       let t := if cause = 1 then t.put Fd.PCIE_LINK_PERST 1 else t
       ((t.irq Pg.pcie 1).raise Ev.PCIE_RESET Pg.pcie [cause, n]).qAbortPage Pg.pcie)) ∧
  (∀ (s : State) (up : Bool) (speed width : Nat), s.appUp = true → up = false ∨ s.flag (Fd.en Pg.pcie) = true →
     exec (.pcieLink up speed width) s = .next (
       let t := s.put Fd.PCIE_LINK_UP (b2n up)
       let t := if up then ((t.put Fd.PCIE_LINK_SPEED speed).put Fd.PCIE_LINK_WIDTH width).put Fd.PCIE_LINK_PERST 0
         else ((t.put Fd.PCIE_LINK_SPEED 0).put Fd.PCIE_LINK_WIDTH 0).put Fd.PCIE_LINK_L1 0
       (t.irq Pg.pcie 0).raise Ev.PCIE_LINK Pg.pcie [b2n up, speed, width])) ∧
  (∀ (s : State) (l1 d3 : Bool), s.appUp = true →
     exec (.pcieHostSleep l1 d3) s = .next (
       let t := if l1 then s.put Fd.PCIE_LINK_L1 1 else s
       if d3 then t.put Fd.PCIE_LINK_D3HOT 1 else t)) ∧
  (∀ (s : State) (v : Nat), s.appUp = true → v < 8 →
     exec (.msixVectorUnmask v) s = .next (
       let t : State := { s with pcie := { s.pcie with unmasked := Tab.set (fun _ => false) s.pcie.unmasked v true } }
       if Tab.get (fun _ => false) t.pcie.pba v && t.hostUp then t.msixFire v else t))

/-- The redundant pair's link (R308 to R311, R313, R319, R320). Clauses that rest on the model's own choices: log
entries 148 to 150, 152 and 153. -/
def Obligations.PairLink : Prop :=
  (∀ (s : State) (lanes : Nat), s.rtOn = true → s.flag (Fd.en Pg.byell) = true → lanes % 4 ≠ 0 → s.linkUp = false →
     exec (.byellUp lanes) s = .next (
       let n := lanes % 2 + lanes / 2 % 2
       let t := ((s.put Fd.BYELL_LANE_STAT_UP 1).put Fd.BYELL_LANE_STAT_LOCK (lanes % 4)).put
         Fd.BYELL_LANE_STAT_DEGRADED (b2n (n == 1))
       let t := (t.irq Pg.byell 0).raise Ev.BYELL_UP Pg.byell [n]
       let t := if n = 1 then (t.irq Pg.byell 2).raise Ev.BYELL_LANE Pg.byell [2 - lanes % 4] else t
       let t := t.fresh.2.wr Rg.BYELL_LAT (BitVec.ofNat 32 (t.fresh.1.toNat % 65536))
       let t := if t.role = 3 ∨ (t.role = 5 ∧ t.get Fd.PAIR_ROLE_FENCE_CAUSE = 2) then t.roleTo 0 0 else t
       (t.modPair fun p => { p with peer := none, peerAge := 3 }).hbSoon)) ∧
  (∀ (s : State), s.rtOn = true → s.linkUp = true →
     exec .byellDown s = .next (
       let lock := s.get Fd.BYELL_LANE_STAT_LOCK
       let t := s.wr Rg.BYELL_LANE_STAT 0
       let t := ((t.add ⟨Rg.BYELL_DOWN_CNT, 0, 16⟩ 1).irq Pg.byell 1).raise Ev.BYELL_DOWN Pg.byell [lock % 2 + lock / 2]
       let t := t.modPair fun p => { p with aligned := false }
       (if t.role = 2 then (t.roleTo 3 0).modPair fun p => { p with kind := 3 } else t).hbSoon)) ∧
  (∀ (s : State) (lane : Nat), s.rtOn = true → s.linkUp = true → s.get Fd.BYELL_LANE_STAT_LOCK = 3 → lane < 2 →
     exec (.byellLane lane) s = .next (
       (((s.put Fd.BYELL_LANE_STAT_LOCK (2 - lane)).put Fd.BYELL_LANE_STAT_DEGRADED 1).irq Pg.byell 2).raise
         Ev.BYELL_LANE Pg.byell [lane])) ∧
  (∀ (s : State), s.rtOn = true → s.linkUp = true →
     exec .byellLaneRestored s = .next ((s.put Fd.BYELL_LANE_STAT_LOCK 3).put Fd.BYELL_LANE_STAT_DEGRADED 0)) ∧
  (∀ (s : State) (m : CutMsg), s.rtOn = true → s.linkUp = true →
     exec (.cutReceived m true) s = .next (
       let t := s.add (whole Rg.BYELL_RX_MSG) 1
       if t.role ≠ 2 then t
       else
         let t := t.putInt (whole Rg.PAIR_EDGE_OFS) (sat31 m.ofs)
         let t := if 250000 < m.ofs.natAbs then (t.modPair ({ · with run := 0 })).fitUpdate else t
         if !t.ticking || t.tick.cutGot || t.tick.ownCut || m.num ≠ t.tick.num then t
         else
           let t := t.takeMirror fun i => idxBefore i m.mirror
           let t := t.freeze (withinCut m.rxSeq)
           let t := ((t.put Fd.TICK_FREEZE_OWN_CUT 0).modTick ({ · with cutGot := true })).edgeTable
           let ofs := t.utcOfs
           let t := (t.putInt Fd.TIME_UTC_OFS_CUR m.utcOfs).coFreezeFrom m.sensed
           let t := (t.edgeSched false).edgeRest (t.tick.num - 1) []
           t.putInt Fd.TIME_UTC_OFS_CUR ofs)) ∧
  (∀ (s : State) (seq : Nat) (x : MirrorIn), s.rtOn = true → s.linkUp = true →
     exec (.mirrorReceived seq x true) s = .next (
       let t := s.add (whole Rg.BYELL_RX_MSG) 1
       if t.role ≠ 0 ∧ t.role ≠ 2 then t
       else
         let gap := match t.pair.mirGot with
           | some g => (g + 1) % 2 ^ 32 != seq
           | none => false
         if gap then if t.role = 2 then t.roleTo 0 0 else t.modPair PairSt.unform
         else t.modPair fun p => { p with mirGot := some seq, mirror := p.mirror ++ [(seq, x)] })) ∧
  (∀ (s : State) (l : List ImpPiece), s.rtOn = true → s.linkUp = true →
     exec (.impDataReceived l true) s = .next (
       let t := s.add (whole Rg.BYELL_RX_MSG) 1
       if t.role = 0 ∨ t.role = 2 then t.modPair fun p => { p with imp := p.imp ++ l } else t)) ∧
  (∀ (s : State) (m : ImpEndMsg), s.rtOn = true → s.linkUp = true → m.ok = true →
     exec (.impEndReceived m) s = .next (
       let t := (s.add (whole Rg.BYELL_RX_MSG) 1).put Fd.PAIR_IMP_STAT_KB m.kb
       let inTime := t.impInTime m.us
       let fvs := fun (t : State) => (List.range 16).foldl (fun t b =>
         let v := (m.fv[b]?).getD 0
         if t.get (Fd.FB_TX_FV_FV b) < v then t.put (Fd.FB_TX_FV_FV b) v else t) t
       let close := fun (t : State) => t.modPair fun p => { p with imp := [] }
       if t.role = 0 then
         if t.pair.synced && inTime then
           let t := close (fvs t).impInstall
           (t.put Fd.PAIR_ROLE_SYNCED 1).roleTo 2 0
         else close t
       else if t.role = 2 ∧ m.num = t.tick.num then
         let t := (fvs t).put Fd.PAIR_IMP_STAT_MISS 0
         let t := t.modPair fun p => { p with impGot := true }
         let dc := m.csum != t.pair.csum
         let dd := m.digest != t.pair.digest
         let t :=
           if t.pair.ownPrev then
             let t := t.add Fd.PAIR_MISMATCH_CNT_OWN_CUT 1
             let t := t.modPair fun p => { p with run := 0 }
             if inTime then t.impInstall else t.modPair fun p => { p with rebase := true }
           else if t.pair.rebase then if inTime then t.impInstall else t
           else if dc || dd then
             let t := if t.imagesDiffer then t.modPair fun p => { p with run := 0 }
               else t.shadowMismatch m (b2n dc + 2 * b2n dd)
             if inTime then t.impInstall else t.modPair fun p => { p with rebase := true }
           else t.modPair fun p => { p with run := p.run + 1 }
         (close t).fitUpdate
       else close t)) ∧
  (∀ (s : State) (m : StatusMsg), s.rtOn = true → s.linkUp = true →
     exec (.statusReceived m true) s = .next (
       let t := s.add (whole Rg.BYELL_RX_MSG) 1
       let t := t.modPair fun p => { p with
         peer := some m, peerAge := 0, aligned := p.aligned && (t.role != 1 || m.role == 2) }
       let t := ((t.put Fd.PAIR_PEER_ROLE m.role).put Fd.PAIR_PEER_UNIT m.unit).put Fd.PAIR_PEER_WIT_OK (b2n m.witOk)
       if t.role = 0 then
         if m.unit = t.get Fd.PAIR_CFG_UNIT ∨ m.pairId ≠ (t.rd Rg.PAIR_PAIR_ID).toNat then t.roleTo 5 4
         else if m.role = 1 ∧ t.pair.syncAt.isNone then t.modPair fun p => { p with syncAt := some t.tick.num }
         else t
       else if t.role = 2 ∧ m.role = 1 ∧ t.pair.kind ≠ 1 then t.modPair fun p => { p with request := false }
       else t)) ∧
  (∀ (s : State), s.rtOn = true →
     exec .statusTimeout s = .next (
       let t := (s.put Fd.PAIR_PEER_ROLE 0).modPair fun p => { p with peerAge := 3 }
       if t.role = 2 ∧ t.linkUp then
         (t.modPair fun p => { p with request := true, kind := if p.request then p.kind else 2 }).hbSoon
       else t.hbSoon)) ∧
  (∀ (s : State) (lastEnd : Nat), s.rtOn = true → s.linkUp = true →
     exec (.yieldReceived lastEnd true) s = .next (
       let t := s.add (whole Rg.BYELL_RX_MSG) 1
       if t.role = 2 then (t.modPair fun p => { p with request := true, kind := 1, lastEnd := some lastEnd }).hbSoon
       else t)) ∧
  (∀ (s : State) (x : SyncPiece), s.rtOn = true → s.linkUp = true → s.role = 0 →
     exec (.syncDataReceived x true) s = .next (
       let t := s.add (whole Rg.BYELL_RX_MSG) 1
       match x with
       | .cfg a v =>
         let t := { t with nv := { t.nv with cfg := Tab.set regReset t.nv.cfg a v } }
         if a = Rg.TICK_PERIOD then t.put Fd.TICK_PERIOD_NEXT (getF v 4 2)
         else if a / 0x1000 % 0x100 = Pg.pair then t else t.wr a v
       | .graph g => { t with
           hatch := { t.hatch with act := g }, nv := { t.nv with graph0 := some g, graph1 := none, graphTurn := true } }
       | .sched i e => { t with
           sched := { t.sched with ent := Tab.set (fun _ => SchedEnt.init) t.sched.ent i e }
           nv := { t.nv with sched := Tab.set (fun _ => SchedEnt.init) t.nv.sched i e } }
       | .holiday i v => { t with
           sched := { t.sched with hol := Tab.set (fun _ => 0) t.sched.hol i v }
           nv := { t.nv with schedHol := Tab.set (fun _ => 0) t.nv.schedHol i v } }
       | .scene i v => { t with
           sched := { t.sched with scene := Tab.set (fun _ => 0) t.sched.scene i v }
           nv := { t.nv with schedScene := Tab.set (fun _ => 0) t.nv.schedScene i v } }
       | .ident i n => (t.setNode i { t.nodeAt i with ident := n }).copyNode i
       | .last =>
         match t.pair.peer with
         | some m => if m.period ≠ t.get Fd.TICK_PERIOD_CUR then t.roleTo 5 3
           else t.modPair fun p => { p with synced := true }
         | none => t)) ∧
  (∀ (s : State) (t : Nat), s.rtOn = true → s.pair.syncAt = some t → s.role = 0 → t + 250 ≤ s.tick.num →
     exec .formationTimeout s = .next (s.roleTo 5 5)) ∧
  (∀ (s : State), s.rtOn = true → s.role = 0 → s.get Fd.PAIR_CFG_UNIT = 1 → s.peerRole = 0 →
     exec .joinClaimTimeout s = .next ((s.modPair fun p => { p with claim := true }).hbSoon)) ∧
  (∀ (s : State) (c : CutMsg) (q e : Nat) (x : MirrorIn) (l : List ImpPiece) (m : ImpEndMsg) (u : StatusMsg) (y : SyncPiece),
     s.rtOn = true → s.linkUp = true → m.ok = false →
     let t := s.add ⟨Rg.BYELL_CRC_ERR, 0, 16⟩ 1
     exec (.cutReceived c false) s = .next t ∧ exec (.mirrorReceived q x false) s = .next t ∧
     exec (.impDataReceived l false) s = .next t ∧ exec (.impEndReceived m) s = .next t ∧
     exec (.statusReceived u false) s = .next t ∧ exec (.yieldReceived e false) s = .next t ∧
     exec (.syncDataReceived y false) s = .next t)

/-- The witness and swaps (R317, R322, R325, R331). Clauses that rest on the model's own choices: log entries 146,
147 and 151. -/
def Obligations.WitnessAndSwaps : Prop :=
  (∀ (s : State), s.rtOn = true → s.pair.paired = true → s.flag (Fd.en Pg.wit) = true →
     s.pwr.halted = false →
     exec .witHeartbeat s = .next (
       let flags := b2n s.hbClaim + 2 * b2n s.hbRequest + 4 * b2n s.pair.release + 8 * b2n s.linkUp
       let m : WitMsg := {
         typ := 1, flags, unit := s.get Fd.PAIR_CFG_UNIT, pairId := (s.rd Rg.PAIR_PAIR_ID).toNat
         seq := (s.pair.hbSeq + 1) % 2 ^ 32, remain := 0, tag := [] }
       let out := if s.slotRefusal 6 2 = 0
         then s.witWire (m.body ++ (aesCmac (leBytes 16 (s.key 6).mat) m.body).take 4) else []
       s.modPair fun p => { p with hbSeq := m.seq, hbAt := s.ns, hbWait := true, hbFlags := flags, hbOut := out })) ∧
  (∀ (s : State) (m : WitMsg), s.rtOn = true → s.pair.paired = true → s.flag (Fd.en Pg.wit) = true →
     s.witTagOk m = true → m.typ = 2 → m.unit = s.get Fd.PAIR_CFG_UNIT → m.pairId = (s.rd Rg.PAIR_PAIR_ID).toNat →
     m.seq = s.pair.hbSeq → s.pair.hbWait = true →
     exec (.witReplyReceived m) s = .next (
       let t := s.modPair fun p => { p with hbWait := false }
       let missed := t.get Fd.WIT_STAT_MISSED
       let t := (t.put Fd.WIT_STAT_MISSED 0).put Fd.WIT_STAT_REACHABLE 1
       let t := if t.pair.witLost then
           ((t.modPair fun p => { p with witLost := false }).irq Pg.wit 1).raise Ev.WIT_RESTORED Pg.wit [missed]
         else t
       if bitN m.flags 0 then (t.put Fd.WIT_LEASE_HOLDER 1).witGranted
       else if bitN m.flags 1 then (t.put Fd.WIT_LEASE_HOLDER 2).witOther
       else
         let t := t.put Fd.WIT_LEASE_HOLDER 0
         if t.role = 5 ∧ t.get Fd.PAIR_ROLE_FENCE_CAUSE = 2 then t.roleTo 0 0 else t)) ∧
  (∀ (s : State) (m : WitMsg), s.rtOn = true → s.pair.paired = true → s.flag (Fd.en Pg.wit) = true →
     s.witTagOk m = false ∨
       (m.typ = 2 ∧ m.unit = s.get Fd.PAIR_CFG_UNIT ∧ m.pairId = (s.rd Rg.PAIR_PAIR_ID).toNat ∧ m.seq ≠ s.pair.hbSeq) →
     exec (.witReplyReceived m) s = .next (s.add Fd.WIT_CNT_TAG_FAIL 1)) ∧
  (∀ (s : State), s.rtOn = true → s.pair.hbWait = true →
     exec .witReplyTimeout s = .next (
       let t := s.modPair fun p => { p with hbWait := false }
       let t := (t.add Fd.WIT_STAT_MISSED 1).add Fd.WIT_CNT_NO_REPLY 1
       if 3 ≤ t.get Fd.WIT_STAT_MISSED ∧ t.pair.witLost = false then
         (((t.modPair fun p => { p with witLost := true }).put Fd.WIT_STAT_REACHABLE 0).irq Pg.wit 0).raise
           Ev.WIT_UNREACHABLE Pg.wit [getF (t.rd Rg.WIT_CFG) 0 1]
       else t)) ∧
  (∀ (s : State), s.rtOn = true → s.role = 1 → (∀ t, s.pair.leaseEnd = some t → t ≤ s.ns + 1000000 * s.pms) →
     exec .leaseLost s = .next (
       if s.linkUp ∧ s.get Fd.PAIR_PEER_WIT_OK = 0 then
         if s.pair.told then s
         else ((s.modPair fun p => { p with told := true }).irq Pg.wit 2).raise Ev.LEASE_LOST Pg.wit [1]
       else
         let case := if s.linkUp then 2 else 3
         let t := (s.irq Pg.wit 2).raise Ev.LEASE_LOST Pg.wit [case]
         if t.linkUp then t.yield 2 0 false
         else (t.modPair fun p => { p with quiet := true }).roleTo 5 2)) ∧
  (∀ (s : State) (ini : Nat), s.takes ini Rg.PAIR_CMD = true → s.pair.paired = true →
     exec (.pairSwap ini) s = .next ((s.begun ini Rg.PAIR_CMD).swapTry)) ∧
  (∀ (s : State) (ini : Nat), s.takes ini Rg.PAIR_CMD = true → s.pair.paired = true →
     exec (.pairFence ini) s = .next (
       let t := s.begun ini Rg.PAIR_CMD
       if t.role = 1 then t.yield 5 1 true else if t.role = 5 then t else t.roleTo 5 1)) ∧
  (∀ (s : State) (ini : Nat), s.takes ini Rg.PAIR_CMD = true → s.pair.paired = true →
     exec (.pairUnfence ini) s = .next (
       let t := s.begun ini Rg.PAIR_CMD
       if t.role = 5 then t.roleTo 0 0 else t)) ∧
  (∀ (s : State), s.rtOn = true → s.get ⟨Rg.PAIR_SWAP_PERIOD, 0, 16⟩ ≠ 0 →
     s.pair.swapAt + 3600 * s.get ⟨Rg.PAIR_SWAP_PERIOD, 0, 16⟩ ≤ s.sec + 1 →
     exec .swapPeriodExpire s = .next s.swapTry)

/-- Ground's services (R333 to R335, R339, R340, R352): for every command of the mailbox and every request port, what it
does when its slot admits it, as an equation for the whole next state, and what it answers when the slot does not. Clauses that
rest on the model's own choices: log entries 156 to 161. -/
def Obligations.GroundServices : Prop :=
  (∀ (s : State) (port : Nat) (data extra : List Nat), s.rtOn = true → port < 16 → s.ground.ready = true →
     s.slotRefusal (16 + port) 0 = 0 →
     exec (.groundPortRequest port data extra) s = .next (
       let t := s.add ⟨Rg.GROUND_TAG_CNT, 0, 16⟩ 1
       let a : PortAns := ⟨0, (aesCmac (leBytes 16 (s.busKey port)) data).take 4⟩
       { t with ground := { t.ground with ans := Tab.set (fun _ => PortAns.init) t.ground.ans port a } })) ∧
  (∀ (s : State) (data extra : List Nat), s.rtOn = true → s.ground.ready = true → s.slotRefusal 5 1 = 0 →
     exec (.groundPortRequest 16 data extra) s = .next (
       let a : PortAns := ⟨0, aesWrap (leBytes 16 (s.nodeKey (ofLe extra))) data⟩
       { s with ground := { s.ground with ans := Tab.set (fun _ => PortAns.init) s.ground.ans 16 a } })) ∧
  (∀ (s : State) (data extra : List Nat), s.rtOn = true → s.ground.ready = true → s.slotRefusal 6 2 = 0 →
     exec (.groundPortRequest 17 data extra) s = .next (
       let t := s.add ⟨Rg.GROUND_TAG_CNT, 0, 16⟩ 1
       let a : PortAns := ⟨0, aesCmac (leBytes 16 (s.key 6).mat) data⟩
       { t with ground := { t.ground with ans := Tab.set (fun _ => PortAns.init) t.ground.ans 17 a } })) ∧
  (∀ (s : State) (data extra : List Nat), s.rtOn = true → s.ground.ready = true → s.slotRefusal 12 5 = 0 →
     exec (.groundPortRequest 18 data extra) s = .next (
       let k := (s.key 12).mat
       let a : PortAns := ⟨0, [b2n (ecVerify (ecHalf k) data (extra.take 96) && dsaVerify (pqHalf k) data (extra.drop 96))]⟩
       { s with ground := { s.ground with ans := Tab.set (fun _ => PortAns.init) s.ground.ans 18 a } })) ∧
  (∀ (s : State) (data extra : List Nat), s.rtOn = true → s.ground.ready = true → s.slotRefusal 13 6 = 0 →
     exec (.groundPortRequest 19 data extra) s = .next (
       let a : PortAns := ⟨0, [b2n (ecVerify (ecHalf (s.key 13).mat) data extra)]⟩
       { s with ground := { s.ground with ans := Tab.set (fun _ => PortAns.init) s.ground.ans 19 a } })) ∧
  (∀ (s : State) (port c : Nat) (data extra : List Nat), s.rtOn = true → port < 20 → s.ground.ready = true →
     s.slotRefusal (portSlot port).1 (portSlot port).2 = c → c ≠ 0 →
     exec (.groundPortRequest port data extra) s = .next (
       let t := if port < 16 ∨ port = 17 then s.add ⟨Rg.GROUND_TAG_CNT, 16, 16⟩ 1 else s
       { t with ground := { t.ground with ans := Tab.set (fun _ => PortAns.init) t.ground.ans port ⟨c, []⟩ } })) ∧
  (∀ (s : State) (ini : Nat) (v : Word), s.takes ini Rg.GROUND_MBX_IN = true →
     exec (.mbxInWrite ini v) s = .next (
       let t := s.begun ini Rg.GROUND_MBX_IN
       if s.ground.cmd.isSome = true ∧ 0 < s.ground.need then
         { t with ground := { t.ground with taken := t.ground.taken ++ [v], need := t.ground.need - 1 } }
       else if s.ground.fifo.length < 256 then { t with ground := { t.ground with fifo := t.ground.fifo ++ [v] } }
       else ((s.respond 0 false).capture ini Pg.ground 0x44 true 0x05).respond 0 true)) ∧
  (∀ (s : State) (ini : Nat), s.reaches ini Rg.GROUND_MBX_OUT false = true →
     exec (.mbxOutRead ini) s = .next (match s.ground.out with
       | [] => s.respond 0 false
       | w :: l => (({ s with ground := { s.ground with out := l } }.put Fd.GROUND_MBX_STAT_OUT_CNT
           (min l.length 256)).respond w false))) ∧
  (∀ (s : State), s.rtOn = true → s.mbxReady 1 = true →
     exec .groundKeyUpdate s = .next (match s.checkMsg (wordBytes s.ground.taken) with
       | .inl e =>
         let t := if e.clear then { s with ground := { s.ground with refusedClear := true } } else s
         (t.mbxResult e.code []).raise Ev.KEY_UPDATE_REJECT Pg.ground [e.code, e.ctr, e.idx]
       | .inr (m, ops) =>
         let writes := ops.filter fun o => o.op == 1
         let t := (ops.filter fun o => o.op != 1).foldl State.keyOp s
         let t := { t with nv := { t.nv with
           keys := { t.nv.keys with ctr := m.ctr }, cnt := { t.nv.cnt with keyCtr := some m.ctr } } }
         let t := if writes.isEmpty then t.raise Ev.KEY_UPDATE_OK Pg.ground [m.ctr % 2 ^ 32, ops.length, 0]
           else { t with nv := { t.nv with keys := { t.nv.keys with pend := some {
             act := m.act, ops := writes, ctr := m.ctr, cnt := ops.length } } } }.put Fd.GROUND_MBX_STAT_PEND 1
         t.mbxResult 0 [])) ∧
  (∀ (s : State) (slot : Nat), s.rtOn = true → s.mbxReady 2 = true → s.ground.locked = false ∨ slotClass slot ≠ 2 →
     (s.key slot).state = 1 → (s.key slot).own = true →
     exec (.groundPubkey slot) s = .next (s.mbxResult 0 (ecPub (ecPriv (s.key slot).mat)))) ∧
  (∀ (s : State) (slot : Nat) (msg : List Nat), s.rtOn = true → s.mbxReady 3 = true →
     s.slotRefusal slot (if slot = 7 then 3 else 9) = 0 → (s.key slot).typ = 3 →
     exec (.groundSign slot msg) s = .next (s.fresh.2.mbxResult 0
       (ecSign (ecPriv (s.key slot).mat) (ecScalar (Config.freeScalar s.fresh.1.toNat)) msg))) ∧
  (∀ (s : State) (slot : Nat) (msg : List Nat), s.rtOn = true → s.mbxReady 4 = true → s.slotRefusal slot 7 = 0 →
     (s.key slot).typ = 1 ∨ (s.key slot).typ = 2 →
     exec (.groundCmac slot msg) s = .next (s.mbxResult 0 (aesCmac (s.key slot).aes msg))) ∧
  (∀ (s : State) (slot : Nat) (head msg : List Nat), s.rtOn = true → s.mbxReady 5 = true → s.slotRefusal slot 8 = 0 →
     (s.key slot).typ = 1 ∨ (s.key slot).typ = 2 →
     exec (.groundAeadEnc slot head msg) s =
       .next (s.mbxResult 0 (gcmSeal (s.key slot).aes (head.take 12) (head.drop 12) msg))) ∧
  (∀ (s : State) (slot : Nat) (head msg : List Nat), s.rtOn = true → s.mbxReady 6 = true → s.slotRefusal slot 8 = 0 →
     (s.key slot).typ = 1 ∨ (s.key slot).typ = 2 →
     exec (.groundAeadDec slot head msg) s = .next (
       match gcmOpen (s.key slot).aes (head.take 12) (head.drop 12) msg with
       | some out => s.mbxResult 0 out
       | none => s.mbxResult 7 [])) ∧
  (∀ (s : State) (slot c : Nat) (head msg : List Nat), s.rtOn = true → c ≠ 0 →
     (s.mbxReady 3 = true → s.slotRefusal slot (if slot = 7 then 3 else 9) = c →
       exec (.groundSign slot msg) s = .next (s.fresh.2.mbxResult c [])) ∧
     (s.mbxReady 4 = true → s.slotRefusal slot 7 = c → exec (.groundCmac slot msg) s = .next (s.mbxResult c [])) ∧
     (s.mbxReady 5 = true → s.slotRefusal slot 8 = c → exec (.groundAeadEnc slot head msg) s = .next (s.mbxResult c [])) ∧
     (s.mbxReady 6 = true → s.slotRefusal slot 8 = c →
       exec (.groundAeadDec slot head msg) s = .next (s.mbxResult c []))) ∧
  (∀ (s : State) (n : Nat), s.rtOn = true → s.mbxReady 7 = true →
     exec (.groundRandom n) s = .next (
       let r := State.drawN ((min n 1024 + 3) / 4) s
       r.2.mbxResult 0 ((wordBytes r.1).take (min n 1024)))) ∧
  (∀ (s : State) (slot : Nat), s.rtOn = true → s.mbxReady 8 = true → s.ground.locked = false →
     s.nv.keys.genAllow.contains slot = true → (s.key slot).state = 0 →
     exec (.groundGenerate slot) s = .next (
       let r := s.fresh
       let t := r.2.setKey slot {
         state := 1, typ := 3, usage := if 32 ≤ slot then 512 else 0, own := true
         mat := ofLe (toBe 48 (ecScalar (Config.freeScalar r.1.toNat))) }
       let t := { t with nv := { t.nv with keys := { t.nv.keys with genAllow := t.nv.keys.genAllow.erase slot } } }
       t.mbxResult 0 [])) ∧
  (∀ (s : State) (out : List Nat) (c : Nat),
     s.mbxResult 0 out = { s with ground := { s.ground with result := some 0, out := outWords out } }.put
       Fd.GROUND_MBX_STAT_OUT_CNT (min (outWords out).length 256) ∧
     (c ≠ 0 → s.mbxResult c out = { s with ground := { s.ground with result := some c } })) ∧
  (∀ (s : State) (c r : Nat), s.rtOn = true → s.ground.cmd = some c → s.ground.result = some r →
     exec .groundCommandDone s = .next (
       let t := { s with ground := { s.ground with cmd := none, need := 0, taken := [], result := none } }
       ((t.put Fd.GROUND_MBX_STAT_RESULT r).put Fd.GROUND_MBX_STAT_BUSY 0).irq Pg.ground 0))

/-- Tamper and debug (R347, R349). Clauses that rest on the model's own choices: log entries 81, 155 and 161. -/
def Obligations.TamperAndDebug : Prop :=
  (∀ (s : State) (src : Nat) (active vioC : Bool), src < 6 → src ≠ 1 ∨ watched s.pwr.state 1 false = false →
     exec (.tamper src active vioC) s = .next (
       if watched s.pwr.state src vioC = false then s
       else
         let t := { s with ground := { s.ground with live := setBitN s.ground.live src active } }
         if active then t.alarm src else t)) ∧
  (∀ (s : State) (active vioC : Bool), watched s.pwr.state 1 false = true →
     exec (.tamper 1 active vioC) s = .next (
       let i := s.get ⟨Rg.TAMP_DOOR_SEL, 0, 3⟩
       if bitN s.ground.live 1 = s.flag (diDeb i) then s else s.tamper 1 (s.flag (diDeb i)) true)) ∧
  (∀ (s : State) (ini : Nat) (v : Word), s.takes ini Rg.TAMP_LATCH = true → noReserved Rg.TAMP_LATCH v = true →
     exec (.tampLatchClear ini v) s = .next ((s.begun ini Rg.TAMP_LATCH).tampLatchClear v)) ∧
  (∀ (s : State) (ini : Nat), s.takes ini Rg.DBG_CMD = true → s.flag Fd.DBG_LEVEL_LOCKOUT = false →
     exec (.dbgNewChal ini) s = .next (
       let t := (List.range 8).foldl (fun s k => let r := s.fresh
         r.2.wr (Rg.DBG_CHAL k) r.1) (s.begun ini Rg.DBG_CMD)
       { t with ground := { t.ground with chalAt := some t.sec } }.put Fd.DBG_LEVEL_CHAL_VALID 1)) ∧
  (∀ (s : State) (ini level : Nat), level = 1 ∨ level = 2 → s.takes ini Rg.DBG_CMD = true →
     exec (.dbgRequest ini level) s = .next (
       let t := s.begun ini Rg.DBG_CMD
       if levelOk t.pwr.state level = false then t.put Fd.DBG_LEVEL_RESULT 3
       else if t.dbgAuth level then
         let t := t.dbgVoid
         let wipe := level == 2 && t.lc == 2
         let t := if wipe then t.zeroize operational 3 else t
         ((t.put Fd.DBG_LEVEL_RESULT 1).put Fd.DBG_LEVEL_FAILS 0).dbgLevel level wipe
       else
         let t := t.dbgVoid
         let n := t.get Fd.DBG_LEVEL_FAILS + 1
         let t := (t.put Fd.DBG_LEVEL_FAILS (min n 255)).put Fd.DBG_LEVEL_RESULT 2
         let t := if n % 4 = 0 then
             { t with ground := { t.ground with lockAt := some t.sec } }.put Fd.DBG_LEVEL_LOCKOUT 1
           else t
         t.raise Ev.DBG_AUTH_FAIL Pg.dbg [n])) ∧
  (∀ (s : State) (ini : Nat), s.takes ini Rg.DBG_CMD = true →
     exec (.dbgEnd ini) s = .next ((s.begun ini Rg.DBG_CMD).dbgLevel 0 false)) ∧
  (∀ (s : State) (t : Nat), s.rtOn = true → s.ground.chalAt = some t → t + 60 ≤ s.sec →
     exec .dbgChalExpire s = .next s.dbgVoid) ∧
  (∀ (s : State) (t : Nat), s.rtOn = true → s.ground.lockAt = some t → t + 60 ≤ s.sec →
     exec .dbgLockoutEnd s = .next (
       { s with ground := { s.ground with lockAt := none } }.put Fd.DBG_LEVEL_LOCKOUT 0))

/-- The update chain's messages (R358 to R373). Clauses that rest on the model's own choices: log entries 154, 162,
163, 165, 168 and 170. -/
def Obligations.UpdateStreams : Prop :=
  (∀ (s : State) (src : Nat) (x : Session) (m : List Nat) (p : LspMsg), s.appUp = true → s.updIdle = false →
     1 ≤ src → src ≤ 6 → s.sess (srcPeer src) = some x → lspParse m = some p → p.ver = 1 → p.typ = 0x20 →
     p.len = p.body.length → 40 ≤ p.len → p.len ≤ 1184 →
     exec (.bulkOpen src m) s = .next ((s.heardPeer (srcPeer src)).bulkOpen src p.body)) ∧
  (∀ (s : State) (src : Nat) (b : List Nat), s.mayOffer src = true →
     s.bulkOpen src b = (
       let stream := beAt b 0 4
       let same := s.nv.upd.seq = beAt b 12 8 ∧ s.nv.upd.contLen = beAt b 4 8
       let o : UpdOffer := {
         src, stream, seq := beAt b 12 8, deadline := beAt b 20 8, actAt := beAt b 28 8, hdr := [] }
       let u := s.nv.upd
       if o.actAt ≠ 0 ∧ o.actAt < o.deadline + 300 then s.updRefuse o 12 o.seq
       else if 2 ≤ u.state ∧ u.state ≤ 5 ∧ same ∧ (s.upd.stream = none ∨ s.upd.stream = some (src, stream)) then
         let t := if u.state = 2 ∧ s.upd.stream = none then
             s.raise Ev.UPD_RESUMED Pg.upd [2, (u.bitmapWord.toNat / 65536)] else s
         let t := { t with upd := { t.upd with stream := some (src, stream) } }
         (t.modUpd fun u => { u with source := src, ackTo := (src, stream) }).bulkReply src stream t.updStatus 0
       else if 4 ≤ u.state ∧ same ∧ (u.source = src ∨ src = 6) then
         (s.modUpd fun u => { u with ackTo := (src, stream) }).bulkReply src stream s.updStatus 0
       else
         let t := { s with upd := { s.upd with offers := s.upd.offers.filter (fun (x : UpdOffer) => x.src != src) ++ [o] } }
         (if u.state = 0 then t.updTo 1 else t).bulkReply src stream 0 0)) ∧
  (∀ (s : State) (src : Nat) (b : List Nat), s.mayOffer src = false → s.bulkOpen src b = s) ∧
  (∀ (s : State) (src : Nat) (x : Session) (m : List Nat) (p : LspMsg), s.appUp = true → s.updIdle = false →
     1 ≤ src → src ≤ 6 → s.sess (srcPeer src) = some x → lspParse m = some p → p.ver = 1 → p.typ = 0x21 →
     p.len = p.body.length → 17 ≤ p.len → p.len ≤ 1184 →
     exec (.bulkData src m) s = .next ((s.heardPeer (srcPeer src)).bulkData src p.body)) ∧
  (∀ (s : State) (src c : Nat) (b : List Nat),
     (s.upd.offers.find? fun o => o.src == src && o.stream == beAt b 0 4) = none →
     s.upd.stream = some (src, beAt b 0 4) → s.nv.upd.state = 2 → beAt b 4 4 = c → c < s.nv.upd.chunks →
     (s.nv.upd.man ≠ [] ∨ c < 8) → s.nv.upd.has c = false →
     ((b.drop 16).take (beAt b 8 2)).length = min 1024 (s.nv.upd.contLen - 1024 * c) →
     s.bulkData src b = (
       let t := { s with upd := { s.upd with got := s.upd.got + 1 } }
       let t := t.modUpd fun u => { u with held := Tab.set (fun _ => []) u.held c ((b.drop 16).take (beAt b 8 2)) }
       let t := if t.nv.upd.man.isEmpty && (List.range 8).all t.nv.upd.has then t.updManifest else t
       let t := if t.nv.upd.state = 2 ∧ !t.nv.upd.man.isEmpty ∧ t.nv.upd.full then t.updTo 3 else t
       let t := (t.bulkPump 5).bulkPump 6
       if t.upd.got % 16 = 0 then t.bulkAckSend else t)) ∧
  (∀ (s : State) (src : Nat) (b : List Nat) (o : UpdOffer),
     (s.upd.offers.find? fun o => o.src == src && o.stream == beAt b 0 4) = some o → beAt b 4 4 < 4 →
     ((b.drop 16).take (beAt b 8 2)).length = 1024 →
     s.bulkData src b = (
       let o := { o with hdr := Tab.set (fun _ => []) o.hdr (beAt b 4 4) ((b.drop 16).take (beAt b 8 2)) }
       let t := { s with upd := { s.upd with offers := s.upd.offers.map fun x => if x.src = src then o else x } }
       if o.hdr.length = 4 then t.updOffered o else t)) ∧
  (∀ (s : State) (k : Nat) (x : Session) (m : List Nat) (p : LspMsg), s.appUp = true → s.updIdle = false →
     5 ≤ k → k ≤ 6 → s.sess k = some x → lspParse m = some p → p.ver = 1 → p.typ = 0x22 →
     p.len = p.body.length → 44 ≤ p.len → p.len ≤ 1184 →
     exec (.bulkAck k m) s = .next ((s.heardPeer k).bulkAck k p.body)) ∧
  (∀ (s : State) (k : Nat) (b : List Nat), (s.relay k).stream = some (beAt b 0 4) →
     s.bulkAck k b = (
       let status := beAt b 4 1
       let t := s.setRelay k { s.relay k with status := status, next := beAt b 8 4, map := (b.drop 12).take 32 }
       let t := if k = 6 then t.modUpd fun u => { u with
           partner := status, mateNew := u.mateNew || status == 5 || status == 6 }
         else t.modUpd fun u => { u with downstream := status }
       ((t.bulkPump k).updTryConfirm).keepOrFree)) ∧
  (∀ (s : State) (src stream : Nat), s.appUp = true → s.updIdle = false → s.upd.stream = some (src, stream) →
     exec .bulkAckSend s =
       .next (s.bulkReply src stream s.updStatus (if s.updStatus = 7 then s.nv.upd.cause else 0))) ∧
  (∀ (s : State) (k c : Nat) (x : Session), s.appUp = true → s.updIdle = false → 5 ≤ k → k ≤ 6 → c < (s.relay k).sent →
     (s.relay k).holds c = false → s.nv.upd.has c = true → s.sess k = some x →
     exec (.bulkChunkResend k c) s = .next (
       let d := Tab.get (fun _ => []) s.nv.upd.held c
       s.bulkSend k 0x21 (beBytes 4 ((s.relay k).stream.getD 0) ++ beBytes 4 c ++ beBytes 2 d.length ++
         [0, 0, 0, 0, 0, 0] ++ d))) ∧
  (∀ (s : State) (k : Nat) (x : Session), s.appUp = true → s.updIdle = false → k = 5 ∨ k = 6 →
     (s.relay k).status < 3 ∨ 6 < (s.relay k).status → (if k = 5 then s.transmits else s.role == 1) = true →
     s.flag Fd.UPD_CFG_RELAY_EN = true → s.nv.upd.man ≠ [] → s.sess k = some x →
     exec (.bulkOpenResend k) s = .next (
       let r := s.relay k
       let u := s.nv.upd
       let st := r.stream.getD s.fresh.1.toNat
       (s.fresh.2.setRelay k { r with stream := some st, opens := r.opens + 1, sent := 0 }).bulkSend k 0x20
         (beBytes 4 st ++ beBytes 8 u.contLen ++ beBytes 8 u.seq ++ beBytes 8 u.deadline ++ beBytes 8 u.actAt ++
           [0, 0, 0, 0]))) ∧
  (∀ (s : State) (k typ : Nat) (body : List Nat), s.bulkSend k typ body = (
     let m := lspBytes typ 0 ((s.relay k).seq + 1) body
     (s.setRelay k { s.relay k with seq := (s.relay k).seq + 1, out := (s.relay k).out ++ [m] }).lspOut k m)) ∧
  (∀ (s : State), s.appUp = true → s.updIdle = false →
     exec .bulkStreamTimeout s = .next (
       let t := { s with upd := { s.upd with stream := none, offers := [] } }
       if t.nv.upd.state = 1 then t.updTo 0 else t)) ∧
  (∀ (s : State) (src : Nat) (x : Session) (m : List Nat) (p : LspMsg), s.appUp = true → s.updIdle = false →
     1 ≤ src → src ≤ 6 → s.sess (srcPeer src) = some x → lspParse m = some p → p.ver = 1 → p.typ = 0x23 →
     p.len = p.body.length → 16 ≤ p.len → p.len ≤ 1184 → beAt p.body 4 1 = 0 →
     exec (.bulkCloseDone src m) s = .next (
       let t := s.heardPeer (srcPeer src)
       t.streamEnd src (beAt p.body 0 4))) ∧
  (∀ (s : State) (src : Nat) (x : Session) (m : List Nat) (p : LspMsg), s.appUp = true → s.updIdle = false →
     1 ≤ src → src ≤ 6 → s.sess (srcPeer src) = some x → lspParse m = some p → p.ver = 1 → p.typ = 0x23 →
     p.len = p.body.length → 16 ≤ p.len → p.len ≤ 1184 → beAt p.body 4 1 = 1 →
     exec (.bulkCloseAbort src m) s = .next (
       let t := s.heardPeer (srcPeer src)
       let u := t.streamEnd src (beAt p.body 0 4)
       let st := u.nv.upd.state
       if src = 6 ∧ 2 ≤ st ∧ st ≤ 5 then u.updAbort 18 else u)) ∧
  (∀ (s : State) (src : Nat) (x : Session) (m : List Nat) (p : LspMsg), s.appUp = true → s.updIdle = false →
     1 ≤ src → src ≤ 6 → s.sess (srcPeer src) = some x → lspParse m = some p → p.ver = 1 → p.typ = 0x23 →
     p.len = p.body.length → 16 ≤ p.len → p.len ≤ 1184 → beAt p.body 4 1 = 2 →
     exec (.bulkCloseActivate src m) s = .next (
       let t := s.heardPeer (srcPeer src)
       let st := t.nv.upd.state
       if src = 6 ∧ st = 4 then
         ((t.modUpd fun u => { u with actTick := some (beAt p.body 8 8) }).updTo 5).ackChange
       else t)) ∧
  (∀ (s : State) (src : Nat) (x : Session) (m : List Nat) (p : LspMsg), s.appUp = true → s.updIdle = false →
     1 ≤ src → src ≤ 6 → s.sess (srcPeer src) = some x → lspParse m = some p → p.ver = 1 → p.typ = 0x23 →
     p.len = p.body.length → 16 ≤ p.len → p.len ≤ 1184 → beAt p.body 4 1 = 3 →
     exec (.bulkCloseRevert src m) s = .next (
       let t := s.heardPeer (srcPeer src)
       let st := t.nv.upd.state
       if src ≠ 6 then t
       else if st = 6 ∨ st = 7 then t.swapBack 3
       else if 2 ≤ st ∧ st ≤ 5 then t.updAbort 18
       else t))

/-- The campaign (R364 to R374). Clauses that rest on the model's own choices: log entries 164 to 169. -/
def Obligations.UpdateCampaign : Prop :=
  (∀ (s : State), s.rtOn = true → s.updIdle = false → s.nv.upd.state = 3 →
     exec .updVerifyDone s = .next (
       let u := s.nv.upd
       if u.man.any fun e => e.kind != 5 && sha384 (u.bytes e.offset e.length) != e.digest then s.updAbort 14
       else
         (((s.modUpd UpdNv.stage).updTo 4).raise Ev.UPD_STAGED Pg.upd
           [u.seq % 2 ^ 32, (u.targets.filter fun t => t.verified).length]).ackChange)) ∧
  (∀ (s : State), s.rtOn = true → s.updIdle = false → 2 ≤ s.nv.upd.state → s.nv.upd.state ≤ 4 →
     s.nv.upd.deadline ≤ s.utc → s.transmits = true →
     exec .updDeadline s = .next (
       let u := s.nv.upd
       if u.state = 4 ∧ u.targets.all (·.verified) ∧ (!s.updPaired ∨ u.partner = 3) then
         let t := s.updTo 5
         if u.actAt = 0 then t else t.updArm (t.tickAtUtc u.actAt)
       else s.updAbort 15)) ∧
  (∀ (s : State) (ini : Nat), s.takes ini Rg.UPD_CMD = true → s.updIdle = false → s.nv.upd.state = 5 →
     s.nv.upd.actAt = 0 → s.nv.upd.actTick = none →
     exec (.updCmdActivate ini) s = .next (
       let t := s.begun ini Rg.UPD_CMD
       t.updArm (t.tick.num + t.ticksFor 300000 + 1))) ∧
  (∀ (s : State) (ini : Nat), s.takes ini Rg.UPD_CMD = true → s.updIdle = false → 1 ≤ s.nv.upd.state →
     s.nv.upd.state ≤ 5 →
     exec (.updCmdAbort ini) s = .next ((s.begun ini Rg.UPD_CMD).updAbort 19)) ∧
  (∀ (s : State) (ini : Nat), s.takes ini Rg.UPD_CMD = true → s.updIdle = false → s.nv.upd.state = 7 →
     s.nv.upd.confirmed = false → 600 ≤ s.stable → s.nv.upd.manual = true →
     exec (.updCmdConfirm ini) s = .next (
       ((s.begun ini Rg.UPD_CMD).modUpd fun u => { u with confirmed := true }).updTryConfirm)) ∧
  (∀ (s : State) (ini : Nat), s.takes ini Rg.UPD_CMD = true → s.updIdle = false → s.nv.upd.state = 7 →
     exec (.updCmdRevert ini) s = .next ((s.begun ini Rg.UPD_CMD).swapBack 2)) ∧
  (∀ (s : State) (t : Nat), s.rtOn = true → s.updIdle = false → s.nv.upd.actTick = some t → s.nv.upd.state = 5 →
     s.transmits = true → t ≤ s.tick.num + s.ticksFor 60000 →
     (s.nv.upd.targets.any (fun t => !t.armed) || (s.updPaired && s.nv.upd.partner != 4)) = true →
     exec .updArmTimeout s = .next (s.updAbort 16)) ∧
  (∀ (s : State), s.rtOn = true → s.updIdle = false → s.nv.upd.state = 6 → s.role = 1 → s.nv.upd.partner ≠ 5 →
     s.nv.upd.partner ≠ 6 → s.nv.upd.actSec + 600 ≤ s.sec → s.nv.upd.running = false →
     exec .updPartnerTimeout s = .next (
       ((s.bulkClose 6 3).nodesRevert).updAbort 18)) ∧
  (∀ (s : State), s.rtOn = true → s.nv.upd.running = true → s.nv.upd.done < s.nv.upd.total →
     s.pwr.state ≠ .holdup ∨ s.upd.lastUnit = false →
     exec .loaderUnitDone s = .next { (s.modUpd fun u => u.exchange u.done) with
       upd := { s.upd with lastUnit := s.pwr.state == .holdup } }) ∧
  (∀ (s : State), s.rtOn = true → s.nv.upd.running = true → s.nv.upd.done = s.nv.upd.total →
     exec .loaderExchangeDone s = .next { s with
       nv := { s.nv with upd := { s.nv.upd with running := false } }
       pwr := { s.pwr with exchange := false }, upd := { s.upd with resetDue := true } }) ∧
  (∀ (s : State), s.rtOn = true → s.updIdle = false → s.nv.upd.state = 7 → s.nv.upd.confirmed = false →
     600 ≤ s.stable → s.nv.upd.manual = false →
     exec .updStableConfirm s = .next ((s.modUpd fun u => { u with confirmed := true }).updTryConfirm)) ∧
  (∀ (s : State) (t : Nat), s.rtOn = true → s.updIdle = false → s.nv.upd.actTick = some t → 6 ≤ s.nv.upd.state →
     s.nv.upd.state ≤ 7 → t + 3000 ≤ s.tick.num →
     exec .updNodeConfirmTimeout s = .next (
       let late := s.nv.upd.targets.filter fun t => !t.failed && !s.targetNew t
       let u := late.foldl (fun s t => (s.updJob t.index 0x33 []).targetFail t.index 0xFF) s
       if !late.isEmpty && u.flag Fd.UPD_CFG_NODE_STRICT then u.nodesRevert.swapBack 4 else u.updTryConfirm)) ∧
  (∀ (s : State) (t : Nat), s.rtOn = true → s.updIdle = false → s.nv.upd.keptAt = some t → s.nv.upd.state = 0 →
     t + 86400 ≤ s.sec →
     exec .updContainerRelease s = .next (s.modUpd UpdNv.ended))

/-- The recorder (R380 to R387). Clauses that rest on the model's own choices: log entries 135 to 139 and 183. -/
def Obligations.Recorder : Prop :=
  (∀ (s : State), s.rtOn = true →
     exec .recWriteDone s = .next (
       if s.recWriteDone.appUp then s.recWriteDone.lspSendAll else s.recWriteDone)) ∧
  (∀ (s : State) (cause : Nat), s.rtOn = true → s.rcd.mounted = true → s.flag Fd.logDegraded = false →
     s.rcd.gasp = false →
     exec (.logDegraded cause) s = .next (
       let t := (s.put Fd.logDegraded 1).irq Pg.rec 1
       let r := t.mkRec Ev.LOG_DEGRADED Pg.rec [cause]
       if t.rcd.used < 255 then { t.takeIdx with rcd := { t.rcd with handed := r :: t.rcd.handed } } else t.raiseRec r)) ∧
  (∀ (s : State), s.rtOn = true → s.flag Fd.logDegraded = true → s.rcd.copying = false → s.rcd.gasp = false →
     exec (.recTrialWrite true) s = .next { s with rcd := { s.rcd with copying := true } }) ∧
  (∀ (s : State), s.rtOn = true → s.rcd.copying = true →
     exec .logRestored s = .next (
       let n := s.nv.fb.length
       let t := s.nv.fb.foldl (fun t r =>
         if t.nv.log.any (fun x => x.index == r.index) then t
         else match placeLog t.quotaRes t.nv.log { r with copied := true } logSlots with
           | none => t.recDrop r.sev
           | some l => { t with nv := { t.nv with log := l } }) s
       let t := { t with nv := { t.nv with fb := [], fbBad := 0 }, rcd := { t.rcd with copying := false } }
       ((t.put Fd.logDegraded 0).irq Pg.rec 2).raise Ev.LOG_RESTORED Pg.rec [n])) ∧
  (∀ (s : State) (ini : Nat) (v : Word), s.takes ini Rg.REC_RD_SEL = true → noReserved Rg.REC_RD_SEL v = true →
     exec (.recRdSelWrite ini v) s = .next ((s.begun ini Rg.REC_RD_SEL).recSelWrite ini v.toNat)) ∧
  (∀ (s : State) (ini : Nat), s.reaches ini (Rg.REC_RD_WIN 0) false = true →
     exec (.recRdWin0Read ini) s = .next (
       let b := match s.recAt (s.recSel ini) with
         | some r => r.bytes
         | none => []
       let t := { s with rcd := { s.rcd with
         rdWin := (List.range 16).foldl (fun m w =>
           Tab.set (fun _ => 0) m (ini * 16 + w) (BitVec.ofNat 32 (leAt b (4 * w) 4))) s.rcd.rdWin } }
       t.respond (t.live ini Pg.rec 0xC0) false)) ∧
  (∀ (s : State) (ini : Nat), s.reaches ini (Rg.REC_RD_WIN 15) false = true →
     exec (.recRdWin15Read ini) s = .next ((s.recAdvance ini).respond (s.live ini Pg.rec 0xFC) false)) ∧
  (∀ (s : State) (ini : Nat) (v : Word), s.takes ini Rg.REC_QUOTA = true → noReserved Rg.REC_QUOTA v = true →
     exec (.recQuotaWrite ini v) s = .next (
       let t := s.begun ini Rg.REC_QUOTA
       if 96 < getF v 0 8 + getF v 8 8 + getF v 16 8 then t.put (Fd.statBit Pg.rec 9) 1
       else (t.wr Rg.REC_QUOTA (v &&& 0x00FFFFFF)).put (Fd.statBit Pg.rec 9) 0)) ∧
  (∀ (s : State) (ini : Nat) (v : Word), s.takes ini Rg.REC_APP_POST = true → noReserved Rg.REC_APP_POST v = true →
     0x8000 ≤ getF v 0 16 →
     exec (.recAppPost ini v) s = .next (
       let t := s.begun ini Rg.REC_APP_POST
       t.raise ⟨getF v 0 16, getF v 16 2⟩ 0xFE
         ((List.range 5).map fun k => Tab.get (fun _ => 0) t.rcd.appParam (ini * 5 + k))))

/-- Burnish (R388 to R397). Clauses that rest on the model's own choices: log entries 140 to 145. -/
def Obligations.Burnish : Prop :=
  (∀ (s : State) (k : Nat) (v : Int), s.rtOn = true → k ≤ 32 → (k = 9 → s.get Fd.TIME_SRC_STAT_STATE = 3) →
     exec (.ageMeasure k v) s = .next (
       let t := s.ageSet k (if k = 32 then (s.ledItem : Int) else v)
       if k = 7 then t.avsSample else t)) ∧
  (∀ (s : State) (v : Nat), s.rtOn = true →
     exec (.nandScanDone v) s = .next (
       let t := s.ageSet 8 v
       if !t.flag Fd.AGE_CFG_NAND_EN then { t with age := { t.age with nandDays := 90, goodScans := 0 } }
       else
         let d := t.age.nandDays
         let g := if v ≤ 5 then t.age.goodScans + 1 else 0
         let d' := if 20 < v then max 7 (d / 2) else if 2 ≤ g then min 180 (d * 2) else d
         let t := { t with age := { t.age with nandDays := d', goodScans := if 2 ≤ g then 0 else g } }
         if d' = d then t else t.replanned 2 d' 0)) ∧
  (∀ (s : State), s.rtOn = true → s.age.scapRun = false → s.age.scapAt ≠ some (s.utc / 3600) →
     s.age.scapDue = true ∨ (s.flag Fd.AGE_CFG_SCAP_EN = true ∧ s.get Fd.AGE_SCAP_CFG_HOUR = s.utc / 3600 % 24 ∧
       (dateOfDay ((s.utc / 86400 : Nat) - 10957)).2.2 = (s.get Fd.AGE_SCAP_CFG_DAY : Int)) →
     exec .scapTestStart s = .next (
       let t : State := { s with age := { s.age with scapAt := some (s.utc / 3600) } }
       if s.pwr.state = .run ∧ s.nv.upd.state ≠ 6 ∧ s.nv.upd.state ≠ 8 ∧ 5000 ≤ s.pwr.vhold then
         { t with age := { t.age with scapRun := true, scapDue := false } }
       else ({ t with age := { t.age with scapDue := true } }).raise Ev.AGE_SCAP_TEST Pg.age [s.age.scapC, s.age.scapEsr, 1])) ∧
  (∀ (s : State) (c esr : Nat), s.rtOn = true → s.age.scapRun = true →
     exec (.ageScapTest c esr) s = .next (
       let old := s.holdPlanWord
       let t := { s with age := { s.age with scapRun := false, scapC := c, scapEsr := esr } }
       let t := ((t.ageSet 10 c).ageSet 11 esr).irq Pg.age 3
       let t := t.raise Ev.AGE_SCAP_TEST Pg.age [c, esr, 0]
       if t.holdPlanWord = old then t else t.replanned 3 t.holdT 0)) ∧
  (∀ (s : State) (b : Nat), s.rtOn = true → b < 16 → s.transmits = true → s.flag (Fd.FB_SAMPLE_PT_BURNISH_EN b) = true →
     exec (.samplePointReplan b) s = .next (
       let f := s.fbs b
       let t := s.modFb b ({ · with errD := 0, errA := 0, frames := 0 })
       let d := spStep (t.spPlan b 0) f.errD f.frames
       let a := spStep (t.spPlan b 1) f.errA f.frames
       let moved := d.ofs != (t.spPlan b 0).ofs || a.ofs != (t.spPlan b 1).ofs
       let t := (t.setSpPlan b 0 d).setSpPlan b 1 a
       if !moved then t
       else
         let nom := ((t.get (Fd.FB_SAMPLE_PT_NOM_SP b) : Int) + a.ofs).toNat
         let dat := ((t.get (Fd.FB_SAMPLE_PT_DATA_SP b) : Int) + d.ofs).toNat
         let w := setF (setF 0 24 7 nom) 16 7 dat
         ((t.modFb b ({ · with spPend := some w })).mirrorOut (.samplePt b w)).replanned 4 w.toNat b)) ∧
  (∀ (s : State), s.rtOn = true → s.utc / 3600 % 24 = 12 → s.age.capDay ≠ some (s.utc / 86400) →
     exec .driveCapReplan s = .next (
       let t := if s.flag Fd.AGE_CFG_CAP_EN && s.transmits then
           s.node.table.foldl (fun (a : State × Nat) e =>
             let r := a.1.capNode e.1
             (r.1, a.2 + b2n r.2)) (s, 0)
         else (s, 0)
       let u := if t.2 = 0 then t.1 else t.1.replanned 5 t.2 0
       { u with age := { u.age with capSum := [], capCnt := [], capDay := some (u.utc / 86400) } })) ∧
  (∀ (s : State) (ini : Nat), s.takes ini Rg.AGE_CMD = true → s.get ⟨Rg.AGE_ITEM_SEL, 0, 6⟩ ≤ 32 →
     (s.get ⟨Rg.AGE_ITEM_SEL, 0, 6⟩ = 9 → s.get Fd.TIME_SRC_STAT_STATE = 3) →
     exec (.ageCmdMeasure ini) s = .next (
       let f := (s.begun ini Rg.AGE_CMD).fresh
       let k := s.get ⟨Rg.AGE_ITEM_SEL, 0, 6⟩
       let t := f.2.ageSet k (if k = 32 then (f.2.ledItem : Int) else signed 32 f.1.toNat)
       if k = 7 then t.avsSample else t)) ∧
  (∀ (s : State) (ini : Nat), s.takes ini Rg.AGE_CMD = true →
     exec (.ageCmdScapTest ini) s = .next (
       let b := s.begun ini Rg.AGE_CMD
       let t : State := { b with age := { b.age with scapAt := some (s.utc / 3600) } }
       if t.age.scapRun then t
       else if t.pwr.state = .run ∧ t.nv.upd.state ≠ 6 ∧ t.nv.upd.state ≠ 8 ∧ 5000 ≤ t.pwr.vhold then
         { t with age := { t.age with scapRun := true, scapDue := false } }
       else ({ t with age := { t.age with scapDue := true } }).raise Ev.AGE_SCAP_TEST Pg.age [t.age.scapC, t.age.scapEsr, 1])) ∧
  (∀ (s : State) (ini : Nat), s.reaches ini Rg.AGE_MARGIN false = true →
     exec (.ageMarginRead ini) s = .next (
       let t := (span 0x4C 0x58).foldl (fun t k => t.setLatch ini Pg.age k (s.live ini Pg.age k)) s
       t.respond ((t.latched ini Pg.age 0x48).getD (t.live ini Pg.age 0x48)) false))

/-- The queue of commands is the model's form of what reaches the module from outside (scope: R2, 00_scope.md); that
a step of an empty queue idles is the model's choice: time passes only by commands (log entry 1). -/
def Obligations.StepRunsFront : Prop :=
  (∀ (c : Instr) (s : State), step { s with pending := c :: s.pending } = exec c s) ∧
  (∀ (c : Instr) (rest : List Instr) (s : State), s.pending = c :: rest → step s = exec c { s with pending := rest }) ∧
  (∀ s : State, s.pending = [] → step s = .next s)

/-- The spec names no behaviour of a command that has no effect: what it turns away is answered with a response, a
capture or nothing (R45, chapter 2). -/
def Obligations.EveryCommandCompletes : Prop :=
  ∀ (c : Instr) (s : State), ∃ t, exec c s = .next t

/-- No command puts a command into the queue or takes one out (log entry 1; R2). -/
def Obligations.StepTakesOnlyTheFront : Prop :=
  ∀ s t : State, step s = .next t → t.pending = s.pending.tail

/-- The light path's free-running counter is not the disciplined time, which may step back (R51, R211). -/
def Obligations.TimeGoesForward : Prop :=
  ∀ s t : State, step s = .next t → s.ns ≤ t.ns ∧ s.free ≤ t.free

/-- The form is the model's (State.regsOk); a register unlisted reads its reset value. -/
def Obligations.RegistersCanonicalAtReset : Prop :=
  State.reset.regsOk = true

/-- The invariant State.regsOk, for every command of the table. -/
def Obligations.RegistersStayCanonical : Prop :=
  ∀ s t : State, s.regsOk = true → step s = .next t → t.regsOk = true

/-- R348, last row of the table: no transition leaves SCRAPPED. -/
def Obligations.ScrappedForever : Prop :=
  ∀ s t : State, s.scrapped = true → step s = .next t → t.scrapped = true

/-- R45. The order in which two errors of one access are tested is the model's reading (log entry 16). -/
def Obligations.AccessErrors : Prop :=
  (∀ (s : State) (ini a : Nat) (w : Bool), a < 0x80000 → s.reaches ini a w = true →
     exec (.accessTimeout ini a w) s = .next (
       if quietRead (a / 0x1000) (a % 0x1000) w then s
       else
         let t := s.capture ini (a / 0x1000) (a % 0x1000) w 0x05
         (if w && a % 0x1000 != 0x28 then t.useLock ini (a / 0x1000) else t).respond 0 true)) ∧
  (∀ (s : State) (ini a size : Nat) (v : Word) (e : Nat × Bool), a < 0x80000 → s.mayAccess ini = true →
     s.accessError ini a size true false = some e →
     exec (.registerWrite ini a size v) s = .next (
       let t := if e.2 then s.captureSys ini true e.1 a else s.capture ini (a / 0x1000) (a % 0x1000) true e.1
       (if a % 0x1000 = 0x28 then t else t.useLock ini (a / 0x1000)).respond 0 true)) ∧
  (∀ (s : State) (a size : Nat) (v : Word) (e : Nat × Bool), a < 0x80000 → s.mayAccess 5 = true →
     s.flag Fd.PCIE_LINK_L1 = false → s.accessError 5 a size false false = some e →
     exec (.hostAccess a size false v) s = .next (
       (if e.2 then s.captureSys 5 false e.1 a else s.capture 5 (a / 0x1000) (a % 0x1000) false e.1).respond 0 true)) ∧
  (∀ (s : State) (ini a size : Nat) (w : Bool),
     (pageExists (a / 0x1000) = false → s.accessError ini a size w false = some (0x07, true)) ∧
     (pageExists (a / 0x1000) = true → quietRead (a / 0x1000) (a % 0x1000) w = true →
       s.accessError ini a size w false = none) ∧
     (pageExists (a / 0x1000) = true → quietRead (a / 0x1000) (a % 0x1000) w = false → s.pageOn (a / 0x1000) = false →
       s.accessError ini a size w false = some (0x08, true)) ∧
     (pageExists (a / 0x1000) = true → quietRead (a / 0x1000) (a % 0x1000) w = false → s.pageOn (a / 0x1000) = true →
       (s.denied ini (a / 0x1000) (a % 0x1000) w false = true → s.accessError ini a size w false = some (0x06, false)) ∧
       (s.denied ini (a / 0x1000) (a % 0x1000) w false = false →
         (size ≠ 4 ∨ a % 4 ≠ 0 → s.accessError ini a size w false = some (0x02, false)) ∧
         (size = 4 → a % 4 = 0 →
           s.accessError ini a size w false =
             if s.flag (Fd.srstBusy (capPage (a / 0x1000))) = true ∧ 0x40 ≤ a % 0x1000 ∧ isFbmo (a / 0x1000) = false then
               some (0x04, false) else none))))

/-- ERR_CAP (R41, R45). Clauses that rest on the model's own choices: log entries 17 and 23. -/
def Obligations.ErrorCapture : Prop :=
  (∀ (s : State) (ini p o : Nat) (w : Bool) (code : Nat), ini < 16 → o < 0x1000 → code < 256 → capPage p < 0x80 →
     s.flag ⟨Rg.errCap (capPage p), 31, 1⟩ = false →
     let t := s.capture ini p o w code
     let q := capPage p
     t.rd (Rg.errCap q) = BitVec.ofNat 32 (2 ^ 31 + ini * 2 ^ 24 + b2n w * 2 ^ 23 + code * 2 ^ 12 + o) ∧
     t.get ⟨Rg.irqStat q, 31, 1⟩ = 1 ∧ ∀ k, k ≠ Rg.errCap q → k ≠ Rg.irqStat q → t.rd k = s.rd k) ∧
  (∀ (s : State) (ini p o : Nat) (w : Bool) (code : Nat), s.flag ⟨Rg.errCap (capPage p), 31, 1⟩ = true →
     let t := s.capture ini p o w code
     t.get ⟨Rg.errCap (capPage p), 30, 1⟩ = 1 ∧
     (∀ lo len, lo + len ≤ 32 → (lo + len ≤ 30 ∨ 31 ≤ lo) →
       t.get ⟨Rg.errCap (capPage p), lo, len⟩ = s.get ⟨Rg.errCap (capPage p), lo, len⟩) ∧
     ∀ k, k ≠ Rg.errCap (capPage p) → t.rd k = s.rd k)

/-- R45, code 0x01. -/
def Obligations.ReservedBits : Prop :=
  ∀ (s : State) (ini a : Nat) (v : Word) (r : RegRow), plainReg a = true → rowAt a = some r → s.takes ini a = true →
    noReserved a v = false →
    exec (.registerWrite ini a 4 v) s = .next (
      let t := (s.begun ini a).capture ini (a / 0x1000) (a % 0x1000) true 0x01
      let u := v &&& BitVec.ofNat 32 (impBits (a / 0x1000) (a % 0x1000))
      let old := t.word (a / 0x1000) (a % 0x1000)
      let rw := BitVec.ofNat 32 r.rw
      (t.wr (t.regKey (a / 0x1000) (a % 0x1000))
        (((old &&& ~~~rw) ||| (clampReg (a / 0x1000) (a % 0x1000) old u &&& rw)) &&& ~~~(u &&& BitVec.ofNat 32 r.w1c))).toPartner a v)

/-- The operations by which every command changes a register (R39). -/
def Obligations.RegisterWords : Prop :=
  ∀ (s : State) (a b lo len v lo' len' : Nat) (w : Word),
    (s.wr a w).rd a = w ∧ (b ≠ a → (s.wr a w).rd b = s.rd b) ∧
    (lo + len ≤ 32 → (s.put ⟨a, lo, len⟩ v).get ⟨a, lo, len⟩ = v % 2 ^ len) ∧
    (b ≠ a → (s.put ⟨a, lo, len⟩ v).rd b = s.rd b) ∧
    (lo' + len' ≤ 32 → (lo + len ≤ lo' ∨ lo' + len' ≤ lo) →
      (s.put ⟨a, lo, len⟩ v).get ⟨a, lo', len'⟩ = s.get ⟨a, lo', len'⟩) ∧
    s.wr a w = { s with regs := (s.wr a w).regs }

/-- The table of R275; the page's request is the OR of IRQ_STAT AND IRQ_EN (R42). -/
def Obligations.InterruptRequests : Prop :=
  ∀ (s : State) (i : Nat),
    (i < 128 → s.srcReq i = ((pageInfo i).isSome && (s.rd (Rg.irqStat i) &&& s.rd (Rg.irqEn i)) != 0)) ∧
    (i < 64 → (s.srcReq (128 + i) = true ↔
      s.get (inBank Fd.QM_Q_CFG2_WMARK i) ≠ 0 ∧ s.get (inBank Fd.QM_Q_CFG2_WMARK i) ≤ (s.qItems i).length)) ∧
    (i < 8 → s.srcReq (192 + i) = s.flag ⟨Rg.PCIE_HDB, i, 1⟩) ∧
    (200 ≤ i → i < 224 → s.srcReq i = false) ∧
    (i < 32 → s.srcReq (224 + i) = s.flag ⟨Rg.IU_DOORBELL, i, 1⟩)

/-- R277: among the eligible sources, the unit selects the one with the lowest PRIO, and the lowest source number on
a tie. -/
def Obligations.InterruptSelection : Prop :=
  (∀ (s : State) (c i : Nat), s.iuBest c = some i → i < 256 ∧ s.srcElig c i = true ∧
     ∀ j, j < 256 → s.srcElig c j = true →
       s.get (inBank Fd.IU_SRC_CFG_PRIO i) < s.get (inBank Fd.IU_SRC_CFG_PRIO j) ∨
       (s.get (inBank Fd.IU_SRC_CFG_PRIO i) = s.get (inBank Fd.IU_SRC_CFG_PRIO j) ∧ i ≤ j)) ∧
  (∀ (s : State) (c j : Nat), s.iuBest c = none → j < 256 → s.srcElig c j = false)

/-- R295. -/
def Obligations.HostDoorbells : Prop :=
  (∀ (s : State) (v : Word), s.takes 5 Rg.PCIE_HDB_SET = true → noReserved Rg.PCIE_HDB_SET v = true →
     ∃ t, exec (.hdbSet v) s = .next t ∧ ∀ k, k < 8 →
       t.flag ⟨Rg.PCIE_HDB, k, 1⟩ = (bitW v k || s.flag ⟨Rg.PCIE_HDB, k, 1⟩) ∧
       t.srcReq (192 + k) = t.flag ⟨Rg.PCIE_HDB, k, 1⟩) ∧
  (∀ (s : State) (ini : Nat) (v : Word), s.takes ini Rg.PCIE_HDB = true → noReserved Rg.PCIE_HDB v = true →
     ∃ t, exec (.hdbClear ini v) s = .next t ∧ ∀ k, k < 8 →
       t.flag ⟨Rg.PCIE_HDB, k, 1⟩ = (s.flag ⟨Rg.PCIE_HDB, k, 1⟩ && !bitW v k))

/-- R267; the head-end's retry is its own affair. -/
def Obligations.BatchReplay : Prop :=
  (∀ (s : State) (k queued core : Nat) (x : Session) (m : List Nat) (p : LspMsg) (e : Nat × List BatchOp),
     s.appUp = true → k < 4 → s.sess k = some x → lspParse m = some p → p.ver = 1 → p.typ = 1 →
     p.len = p.body.length → p.len % 12 = 0 → 12 ≤ p.len → p.len ≤ 1176 →
     ((Tab.get (fun _ => []) s.net.store k).find? fun e => e.1 == p.reqId) = some e →
     exec (.lspRegBatch k queued core m) s =
       .next ((s.heardPeer k).lspOut k (lspBytes 2 p.reqId 0 (e.2.flatMap BatchOp.bytes)))) ∧
  (∀ (s : State) (k core : Nat) (x : Session) (m : List Nat) (p : LspMsg), s.appUp = true → k < 4 →
     s.sess k = some x → lspParse m = some p → p.ver = 1 → p.typ = 1 →
     p.len = p.body.length → p.len % 12 = 0 → 12 ≤ p.len → p.len ≤ 1176 →
     ((Tab.get (fun _ => []) s.net.store k).find? fun e => e.1 == p.reqId) = none →
     (Tab.get (fun _ => []) s.net.store k).length ≤ 16 →
     ∃ t r, exec (.lspRegBatch k 0 core m) s = .next t ∧
       r = ((s.heardPeer k).batchRun (core % 4 + 1) (p.flags.testBit 0) (batchOps (p.len / 12) p.body)).1 ∧
       (Tab.get (fun _ => []) t.net.store k).length ≤ 16 ∧
       Tab.get (fun _ => []) t.net.store k =
         (Tab.get (fun _ => []) s.net.store k).drop ((Tab.get (fun _ => []) s.net.store k).length - 15) ++ [(p.reqId, r)])

/-- R294. An access to a page that is reserved or without power meets the error of R45 that comes first; a read of
ERR_CAP, BUSERR_ADDR or BUSERR_INFO meets none (R45). -/
def Obligations.HostMask : Prop :=
  (∀ (s : State) (a size : Nat) (w : Bool) (v : Word), s.flag Fd.PCIE_LINK_L1 = false →
     exec (.hostAccess a size w v) s = .next (if w then s.busWrite 5 a size v else s.busRead 5 a size)) ∧
  (∀ (s : State) (a size : Nat) (w : Bool) (v : Word), a < 0x80000 → s.mayAccess 5 = true → pageExists (a / 0x1000) = true →
     s.pageOn (a / 0x1000) = true → bitW (s.rd (Rg.PCIE_HOST_MASK (a / 0x1000 / 32))) (a / 0x1000 % 32) = false →
     quietRead (a / 0x1000) (a % 0x1000) w = false → s.flag Fd.PCIE_LINK_L1 = false →
     exec (.hostAccess a size w v) s = .next (
       let t := s.capture 5 (a / 0x1000) (a % 0x1000) w 0x06
       (if w && a % 0x1000 != 0x28 then t.useLock 5 (a / 0x1000) else t).respond 0 true)) ∧
  (∀ p, p < 128 →
     (bitW (State.reset.rd (Rg.PCIE_HOST_MASK (p / 32))) (p % 32) = true ↔ p = Pg.sys ∨ p = Pg.qmq ∨ p = Pg.pcie)) ∧
  (∀ (s : State) (o : Nat),
     (o ≠ 0x54 → o ≠ 0x6C → s.denied 5 Pg.pcie o true false = true) ∧
     (∀ ini, 0x44 ≤ o → o ≤ 0x50 → (ini < 1 ∨ 4 < ini) → s.denied ini Pg.pcie o true false = true))

/-- R289. -/
def Obligations.QueueStalls : Prop :=
  (∀ (s : State) (q : Nat), q < 64 → (s.srcReq (128 + q) = true ↔
     s.get (inBank Fd.QM_Q_CFG2_WMARK q) ≠ 0 ∧ s.get (inBank Fd.QM_Q_CFG2_WMARK q) ≤ (s.qItems q).length)) ∧
  (∀ (s : State) (q : Nat), s.appUp = true → q < 64 → s.get (inBank Fd.QM_Q_CFG2_STALL q) ≠ 0 → (s.qItems q).length ≠ 0 →
     s.qOn q = true → Tab.get (fun _ => false) s.qm.stalled q = false →
     ∃ t : State, exec (.qmStall q) s = .next (t.raise Ev.QM_STALL Pg.qm [q, (s.qItems q).length]) ∧
       Tab.get (fun _ => false) t.qm.stalled q = true) ∧
  (∀ (s : State) (ini q : Nat), q < 64 → s.reaches ini (itemReg q 0) false = true →
     ∃ t, exec (.queuePop ini q) s = .next t ∧ Tab.get (fun _ => false) t.qm.stalled q = false)

/-- The frame of every command's interrupt (R42) and of every command's event (R379, R382). Clauses that rest on the
model's own choices: log entry 183. -/
def Obligations.RaisingFrames : Prop :=
  (∀ (s : State) (p b : Nat), b < 32 → let t := s.irq p b
     t.get ⟨Rg.irqStat p, b, 1⟩ = 1 ∧ (∀ k, k ≠ Rg.irqStat p → t.rd k = s.rd k) ∧
     (∀ j, j < 32 → j ≠ b → t.get ⟨Rg.irqStat p, j, 1⟩ = s.get ⟨Rg.irqStat p, j, 1⟩) ∧
     t = { s with regs := t.regs, iu := t.iu }) ∧
  (∀ (s : State) (ev : Ev) (src : Nat) (ps : List Nat), s.rcd.used < 255 →
     s.raise ev src ps = { s with
       rcd := { s.rcd with ring := s.rcd.ring ++ [s.mkRec ev src ps] }
       nv := { s.nv with cnt := { s.nv.cnt with nextIdx := (s.nv.cnt.nextIdx + 1) % 2 ^ 32 } } }) ∧
  (∀ (s : State) (ev : Ev) (src : Nat) (ps : List Nat), let t := s.raise ev src ps
     t = { s with regs := t.regs, iu := t.iu, rcd := t.rcd,
                  nv := { s.nv with cnt := { s.nv.cnt with nextIdx := t.nv.cnt.nextIdx } } } ∧
     ∀ k, k ≠ Rg.REC_LOST → k ≠ Rg.irqStat Pg.rec → t.rd k = s.rd k)

/-- R296: entries are 16 bytes. Clauses that rest on the model's own choices: log entry 129. -/
def Obligations.HostMemory : Prop :=
  ∀ (s : State) (k : Nat) (ws : List Word), k < 8 → s.get (inBank Fd.PCIE_CQ_CFG_SIZE k) ≤ 4096 →
    let base := (s.rd (bank k Rg.PCIE_CQ_BASE_HI)).toNat * 2 ^ 32 + (s.rd (bank k Rg.PCIE_CQ_BASE_LO)).toNat
    let tl := s.get (inBank ⟨Rg.PCIE_CQ_TAIL, 0, 12⟩ k)
    let n := s.get (inBank Fd.PCIE_CQ_CFG_SIZE k)
    let t := s.cqWrite k ws
    (∀ i, i < 4 → Tab.get (fun _ => 0) t.pcie.hostMem (base + 16 * tl + 4 * i) =
      if i = 3 then setF ((ws[3]?).getD 0) 31 1 (b2n (s.cq k).phase) else (ws[i]?).getD 0) ∧
    (∀ a, (∀ i, i < 4 → a ≠ base + 16 * tl + 4 * i) →
      Tab.get (fun _ => 0) t.pcie.hostMem a = Tab.get (fun _ => 0) s.pcie.hostMem a) ∧
    t.get (inBank ⟨Rg.PCIE_CQ_TAIL, 0, 12⟩ k) = (if n ≤ tl + 1 then 0 else tl + 1) ∧
    (t.cq k).phase = (if n ≤ tl + 1 then !(s.cq k).phase else (s.cq k).phase)

/-- The rule of R383. -/
def Obligations.RecordPlacement : Prop :=
  (∀ (res : Nat → Nat) (l : List Rec) (r : Rec) (cap : Nat), l.length < cap → placeLog res l r cap = some (l ++ [r])) ∧
  (∀ (res : Nat → Nat) (l : List Rec) (r : Rec) (cap : Nat), cap ≤ l.length → r.sev ≤ 3 → (∀ x ∈ l, x.sev ≤ 3) →
     let cand := fun (v : Nat) => decide (v ≤ r.sev) && decide (res v < sevCount l v)
     ((∃ v, v ≤ 3 ∧ cand v = true) →
       ∃ a x b, l = a ++ x :: b ∧ cand x.sev = true ∧ (∀ y ∈ a, cand y.sev = false) ∧
         placeLog res l r cap = some (a ++ b ++ [r])) ∧
     ((∀ v, v ≤ 3 → cand v = false) →
       (∀ a x b, l = a ++ x :: b → x.sev = r.sev → (∀ y ∈ a, y.sev ≠ r.sev) →
         placeLog res l r cap = some (a ++ b ++ [r])) ∧
       ((∀ x ∈ l, x.sev ≠ r.sev) → placeLog res l r cap = none)))

/-- R340. Clauses that rest on the model's own choices: log entries 157 to 159. -/
def Obligations.KeyMessageChecks : Prop :=
  (∀ (s : State) (raw : List Nat) (m : KeyMsg) (ops : List KeyOp), s.checkMsg raw = .inr (m, ops) ↔
     parseMsg raw = some m ∧ m.uid = ofLe uidBytes ∧ s.nv.keys.ctr < m.ctr ∧ s.signerOk m = true ∧
     ecVerify (ecHalf (if m.signer = 0 then Config.mfrAnchor else (s.key 2).mat)) m.signed m.sigEc = true ∧
     dsaVerify (pqHalf (if m.signer = 0 then Config.mfrAnchor else (s.key 2).mat)) m.signed m.sigPq = true ∧
     (∃ body, gcmOpen (leBytes 32 (if m.kek = 0 then (s.key 1).mat else (s.key 3).mat)) m.iv m.head m.body = some body ∧
       parseOps m.ops body = some ops) ∧
     (∀ o ∈ ops, s.opOk (m.signer == 1) o = true) ∧ s.pwr.state ≠ .holdup ∧ s.nv.keys.pend = none) ∧
  (∀ (s : State) (m : KeyMsg) (ops : List KeyOp), (s.applyMsg m ops).nv.keys.ctr = m.ctr)

/-- Values the spec gives; those it leaves open are the model's and stand in log entry 4. -/
def Obligations.ResetValues : Prop :=
  (∀ a, State.reset.rd a = regReset a) ∧ State.reset.pending = [] ∧ State.reset.acc.heldBack = [] ∧
  (∀ p, p < 128 → State.reset.unlock p = none) ∧ State.reset.rd Rg.REC_QUOTA = 0x00101010 ∧
  State.reset.tick.num = 0 ∧ State.reset.nv.log = [] ∧ State.reset.nv.keys.lc = 0
end

