-- ==== Sys2Proof/Laws/Tab.lean ====
section
/-! SUPPORT. Laws of tables: what a read answers after a write, and that every write keeps the canonical form. -/

namespace Sys2Proof.Machine

variable {V : Type}

theorem Tab.get_del_same (d : Nat → V) (m : Tab V) (k : Nat) : Tab.get d (Tab.del m k) k = d k := by
  induction m with
  | nil => rfl
  | cons e t ih =>
    obtain ⟨j, v⟩ := e
    by_cases h : j = k
    · simpa [Tab.del, h] using ih
    · simpa [Tab.del, Tab.get, h] using ih

theorem Tab.get_del_ne (d : Nat → V) (m : Tab V) {k j : Nat} (h : j ≠ k) :
    Tab.get d (Tab.del m k) j = Tab.get d m j := by
  induction m with
  | nil => rfl
  | cons e t ih =>
    obtain ⟨i, v⟩ := e
    by_cases hi : i = k
    · subst hi
      simpa [Tab.del, Tab.get, Ne.symm h] using ih
    · by_cases hj : i = j <;> simp [Tab.del, Tab.get, hi, hj, ih, h]

theorem Tab.get_ins_same (d : Nat → V) (m : Tab V) (k : Nat) (v : V) (hm : ∀ e ∈ m, e.1 ≠ k) :
    Tab.get d (Tab.ins m k v) k = v := by
  induction m with
  | nil => simp [Tab.ins, Tab.get]
  | cons e t ih =>
    obtain ⟨j, w⟩ := e
    have hj : j ≠ k := hm (j, w) (by simp)
    by_cases h : k < j
    · simp [Tab.ins, Tab.get, h]
    · simp [Tab.ins, Tab.get, h, hj, ih fun e he => hm e (by simp [he])]

theorem Tab.get_ins_ne (d : Nat → V) (m : Tab V) {k j : Nat} (v : V) (h : j ≠ k) :
    Tab.get d (Tab.ins m k v) j = Tab.get d m j := by
  induction m with
  | nil => simp [Tab.ins, Tab.get, Ne.symm h]
  | cons e t ih =>
    obtain ⟨i, w⟩ := e
    by_cases hk : k < i
    · simp [Tab.ins, Tab.get, hk, Ne.symm h]
    · by_cases hi : i = j
      · subst hi; simp [Tab.ins, Tab.get, hk]
      · simp [Tab.ins, Tab.get, hk, hi, ih]

theorem Tab.del_mem {m : Tab V} {k : Nat} {e : Nat × V} (h : e ∈ Tab.del m k) : e ∈ m ∧ e.1 ≠ k := by
  induction m with
  | nil => simp [Tab.del] at h
  | cons c t ih =>
    obtain ⟨j, v⟩ := c
    by_cases hj : j = k
    · have := ih (by simpa [Tab.del, hj] using h)
      exact ⟨by simp [this.1], this.2⟩
    · rcases (by simpa [Tab.del, hj] using h : e = (j, v) ∨ e ∈ Tab.del t k) with rfl | h'
      · exact ⟨by simp, hj⟩
      · exact ⟨by simp [(ih h').1], (ih h').2⟩

/-- A read of the key written answers the value written. -/
@[simp] theorem Tab.get_set_same [DecidableEq V] (d : Nat → V) (m : Tab V) (k : Nat) (v : V) :
    Tab.get d (Tab.set d m k v) k = v := by
  unfold Tab.set
  split
  · rename_i h; rw [Tab.get_del_same, h]
  · exact Tab.get_ins_same d _ k v fun e he => (Tab.del_mem he).2

/-- A read of another key answers what it answered before. -/
theorem Tab.get_set_ne [DecidableEq V] (d : Nat → V) (m : Tab V) {k j : Nat} (v : V) (h : j ≠ k) :
    Tab.get d (Tab.set d m k v) j = Tab.get d m j := by
  unfold Tab.set
  split
  · exact Tab.get_del_ne d m h
  · rw [Tab.get_ins_ne d _ v h, Tab.get_del_ne d m h]

/-- The keys of a rising table are at least its lower bound. -/
theorem Tab.rising_le {lo : Nat} {m : Tab V} (h : Tab.rising lo m = true) : ∀ e ∈ m, lo ≤ e.1 := by
  induction m generalizing lo with
  | nil => simp
  | cons c t ih =>
    obtain ⟨j, v⟩ := c
    simp [Tab.rising] at h
    intro e he
    rcases (by simpa using he : e = (j, v) ∨ e ∈ t) with rfl | he
    · exact h.1
    · have := ih h.2 e he; omega

theorem Tab.rising_mono {lo hi : Nat} {m : Tab V} (hl : lo ≤ hi) (h : Tab.rising hi m = true) :
    Tab.rising lo m = true := by
  cases m with
  | nil => rfl
  | cons c t => obtain ⟨j, v⟩ := c; simp [Tab.rising] at h ⊢; exact ⟨by omega, h.2⟩

theorem Tab.rising_del {lo : Nat} {m : Tab V} (k : Nat) (h : Tab.rising lo m = true) :
    Tab.rising lo (Tab.del m k) = true := by
  induction m generalizing lo with
  | nil => rfl
  | cons c t ih =>
    obtain ⟨j, v⟩ := c
    simp [Tab.rising] at h
    by_cases hj : j = k
    · simpa [Tab.del, hj] using Tab.rising_mono (by omega) (ih h.2)
    · simp [Tab.del, hj, Tab.rising, h.1, ih h.2]

theorem Tab.rising_ins {lo : Nat} {m : Tab V} {k : Nat} (v : V) (h : Tab.rising lo m = true) (hk : lo ≤ k)
    (hm : ∀ e ∈ m, e.1 ≠ k) : Tab.rising lo (Tab.ins m k v) = true := by
  induction m generalizing lo with
  | nil => simp [Tab.ins, Tab.rising, hk]
  | cons c t ih =>
    obtain ⟨j, w⟩ := c
    simp [Tab.rising] at h
    have hj : j ≠ k := hm (j, w) (by simp)
    by_cases hlt : k < j
    · simp [Tab.ins, hlt, Tab.rising, hk, h.2, Nat.succ_le_of_lt hlt]
    · simp [Tab.ins, hlt, Tab.rising, h.1, ih h.2 (by omega) fun e he => hm e (by simp [he])]

theorem Tab.lean_iff [DecidableEq V] (d : Nat → V) (m : Tab V) :
    Tab.lean d m = true ↔ ∀ e ∈ m, e.2 ≠ d e.1 := by
  induction m with
  | nil => simp [Tab.lean]
  | cons c t ih => obtain ⟨j, v⟩ := c; simp [Tab.lean, ih]

theorem Tab.ins_mem {m : Tab V} {k : Nat} {v : V} {e : Nat × V} (h : e ∈ Tab.ins m k v) : e = (k, v) ∨ e ∈ m := by
  induction m with
  | nil => simpa [Tab.ins] using h
  | cons c t ih =>
    obtain ⟨j, w⟩ := c
    by_cases hlt : k < j
    · simpa [Tab.ins, hlt] using h
    · rcases (by simpa [Tab.ins, hlt] using h : e = (j, w) ∨ e ∈ Tab.ins t k v) with rfl | h'
      · simp
      · rcases ih h' with h | h <;> simp [h]

theorem Tab.clear_mem {p : Nat → Bool} {m : Tab V} {e : Nat × V} (h : e ∈ Tab.clear p m) : e ∈ m := by
  induction m with
  | nil => simp [Tab.clear] at h
  | cons c t ih =>
    obtain ⟨j, v⟩ := c
    by_cases hp : p j = true
    · simp [ih (by simpa [Tab.clear, hp] using h)]
    · rcases (by simpa [Tab.clear, hp] using h : e = (j, v) ∨ e ∈ Tab.clear p t) with rfl | h'
      · simp
      · simp [ih h']

theorem Tab.rising_clear {lo : Nat} {m : Tab V} (p : Nat → Bool) (h : Tab.rising lo m = true) :
    Tab.rising lo (Tab.clear p m) = true := by
  induction m generalizing lo with
  | nil => rfl
  | cons c t ih =>
    obtain ⟨j, v⟩ := c
    simp [Tab.rising] at h
    by_cases hp : p j = true
    · simpa [Tab.clear, hp] using Tab.rising_mono (by omega) (ih h.2)
    · simp [Tab.clear, hp, Tab.rising, h.1, ih h.2]

/-- A write keeps the canonical form. -/
theorem Tab.wf_set [DecidableEq V] (d : Nat → V) (m : Tab V) (k : Nat) (v : V) (h : Tab.wf d m = true) :
    Tab.wf d (Tab.set d m k v) = true := by
  simp only [Tab.wf, Bool.and_eq_true] at h ⊢
  unfold Tab.set
  split
  · refine ⟨Tab.rising_del k h.1, ?_⟩
    rw [Tab.lean_iff] at *
    exact fun e he => h.2 e (Tab.del_mem he).1
  · rename_i hv
    refine ⟨Tab.rising_ins v (Tab.rising_del k h.1) (Nat.zero_le _) fun e he => (Tab.del_mem he).2, ?_⟩
    rw [Tab.lean_iff] at *
    intro e he
    rcases Tab.ins_mem he with rfl | he
    · exact hv
    · exact h.2 e (Tab.del_mem he).1

/-- Clearing entries keeps the canonical form. -/
theorem Tab.wf_clear [DecidableEq V] (d : Nat → V) (p : Nat → Bool) (m : Tab V) (h : Tab.wf d m = true) :
    Tab.wf d (Tab.clear p m) = true := by
  simp only [Tab.wf, Bool.and_eq_true] at h ⊢
  refine ⟨Tab.rising_clear p h.1, ?_⟩
  rw [Tab.lean_iff] at *
  exact fun e he => h.2 e (Tab.clear_mem he)

end Sys2Proof.Machine
end

