-- ==== Sys2Proof/Laws/State.lean ====
section
/-! SUPPORT. Laws of the state: fields of words, register words, and what the updates of Ops leave alone. -/

namespace Sys2Proof.Machine

/-! ### Fields of a word -/

/-- A bit of a field mask. -/
theorem maskF_getLsbD (lo len i : Nat) (hi : i < 32) : (maskF lo len).getLsbD i = (decide (lo ≤ i) && decide (i < lo + len)) := by
  unfold maskF
  simp only [BitVec.getLsbD_ofNat, hi, decide_true, Bool.true_and, Nat.testBit_shiftLeft, Nat.testBit_two_pow_sub_one]
  by_cases h : lo ≤ i
  · simp [h]; omega
  · simp [h]

/-- A bit of a word with one field replaced. -/
theorem setF_getLsbD (w : Word) (lo len v i : Nat) (hi : i < 32) : (setF w lo len v).getLsbD i =
    if lo ≤ i ∧ i < lo + len then v.testBit (i - lo) else w.getLsbD i := by
  unfold setF
  have hm := maskF_getLsbD lo len i hi
  simp only [BitVec.getLsbD_or, BitVec.getLsbD_and, BitVec.getLsbD_not, hm, hi, decide_true, Bool.true_and, BitVec.getLsbD_ofNat,
    Nat.testBit_shiftLeft]
  by_cases h : lo ≤ i <;> by_cases h' : i < lo + len <;> simp [h, h']

/-- A bit of a field. -/
theorem getF_testBit (w : Word) (lo len i : Nat) : (getF w lo len).testBit i = (decide (i < len) && w.getLsbD (lo + i)) := by
  unfold getF
  simp only [Nat.testBit_mod_two_pow, Nat.testBit_shiftRight]
  rfl

/-- A field replaced holds the value, cut to its width. -/
theorem getF_setF (w : Word) (lo len v : Nat) (h : lo + len ≤ 32) : getF (setF w lo len v) lo len = v % 2 ^ len := by
  apply Nat.eq_of_testBit_eq
  intro i
  rw [getF_testBit, Nat.testBit_mod_two_pow]
  by_cases hi : i < len
  · rw [setF_getLsbD _ _ _ _ _ (by omega)]; simp [hi]
  · simp [hi]

/-- A field replaced leaves the fields beside it. -/
theorem getF_setF_ne (w : Word) (lo len v lo' len' : Nat) (h : lo + len ≤ lo' ∨ lo' + len' ≤ lo) (h32 : lo' + len' ≤ 32) :
    getF (setF w lo len v) lo' len' = getF w lo' len' := by
  apply Nat.eq_of_testBit_eq
  intro i
  rw [getF_testBit, getF_testBit]
  by_cases hi : i < len'
  · rw [setF_getLsbD _ _ _ _ _ (by omega), if_neg (by omega)]
  · simp [hi]

/-- A field lies below two to its width. -/
theorem getF_lt (w : Word) (lo len : Nat) : getF w lo len < 2 ^ len := Nat.mod_lt _ (Nat.two_pow_pos _)

/-- A word without bits outside a mask. -/
theorem and_mask (v m : Word) (h : v &&& ~~~m = 0) : v &&& m = v := by
  ext i hi
  have hb := congrArg (fun w : Word => w.getLsbD i) h
  simp at hb ⊢
  intro hvi
  simpa [BitVec.getLsbD_eq_getElem hi] using hb hvi hi

/-! ### Register words -/

/-- A register written reads the word. -/
@[simp] theorem rd_wr_same (s : State) (a : Nat) (w : Word) : (s.wr a w).rd a = w := Tab.get_set_same _ _ _ _

/-- Another register reads as before. -/
theorem rd_wr_ne (s : State) {a b : Nat} (w : Word) (h : b ≠ a) : (s.wr a w).rd b = s.rd b := Tab.get_set_ne _ _ _ h

/-- A field put reads the value, cut to its width. -/
theorem get_put_same (s : State) (f : Fld) (v : Nat) (h : f.lo + f.len ≤ 32) : (s.put f v).get f = v % 2 ^ f.len := by
  unfold State.put State.get
  rw [rd_wr_same, getF_setF _ _ _ _ h]

/-- A field of another register reads as before. -/
theorem get_put_ne (s : State) (f g : Fld) (v : Nat) (h : g.addr ≠ f.addr) : (s.put f v).get g = s.get g := by
  unfold State.put State.get
  rw [rd_wr_ne _ _ h]

/-- A field beside it in the same register reads as before. -/
theorem get_put_beside (s : State) (f g : Fld) (v : Nat) (ha : g.addr = f.addr)
    (h : f.lo + f.len ≤ g.lo ∨ g.lo + g.len ≤ f.lo) (h32 : g.lo + g.len ≤ 32) : (s.put f v).get g = s.get g := by
  unfold State.put State.get
  rw [ha, rd_wr_same, getF_setF_ne _ _ _ _ _ _ h h32]

/-- Another register reads as before a field was put. -/
theorem rd_put_ne (s : State) (f : Fld) (v : Nat) {a : Nat} (h : a ≠ f.addr) : (s.put f v).rd a = s.rd a := rd_wr_ne s _ h

/-! ### What an update leaves alone -/

@[simp] theorem State.wr_pending (s : State) (a : Nat) (w : Word) : (s.wr a w).pending = s.pending := rfl
@[simp] theorem State.wr_snap (s : State) (a : Nat) (w : Word) : (s.wr a w).snap = s.snap := rfl
@[simp] theorem State.wr_acc (s : State) (a : Nat) (w : Word) : (s.wr a w).acc = s.acc := rfl
@[simp] theorem State.wr_tick (s : State) (a : Nat) (w : Word) : (s.wr a w).tick = s.tick := rfl
@[simp] theorem State.wr_hatch (s : State) (a : Nat) (w : Word) : (s.wr a w).hatch = s.hatch := rfl
@[simp] theorem State.wr_plate (s : State) (a : Nat) (w : Word) : (s.wr a w).plate = s.plate := rfl
@[simp] theorem State.wr_fb (s : State) (a : Nat) (w : Word) : (s.wr a w).fb = s.fb := rfl
@[simp] theorem State.wr_node (s : State) (a : Nat) (w : Word) : (s.wr a w).node = s.node := rfl
@[simp] theorem State.wr_io (s : State) (a : Nat) (w : Word) : (s.wr a w).io = s.io := rfl
@[simp] theorem State.wr_met (s : State) (a : Nat) (w : Word) : (s.wr a w).met = s.met := rfl
@[simp] theorem State.wr_sched (s : State) (a : Nat) (w : Word) : (s.wr a w).sched = s.sched := rfl
@[simp] theorem State.wr_ground (s : State) (a : Nat) (w : Word) : (s.wr a w).ground = s.ground := rfl
@[simp] theorem State.wr_rcd (s : State) (a : Nat) (w : Word) : (s.wr a w).rcd = s.rcd := rfl
@[simp] theorem State.wr_age (s : State) (a : Nat) (w : Word) : (s.wr a w).age = s.age := rfl
@[simp] theorem State.wr_pwr (s : State) (a : Nat) (w : Word) : (s.wr a w).pwr = s.pwr := rfl
@[simp] theorem State.wr_pair (s : State) (a : Nat) (w : Word) : (s.wr a w).pair = s.pair := rfl
@[simp] theorem State.wr_rtc (s : State) (a : Nat) (w : Word) : (s.wr a w).rtc = s.rtc := rfl
@[simp] theorem State.wr_time (s : State) (a : Nat) (w : Word) : (s.wr a w).time = s.time := rfl
@[simp] theorem State.wr_iu (s : State) (a : Nat) (w : Word) : (s.wr a w).iu = s.iu := rfl
@[simp] theorem State.wr_qm (s : State) (a : Nat) (w : Word) : (s.wr a w).qm = s.qm := rfl
@[simp] theorem State.wr_pcie (s : State) (a : Nat) (w : Word) : (s.wr a w).pcie = s.pcie := rfl
@[simp] theorem State.wr_net (s : State) (a : Nat) (w : Word) : (s.wr a w).net = s.net := rfl
@[simp] theorem State.wr_upd (s : State) (a : Nat) (w : Word) : (s.wr a w).upd = s.upd := rfl
@[simp] theorem State.wr_nv (s : State) (a : Nat) (w : Word) : (s.wr a w).nv = s.nv := rfl
@[simp] theorem State.wr_vol (s : State) (a : Nat) (w : Word) : (s.wr a w).vol = s.vol := rfl
@[simp] theorem State.wr_tai (s : State) (a : Nat) (w : Word) : (s.wr a w).tai = s.tai := rfl
@[simp] theorem State.wr_ns (s : State) (a : Nat) (w : Word) : (s.wr a w).ns = s.ns := rfl
@[simp] theorem State.wr_free (s : State) (a : Nat) (w : Word) : (s.wr a w).free = s.free := rfl

@[simp] theorem State.put_pending (s : State) (f : Fld) (v : Nat) : (s.put f v).pending = s.pending := rfl
@[simp] theorem State.put_snap (s : State) (f : Fld) (v : Nat) : (s.put f v).snap = s.snap := rfl
@[simp] theorem State.put_acc (s : State) (f : Fld) (v : Nat) : (s.put f v).acc = s.acc := rfl
@[simp] theorem State.put_tick (s : State) (f : Fld) (v : Nat) : (s.put f v).tick = s.tick := rfl
@[simp] theorem State.put_hatch (s : State) (f : Fld) (v : Nat) : (s.put f v).hatch = s.hatch := rfl
@[simp] theorem State.put_plate (s : State) (f : Fld) (v : Nat) : (s.put f v).plate = s.plate := rfl
@[simp] theorem State.put_fb (s : State) (f : Fld) (v : Nat) : (s.put f v).fb = s.fb := rfl
@[simp] theorem State.put_node (s : State) (f : Fld) (v : Nat) : (s.put f v).node = s.node := rfl
@[simp] theorem State.put_io (s : State) (f : Fld) (v : Nat) : (s.put f v).io = s.io := rfl
@[simp] theorem State.put_met (s : State) (f : Fld) (v : Nat) : (s.put f v).met = s.met := rfl
@[simp] theorem State.put_sched (s : State) (f : Fld) (v : Nat) : (s.put f v).sched = s.sched := rfl
@[simp] theorem State.put_ground (s : State) (f : Fld) (v : Nat) : (s.put f v).ground = s.ground := rfl
@[simp] theorem State.put_rcd (s : State) (f : Fld) (v : Nat) : (s.put f v).rcd = s.rcd := rfl
@[simp] theorem State.put_age (s : State) (f : Fld) (v : Nat) : (s.put f v).age = s.age := rfl
@[simp] theorem State.put_pwr (s : State) (f : Fld) (v : Nat) : (s.put f v).pwr = s.pwr := rfl
@[simp] theorem State.put_pair (s : State) (f : Fld) (v : Nat) : (s.put f v).pair = s.pair := rfl
@[simp] theorem State.put_rtc (s : State) (f : Fld) (v : Nat) : (s.put f v).rtc = s.rtc := rfl
@[simp] theorem State.put_time (s : State) (f : Fld) (v : Nat) : (s.put f v).time = s.time := rfl
@[simp] theorem State.put_iu (s : State) (f : Fld) (v : Nat) : (s.put f v).iu = s.iu := rfl
@[simp] theorem State.put_qm (s : State) (f : Fld) (v : Nat) : (s.put f v).qm = s.qm := rfl
@[simp] theorem State.put_pcie (s : State) (f : Fld) (v : Nat) : (s.put f v).pcie = s.pcie := rfl
@[simp] theorem State.put_net (s : State) (f : Fld) (v : Nat) : (s.put f v).net = s.net := rfl
@[simp] theorem State.put_upd (s : State) (f : Fld) (v : Nat) : (s.put f v).upd = s.upd := rfl
@[simp] theorem State.put_nv (s : State) (f : Fld) (v : Nat) : (s.put f v).nv = s.nv := rfl
@[simp] theorem State.put_vol (s : State) (f : Fld) (v : Nat) : (s.put f v).vol = s.vol := rfl
@[simp] theorem State.put_tai (s : State) (f : Fld) (v : Nat) : (s.put f v).tai = s.tai := rfl
@[simp] theorem State.put_ns (s : State) (f : Fld) (v : Nat) : (s.put f v).ns = s.ns := rfl
@[simp] theorem State.put_free (s : State) (f : Fld) (v : Nat) : (s.put f v).free = s.free := rfl

@[simp] theorem State.respond_pending (s : State) (d : Word) (e : Bool) : (s.respond d e).pending = s.pending := rfl
@[simp] theorem State.respond_regs (s : State) (d : Word) (e : Bool) : (s.respond d e).regs = s.regs := rfl
@[simp] theorem State.respond_snap (s : State) (d : Word) (e : Bool) : (s.respond d e).snap = s.snap := rfl
@[simp] theorem State.respond_tick (s : State) (d : Word) (e : Bool) : (s.respond d e).tick = s.tick := rfl
@[simp] theorem State.respond_hatch (s : State) (d : Word) (e : Bool) : (s.respond d e).hatch = s.hatch := rfl
@[simp] theorem State.respond_plate (s : State) (d : Word) (e : Bool) : (s.respond d e).plate = s.plate := rfl
@[simp] theorem State.respond_fb (s : State) (d : Word) (e : Bool) : (s.respond d e).fb = s.fb := rfl
@[simp] theorem State.respond_node (s : State) (d : Word) (e : Bool) : (s.respond d e).node = s.node := rfl
@[simp] theorem State.respond_io (s : State) (d : Word) (e : Bool) : (s.respond d e).io = s.io := rfl
@[simp] theorem State.respond_met (s : State) (d : Word) (e : Bool) : (s.respond d e).met = s.met := rfl
@[simp] theorem State.respond_sched (s : State) (d : Word) (e : Bool) : (s.respond d e).sched = s.sched := rfl
@[simp] theorem State.respond_ground (s : State) (d : Word) (e : Bool) : (s.respond d e).ground = s.ground := rfl
@[simp] theorem State.respond_rcd (s : State) (d : Word) (e : Bool) : (s.respond d e).rcd = s.rcd := rfl
@[simp] theorem State.respond_age (s : State) (d : Word) (e : Bool) : (s.respond d e).age = s.age := rfl
@[simp] theorem State.respond_pwr (s : State) (d : Word) (e : Bool) : (s.respond d e).pwr = s.pwr := rfl
@[simp] theorem State.respond_pair (s : State) (d : Word) (e : Bool) : (s.respond d e).pair = s.pair := rfl
@[simp] theorem State.respond_rtc (s : State) (d : Word) (e : Bool) : (s.respond d e).rtc = s.rtc := rfl
@[simp] theorem State.respond_time (s : State) (d : Word) (e : Bool) : (s.respond d e).time = s.time := rfl
@[simp] theorem State.respond_iu (s : State) (d : Word) (e : Bool) : (s.respond d e).iu = s.iu := rfl
@[simp] theorem State.respond_qm (s : State) (d : Word) (e : Bool) : (s.respond d e).qm = s.qm := rfl
@[simp] theorem State.respond_pcie (s : State) (d : Word) (e : Bool) : (s.respond d e).pcie = s.pcie := rfl
@[simp] theorem State.respond_net (s : State) (d : Word) (e : Bool) : (s.respond d e).net = s.net := rfl
@[simp] theorem State.respond_upd (s : State) (d : Word) (e : Bool) : (s.respond d e).upd = s.upd := rfl
@[simp] theorem State.respond_nv (s : State) (d : Word) (e : Bool) : (s.respond d e).nv = s.nv := rfl
@[simp] theorem State.respond_vol (s : State) (d : Word) (e : Bool) : (s.respond d e).vol = s.vol := rfl
@[simp] theorem State.respond_tai (s : State) (d : Word) (e : Bool) : (s.respond d e).tai = s.tai := rfl
@[simp] theorem State.respond_ns (s : State) (d : Word) (e : Bool) : (s.respond d e).ns = s.ns := rfl
@[simp] theorem State.respond_free (s : State) (d : Word) (e : Bool) : (s.respond d e).free = s.free := rfl

@[simp] theorem State.modPwr_pending (s : State) (f : PwrSt → PwrSt) : (s.modPwr f).pending = s.pending := rfl
@[simp] theorem State.modPwr_regs (s : State) (f : PwrSt → PwrSt) : (s.modPwr f).regs = s.regs := rfl
@[simp] theorem State.modPwr_snap (s : State) (f : PwrSt → PwrSt) : (s.modPwr f).snap = s.snap := rfl
@[simp] theorem State.modPwr_acc (s : State) (f : PwrSt → PwrSt) : (s.modPwr f).acc = s.acc := rfl
@[simp] theorem State.modPwr_tick (s : State) (f : PwrSt → PwrSt) : (s.modPwr f).tick = s.tick := rfl
@[simp] theorem State.modPwr_hatch (s : State) (f : PwrSt → PwrSt) : (s.modPwr f).hatch = s.hatch := rfl
@[simp] theorem State.modPwr_plate (s : State) (f : PwrSt → PwrSt) : (s.modPwr f).plate = s.plate := rfl
@[simp] theorem State.modPwr_fb (s : State) (f : PwrSt → PwrSt) : (s.modPwr f).fb = s.fb := rfl
@[simp] theorem State.modPwr_node (s : State) (f : PwrSt → PwrSt) : (s.modPwr f).node = s.node := rfl
@[simp] theorem State.modPwr_io (s : State) (f : PwrSt → PwrSt) : (s.modPwr f).io = s.io := rfl
@[simp] theorem State.modPwr_met (s : State) (f : PwrSt → PwrSt) : (s.modPwr f).met = s.met := rfl
@[simp] theorem State.modPwr_sched (s : State) (f : PwrSt → PwrSt) : (s.modPwr f).sched = s.sched := rfl
@[simp] theorem State.modPwr_ground (s : State) (f : PwrSt → PwrSt) : (s.modPwr f).ground = s.ground := rfl
@[simp] theorem State.modPwr_rcd (s : State) (f : PwrSt → PwrSt) : (s.modPwr f).rcd = s.rcd := rfl
@[simp] theorem State.modPwr_age (s : State) (f : PwrSt → PwrSt) : (s.modPwr f).age = s.age := rfl
@[simp] theorem State.modPwr_pair (s : State) (f : PwrSt → PwrSt) : (s.modPwr f).pair = s.pair := rfl
@[simp] theorem State.modPwr_rtc (s : State) (f : PwrSt → PwrSt) : (s.modPwr f).rtc = s.rtc := rfl
@[simp] theorem State.modPwr_time (s : State) (f : PwrSt → PwrSt) : (s.modPwr f).time = s.time := rfl
@[simp] theorem State.modPwr_iu (s : State) (f : PwrSt → PwrSt) : (s.modPwr f).iu = s.iu := rfl
@[simp] theorem State.modPwr_qm (s : State) (f : PwrSt → PwrSt) : (s.modPwr f).qm = s.qm := rfl
@[simp] theorem State.modPwr_pcie (s : State) (f : PwrSt → PwrSt) : (s.modPwr f).pcie = s.pcie := rfl
@[simp] theorem State.modPwr_net (s : State) (f : PwrSt → PwrSt) : (s.modPwr f).net = s.net := rfl
@[simp] theorem State.modPwr_upd (s : State) (f : PwrSt → PwrSt) : (s.modPwr f).upd = s.upd := rfl
@[simp] theorem State.modPwr_nv (s : State) (f : PwrSt → PwrSt) : (s.modPwr f).nv = s.nv := rfl
@[simp] theorem State.modPwr_vol (s : State) (f : PwrSt → PwrSt) : (s.modPwr f).vol = s.vol := rfl
@[simp] theorem State.modPwr_tai (s : State) (f : PwrSt → PwrSt) : (s.modPwr f).tai = s.tai := rfl
@[simp] theorem State.modPwr_ns (s : State) (f : PwrSt → PwrSt) : (s.modPwr f).ns = s.ns := rfl
@[simp] theorem State.modPwr_free (s : State) (f : PwrSt → PwrSt) : (s.modPwr f).free = s.free := rfl

/-- What a write that takes effect starts from differs in the access side only. -/
theorem begun_acc (s : State) (ini a : Nat) : ∃ x, s.begun ini a = { s with acc := x } := by
  unfold State.begun State.useLock
  split
  · exact ⟨_, rfl⟩
  · exact ⟨_, rfl⟩

@[simp] theorem begun_rd (s : State) (ini a b : Nat) : (s.begun ini a).rd b = s.rd b := by
  obtain ⟨x, h⟩ := begun_acc s ini a; rw [h]; rfl

@[simp] theorem begun_get (s : State) (ini a : Nat) (f : Fld) : (s.begun ini a).get f = s.get f := by
  obtain ⟨x, h⟩ := begun_acc s ini a; rw [h]; rfl

@[simp] theorem begun_flag (s : State) (ini a : Nat) (f : Fld) : (s.begun ini a).flag f = s.flag f := by
  obtain ⟨x, h⟩ := begun_acc s ini a; rw [h]; rfl

@[simp] theorem begun_role (s : State) (ini a : Nat) : (s.begun ini a).role = s.role := begun_get s ini a _

@[simp] theorem begun_transmits (s : State) (ini a : Nat) : (s.begun ini a).transmits = s.transmits := by
  unfold State.transmits; rw [begun_role]

@[simp] theorem begun_pending (s : State) (ini a : Nat) : (s.begun ini a).pending = s.pending := by
  obtain ⟨x, h⟩ := begun_acc s ini a; rw [h]
@[simp] theorem begun_regs (s : State) (ini a : Nat) : (s.begun ini a).regs = s.regs := by
  obtain ⟨x, h⟩ := begun_acc s ini a; rw [h]
@[simp] theorem begun_snap (s : State) (ini a : Nat) : (s.begun ini a).snap = s.snap := by
  obtain ⟨x, h⟩ := begun_acc s ini a; rw [h]
@[simp] theorem begun_tick (s : State) (ini a : Nat) : (s.begun ini a).tick = s.tick := by
  obtain ⟨x, h⟩ := begun_acc s ini a; rw [h]
@[simp] theorem begun_hatch (s : State) (ini a : Nat) : (s.begun ini a).hatch = s.hatch := by
  obtain ⟨x, h⟩ := begun_acc s ini a; rw [h]
@[simp] theorem begun_plate (s : State) (ini a : Nat) : (s.begun ini a).plate = s.plate := by
  obtain ⟨x, h⟩ := begun_acc s ini a; rw [h]
@[simp] theorem begun_fb (s : State) (ini a : Nat) : (s.begun ini a).fb = s.fb := by
  obtain ⟨x, h⟩ := begun_acc s ini a; rw [h]
@[simp] theorem begun_node (s : State) (ini a : Nat) : (s.begun ini a).node = s.node := by
  obtain ⟨x, h⟩ := begun_acc s ini a; rw [h]
@[simp] theorem begun_io (s : State) (ini a : Nat) : (s.begun ini a).io = s.io := by
  obtain ⟨x, h⟩ := begun_acc s ini a; rw [h]
@[simp] theorem begun_met (s : State) (ini a : Nat) : (s.begun ini a).met = s.met := by
  obtain ⟨x, h⟩ := begun_acc s ini a; rw [h]
@[simp] theorem begun_sched (s : State) (ini a : Nat) : (s.begun ini a).sched = s.sched := by
  obtain ⟨x, h⟩ := begun_acc s ini a; rw [h]
@[simp] theorem begun_ground (s : State) (ini a : Nat) : (s.begun ini a).ground = s.ground := by
  obtain ⟨x, h⟩ := begun_acc s ini a; rw [h]
@[simp] theorem begun_rcd (s : State) (ini a : Nat) : (s.begun ini a).rcd = s.rcd := by
  obtain ⟨x, h⟩ := begun_acc s ini a; rw [h]
@[simp] theorem begun_age (s : State) (ini a : Nat) : (s.begun ini a).age = s.age := by
  obtain ⟨x, h⟩ := begun_acc s ini a; rw [h]
@[simp] theorem begun_pwr (s : State) (ini a : Nat) : (s.begun ini a).pwr = s.pwr := by
  obtain ⟨x, h⟩ := begun_acc s ini a; rw [h]
@[simp] theorem begun_pair (s : State) (ini a : Nat) : (s.begun ini a).pair = s.pair := by
  obtain ⟨x, h⟩ := begun_acc s ini a; rw [h]
@[simp] theorem begun_rtc (s : State) (ini a : Nat) : (s.begun ini a).rtc = s.rtc := by
  obtain ⟨x, h⟩ := begun_acc s ini a; rw [h]
@[simp] theorem begun_time (s : State) (ini a : Nat) : (s.begun ini a).time = s.time := by
  obtain ⟨x, h⟩ := begun_acc s ini a; rw [h]
@[simp] theorem begun_iu (s : State) (ini a : Nat) : (s.begun ini a).iu = s.iu := by
  obtain ⟨x, h⟩ := begun_acc s ini a; rw [h]
@[simp] theorem begun_qm (s : State) (ini a : Nat) : (s.begun ini a).qm = s.qm := by
  obtain ⟨x, h⟩ := begun_acc s ini a; rw [h]
@[simp] theorem begun_pcie (s : State) (ini a : Nat) : (s.begun ini a).pcie = s.pcie := by
  obtain ⟨x, h⟩ := begun_acc s ini a; rw [h]
@[simp] theorem begun_net (s : State) (ini a : Nat) : (s.begun ini a).net = s.net := by
  obtain ⟨x, h⟩ := begun_acc s ini a; rw [h]
@[simp] theorem begun_upd (s : State) (ini a : Nat) : (s.begun ini a).upd = s.upd := by
  obtain ⟨x, h⟩ := begun_acc s ini a; rw [h]
@[simp] theorem begun_nv (s : State) (ini a : Nat) : (s.begun ini a).nv = s.nv := by
  obtain ⟨x, h⟩ := begun_acc s ini a; rw [h]
@[simp] theorem begun_vol (s : State) (ini a : Nat) : (s.begun ini a).vol = s.vol := by
  obtain ⟨x, h⟩ := begun_acc s ini a; rw [h]
@[simp] theorem begun_tai (s : State) (ini a : Nat) : (s.begun ini a).tai = s.tai := by
  obtain ⟨x, h⟩ := begun_acc s ini a; rw [h]
@[simp] theorem begun_ns (s : State) (ini a : Nat) : (s.begun ini a).ns = s.ns := by
  obtain ⟨x, h⟩ := begun_acc s ini a; rw [h]
@[simp] theorem begun_free (s : State) (ini a : Nat) : (s.begun ini a).free = s.free := by
  obtain ⟨x, h⟩ := begun_acc s ini a; rw [h]

/-- Bit 0 of EN and so on: bits of the control word that a command writes. -/
theorem bitW_ctrlKeep (s : State) (p k : Nat) (hk : k < 3) (v : Word) : bitW (s.ctrlKeep p ||| v) k = bitW v k := by
  unfold bitW State.ctrlKeep
  have h : (0xFFFFFFF8#32).getLsbD k = false := by
    rcases (by omega : k = 0 ∨ k = 1 ∨ k = 2) with rfl | rfl | rfl <;> decide
  show ((s.rd (Rg.ctrl p) &&& 0xFFFFFFF8) ||| v).getLsbD k = v.getLsbD k
  simp [h]

/-! ### Domains that are powered -/

theorem rt_on {s : State} (h : s.rtOn = true) (t : State) : s.rt t = t := by unfold State.rt; rw [if_pos h]

theorem nw_on {s : State} (h : s.netUp = true) (t : State) : s.nw t = t := by unfold State.nw; rw [if_pos h]

theorem app_on {s : State} (h : s.appUp = true) (t : State) : s.app t = t := by unfold State.app; rw [if_pos h]

theorem ifOk_true {s : State} {c : Bool} (h : c = true) (t : State) : s.ifOk c t = t := by unfold State.ifOk; rw [if_pos h]

end Sys2Proof.Machine
end

