-- ==== Sys2Proof/Laws/Access.lean ====
section
/-! SUPPORT. What a register access does when it meets no error of R45, and when it meets one. -/

namespace Sys2Proof.Machine

/-- Neither the response nor the use of an unlock bears on a flush. -/
theorem flushHolds_useLock (s : State) (ini p p' o : Nat) (d : Word) (e : Bool) :
    ((s.respond d e).useLock ini p').flushHolds p o = s.flushHolds p o := by
  unfold State.useLock; split <;> rfl

/-- A write that takes effect reaches its register, and is sent to the partner where the pair mirrors it. -/
theorem busWrite_takes (s : State) (ini a : Nat) (v : Word) (ha : a < 0x80000) (h : s.takes ini a = true)
    (hl : a % 0x1000 ≠ 0x28) (hm : a ≠ Rg.GROUND_MBX_IN) :
    s.busWrite ini a 4 v =
      ((s.begun ini a).applyWrite ini (a / 0x1000) (a % 0x1000) v).toPartner a v := by
  have hx : a % 0x80000 = a := Nat.mod_eq_of_lt ha
  simp only [State.takes, State.reaches, Bool.and_eq_true, Option.isNone_iff_eq_none, Bool.not_eq_true'] at h
  obtain ⟨⟨⟨⟨h1, h2⟩, h3⟩, h4⟩, h5⟩ := h
  unfold State.busWrite
  simp only [hx, h1, h2, Bool.not_true]
  unfold State.writeReg
  have e1 : ¬(a % 0x1000 = 0x08 ∧ isFbmo (a / 0x1000) = false ∧
      (s.respond 0 false).flag (Fd.srstBusy (a / 0x1000)) = true) := by
    rintro ⟨e, -, f⟩
    have f' : s.flag (Fd.srstBusy (a / 0x1000)) = true := f
    simp [e, f'] at h3
  have e2 : ¬(protectedReg (a / 0x1000) (a % 0x1000) = true ∧ (s.respond 0 false).unlock (a / 0x1000) ≠ some ini) := by
    rintro ⟨e, f⟩
    have f' : s.unlock (a / 0x1000) ≠ some ini := f
    simp [e, f'] at h4
  have e3 : ¬(a / 0x1000 = Pg.ground ∧ a % 0x1000 = 0x44 ∧ ((s.respond 0 false).mbxPush v).1 = false) := by
    rintro ⟨e, f, -⟩
    apply hm
    have := Nat.div_add_mod a 0x1000
    rw [e, f] at this
    exact this.symm
  simp only [hl, e1, e2, e3, if_false, false_and, Bool.false_eq_true, flushHolds_useLock, h5]
  rfl

/-- A write without reserved bits goes to the block. -/
theorem applyWrite_block (s : State) (ini a : Nat) (v : Word) (h : blockReg a = true) (hv : noReserved a v = true) :
    s.applyWrite ini (a / 0x1000) (a % 0x1000) v = s.blockWrite ini (a / 0x1000) (a % 0x1000) v := by
  simp only [blockReg, Bool.and_eq_true, Bool.not_eq_true', decide_eq_true_eq, bne_iff_ne] at h
  obtain ⟨⟨⟨⟨⟨-, h2⟩, h3⟩, h4⟩, -⟩, h6⟩ := h
  have hq : ¬(a / 0x1000 = Pg.rec ∧ a % 0x1000 = 0x88) := by
    rintro ⟨e, f⟩
    apply h6
    have := Nat.div_add_mod a 0x1000
    rw [e, f] at this
    exact this.symm
  have hq' : (a / 0x1000 == Pg.rec && a % 0x1000 == 0x88) = false := by
    simpa [Bool.and_eq_false_iff] using hq
  have hv' : v &&& ~~~(BitVec.ofNat 32 (impBits (a / 0x1000) (a % 0x1000))) = 0 := by simpa [noReserved] using hv
  have hm : v &&& BitVec.ofNat 32 (impBits (a / 0x1000) (a % 0x1000)) = v := and_mask v _ hv'
  obtain ⟨pi, hp⟩ := Option.isSome_iff_exists.mp h3
  have ho : ¬ a % 0x1000 < 0x40 := Nat.not_lt.mpr h4
  unfold State.applyWrite
  simp only [h2, hv', hq', hp, hm, ho, if_false, Bool.false_eq_true, bne_self_eq_false, Bool.false_and, Bool.or_false]
  split
  · rename_i e; exact absurd ⟨e.1, e.2.1⟩ hq
  · rfl

/-- A write that takes effect, to a register of a block. -/
theorem busWrite_block (s : State) (ini a : Nat) (v : Word) (hb : blockReg a = true) (h : s.takes ini a = true)
    (hv : noReserved a v = true) :
    s.busWrite ini a 4 v = ((s.begun ini a).blockWrite ini (a / 0x1000) (a % 0x1000) v).toPartner a v := by
  have hb' := hb
  simp only [blockReg, Bool.and_eq_true, Bool.not_eq_true', decide_eq_true_eq, bne_iff_ne] at hb'
  rw [busWrite_takes s ini a v hb'.1.1.1.1.1 h (by omega) hb'.1.2, applyWrite_block _ ini a v hb hv]

/-- A register outside the light path that the pair does not mirror: nothing follows its write. -/
theorem toPartner_none (s : State) (a : Nat) (v : Word) (hl : lightPage (a / 0x1000) = false)
    (hm : mirrored (a / 0x1000) (a % 0x1000) = false) : s.toPartner a v = s := by
  simp [State.toPartner, State.wrote, hl, hm]

/-- A register of the light path that the pair does not mirror: its write counts as an input. -/
theorem toPartner_light (s : State) (a : Nat) (v : Word) (hl : lightPage (a / 0x1000) = true)
    (hm : mirrored (a / 0x1000) (a % 0x1000) = false) : s.toPartner a v = s.countIn := by
  simp [State.toPartner, State.wrote, hl, hm]

/-- A register of the light path that the pair mirrors: its write counts as an input and goes to the partner. -/
theorem toPartner_mirrored (s : State) (a : Nat) (v : Word) (hl : lightPage (a / 0x1000) = true)
    (hm : mirrored (a / 0x1000) (a % 0x1000) = true) : s.toPartner a v = s.countIn.mirrorOut (.write a v) := by
  simp [State.toPartner, State.wrote, hl, hm]

/-- A write without reserved bits of a register of the common header goes to the header. -/
theorem applyWrite_header (s : State) (ini p o : Nat) (v : Word) (pi : PageInfo) (hf : isFbmo p = false)
    (hp : pageInfo p = some pi) (ho : o < 0x40) (hv : v &&& ~~~(BitVec.ofNat 32 (impBits p o)) = 0) :
    s.applyWrite ini p o v = s.headerWrite p pi o v := by
  have hm : v &&& BitVec.ofNat 32 (impBits p o) = v := and_mask v _ hv
  have hq' : (p == Pg.rec && o == 0x88 && decide (getF v 0 16 < 0x8000)) = false := by
    have : o ≠ 0x88 := by omega
    simp [this]
  have hq : ¬(p = Pg.rec ∧ o = 0x88 ∧ getF v 0 16 < 0x8000) := by rintro ⟨-, e, -⟩; omega
  unfold State.applyWrite
  simp only [hf, hv, hq', hq, hp, hm, ho, if_true, if_false, Bool.false_eq_true, bne_self_eq_false, Bool.or_false]

/-- A write that takes effect, to a register of the common header other than LOCK. -/
theorem busWrite_header (s : State) (ini p o : Nat) (v : Word) (pi : PageInfo) (hp8 : p < 0x80) (hf : isFbmo p = false)
    (hp : pageInfo p = some pi) (ho : o < 0x40) (hl : o ≠ 0x28) (h : s.takes ini (Rg.reg p o) = true)
    (hv : noReserved (Rg.reg p o) v = true) :
    s.busWrite ini (Rg.reg p o) 4 v = ((s.begun ini (Rg.reg p o)).headerWrite p pi o v).toPartner (Rg.reg p o) v := by
  have h1 : Rg.reg p o / 0x1000 = p := by unfold Rg.reg key; omega
  have h2 : Rg.reg p o % 0x1000 = o := by unfold Rg.reg key; omega
  have hm : Rg.reg p o ≠ Rg.GROUND_MBX_IN := by
    intro e; rw [e] at h2; have : Rg.GROUND_MBX_IN % 0x1000 = 0x44 := by decide
    omega
  have hv' : v &&& ~~~(BitVec.ofNat 32 (impBits p o)) = 0 := by simpa [noReserved, h1, h2] using hv
  have hx : Rg.reg p o < 0x80000 := by unfold Rg.reg key; omega
  rw [busWrite_takes s ini _ v hx h (by omega) hm, h1, h2, applyWrite_header _ ini p o v pi hf hp ho hv']

/-- A row found stands in the list. -/
theorem findRow_mem {l : List RegRow} {o : Nat} {r : RegRow} (h : findRow l o = some r) : r ∈ l := by
  induction l with
  | nil => cases h
  | cons x t ih =>
    unfold findRow at h
    split at h
    · cases h; exact List.mem_cons_self
    · exact List.mem_cons_of_mem _ (ih h)

/-- A read that meets no error answers the register's value. -/
theorem busRead_reaches (s : State) (ini a : Nat) (ha : a < 0x80000) (h : s.reaches ini a false = true) :
    s.busRead ini a 4 = (s.readReg ini a).2.respond (s.readReg ini a).1 false := by
  simp only [State.reaches, Bool.and_eq_true, Option.isNone_iff_eq_none] at h
  unfold State.busRead
  simp only [Nat.mod_eq_of_lt ha, h.1, h.2, Bool.not_true]
  rfl

/-- The access side does not bear on the message objects. -/
theorem moHeads_acc (s : State) (x : AccSt) (b n i : Nat) : ({ s with acc := x } : State).moHeads b n i = s.moHeads b n i := by
  induction n generalizing i with
  | zero => rfl
  | succ n ih => unfold State.moHeads; simp only [ih]; rfl

/-- Nor does the start of a write. -/
theorem begun_heads (s : State) (ini a b : Nat) : (s.begun ini a).heads b = s.heads b := by
  obtain ⟨x, h⟩ := begun_acc s ini a
  rw [h]; exact moHeads_acc s x b _ _

/-- A write of word 0 of a message object that heads its chain. -/
theorem busWrite_mo (s : State) (ini b i : Nat) (v : Word) (hb : b < 16) (hi : i < 128)
  (h : s.takes ini (Rg.reg (Pg.fbmo b) (32 * i)) = true) (hh : (s.heads b).contains i = true) (hv : v &&& ~~~(0xFB0000FF#32) = 0) :
  s.busWrite ini (Rg.reg (Pg.fbmo b) (32 * i)) 4 v =
   (((s.begun ini (Rg.reg (Pg.fbmo b) (32 * i))).wr (Rg.reg (Pg.fbmo b) (32 * i)) (v &&& 0xFB00007F)).moCtlWrite b i v).countIn := by
  have h1 : Rg.reg (Pg.fbmo b) (32 * i) / 0x1000 = 0x20 + b := by show ((0x20 + b) * 0x1000 + 32 * i) / 0x1000 = _; omega
  have h2 : Rg.reg (Pg.fbmo b) (32 * i) % 0x1000 = 32 * i := by show ((0x20 + b) * 0x1000 + 32 * i) % 0x1000 = _; omega
  have hx : Rg.reg (Pg.fbmo b) (32 * i) < 0x80000 := by show ((0x20 + b) * 0x1000 + 32 * i) < _; omega
  have hg : Rg.reg (Pg.fbmo b) (32 * i) ≠ Rg.GROUND_MBX_IN := by show ((0x20 + b) * 0x1000 + 32 * i) ≠ 0x60044; omega
  have hl : Rg.reg (Pg.fbmo b) (32 * i) % 0x1000 ≠ 0x28 := by rw [h2]; omega
  have hm : mirrored (0x20 + b) (32 * i) = false := by
    have e : ∀ b, b < 16 → (0x20 + b == Pg.hatch || 0x20 + b == Pg.hatchG || 0x20 + b == Pg.plate || 0x20 + b == Pg.group ||
        0x20 + b == Pg.node || 0x20 + b == Pg.trace || 0x20 + b == Pg.sched) = false ∧ isFb (0x20 + b) = false ∧
        (0x20 + b == Pg.io) = false := by decide
    obtain ⟨e1, e2, e3⟩ := e b hb
    unfold mirrored
    rw [e1, e2, e3]; rfl
  have hf : isFbmo (0x20 + b) = true := by unfold isFbmo; simp; omega
  have hi' : 32 * i / 32 = i := by omega
  have hm' : 32 * i % 32 = 0 := by omega
  have hp : lightPage (0x20 + b) = true := by unfold lightPage; rw [hf]; rfl
  rw [busWrite_takes s ini _ v hx h hl hg, toPartner_light _ _ _ (by rw [h1]; exact hp) (by rw [h1, h2]; exact hm), h1, h2]
  refine congrArg State.countIn ?_
  generalize ht : s.begun ini (Rg.reg (Pg.fbmo b) (32 * i)) = t
  have hht : (t.heads b).contains i = true := by rw [← ht, begun_heads]; exact hh
  have he : t.moExist b (32 * i) = 0xFB0000FF#32 := by
    unfold State.moExist
    rw [hi', hm', hht]
    have hi2 : impBits (Pg.fbmo b) (32 * i) = 0xFB0000FF := by
      unfold impBits
      have : isFbmo (Pg.fbmo b) = true := hf
      rw [this, hm']; rfl
    rw [hi2]; rfl
  have hmask : v &&& 0xFB0000FF#32 = v := and_mask v _ hv
  have ha : t.applyWrite ini (0x20 + b) (32 * i) v = t.moWrite b (32 * i) v := by
    unfold State.applyWrite
    have hr : (0x20 + b == Pg.rec && 32 * i == 0x88 && decide (getF v 0 16 < 0x8000)) = false := by
      have : (32 * i == 0x88) = false := by simp; omega
      simp [this]
    have hr' : ¬(0x20 + b = Pg.rec ∧ 32 * i = 0x88 ∧ getF v 0 16 < 0x8000) := by rintro ⟨-, e, -⟩; omega
    have hb2 : 0x20 + b - 0x20 = b := by omega
    simp only [hf, if_true, hb2, he, hv, hr, hr', if_false, bne_self_eq_false, Bool.or_false, hmask, Bool.false_eq_true]
  rw [ha]
  unfold State.moWrite
  simp only [hi', hm', hht, Bool.true_eq_false, if_false, if_true, false_or, show ¬(0 : Nat) = 0x0C from by decide,
    show ¬(0 : Nat) = 0x10 from by decide, show ¬(0 : Nat) = 0x14 from by decide, Bool.false_eq_true]

/-- The fields of a word for NODE.CMD. -/
theorem nodeWord_fields (i arg op : Nat) (hi : i < 4096) (ha : arg < 256) (ho : op < 16) :
    getF (nodeWord i arg op) 0 4 = op ∧ getF (nodeWord i arg op) 16 12 = i ∧ getF (nodeWord i arg op) 8 8 = arg := by
  unfold getF nodeWord
  rw [Nat.mod_eq_of_lt hi, Nat.mod_eq_of_lt ha, BitVec.toNat_ofNat]
  simp only [Nat.shiftRight_eq_div_pow]
  refine ⟨?_, ?_, ?_⟩ <;> omega

/-- A word for NODE.CMD has no reserved bit. -/
theorem nodeWord_noReserved (i arg op : Nat) (hi : i < 4096) (ha : arg < 256) (ho : op < 16) :
    noReserved Rg.NODE_CMD (nodeWord i arg op) = true := by
  unfold noReserved nodeWord
  rw [Nat.mod_eq_of_lt hi, Nat.mod_eq_of_lt ha, beq_iff_eq]
  have hm : BitVec.ofNat 32 (impBits (Rg.NODE_CMD / 0x1000) (Rg.NODE_CMD % 0x1000)) = 0x0FFFFF0F#32 := by decide
  rw [hm]
  apply BitVec.eq_of_toNat_eq
  have e : (i * 65536 + arg * 256 + op) % 2 ^ 32 = i * 65536 + arg * 256 + op := by omega
  rw [BitVec.toNat_and, BitVec.toNat_ofNat, e]
  apply Nat.eq_of_testBit_eq
  intro k
  rw [Nat.testBit_and]
  show _ = (0 : Nat).testBit k
  rw [Nat.zero_testBit]
  by_cases h1 : 4 ≤ k ∧ k < 8
  · have : (i * 65536 + arg * 256 + op).testBit k = false := by
      rw [Nat.testBit_eq_decide_div_mod_eq]
      rcases (by omega : k = 4 ∨ k = 5 ∨ k = 6 ∨ k = 7) with rfl | rfl | rfl | rfl <;> simp <;> omega
    simp [this]
  · by_cases h2 : 28 ≤ k
    · have : (i * 65536 + arg * 256 + op).testBit k = false := by
        apply Nat.testBit_lt_two_pow
        calc i * 65536 + arg * 256 + op < 2 ^ 28 := by omega
          _ ≤ 2 ^ k := Nat.pow_le_pow_right (by decide) h2
      simp [this]
    · have : (~~~(0x0FFFFF0F#32)).toNat.testBit k = false := by
        have : ∀ k, k < 28 → ¬(4 ≤ k ∧ k < 8) → (~~~(0x0FFFFF0F#32)).toNat.testBit k = false := by decide
        exact this k (by omega) h1
      rw [this, Bool.and_false]

/-- A write of NODE.CMD that takes effect, with a command that the module may accept. -/
theorem busWrite_nodeCmd (s : State) (ini i arg op : Nat) (hi : i < 4096) (ha : arg < 256) (ho : op ≠ 0 ∧ op < 10)
    (h : s.takes ini Rg.NODE_CMD = true) (hb : s.flag Fd.NODE_CMD_STAT_BUSY = false) (ht : s.transmits = true ∨ op = 7) :
    s.busWrite ini Rg.NODE_CMD 4 (nodeWord i arg op) = ((s.begun ini Rg.NODE_CMD).nodeAccept op i arg).toPartner Rg.NODE_CMD
      (nodeWord i arg op) := by
  rw [busWrite_block s ini _ _ (by decide) h (nodeWord_noReserved i arg op hi ha (by omega))]
  refine congrArg (State.toPartner · _ _) ?_
  show (s.begun ini Rg.NODE_CMD).nodeCmdWrite (nodeWord i arg op) = _
  obtain ⟨f1, f2, f3⟩ := nodeWord_fields i arg op hi ha (by omega)
  unfold State.nodeCmdWrite State.nodeAccept
  rw [f1, f2, f3]
  have t1 : ∀ f g : Fld, ∀ v w, f.addr ≠ Fd.PAIR_ROLE_ROLE.addr → g.addr ≠ Fd.PAIR_ROLE_ROLE.addr →
      (((s.begun ini Rg.NODE_CMD).put f v).put g w).transmits = s.transmits := by
    intro f g v w hf hg
    unfold State.transmits State.role
    rw [get_put_ne _ _ _ _ (Ne.symm hg), get_put_ne _ _ _ _ (Ne.symm hf), begun_get]
  rw [if_neg (by omega), begun_flag, hb, if_neg (by decide)]
  simp only [t1 Fd.NODE_CMD_STAT_INDEX Fd.NODE_CMD_STAT_OP i op (by decide) (by decide)]
  rw [if_neg (by rcases ht with e | e <;> simp [e])]
  have r1 : ∀ a, a ≠ Rg.NODE_CMD_STAT → ((((s.begun ini Rg.NODE_CMD).put Fd.NODE_CMD_STAT_INDEX i).put Fd.NODE_CMD_STAT_OP op)).rd a = (s.begun ini Rg.NODE_CMD).rd a := by
    intro a ha
    rw [rd_put_ne _ _ _ ha, rd_put_ne _ _ _ ha]
  rw [r1 _ (by decide), r1 _ (by decide)]

/-- A one-bit field of another register than the one written. -/
theorem flag_put_ne (s : State) (f g : Fld) (v : Nat) (h : g.addr ≠ f.addr) : (s.put f v).flag g = s.flag g := by
  unfold State.flag; rw [get_put_ne _ _ _ _ h]


/-- Where word w of queue q lies on QMQ, and that no rule mirrors it. -/
theorem itemReg_facts (q w : Nat) (hq : q < 64) (hw : w < 8) : blockReg (itemReg q w) = true ∧ itemReg q w / 0x1000 = Pg.qmq ∧
    itemReg q w % 0x1000 = 0x800 + 32 * q + 4 * w ∧ mirrored (itemReg q w / 0x1000) (itemReg q w % 0x1000) = false := by
  have h1 : itemReg q w / 0x1000 = Pg.qmq := by show (0x51 * 0x1000 + (0x800 + 32 * q + 4 * w)) / 0x1000 = 0x51; omega
  have h2 : itemReg q w % 0x1000 = 0x800 + 32 * q + 4 * w := by
    show (0x51 * 0x1000 + (0x800 + 32 * q + 4 * w)) % 0x1000 = _; omega
  have h3 : itemReg q w = 0x51000 + (0x800 + 32 * q + 4 * w) := rfl
  refine ⟨?_, h1, h2, ?_⟩
  · have hn : ∀ k, k < 0x51000 ∨ 0x52000 ≤ k → itemReg q w ≠ k := by intro k hk; omega
    unfold blockReg
    rw [h1, h2]
    simp only [Bool.and_eq_true, decide_eq_true_eq, bne_iff_ne, Bool.not_eq_true']
    refine ⟨⟨⟨⟨⟨by omega, rfl⟩, rfl⟩, by omega⟩, hn _ (by decide)⟩, hn _ (by decide)⟩
  · rw [h1, h2]; rfl

/-- A write of GROUND.MBX_IN that meets no error pushes its word. -/
theorem applyWrite_mbxIn (s : State) (ini : Nat) (v : Word) : s.applyWrite ini Pg.ground 0x44 v = (s.mbxPush v).2 := by
  have hm : BitVec.ofNat 32 (impBits Pg.ground 0x44) = 0xFFFFFFFF#32 := by decide
  have hv : v &&& ~~~(BitVec.ofNat 32 (impBits Pg.ground 0x44)) = 0 := by rw [hm]; simp
  have hm' : v &&& BitVec.ofNat 32 (impBits Pg.ground 0x44) = v := and_mask v _ hv
  obtain ⟨pi, hp⟩ : ∃ pi, pageInfo Pg.ground = some pi := ⟨_, rfl⟩
  have hf : isFbmo Pg.ground = false := rfl
  unfold State.applyWrite
  simp only [hf, hv, hm', hp, if_false, Bool.false_eq_true, bne_self_eq_false, show ¬((0x44 : Nat) < 0x40) by decide,
    show ¬(Pg.ground = Pg.rec ∧ (0x44 : Nat) = 0x88 ∧ getF v 0 16 < 0x8000) by rintro ⟨e, -⟩; exact absurd e (by decide),
    show (Pg.ground == Pg.rec) = false from rfl, Bool.false_and, Bool.or_self]
  rfl

/-- A write of REC.APP_POST that meets no error posts a record. -/
theorem applyWrite_appPost (s : State) (ini : Nat) (v : Word) (hv : noReserved Rg.REC_APP_POST v = true) (hc : 0x8000 ≤ getF v 0 16) :
    s.applyWrite ini Pg.rec 0x88 v = s.appPost ini v := by
  have hv : v &&& ~~~(BitVec.ofNat 32 (impBits Pg.rec 0x88)) = 0 := by
    simp only [noReserved, beq_iff_eq] at hv; exact hv
  have hm' : v &&& BitVec.ofNat 32 (impBits Pg.rec 0x88) = v := and_mask v _ hv
  obtain ⟨pi, hp⟩ : ∃ pi, pageInfo Pg.rec = some pi := ⟨_, rfl⟩
  have hf : isFbmo Pg.rec = false := rfl
  unfold State.applyWrite
  simp only [hf, hv, hm', hp, if_false, Bool.false_eq_true, bne_self_eq_false, show ¬((0x88 : Nat) < 0x40) by decide,
    true_and, show ¬(getF v 0 16 < 0x8000) by omega]
  rfl

/-- A write of UPD.CMD in a boot that takes campaign actions. -/
theorem blockWrite_updCmd (s : State) (ini : Nat) (v : Word) (h : s.updIdle = false) :
    (s.begun ini Rg.UPD_CMD).blockWrite ini (Rg.UPD_CMD / 0x1000) (Rg.UPD_CMD % 0x1000) v =
      (s.begun ini Rg.UPD_CMD).updCmd (getF v 0 3) := by
  have hi : (s.begun ini Rg.UPD_CMD).updIdle = false := by
    obtain ⟨x, e⟩ := begun_acc s ini Rg.UPD_CMD; rw [e]; exact h
  generalize s.begun ini Rg.UPD_CMD = t at *
  show t.updWrite 0x44 _ = _
  unfold State.updWrite
  rw [if_pos rfl, hi]
  rfl

end Sys2Proof.Machine
end

