-- ==== Sys2Proof/Laws/Irq.lean ====
section
/-! SUPPORT. What a request and an interrupt bit change: the interrupt unit's own state and one bit of IRQ_STAT. -/

namespace Sys2Proof.Machine

/-- The look of core c for a source moves the unit's own state only. -/
theorem iuLook_iu (s : State) (c : Nat) : ∃ x, s.iuLook c = { s with iu := x } := by
  unfold State.iuLook
  split
  · exact ⟨_, rfl⟩
  · split <;> exact ⟨_, rfl⟩

/-- So does the look of every core. -/
theorem iuLookAll_iu (s : State) : ∃ x, s.iuLookAll = { s with iu := x } := by
  unfold State.iuLookAll
  obtain ⟨a, e⟩ := iuLook_iu s 0
  rw [e]
  obtain ⟨b, f⟩ := iuLook_iu { s with iu := a } 1
  rw [f]
  obtain ⟨c, g⟩ := iuLook_iu { s with iu := b } 2
  rw [g]
  obtain ⟨d, h⟩ := iuLook_iu { s with iu := c } 3
  exact ⟨d, h⟩

/-- A fold of steps that move only the interrupt unit. -/
theorem foldl_iu {α : Type} (f : State → α → State) (hf : ∀ t x, ∃ y, f t x = { t with iu := y }) (l : List α) (s : State) :
    ∃ y, l.foldl f s = { s with iu := y } := by
  induction l generalizing s with
  | nil => exact ⟨_, rfl⟩
  | cons a l ih =>
    obtain ⟨y, e⟩ := hf s a
    show ∃ z, l.foldl f (f s a) = _
    rw [e]
    exact ih { s with iu := y }

/-- Coalescing groups that settle move the unit's own state only. -/
theorem coalSettle_iu (s : State) : ∃ x, s.coalSettle = { s with iu := x } := by
  unfold State.coalSettle
  refine foldl_iu _ (fun t g => ?_) _ s
  split <;> exact ⟨_, rfl⟩

/-- A request that rises moves the unit's own state only. -/
theorem reqRise_iu (s : State) (i : Nat) : ∃ x, s.reqRise i = { s with iu := x } := by
  unfold State.reqRise
  have h1 : ∀ (u : State) (g c : Nat), ∃ x, (if g != 0 then u.iuLookAll
      else if (u.iuEntry c).isNone && u.srcElig c i then u.setEntry c (some i) else u) = { u with iu := x } := by
    intro u g c
    split
    · exact iuLookAll_iu u
    · split <;> exact ⟨_, rfl⟩
  have h2 : ∀ (g : Nat) (x : CoalGrp), ∃ y, (if (g = 0 || x.opened) = true then s else
      s.setCoal g { opened := decide (s.get (Fd.IU_COAL_CFG_COUNT (g - 1)) ≤ x.count + 1), count := x.count + 1, timer := true }) =
      { s with iu := y } := by
    intro g x
    split <;> exact ⟨_, rfl⟩
  extract_lets +onlyGivenNames g x
  obtain ⟨y, e⟩ := h2 g x
  show ∃ z, (if g != 0 then (if (g = 0 || x.opened) = true then s else _).iuLookAll else _) = _
  rw [e]
  obtain ⟨z, f⟩ := h1 { s with iu := y } g (State.get { s with iu := y } (inBank Fd.IU_SRC_CFG_TARGET i))
  exact ⟨z, f⟩

/-- A change under which a source may come to request: the change, and the unit's own state. -/
theorem withReq_iu (s : State) (i : Nat) (f : State → State) : ∃ x, s.withReq i f = { f s with iu := x } := by
  unfold State.withReq
  extract_lets t
  split
  · exact reqRise_iu t i
  · exact ⟨_, rfl⟩

/-- Raising bit b of page p's interrupt sets that bit of IRQ_STAT, and beyond it moves the unit's own state only. -/
theorem irq_iu (s : State) (p b : Nat) : ∃ x, s.irq p b = { s.put ⟨Rg.irqStat p, b, 1⟩ 1 with iu := x } := withReq_iu s p _

end Sys2Proof.Machine
end

