-- ==== Sys2Proof/Laws/Upd.lean ====
section
/-! SUPPORT. What no meaning of a command does: `Upd s t` says that t keeps the queue of s, draws free values only
forward, does not turn the time back, keeps the registers' canonical form, and stays SCRAPPED where s is.  One lemma per
operation of the model; those of the commands' meanings follow from them. -/

namespace Sys2Proof.Machine

/-- t comes from s by operations of the model. -/
structure Upd (s t : State) : Prop where
  pending : t.pending = s.pending
  free : s.free ≤ t.free
  ns : s.ns ≤ t.ns
  regs : Tab.wf regReset s.regs = true ∧ Tab.wf regReset s.snap = true →
    Tab.wf regReset t.regs = true ∧ Tab.wf regReset t.snap = true
  lc : s.nv.keys.lc = 4 → t.nv.keys.lc = 4

theorem Upd.refl (s : State) : Upd s s := ⟨rfl, Nat.le_refl _, Nat.le_refl _, id, id⟩

theorem Upd.trans {s t u : State} (h : Upd s t) (k : Upd t u) : Upd s u :=
  ⟨k.pending.trans h.pending, Nat.le_trans h.free k.free, Nat.le_trans h.ns k.ns, fun w => k.regs (h.regs w),
    fun w => k.lc (h.lc w)⟩

/-- A local definition whose value is an update. -/
theorem Upd.cut {s t : State} {P : Prop} (h : Upd s t) (k : Upd s t → P) : P := k h

/-- A record update. -/
theorem Upd.mk' {s t : State} (h : Upd s t) {a0 a1 a2 a3 a4 a5 a6 a7 a8 a9 a10 a11 a12 a13 a14 a15 a16 a17 a18 a19 a20 a21
    a22 a23} {a24 : NonVol} {a25 a26 a27 a28} (h0 : a0 = t.pending)
    (hr : Tab.wf regReset t.regs = true ∧ Tab.wf regReset t.snap = true →
      Tab.wf regReset a1 = true ∧ Tab.wf regReset a2 = true) (hl : t.nv.keys.lc = 4 → a24.keys.lc = 4)
    (hn : t.ns ≤ a27) (hf : t.free ≤ a28) :
    Upd s (State.mk a0 a1 a2 a3 a4 a5 a6 a7 a8 a9 a10 a11 a12 a13 a14 a15 a16 a17 a18 a19 a20 a21 a22 a23 a24 a25 a26 a27
      a28) :=
  ⟨h0.trans h.pending, Nat.le_trans h.free hf, Nat.le_trans h.ns hn, fun w => hr (h.regs w), fun w => hl (h.lc w)⟩

theorem upd_ite {s a b : State} {c : Prop} [Decidable c] (h : Upd s a) (k : Upd s b) : Upd s (if c then a else b) := by
  split <;> assumption

theorem upd_ite_fst {α : Type} {s : State} {a b : State × α} {c : Prop} [Decidable c] (h : Upd s a.1) (k : Upd s b.1) :
    Upd s (if c then a else b).1 := by
  split <;> assumption

theorem upd_ite_snd {α : Type} {s : State} {a b : α × State} {c : Prop} [Decidable c] (h : Upd s a.2) (k : Upd s b.2) :
    Upd s (if c then a else b).2 := by
  split <;> assumption

theorem upd_snd {α : Type} {s t : State} {x : α} {p : α × State} (e : p = (x, t)) (h : Upd s p.2) : Upd s t := by
  subst e; exact h

theorem upd_fst {α : Type} {s t : State} {x : α} {p : State × α} (e : p = (t, x)) (h : Upd s p.1) : Upd s t := by
  subst e; exact h

theorem upd_foldl {α : Type} {s₀ s : State} {f : State → α → State} {l : List α} (h : Upd s₀ s)
    (hf : ∀ t x, Upd s₀ t → Upd s₀ (f t x)) : Upd s₀ (l.foldl f s) := by
  induction l generalizing s with
  | nil => exact h
  | cons x l ih => exact ih (hf s x h)

theorem upd_foldl_of {α β : Type} (π : β → State) {s₀ : State} {s : β} {f : β → α → β} {l : List α}
    (h : Upd s₀ (π s)) (hf : ∀ t x, Upd s₀ (π t) → Upd s₀ (π (f t x))) : Upd s₀ (π (l.foldl f s)) := by
  induction l generalizing s with
  | nil => exact h
  | cons x l ih => exact ih (hf s x h)

theorem upd_foldl_fst {α β : Type} {s₀ : State} {s : State × β} {f : State × β → α → State × β} {l : List α}
    (h : Upd s₀ s.1) (hf : ∀ t x, Upd s₀ t.1 → Upd s₀ (f t x).1) : Upd s₀ (l.foldl f s).1 :=
  upd_foldl_of Prod.fst h hf

theorem upd_foldl_snd {α β : Type} {s₀ : State} {s : β × State} {f : β × State → α → β × State} {l : List α}
    (h : Upd s₀ s.2) (hf : ∀ t x, Upd s₀ t.2 → Upd s₀ (f t x).2) : Upd s₀ (l.foldl f s).2 :=
  upd_foldl_of Prod.snd h hf

end Sys2Proof.Machine
end

