-- ==== Sys2Proof/Laws/UpdOps.lean ====
section
/-! SUPPORT. The operations of Machine/Ops.lean as updates. -/

namespace Sys2Proof.Machine

theorem upd_wr {s₀ s : State} (h : Upd s₀ s) (a : Nat) (w : Word) : Upd s₀ (s.wr a w) :=
  ⟨h.pending, h.free, h.ns, fun k => ⟨Tab.wf_set _ _ _ _ (h.regs k).1, (h.regs k).2⟩, h.lc⟩

theorem upd_put {s₀ s : State} (h : Upd s₀ s) (f : Fld) (v : Nat) : Upd s₀ (State.put s f v) := by
  unfold State.put
  repeat' first
    | with_reducible assumption
    | with_reducible exact fun w => w
    | with_reducible exact Nat.le_refl _
    | with_reducible exact Nat.le_add_right _ _
    | with_reducible apply upd_wr
    | intro _
    | split

theorem upd_add {s₀ s : State} (h : Upd s₀ s) (f : Fld) (n : Nat) : Upd s₀ (State.add s f n) := by
  unfold State.add
  repeat' first
    | with_reducible assumption
    | with_reducible exact fun w => w
    | with_reducible exact Nat.le_refl _
    | with_reducible exact Nat.le_add_right _ _
    | with_reducible apply upd_put
    | intro _
    | split

theorem upd_addWrap {s₀ s : State} (h : Upd s₀ s) (f : Fld) (n : Nat) : Upd s₀ (State.addWrap s f n) := by
  unfold State.addWrap
  repeat' first
    | with_reducible assumption
    | with_reducible exact fun w => w
    | with_reducible exact Nat.le_refl _
    | with_reducible exact Nat.le_add_right _ _
    | with_reducible apply upd_put
    | intro _
    | split

theorem upd_putInt {s₀ s : State} (h : Upd s₀ s) (f : Fld) (i : Int) : Upd s₀ (State.putInt s f i) := by
  unfold State.putInt
  repeat' first
    | with_reducible assumption
    | with_reducible exact fun w => w
    | with_reducible exact Nat.le_refl _
    | with_reducible exact Nat.le_add_right _ _
    | with_reducible apply upd_put
    | intro _
    | split

theorem upd_clearPage {s₀ s : State} (h : Upd s₀ s) (p lo : Nat) : Upd s₀ (s.clearPage p lo) :=
  ⟨h.pending, h.free, h.ns, fun k => ⟨Tab.wf_clear _ _ _ (h.regs k).1, (h.regs k).2⟩, h.lc⟩

theorem upd_setCoal {s₀ s : State} (h : Upd s₀ s) (g : Nat) (x : CoalGrp) : Upd s₀ (State.setCoal s g x) := by
  unfold State.setCoal
  repeat' first
    | with_reducible assumption
    | with_reducible exact fun w => w
    | with_reducible exact Nat.le_refl _
    | with_reducible exact Nat.le_add_right _ _
    | intro _
    | (with_reducible refine id (?_ : Upd _ _); dsimp -zeta only [])
    | split
    | with_reducible refine Upd.mk' ?_ rfl ?_ ?_ ?_ ?_

theorem upd_setEntry {s₀ s : State} (h : Upd s₀ s) (c : Nat) (o : Option Nat) : Upd s₀ (State.setEntry s c o) := by
  unfold State.setEntry
  repeat' first
    | with_reducible assumption
    | with_reducible exact fun w => w
    | with_reducible exact Nat.le_refl _
    | with_reducible exact Nat.le_add_right _ _
    | intro _
    | (with_reducible refine id (?_ : Upd _ _); dsimp -zeta only [])
    | split
    | with_reducible refine Upd.mk' ?_ rfl ?_ ?_ ?_ ?_

theorem upd_iuLook {s₀ s : State} (h : Upd s₀ s) (c : Nat) : Upd s₀ (State.iuLook s c) := by
  unfold State.iuLook
  repeat' first
    | with_reducible assumption
    | with_reducible refine upd_snd (by with_reducible assumption) ?_
    | with_reducible refine upd_fst (by with_reducible assumption) ?_
    | with_reducible exact fun w => w
    | with_reducible exact Nat.le_refl _
    | with_reducible exact Nat.le_add_right _ _
    | with_reducible apply upd_setEntry
    | intro _
    | split

theorem upd_iuLookAll {s₀ s : State} (h : Upd s₀ s) : Upd s₀ (State.iuLookAll s) := by
  unfold State.iuLookAll
  repeat' first
    | with_reducible assumption
    | with_reducible exact fun w => w
    | with_reducible exact Nat.le_refl _
    | with_reducible exact Nat.le_add_right _ _
    | with_reducible apply upd_iuLook
    | intro _
    | split

theorem upd_coalSettle {s₀ s : State} (h : Upd s₀ s) : Upd s₀ (State.coalSettle s) := by
  unfold State.coalSettle
  repeat' first
    | with_reducible assumption
    | with_reducible exact fun w => w
    | with_reducible exact Nat.le_refl _
    | with_reducible exact Nat.le_add_right _ _
    | with_reducible apply upd_setCoal
    | with_reducible apply upd_foldl
    | with_reducible apply upd_foldl_fst
    | with_reducible apply upd_foldl_snd
    | intro _
    | with_reducible apply upd_ite
    | with_reducible apply upd_ite_fst
    | with_reducible apply upd_ite_snd
    | (with_reducible refine id (?_ : Upd _ _); dsimp -zeta only [])
    | split

theorem upd_reqRise {s₀ s : State} (h : Upd s₀ s) (i : Nat) : Upd s₀ (State.reqRise s i) := by
  unfold State.reqRise
  repeat' first
    | with_reducible assumption
    | with_reducible exact fun w => w
    | with_reducible exact Nat.le_refl _
    | with_reducible exact Nat.le_add_right _ _
    | with_reducible apply upd_setCoal
    | with_reducible apply upd_iuLookAll
    | with_reducible apply upd_setEntry
    | intro _
    | (extract_lets +onlyGivenNames t; first
      | (refine Upd.cut (s := s₀) (t := t) ?_ ?_; subst t; rotate_left; intro _; clear_value t)
      | (refine Upd.cut (s := s₀) (t := t.2) ?_ ?_; subst t; rotate_left; intro _; clear_value t)
      | (refine Upd.cut (s := s₀) (t := t.1) ?_ ?_; subst t; rotate_left; intro _; clear_value t)
      | subst t)
    | with_reducible apply upd_ite
    | with_reducible apply upd_ite_fst
    | with_reducible apply upd_ite_snd
    | split
    | with_reducible refine Upd.mk' ?_ rfl ?_ ?_ ?_ ?_

theorem upd_withReq {s₀ s : State} {f : State → State} (i : Nat) (h : Upd s₀ (f s)) : Upd s₀ (s.withReq i f) := by
  unfold State.withReq
  extract_lets +onlyGivenNames t
  split
  · exact upd_reqRise h i
  · exact h

theorem upd_irq {s₀ s : State} (h : Upd s₀ s) (p : Nat) (b : Nat) : Upd s₀ (State.irq s p b) := by
  unfold State.irq
  repeat' first
    | with_reducible assumption
    | with_reducible exact fun w => w
    | with_reducible exact Nat.le_refl _
    | with_reducible exact Nat.le_add_right _ _
    | with_reducible apply upd_withReq
    | with_reducible apply upd_put
    | intro _
    | split
    | with_reducible refine Upd.mk' ?_ rfl ?_ ?_ ?_ ?_

theorem upd_outcomeIrq {s₀ s : State} (h : Upd s₀ s) (b : Nat) : Upd s₀ (State.outcomeIrq s b) := by
  unfold State.outcomeIrq
  repeat' first
    | with_reducible assumption
    | with_reducible exact fun w => w
    | with_reducible exact Nat.le_refl _
    | with_reducible exact Nat.le_add_right _ _
    | intro _
    | (with_reducible refine id (?_ : Upd _ _); dsimp -zeta only [])
    | split
    | with_reducible refine Upd.mk' ?_ rfl ?_ ?_ ?_ ?_

theorem upd_countIn {s₀ s : State} (h : Upd s₀ s) : Upd s₀ (State.countIn s) := by
  unfold State.countIn
  repeat' first
    | with_reducible assumption
    | with_reducible exact fun w => w
    | with_reducible exact Nat.le_refl _
    | with_reducible exact Nat.le_add_right _ _
    | intro _
    | (with_reducible refine id (?_ : Upd _ _); dsimp -zeta only [])
    | split
    | with_reducible refine Upd.mk' ?_ rfl ?_ ?_ ?_ ?_

theorem upd_fresh {s₀ s : State} (h : Upd s₀ s) : Upd s₀ s.fresh.2 :=
  ⟨h.pending, Nat.le_succ_of_le h.free, h.ns, h.regs, h.lc⟩

theorem upd_setTai {s₀ s : State} (h : Upd s₀ s) (at_ t : Nat) : Upd s₀ (State.setTai s at_ t) := by
  unfold State.setTai
  repeat' first
    | with_reducible assumption
    | with_reducible exact fun w => w
    | with_reducible exact Nat.le_refl _
    | with_reducible exact Nat.le_add_right _ _
    | intro _
    | (with_reducible refine id (?_ : Upd _ _); dsimp -zeta only [])
    | split
    | with_reducible refine Upd.mk' ?_ rfl ?_ ?_ ?_ ?_

theorem upd_modTick {s₀ s : State} (h : Upd s₀ s) (f : TickSt → TickSt) : Upd s₀ (State.modTick s f) := by
  unfold State.modTick
  repeat' first
    | with_reducible assumption
    | with_reducible exact fun w => w
    | with_reducible exact Nat.le_refl _
    | with_reducible exact Nat.le_add_right _ _
    | intro _
    | (with_reducible refine id (?_ : Upd _ _); dsimp -zeta only [])
    | split
    | with_reducible refine Upd.mk' ?_ rfl ?_ ?_ ?_ ?_

theorem upd_atLeast {s₀ s : State} (h : Upd s₀ s) (ns : Nat) : Upd s₀ (State.atLeast s ns) := by
  unfold State.atLeast
  repeat' first
    | with_reducible assumption
    | with_reducible exact fun w => w
    | with_reducible exact Nat.le_refl _
    | with_reducible exact Nat.le_add_right _ _
    | with_reducible apply upd_modTick
    | intro _
    | (with_reducible refine id (?_ : Upd _ _); dsimp -zeta only [])
    | split
    | with_reducible refine Upd.mk' ?_ rfl ?_ ?_ ?_ ?_

theorem upd_drawOfs {s₀ s : State} (h : Upd s₀ s) : Upd s₀ ((State.drawOfs s).2) := by
  unfold State.drawOfs
  repeat' first
    | with_reducible assumption
    | with_reducible exact fun w => w
    | with_reducible exact Nat.le_refl _
    | with_reducible exact Nat.le_add_right _ _
    | with_reducible apply upd_fresh
    | with_reducible apply upd_modTick
    | with_reducible refine upd_snd (by with_reducible assumption) ?_
    | with_reducible refine upd_fst (by with_reducible assumption) ?_
    | intro _
    | (extract_lets +onlyGivenNames t; first
      | (refine Upd.cut (s := s₀) (t := t) ?_ ?_; subst t; rotate_left; intro _; clear_value t)
      | (refine Upd.cut (s := s₀) (t := t.2) ?_ ?_; subst t; rotate_left; intro _; clear_value t)
      | (refine Upd.cut (s := s₀) (t := t.1) ?_ ?_; subst t; rotate_left; intro _; clear_value t)
      | subst t)
    | (with_reducible refine id (?_ : Upd _ _); dsimp -zeta only [])
    | split
    | with_reducible refine Upd.mk' ?_ rfl ?_ ?_ ?_ ?_

theorem upd_takeIdx {s₀ s : State} (h : Upd s₀ s) : Upd s₀ (State.takeIdx s) := by
  unfold State.takeIdx
  repeat' first
    | with_reducible assumption
    | with_reducible exact fun w => w
    | with_reducible exact Nat.le_refl _
    | with_reducible exact Nat.le_add_right _ _
    | intro _
    | split
    | with_reducible refine Upd.mk' ?_ rfl ?_ ?_ ?_ ?_

theorem upd_loseRec {s₀ s : State} (h : Upd s₀ s) (v : Nat) : Upd s₀ (State.loseRec s v) := by
  unfold State.loseRec
  repeat' first
    | with_reducible assumption
    | with_reducible refine upd_snd (by with_reducible assumption) ?_
    | with_reducible refine upd_fst (by with_reducible assumption) ?_
    | with_reducible exact fun w => w
    | with_reducible exact Nat.le_refl _
    | with_reducible exact Nat.le_add_right _ _
    | with_reducible apply upd_add
    | with_reducible apply upd_irq
    | with_reducible apply upd_takeIdx
    | intro _
    | (extract_lets +onlyGivenNames t; first
      | (refine Upd.cut (s := s₀) (t := t) ?_ ?_; subst t; rotate_left; intro _; clear_value t)
      | (refine Upd.cut (s := s₀) (t := t.2) ?_ ?_; subst t; rotate_left; intro _; clear_value t)
      | (refine Upd.cut (s := s₀) (t := t.1) ?_ ?_; subst t; rotate_left; intro _; clear_value t)
      | subst t)
    | split
    | with_reducible refine Upd.mk' ?_ rfl ?_ ?_ ?_ ?_

theorem upd_raiseRec {s₀ s : State} (h : Upd s₀ s) (r : Rec) : Upd s₀ (State.raiseRec s r) := by
  unfold State.raiseRec
  repeat' first
    | with_reducible assumption
    | with_reducible refine upd_snd (by with_reducible assumption) ?_
    | with_reducible refine upd_fst (by with_reducible assumption) ?_
    | with_reducible exact fun w => w
    | with_reducible exact Nat.le_refl _
    | with_reducible exact Nat.le_add_right _ _
    | with_reducible apply upd_takeIdx
    | with_reducible apply upd_loseRec
    | intro _
    | with_reducible apply upd_ite
    | with_reducible apply upd_ite_fst
    | with_reducible apply upd_ite_snd
    | split
    | with_reducible refine Upd.mk' ?_ rfl ?_ ?_ ?_ ?_

theorem upd_raise {s₀ s : State} (h : Upd s₀ s) (ev : Ev) (src : Nat) (params : List Nat) : Upd s₀ (State.raise s ev src params) := by
  unfold State.raise
  repeat' first
    | with_reducible assumption
    | with_reducible exact fun w => w
    | with_reducible exact Nat.le_refl _
    | with_reducible exact Nat.le_add_right _ _
    | with_reducible apply upd_raiseRec
    | intro _
    | split

theorem upd_raiseAll {s₀ s : State} (h : Upd s₀ s) (l : List Raise) : Upd s₀ (State.raiseAll s l) := by
  unfold State.raiseAll
  repeat' first
    | with_reducible assumption
    | with_reducible exact fun w => w
    | with_reducible exact Nat.le_refl _
    | with_reducible exact Nat.le_add_right _ _
    | with_reducible apply upd_raise
    | with_reducible apply upd_foldl
    | with_reducible apply upd_foldl_fst
    | with_reducible apply upd_foldl_snd
    | intro _
    | (with_reducible refine id (?_ : Upd _ _); dsimp -zeta only [])
    | split

theorem upd_modPair {s₀ s : State} (h : Upd s₀ s) (f : PairSt → PairSt) : Upd s₀ (State.modPair s f) := by
  unfold State.modPair
  repeat' first
    | with_reducible assumption
    | with_reducible exact fun w => w
    | with_reducible exact Nat.le_refl _
    | with_reducible exact Nat.le_add_right _ _
    | intro _
    | (with_reducible refine id (?_ : Upd _ _); dsimp -zeta only [])
    | split
    | with_reducible refine Upd.mk' ?_ rfl ?_ ?_ ?_ ?_

theorem upd_byellSend {s₀ s : State} (h : Upd s₀ s) (n : Nat) : Upd s₀ (State.byellSend s n) := by
  unfold State.byellSend
  repeat' first
    | with_reducible assumption
    | with_reducible exact fun w => w
    | with_reducible exact Nat.le_refl _
    | with_reducible exact Nat.le_add_right _ _
    | with_reducible apply upd_add
    | intro _
    | split

theorem upd_mirrorOut {s₀ s : State} (h : Upd s₀ s) (x : MirrorIn) : Upd s₀ (State.mirrorOut s x) := by
  unfold State.mirrorOut
  repeat' first
    | with_reducible assumption
    | with_reducible exact fun w => w
    | with_reducible exact Nat.le_refl _
    | with_reducible exact Nat.le_add_right _ _
    | with_reducible apply upd_modPair
    | with_reducible apply upd_byellSend
    | intro _
    | (with_reducible refine id (?_ : Upd _ _); dsimp -zeta only [])
    | split
    | with_reducible refine Upd.mk' ?_ rfl ?_ ?_ ?_ ?_

end Sys2Proof.Machine
end

