-- ==== Sys2Proof/Laws/UpdHatch.lean ====
section
/-! SUPPORT. The operations of Machine/Hatch.lean as updates. -/

namespace Sys2Proof.Machine

theorem upd_graphErr {s₀ s : State} (h : Upd s₀ s) (e : GraphErr) : Upd s₀ (State.graphErr s e) := by
  unfold State.graphErr
  repeat' first
    | with_reducible assumption
    | with_reducible exact fun w => w
    | with_reducible exact Nat.le_refl _
    | with_reducible exact Nat.le_add_right _ _
    | with_reducible apply upd_put
    | intro _
    | split

theorem upd_graphClear {s₀ s : State} (h : Upd s₀ s) (st : Nat) : Upd s₀ (State.graphClear s st) := by
  unfold State.graphClear
  repeat' first
    | with_reducible assumption
    | with_reducible exact fun w => w
    | with_reducible exact Nat.le_refl _
    | with_reducible exact Nat.le_add_right _ _
    | with_reducible apply upd_graphErr
    | with_reducible apply upd_put
    | intro _
    | split
    | with_reducible refine Upd.mk' ?_ rfl ?_ ?_ ?_ ?_

theorem upd_graphOpen {s₀ s : State} (h : Upd s₀ s) : Upd s₀ (State.graphOpen s) := by
  unfold State.graphOpen
  repeat' first
    | with_reducible assumption
    | with_reducible exact fun w => w
    | with_reducible exact Nat.le_refl _
    | with_reducible exact Nat.le_add_right _ _
    | with_reducible apply upd_graphErr
    | with_reducible apply upd_graphClear
    | intro _
    | with_reducible apply upd_ite
    | with_reducible apply upd_ite_fst
    | with_reducible apply upd_ite_snd
    | split
    | with_reducible refine Upd.mk' ?_ rfl ?_ ?_ ?_ ?_

theorem upd_graphAbort {s₀ s : State} (h : Upd s₀ s) : Upd s₀ (State.graphAbort s) := by
  unfold State.graphAbort
  repeat' first
    | with_reducible assumption
    | with_reducible exact fun w => w
    | with_reducible exact Nat.le_refl _
    | with_reducible exact Nat.le_add_right _ _
    | with_reducible apply upd_graphErr
    | with_reducible apply upd_graphClear
    | intro _
    | with_reducible apply upd_ite
    | with_reducible apply upd_ite_fst
    | with_reducible apply upd_ite_snd
    | split
    | with_reducible refine Upd.mk' ?_ rfl ?_ ?_ ?_ ?_

theorem upd_graphCommit {s₀ s : State} (h : Upd s₀ s) : Upd s₀ (State.graphCommit s) := by
  unfold State.graphCommit
  repeat' first
    | with_reducible assumption
    | with_reducible exact fun w => w
    | with_reducible exact Nat.le_refl _
    | with_reducible exact Nat.le_add_right _ _
    | with_reducible apply upd_graphErr
    | with_reducible apply upd_put
    | intro _
    | (extract_lets +onlyGivenNames t; first
      | (refine Upd.cut (s := s₀) (t := t) ?_ ?_; subst t; rotate_left; intro _; clear_value t)
      | (refine Upd.cut (s := s₀) (t := t.2) ?_ ?_; subst t; rotate_left; intro _; clear_value t)
      | (refine Upd.cut (s := s₀) (t := t.1) ?_ ?_; subst t; rotate_left; intro _; clear_value t)
      | subst t)
    | with_reducible apply upd_ite
    | with_reducible apply upd_ite_fst
    | with_reducible apply upd_ite_snd
    | split
    | with_reducible refine Upd.mk' ?_ rfl ?_ ?_ ?_ ?_

theorem upd_graphCtrl {s₀ s : State} (h : Upd s₀ s) (cmd : Nat) : Upd s₀ (State.graphCtrl s cmd) := by
  unfold State.graphCtrl
  repeat' first
    | with_reducible assumption
    | with_reducible exact fun w => w
    | with_reducible exact Nat.le_refl _
    | with_reducible exact Nat.le_add_right _ _
    | with_reducible apply upd_graphOpen
    | with_reducible apply upd_graphCommit
    | with_reducible apply upd_graphAbort
    | intro _
    | with_reducible apply upd_ite
    | with_reducible apply upd_ite_fst
    | with_reducible apply upd_ite_snd
    | split

theorem upd_loadWin {s₀ s : State} (h : Upd s₀ s) (k : Nat) (v : Word) : Upd s₀ (State.loadWin s k v) := by
  unfold State.loadWin
  repeat' first
    | with_reducible assumption
    | with_reducible exact fun w => w
    | with_reducible exact Nat.le_refl _
    | with_reducible exact Nat.le_add_right _ _
    | with_reducible apply upd_graphErr
    | with_reducible apply upd_wr
    | with_reducible apply upd_addWrap
    | intro _
    | (extract_lets +onlyGivenNames t; first
      | (refine Upd.cut (s := s₀) (t := t) ?_ ?_; subst t; rotate_left; intro _; clear_value t)
      | (refine Upd.cut (s := s₀) (t := t.2) ?_ ?_; subst t; rotate_left; intro _; clear_value t)
      | (refine Upd.cut (s := s₀) (t := t.1) ?_ ?_; subst t; rotate_left; intro _; clear_value t)
      | subst t)
    | with_reducible apply upd_ite
    | with_reducible apply upd_ite_fst
    | with_reducible apply upd_ite_snd
    | (with_reducible refine id (?_ : Upd _ _); dsimp -zeta only [])
    | split
    | with_reducible refine Upd.mk' ?_ rfl ?_ ?_ ?_ ?_

theorem upd_graphValidated {s₀ s : State} (h : Upd s₀ s) : Upd s₀ (State.graphValidated s) := by
  unfold State.graphValidated
  repeat' first
    | with_reducible assumption
    | with_reducible exact fun w => w
    | with_reducible exact Nat.le_refl _
    | with_reducible exact Nat.le_add_right _ _
    | with_reducible apply upd_put
    | with_reducible apply upd_graphErr
    | with_reducible apply upd_irq
    | with_reducible apply upd_raise
    | with_reducible refine upd_snd (by with_reducible assumption) ?_
    | with_reducible refine upd_fst (by with_reducible assumption) ?_
    | intro _
    | (extract_lets +onlyGivenNames t; first
      | (refine Upd.cut (s := s₀) (t := t) ?_ ?_; subst t; rotate_left; intro _; clear_value t)
      | (refine Upd.cut (s := s₀) (t := t.2) ?_ ?_; subst t; rotate_left; intro _; clear_value t)
      | (refine Upd.cut (s := s₀) (t := t.1) ?_ ?_; subst t; rotate_left; intro _; clear_value t)
      | subst t)
    | with_reducible apply upd_ite
    | with_reducible apply upd_ite_fst
    | with_reducible apply upd_ite_snd
    | (with_reducible refine id (?_ : Upd _ _); dsimp -zeta only [])
    | split
    | with_reducible refine Upd.mk' ?_ rfl ?_ ?_ ?_ ?_

theorem upd_graphActivate {s₀ s : State} (h : Upd s₀ s) (g : Graph) : Upd s₀ (State.graphActivate s g) := by
  unfold State.graphActivate
  repeat' first
    | with_reducible assumption
    | with_reducible exact fun w => w
    | with_reducible exact Nat.le_refl _
    | with_reducible exact Nat.le_add_right _ _
    | with_reducible apply upd_wr
    | with_reducible apply upd_raise
    | intro _
    | (extract_lets +onlyGivenNames t; first
      | (refine Upd.cut (s := s₀) (t := t) ?_ ?_; subst t; rotate_left; intro _; clear_value t)
      | (refine Upd.cut (s := s₀) (t := t.2) ?_ ?_; subst t; rotate_left; intro _; clear_value t)
      | (refine Upd.cut (s := s₀) (t := t.1) ?_ ?_; subst t; rotate_left; intro _; clear_value t)
      | subst t)
    | split
    | with_reducible refine Upd.mk' ?_ rfl ?_ ?_ ?_ ?_

theorem upd_graphSwap {s₀ s : State} (h : Upd s₀ s) : Upd s₀ (State.graphSwap s) := by
  unfold State.graphSwap
  repeat' first
    | with_reducible assumption
    | with_reducible refine upd_snd (by with_reducible assumption) ?_
    | with_reducible refine upd_fst (by with_reducible assumption) ?_
    | with_reducible exact fun w => w
    | with_reducible exact Nat.le_refl _
    | with_reducible exact Nat.le_add_right _ _
    | with_reducible apply upd_graphActivate
    | with_reducible apply upd_irq
    | with_reducible apply upd_graphErr
    | with_reducible apply upd_put
    | intro _
    | (extract_lets +onlyGivenNames t; first
      | (refine Upd.cut (s := s₀) (t := t) ?_ ?_; subst t; rotate_left; intro _; clear_value t)
      | (refine Upd.cut (s := s₀) (t := t.2) ?_ ?_; subst t; rotate_left; intro _; clear_value t)
      | (refine Upd.cut (s := s₀) (t := t.1) ?_ ?_; subst t; rotate_left; intro _; clear_value t)
      | subst t)
    | with_reducible apply upd_ite
    | with_reducible apply upd_ite_fst
    | with_reducible apply upd_ite_snd
    | split
    | with_reducible refine Upd.mk' ?_ rfl ?_ ?_ ?_ ?_

theorem upd_graphPersisted {s₀ s : State} (h : Upd s₀ s) : Upd s₀ (State.graphPersisted s) := by
  unfold State.graphPersisted
  repeat' first
    | with_reducible assumption
    | with_reducible exact fun w => w
    | with_reducible exact Nat.le_refl _
    | with_reducible exact Nat.le_add_right _ _
    | with_reducible apply upd_put
    | intro _
    | (extract_lets +onlyGivenNames t; first
      | (refine Upd.cut (s := s₀) (t := t) ?_ ?_; subst t; rotate_left; intro _; clear_value t)
      | (refine Upd.cut (s := s₀) (t := t.2) ?_ ?_; subst t; rotate_left; intro _; clear_value t)
      | (refine Upd.cut (s := s₀) (t := t.1) ?_ ?_; subst t; rotate_left; intro _; clear_value t)
      | subst t)
    | with_reducible apply upd_ite
    | with_reducible apply upd_ite_fst
    | with_reducible apply upd_ite_snd
    | split
    | with_reducible refine Upd.mk' ?_ rfl ?_ ?_ ?_ ?_

theorem upd_hatchReject {s₀ s : State} (h : Upd s₀ s) (why : Nat) (node : Nat) : Upd s₀ (State.hatchReject s why node) := by
  unfold State.hatchReject
  repeat' first
    | with_reducible assumption
    | with_reducible exact fun w => w
    | with_reducible exact Nat.le_refl _
    | with_reducible exact Nat.le_add_right _ _
    | with_reducible apply upd_add
    | with_reducible apply upd_irq
    | with_reducible apply upd_raise
    | intro _
    | (extract_lets +onlyGivenNames t; first
      | (refine Upd.cut (s := s₀) (t := t) ?_ ?_; subst t; rotate_left; intro _; clear_value t)
      | (refine Upd.cut (s := s₀) (t := t.2) ?_ ?_; subst t; rotate_left; intro _; clear_value t)
      | (refine Upd.cut (s := s₀) (t := t.1) ?_ ?_; subst t; rotate_left; intro _; clear_value t)
      | subst t)
    | with_reducible apply upd_ite
    | with_reducible apply upd_ite_fst
    | with_reducible apply upd_ite_snd
    | (with_reducible refine id (?_ : Upd _ _); dsimp -zeta only [])
    | split
    | with_reducible refine Upd.mk' ?_ rfl ?_ ?_ ?_ ?_

theorem upd_hatchDrop {s₀ s : State} (h : Upd s₀ s) : Upd s₀ (State.hatchDrop s) := by
  unfold State.hatchDrop
  repeat' first
    | with_reducible assumption
    | with_reducible exact fun w => w
    | with_reducible exact Nat.le_refl _
    | with_reducible exact Nat.le_add_right _ _
    | intro _
    | split
    | with_reducible refine Upd.mk' ?_ rfl ?_ ?_ ?_ ?_

theorem upd_hatchCommit {s₀ s : State} (h : Upd s₀ s) (us : Nat) : Upd s₀ (State.hatchCommit s us) := by
  unfold State.hatchCommit
  repeat' first
    | with_reducible assumption
    | with_reducible refine upd_snd (by with_reducible assumption) ?_
    | with_reducible refine upd_fst (by with_reducible assumption) ?_
    | with_reducible exact fun w => w
    | with_reducible exact Nat.le_refl _
    | with_reducible exact Nat.le_add_right _ _
    | with_reducible apply upd_put
    | with_reducible apply upd_add
    | with_reducible apply upd_hatchReject
    | with_reducible apply upd_irq
    | with_reducible apply upd_raise
    | with_reducible apply upd_foldl
    | with_reducible apply upd_foldl_fst
    | with_reducible apply upd_foldl_snd
    | intro _
    | (extract_lets +onlyGivenNames t; first
      | (refine Upd.cut (s := s₀) (t := t) ?_ ?_; subst t; rotate_left; intro _; clear_value t)
      | (refine Upd.cut (s := s₀) (t := t.2) ?_ ?_; subst t; rotate_left; intro _; clear_value t)
      | (refine Upd.cut (s := s₀) (t := t.1) ?_ ?_; subst t; rotate_left; intro _; clear_value t)
      | subst t)
    | with_reducible apply upd_ite
    | with_reducible apply upd_ite_fst
    | with_reducible apply upd_ite_snd
    | (with_reducible refine id (?_ : Upd _ _); dsimp -zeta only [])
    | split
    | with_reducible refine Upd.mk' ?_ rfl ?_ ?_ ?_ ?_

theorem upd_hatchAbort {s₀ s : State} (h : Upd s₀ s) (us : Nat) : Upd s₀ (State.hatchAbort s us) := by
  unfold State.hatchAbort
  repeat' first
    | with_reducible assumption
    | with_reducible exact fun w => w
    | with_reducible exact Nat.le_refl _
    | with_reducible exact Nat.le_add_right _ _
    | with_reducible apply upd_put
    | intro _
    | (extract_lets +onlyGivenNames t; first
      | (refine Upd.cut (s := s₀) (t := t) ?_ ?_; subst t; rotate_left; intro _; clear_value t)
      | (refine Upd.cut (s := s₀) (t := t.2) ?_ ?_; subst t; rotate_left; intro _; clear_value t)
      | (refine Upd.cut (s := s₀) (t := t.1) ?_ ?_; subst t; rotate_left; intro _; clear_value t)
      | subst t)
    | with_reducible apply upd_ite
    | with_reducible apply upd_ite_fst
    | with_reducible apply upd_ite_snd
    | split
    | with_reducible refine Upd.mk' ?_ rfl ?_ ?_ ?_ ?_

theorem upd_hatchZero {s₀ s : State} (h : Upd s₀ s) : Upd s₀ (State.hatchZero s) := by
  unfold State.hatchZero
  repeat' first
    | with_reducible assumption
    | with_reducible exact fun w => w
    | with_reducible exact Nat.le_refl _
    | with_reducible exact Nat.le_add_right _ _
    | with_reducible apply upd_wr
    | with_reducible apply upd_foldl
    | with_reducible apply upd_foldl_fst
    | with_reducible apply upd_foldl_snd
    | intro _
    | (with_reducible refine id (?_ : Upd _ _); dsimp -zeta only [])
    | split

theorem upd_hatchStop {s₀ s : State} (h : Upd s₀ s) : Upd s₀ (State.hatchStop s) := by
  unfold State.hatchStop
  repeat' first
    | with_reducible assumption
    | with_reducible exact fun w => w
    | with_reducible exact Nat.le_refl _
    | with_reducible exact Nat.le_add_right _ _
    | with_reducible apply upd_fresh
    | with_reducible apply upd_hatchAbort
    | with_reducible refine upd_snd (by with_reducible assumption) ?_
    | with_reducible refine upd_fst (by with_reducible assumption) ?_
    | intro _
    | (extract_lets +onlyGivenNames t; first
      | (refine Upd.cut (s := s₀) (t := t) ?_ ?_; subst t; rotate_left; intro _; clear_value t)
      | (refine Upd.cut (s := s₀) (t := t.2) ?_ ?_; subst t; rotate_left; intro _; clear_value t)
      | (refine Upd.cut (s := s₀) (t := t.1) ?_ ?_; subst t; rotate_left; intro _; clear_value t)
      | subst t)
    | with_reducible apply upd_ite
    | with_reducible apply upd_ite_fst
    | with_reducible apply upd_ite_snd
    | (with_reducible refine id (?_ : Upd _ _); dsimp -zeta only [])
    | split
    | with_reducible refine Upd.mk' ?_ rfl ?_ ?_ ?_ ?_

theorem upd_hatchFlush {s₀ s : State} (h : Upd s₀ s) : Upd s₀ (State.hatchFlush s) := by
  unfold State.hatchFlush
  repeat' first
    | with_reducible assumption
    | with_reducible exact fun w => w
    | with_reducible exact Nat.le_refl _
    | with_reducible exact Nat.le_add_right _ _
    | with_reducible apply upd_hatchStop
    | with_reducible apply upd_hatchDrop
    | intro _
    | split

end Sys2Proof.Machine
end

