-- ==== Sys2Proof/Laws/UpdPlate.lean ====
section
/-! SUPPORT. The operations of Machine/Plate.lean as updates. -/

namespace Sys2Proof.Machine

theorem upd_setNode {s₀ s : State} (h : Upd s₀ s) (i : Nat) (n : Node) : Upd s₀ (State.setNode s i n) := by
  unfold State.setNode
  repeat' first
    | with_reducible assumption
    | with_reducible exact fun w => w
    | with_reducible exact Nat.le_refl _
    | with_reducible exact Nat.le_add_right _ _
    | intro _
    | (with_reducible refine id (?_ : Upd _ _); dsimp -zeta only [])
    | split
    | with_reducible refine Upd.mk' ?_ rfl ?_ ?_ ?_ ?_

theorem upd_copyNode {s₀ s : State} (h : Upd s₀ s) (i : Nat) : Upd s₀ (State.copyNode s i) := by
  unfold State.copyNode
  repeat' first
    | with_reducible assumption
    | with_reducible exact fun w => w
    | with_reducible exact Nat.le_refl _
    | with_reducible exact Nat.le_add_right _ _
    | intro _
    | (with_reducible refine id (?_ : Upd _ _); dsimp -zeta only [])
    | split
    | with_reducible refine Upd.mk' ?_ rfl ?_ ?_ ?_ ?_

theorem upd_setCo {s₀ s : State} (h : Upd s₀ s) (j : Nat) (c : Co) : Upd s₀ (State.setCo s j c) := by
  unfold State.setCo
  repeat' first
    | with_reducible assumption
    | with_reducible exact fun w => w
    | with_reducible exact Nat.le_refl _
    | with_reducible exact Nat.le_add_right _ _
    | intro _
    | (with_reducible refine id (?_ : Upd _ _); dsimp -zeta only [])
    | split
    | with_reducible refine Upd.mk' ?_ rfl ?_ ?_ ?_ ?_

theorem upd_setSlot {s₀ s : State} (h : Upd s₀ s) (k : Nat) (t : TraceSlot) : Upd s₀ (State.setSlot s k t) := by
  unfold State.setSlot
  repeat' first
    | with_reducible assumption
    | with_reducible exact fun w => w
    | with_reducible exact Nat.le_refl _
    | with_reducible exact Nat.le_add_right _ _
    | intro _
    | (with_reducible refine id (?_ : Upd _ _); dsimp -zeta only [])
    | split
    | with_reducible refine Upd.mk' ?_ rfl ?_ ?_ ?_ ?_

theorem upd_plateSwap {s₀ s : State} (h : Upd s₀ s) : Upd s₀ (State.plateSwap s) := by
  unfold State.plateSwap
  repeat' first
    | with_reducible assumption
    | with_reducible exact fun w => w
    | with_reducible exact Nat.le_refl _
    | with_reducible exact Nat.le_add_right _ _
    | with_reducible apply upd_put
    | with_reducible apply upd_wr
    | with_reducible apply upd_addWrap
    | with_reducible apply upd_irq
    | with_reducible apply upd_foldl
    | with_reducible apply upd_foldl_fst
    | with_reducible apply upd_foldl_snd
    | intro _
    | (extract_lets +onlyGivenNames t; first
      | (refine Upd.cut (s := s₀) (t := t) ?_ ?_; subst t; rotate_left; intro _; clear_value t)
      | (refine Upd.cut (s := s₀) (t := t.2) ?_ ?_; subst t; rotate_left; intro _; clear_value t)
      | (refine Upd.cut (s := s₀) (t := t.1) ?_ ?_; subst t; rotate_left; intro _; clear_value t)
      | subst t)
    | (with_reducible refine id (?_ : Upd _ _); dsimp -zeta only [])
    | split
    | with_reducible refine Upd.mk' ?_ rfl ?_ ?_ ?_ ?_

theorem upd_composeStart {s₀ s : State} (h : Upd s₀ s) : Upd s₀ (State.composeStart s) := by
  unfold State.composeStart
  repeat' first
    | with_reducible assumption
    | with_reducible exact fun w => w
    | with_reducible exact Nat.le_refl _
    | with_reducible exact Nat.le_add_right _ _
    | with_reducible apply upd_put
    | intro _
    | split
    | with_reducible refine Upd.mk' ?_ rfl ?_ ?_ ?_ ?_

theorem upd_commitNode {s₀ s : State} (h : Upd s₀ s) (i : Nat) (w : Node) : Upd s₀ (State.commitNode s i w) := by
  unfold State.commitNode
  repeat' first
    | with_reducible assumption
    | with_reducible exact fun w => w
    | with_reducible exact Nat.le_refl _
    | with_reducible exact Nat.le_add_right _ _
    | with_reducible apply upd_setNode
    | with_reducible apply upd_copyNode
    | intro _
    | (extract_lets +onlyGivenNames t; first
      | (refine Upd.cut (s := s₀) (t := t) ?_ ?_; subst t; rotate_left; intro _; clear_value t)
      | (refine Upd.cut (s := s₀) (t := t.2) ?_ ?_; subst t; rotate_left; intro _; clear_value t)
      | (refine Upd.cut (s := s₀) (t := t.1) ?_ ?_; subst t; rotate_left; intro _; clear_value t)
      | subst t)
    | with_reducible apply upd_ite
    | with_reducible apply upd_ite_fst
    | with_reducible apply upd_ite_snd
    | split
    | with_reducible refine Upd.mk' ?_ rfl ?_ ?_ ?_ ?_

theorem upd_recordChip {s₀ s : State} (h : Upd s₀ s) (k : Nat) (ok : Bool) : Upd s₀ (State.recordChip s k ok) := by
  unfold State.recordChip
  repeat' first
    | with_reducible assumption
    | with_reducible exact fun w => w
    | with_reducible exact Nat.le_refl _
    | with_reducible exact Nat.le_add_right _ _
    | with_reducible apply upd_setSlot
    | intro _
    | (extract_lets +onlyGivenNames t; first
      | (refine Upd.cut (s := s₀) (t := t) ?_ ?_; subst t; rotate_left; intro _; clear_value t)
      | (refine Upd.cut (s := s₀) (t := t.2) ?_ ?_; subst t; rotate_left; intro _; clear_value t)
      | (refine Upd.cut (s := s₀) (t := t.1) ?_ ?_; subst t; rotate_left; intro _; clear_value t)
      | subst t)
    | split
    | with_reducible refine Upd.mk' ?_ rfl ?_ ?_ ?_ ?_

theorem upd_composeDone {s₀ s : State} (h : Upd s₀ s) (us : Nat) : Upd s₀ (State.composeDone s us) := by
  unfold State.composeDone
  repeat' first
    | with_reducible assumption
    | with_reducible refine upd_snd (by with_reducible assumption) ?_
    | with_reducible refine upd_fst (by with_reducible assumption) ?_
    | with_reducible exact fun w => w
    | with_reducible exact Nat.le_refl _
    | with_reducible exact Nat.le_add_right _ _
    | with_reducible apply upd_commitNode
    | with_reducible apply upd_recordChip
    | with_reducible apply upd_irq
    | with_reducible apply upd_raise
    | with_reducible apply upd_put
    | with_reducible apply upd_foldl
    | with_reducible apply upd_foldl_fst
    | with_reducible apply upd_foldl_snd
    | intro _
    | (extract_lets +onlyGivenNames t; first
      | (refine Upd.cut (s := s₀) (t := t) ?_ ?_; subst t; rotate_left; intro _; clear_value t)
      | (refine Upd.cut (s := s₀) (t := t.2) ?_ ?_; subst t; rotate_left; intro _; clear_value t)
      | (refine Upd.cut (s := s₀) (t := t.1) ?_ ?_; subst t; rotate_left; intro _; clear_value t)
      | subst t)
    | with_reducible apply upd_ite
    | with_reducible apply upd_ite_fst
    | with_reducible apply upd_ite_snd
    | (with_reducible refine id (?_ : Upd _ _); dsimp -zeta only [])
    | split
    | with_reducible refine Upd.mk' ?_ rfl ?_ ?_ ?_ ?_

theorem upd_composeMiss {s₀ s : State} (h : Upd s₀ s) (nodes : Nat) : Upd s₀ (State.composeMiss s nodes) := by
  unfold State.composeMiss
  repeat' first
    | with_reducible assumption
    | with_reducible exact fun w => w
    | with_reducible exact Nat.le_refl _
    | with_reducible exact Nat.le_add_right _ _
    | with_reducible apply upd_put
    | with_reducible apply upd_add
    | with_reducible apply upd_outcomeIrq
    | with_reducible apply upd_raise
    | intro _
    | (extract_lets +onlyGivenNames t; first
      | (refine Upd.cut (s := s₀) (t := t) ?_ ?_; subst t; rotate_left; intro _; clear_value t)
      | (refine Upd.cut (s := s₀) (t := t.2) ?_ ?_; subst t; rotate_left; intro _; clear_value t)
      | (refine Upd.cut (s := s₀) (t := t.1) ?_ ?_; subst t; rotate_left; intro _; clear_value t)
      | subst t)
    | (with_reducible refine id (?_ : Upd _ _); dsimp -zeta only [])
    | split
    | with_reducible refine Upd.mk' ?_ rfl ?_ ?_ ?_ ?_

theorem upd_plateWin {s₀ s : State} (h : Upd s₀ s) : Upd s₀ ((State.plateWin s).2) := by
  unfold State.plateWin
  repeat' first
    | with_reducible assumption
    | with_reducible exact fun w => w
    | with_reducible exact Nat.le_refl _
    | with_reducible exact Nat.le_add_right _ _
    | with_reducible apply upd_put
    | intro _
    | (extract_lets +onlyGivenNames t; first
      | (refine Upd.cut (s := s₀) (t := t) ?_ ?_; subst t; rotate_left; intro _; clear_value t)
      | (refine Upd.cut (s := s₀) (t := t.2) ?_ ?_; subst t; rotate_left; intro _; clear_value t)
      | (refine Upd.cut (s := s₀) (t := t.1) ?_ ?_; subst t; rotate_left; intro _; clear_value t)
      | subst t)
    | with_reducible apply upd_ite
    | with_reducible apply upd_ite_fst
    | with_reducible apply upd_ite_snd
    | (with_reducible refine id (?_ : Upd _ _); dsimp -zeta only [])
    | split

theorem upd_brokenClear {s₀ s : State} (h : Upd s₀ s) (k : Nat) (v : Word) : Upd s₀ (State.brokenClear s k v) := by
  unfold State.brokenClear
  repeat' first
    | with_reducible assumption
    | with_reducible exact fun w => w
    | with_reducible exact Nat.le_refl _
    | with_reducible exact Nat.le_add_right _ _
    | intro _
    | (extract_lets +onlyGivenNames t; first
      | (refine Upd.cut (s := s₀) (t := t) ?_ ?_; subst t; rotate_left; intro _; clear_value t)
      | (refine Upd.cut (s := s₀) (t := t.2) ?_ ?_; subst t; rotate_left; intro _; clear_value t)
      | (refine Upd.cut (s := s₀) (t := t.1) ?_ ?_; subst t; rotate_left; intro _; clear_value t)
      | subst t)
    | (with_reducible refine id (?_ : Upd _ _); dsimp -zeta only [])
    | split
    | with_reducible refine Upd.mk' ?_ rfl ?_ ?_ ?_ ?_

theorem upd_latchClr {s₀ s : State} (h : Upd s₀ s) (v : Word) : Upd s₀ (State.latchClr s v) := by
  unfold State.latchClr
  repeat' first
    | with_reducible assumption
    | with_reducible exact fun w => w
    | with_reducible exact Nat.le_refl _
    | with_reducible exact Nat.le_add_right _ _
    | intro _
    | (extract_lets +onlyGivenNames t; first
      | (refine Upd.cut (s := s₀) (t := t) ?_ ?_; subst t; rotate_left; intro _; clear_value t)
      | (refine Upd.cut (s := s₀) (t := t.2) ?_ ?_; subst t; rotate_left; intro _; clear_value t)
      | (refine Upd.cut (s := s₀) (t := t.1) ?_ ?_; subst t; rotate_left; intro _; clear_value t)
      | subst t)
    | split
    | with_reducible refine Upd.mk' ?_ rfl ?_ ?_ ?_ ?_

theorem upd_coRequest {s₀ s : State} (h : Upd s₀ s) (r : CoReq) : Upd s₀ (State.coRequest s r) := by
  unfold State.coRequest
  repeat' first
    | with_reducible assumption
    | with_reducible exact fun w => w
    | with_reducible exact Nat.le_refl _
    | with_reducible exact Nat.le_add_right _ _
    | with_reducible apply upd_setCo
    | intro _
    | (extract_lets +onlyGivenNames t; first
      | (refine Upd.cut (s := s₀) (t := t) ?_ ?_; subst t; rotate_left; intro _; clear_value t)
      | (refine Upd.cut (s := s₀) (t := t.2) ?_ ?_; subst t; rotate_left; intro _; clear_value t)
      | (refine Upd.cut (s := s₀) (t := t.1) ?_ ?_; subst t; rotate_left; intro _; clear_value t)
      | subst t)
    | with_reducible apply upd_ite
    | with_reducible apply upd_ite_fst
    | with_reducible apply upd_ite_snd
    | (with_reducible refine id (?_ : Upd _ _); dsimp -zeta only [])
    | split
    | with_reducible refine Upd.mk' ?_ rfl ?_ ?_ ?_ ?_

theorem upd_coCmdWrite {s₀ s : State} (h : Upd s₀ s) (v : Word) : Upd s₀ (State.coCmdWrite s v) := by
  unfold State.coCmdWrite
  repeat' first
    | with_reducible assumption
    | with_reducible exact fun w => w
    | with_reducible exact Nat.le_refl _
    | with_reducible exact Nat.le_add_right _ _
    | with_reducible apply upd_coRequest
    | with_reducible apply upd_foldl
    | with_reducible apply upd_foldl_fst
    | with_reducible apply upd_foldl_snd
    | intro _
    | (extract_lets +onlyGivenNames t; first
      | (refine Upd.cut (s := s₀) (t := t) ?_ ?_; subst t; rotate_left; intro _; clear_value t)
      | (refine Upd.cut (s := s₀) (t := t.2) ?_ ?_; subst t; rotate_left; intro _; clear_value t)
      | (refine Upd.cut (s := s₀) (t := t.1) ?_ ?_; subst t; rotate_left; intro _; clear_value t)
      | subst t)
    | with_reducible apply upd_ite
    | with_reducible apply upd_ite_fst
    | with_reducible apply upd_ite_snd
    | (with_reducible refine id (?_ : Upd _ _); dsimp -zeta only [])
    | split
    | with_reducible refine Upd.mk' ?_ rfl ?_ ?_ ?_ ?_

theorem upd_coDrop {s₀ s : State} (h : Upd s₀ s) : Upd s₀ (State.coDrop s) := by
  unfold State.coDrop
  repeat' first
    | with_reducible assumption
    | with_reducible exact fun w => w
    | with_reducible exact Nat.le_refl _
    | with_reducible exact Nat.le_add_right _ _
    | intro _
    | (with_reducible refine id (?_ : Upd _ _); dsimp -zeta only [])
    | split
    | with_reducible refine Upd.mk' ?_ rfl ?_ ?_ ?_ ?_

theorem upd_coApply {s₀ s : State} (h : Upd s₀ s) : Upd s₀ (State.coApply s) := by
  unfold State.coApply
  repeat' first
    | with_reducible assumption
    | with_reducible exact fun w => w
    | with_reducible exact Nat.le_refl _
    | with_reducible exact Nat.le_add_right _ _
    | with_reducible apply upd_coRequest
    | with_reducible apply upd_coDrop
    | with_reducible refine upd_snd (by with_reducible assumption) ?_
    | with_reducible refine upd_fst (by with_reducible assumption) ?_
    | with_reducible apply upd_foldl
    | with_reducible apply upd_foldl_fst
    | with_reducible apply upd_foldl_snd
    | intro _
    | (extract_lets +onlyGivenNames t; first
      | (refine Upd.cut (s := s₀) (t := t) ?_ ?_; subst t; rotate_left; intro _; clear_value t)
      | (refine Upd.cut (s := s₀) (t := t.2) ?_ ?_; subst t; rotate_left; intro _; clear_value t)
      | (refine Upd.cut (s := s₀) (t := t.1) ?_ ?_; subst t; rotate_left; intro _; clear_value t)
      | subst t)
    | with_reducible apply upd_ite
    | with_reducible apply upd_ite_fst
    | with_reducible apply upd_ite_snd
    | (with_reducible refine id (?_ : Upd _ _); dsimp -zeta only [])
    | split

theorem upd_coFreezeAs {s₀ s : State} (h : Upd s₀ s) (f : Nat → Bool) : Upd s₀ (State.coFreezeAs s f) := by
  unfold State.coFreezeAs
  repeat' first
    | with_reducible assumption
    | with_reducible exact fun w => w
    | with_reducible exact Nat.le_refl _
    | with_reducible exact Nat.le_add_right _ _
    | with_reducible apply upd_setCo
    | with_reducible apply upd_foldl
    | intro _
    | (extract_lets +onlyGivenNames t; first
      | (refine Upd.cut (s := s₀) (t := t) ?_ ?_; subst t; rotate_left; intro _; clear_value t)
      | (refine Upd.cut (s := s₀) (t := t.2) ?_ ?_; subst t; rotate_left; intro _; clear_value t)
      | (refine Upd.cut (s := s₀) (t := t.1) ?_ ?_; subst t; rotate_left; intro _; clear_value t)
      | subst t)
    | with_reducible apply upd_ite
    | with_reducible apply upd_ite_fst
    | with_reducible apply upd_ite_snd
    | (with_reducible refine id (?_ : Upd _ _); dsimp -zeta only [])
    | split
    | with_reducible refine Upd.mk' ?_ rfl ?_ ?_ ?_ ?_

theorem upd_coFreeze {s₀ s : State} (h : Upd s₀ s) : Upd s₀ (State.coFreeze s) := by
  unfold State.coFreeze
  repeat' first
    | with_reducible assumption
    | with_reducible exact fun w => w
    | with_reducible exact Nat.le_refl _
    | with_reducible exact Nat.le_add_right _ _
    | with_reducible apply upd_coFreezeAs
    | intro _
    | split

theorem upd_coInitialRead {s₀ s : State} (h : Upd s₀ s) : Upd s₀ (State.coInitialRead s) := by
  unfold State.coInitialRead
  repeat' first
    | with_reducible assumption
    | with_reducible exact fun w => w
    | with_reducible exact Nat.le_refl _
    | with_reducible exact Nat.le_add_right _ _
    | with_reducible apply upd_setCo
    | with_reducible apply upd_foldl
    | intro _
    | (extract_lets +onlyGivenNames t; first
      | (refine Upd.cut (s := s₀) (t := t) ?_ ?_; subst t; rotate_left; intro _; clear_value t)
      | (refine Upd.cut (s := s₀) (t := t.2) ?_ ?_; subst t; rotate_left; intro _; clear_value t)
      | (refine Upd.cut (s := s₀) (t := t.1) ?_ ?_; subst t; rotate_left; intro _; clear_value t)
      | subst t)
    | (with_reducible refine id (?_ : Upd _ _); dsimp -zeta only [])
    | split
    | with_reducible refine Upd.mk' ?_ rfl ?_ ?_ ?_ ?_

theorem upd_coCut {s₀ s : State} (h : Upd s₀ s) : Upd s₀ (State.coCut s) := by
  unfold State.coCut
  repeat' first
    | with_reducible assumption
    | with_reducible exact fun w => w
    | with_reducible exact Nat.le_refl _
    | with_reducible exact Nat.le_add_right _ _
    | with_reducible apply upd_setCo
    | with_reducible apply upd_foldl
    | intro _
    | (with_reducible refine id (?_ : Upd _ _); dsimp -zeta only [])
    | split
    | with_reducible refine Upd.mk' ?_ rfl ?_ ?_ ?_ ?_

theorem upd_coStart {s₀ s : State} (h : Upd s₀ s) (j : Nat) : Upd s₀ (State.coStart s j) := by
  unfold State.coStart
  repeat' first
    | with_reducible assumption
    | with_reducible exact fun w => w
    | with_reducible exact Nat.le_refl _
    | with_reducible exact Nat.le_add_right _ _
    | with_reducible apply upd_setCo
    | intro _
    | (extract_lets +onlyGivenNames t; first
      | (refine Upd.cut (s := s₀) (t := t) ?_ ?_; subst t; rotate_left; intro _; clear_value t)
      | (refine Upd.cut (s := s₀) (t := t.2) ?_ ?_; subst t; rotate_left; intro _; clear_value t)
      | (refine Upd.cut (s := s₀) (t := t.1) ?_ ?_; subst t; rotate_left; intro _; clear_value t)
      | subst t)
    | with_reducible apply upd_ite
    | with_reducible apply upd_ite_fst
    | with_reducible apply upd_ite_snd
    | (with_reducible refine id (?_ : Upd _ _); dsimp -zeta only [])
    | split
    | with_reducible refine Upd.mk' ?_ rfl ?_ ?_ ?_ ?_

theorem upd_coEnd {s₀ s : State} (h : Upd s₀ s) (j : Nat) : Upd s₀ (State.coEnd s j) := by
  unfold State.coEnd
  repeat' first
    | with_reducible assumption
    | with_reducible exact fun w => w
    | with_reducible exact Nat.le_refl _
    | with_reducible exact Nat.le_add_right _ _
    | with_reducible apply upd_setCo
    | intro _
    | with_reducible apply upd_ite
    | with_reducible apply upd_ite_fst
    | with_reducible apply upd_ite_snd
    | split
    | with_reducible refine Upd.mk' ?_ rfl ?_ ?_ ?_ ?_

theorem upd_senseCo {s₀ s : State} (h : Upd s₀ s) (j : Nat) (c : Co) : Upd s₀ (State.senseCo s j c) := by
  unfold State.senseCo
  repeat' first
    | with_reducible assumption
    | with_reducible exact fun w => w
    | with_reducible exact Nat.le_refl _
    | with_reducible exact Nat.le_add_right _ _
    | with_reducible apply upd_setCo
    | with_reducible apply upd_irq
    | intro _
    | with_reducible apply upd_ite
    | with_reducible apply upd_ite_fst
    | with_reducible apply upd_ite_snd
    | split

theorem upd_coRead {s₀ s : State} (h : Upd s₀ s) (j : Nat) : Upd s₀ (State.coRead s j) := by
  unfold State.coRead
  repeat' first
    | with_reducible assumption
    | with_reducible exact fun w => w
    | with_reducible exact Nat.le_refl _
    | with_reducible exact Nat.le_add_right _ _
    | with_reducible apply upd_senseCo
    | with_reducible apply upd_raise
    | with_reducible apply upd_irq
    | with_reducible apply upd_setCo
    | intro _
    | (extract_lets +onlyGivenNames t; first
      | (refine Upd.cut (s := s₀) (t := t) ?_ ?_; subst t; rotate_left; intro _; clear_value t)
      | (refine Upd.cut (s := s₀) (t := t.2) ?_ ?_; subst t; rotate_left; intro _; clear_value t)
      | (refine Upd.cut (s := s₀) (t := t.1) ?_ ?_; subst t; rotate_left; intro _; clear_value t)
      | subst t)
    | with_reducible apply upd_ite
    | with_reducible apply upd_ite_fst
    | with_reducible apply upd_ite_snd
    | (with_reducible refine id (?_ : Upd _ _); dsimp -zeta only [])
    | split
    | with_reducible refine Upd.mk' ?_ rfl ?_ ?_ ?_ ?_

theorem upd_coRetry {s₀ s : State} (h : Upd s₀ s) (j : Nat) : Upd s₀ (State.coRetry s j) := by
  unfold State.coRetry
  repeat' first
    | with_reducible assumption
    | with_reducible exact fun w => w
    | with_reducible exact Nat.le_refl _
    | with_reducible exact Nat.le_add_right _ _
    | with_reducible apply upd_setCo
    | intro _
    | (extract_lets +onlyGivenNames t; first
      | (refine Upd.cut (s := s₀) (t := t) ?_ ?_; subst t; rotate_left; intro _; clear_value t)
      | (refine Upd.cut (s := s₀) (t := t.2) ?_ ?_; subst t; rotate_left; intro _; clear_value t)
      | (refine Upd.cut (s := s₀) (t := t.1) ?_ ?_; subst t; rotate_left; intro _; clear_value t)
      | subst t)
    | with_reducible apply upd_ite
    | with_reducible apply upd_ite_fst
    | with_reducible apply upd_ite_snd
    | split
    | with_reducible refine Upd.mk' ?_ rfl ?_ ?_ ?_ ?_

theorem upd_coSense {s₀ s : State} (h : Upd s₀ s) (j : Nat) : Upd s₀ (State.coSense s j) := by
  unfold State.coSense
  repeat' first
    | with_reducible assumption
    | with_reducible exact fun w => w
    | with_reducible exact Nat.le_refl _
    | with_reducible exact Nat.le_add_right _ _
    | with_reducible apply upd_senseCo
    | with_reducible apply upd_irq
    | with_reducible apply upd_raise
    | intro _
    | (extract_lets +onlyGivenNames t; first
      | (refine Upd.cut (s := s₀) (t := t) ?_ ?_; subst t; rotate_left; intro _; clear_value t)
      | (refine Upd.cut (s := s₀) (t := t.2) ?_ ?_; subst t; rotate_left; intro _; clear_value t)
      | (refine Upd.cut (s := s₀) (t := t.1) ?_ ?_; subst t; rotate_left; intro _; clear_value t)
      | subst t)
    | with_reducible apply upd_ite
    | with_reducible apply upd_ite_fst
    | with_reducible apply upd_ite_snd
    | (with_reducible refine id (?_ : Upd _ _); dsimp -zeta only [])
    | split
    | with_reducible refine Upd.mk' ?_ rfl ?_ ?_ ?_ ?_

end Sys2Proof.Machine
end

