-- ==== Sys2Proof/Laws/UpdGround.lean ====
section
/-! SUPPORT. The operations of Machine/Ground.lean as updates. -/

namespace Sys2Proof.Machine

theorem upd_setKey {s₀ s : State} (h : Upd s₀ s) (i : Nat) (k : KeySlot) : Upd s₀ (State.setKey s i k) := by
  unfold State.setKey
  repeat' first
    | with_reducible assumption
    | with_reducible exact fun w => w
    | with_reducible exact Nat.le_refl _
    | with_reducible exact Nat.le_add_right _ _
    | intro _
    | split
    | with_reducible refine Upd.mk' ?_ rfl ?_ ?_ ?_ ?_

theorem upd_countTag {s₀ s : State} (h : Upd s₀ s) (ok : Bool) : Upd s₀ (State.countTag s ok) := by
  unfold State.countTag
  repeat' first
    | with_reducible assumption
    | with_reducible exact fun w => w
    | with_reducible exact Nat.le_refl _
    | with_reducible exact Nat.le_add_right _ _
    | with_reducible apply upd_add
    | intro _
    | with_reducible apply upd_ite
    | with_reducible apply upd_ite_fst
    | with_reducible apply upd_ite_snd
    | split
    | with_reducible refine Upd.mk' ?_ rfl ?_ ?_ ?_ ?_

theorem upd_tagAnswer {s₀ s : State} (h : Upd s₀ s) (b : Nat) (msg : List Nat)
    : Upd s₀ ((State.tagAnswer s b msg).2) := by
  unfold State.tagAnswer
  repeat' first
    | with_reducible assumption
    | with_reducible exact fun w => w
    | with_reducible exact Nat.le_refl _
    | with_reducible exact Nat.le_add_right _ _
    | with_reducible apply upd_countTag
    | with_reducible refine upd_snd (by with_reducible assumption) ?_
    | with_reducible refine upd_fst (by with_reducible assumption) ?_
    | intro _
    | (with_reducible refine id (?_ : Upd _ _); dsimp -zeta only [])
    | split

theorem upd_deriveBuses {s₀ s : State} (h : Upd s₀ s) (start : Bool) : Upd s₀ (State.deriveBuses s start) := by
  unfold State.deriveBuses
  repeat' first
    | with_reducible assumption
    | with_reducible exact fun w => w
    | with_reducible exact Nat.le_refl _
    | with_reducible exact Nat.le_add_right _ _
    | with_reducible apply upd_setKey
    | with_reducible apply upd_foldl
    | intro _
    | (extract_lets +onlyGivenNames t; first
      | (refine Upd.cut (s := s₀) (t := t) ?_ ?_; subst t; rotate_left; intro _; clear_value t)
      | (refine Upd.cut (s := s₀) (t := t.2) ?_ ?_; subst t; rotate_left; intro _; clear_value t)
      | (refine Upd.cut (s := s₀) (t := t.1) ?_ ?_; subst t; rotate_left; intro _; clear_value t)
      | subst t)
    | with_reducible apply upd_ite
    | with_reducible apply upd_ite_fst
    | with_reducible apply upd_ite_snd
    | (with_reducible refine id (?_ : Upd _ _); dsimp -zeta only [])
    | split
    | with_reducible refine Upd.mk' ?_ rfl ?_ ?_ ?_ ?_

theorem upd_revoke {s₀ s : State} (h : Upd s₀ s) (i : Nat) : Upd s₀ (State.revoke s i) := by
  unfold State.revoke
  repeat' first
    | with_reducible assumption
    | with_reducible exact fun w => w
    | with_reducible exact Nat.le_refl _
    | with_reducible exact Nat.le_add_right _ _
    | with_reducible apply upd_setKey
    | with_reducible apply upd_raise
    | with_reducible apply upd_foldl
    | with_reducible apply upd_foldl_fst
    | with_reducible apply upd_foldl_snd
    | intro _
    | (extract_lets +onlyGivenNames t; first
      | (refine Upd.cut (s := s₀) (t := t) ?_ ?_; subst t; rotate_left; intro _; clear_value t)
      | (refine Upd.cut (s := s₀) (t := t.2) ?_ ?_; subst t; rotate_left; intro _; clear_value t)
      | (refine Upd.cut (s := s₀) (t := t.1) ?_ ?_; subst t; rotate_left; intro _; clear_value t)
      | subst t)
    | with_reducible apply upd_ite
    | with_reducible apply upd_ite_fst
    | with_reducible apply upd_ite_snd
    | (with_reducible refine id (?_ : Upd _ _); dsimp -zeta only [])
    | split
    | with_reducible refine Upd.mk' ?_ rfl ?_ ?_ ?_ ?_

theorem upd_zeroSlot {s₀ s : State} (h : Upd s₀ s) (i : Nat) : Upd s₀ (State.zeroSlot s i) := by
  unfold State.zeroSlot
  repeat' first
    | with_reducible assumption
    | with_reducible exact fun w => w
    | with_reducible exact Nat.le_refl _
    | with_reducible exact Nat.le_add_right _ _
    | with_reducible apply upd_setKey
    | with_reducible apply upd_raise
    | intro _
    | with_reducible apply upd_ite
    | with_reducible apply upd_ite_fst
    | with_reducible apply upd_ite_snd
    | split
    | with_reducible refine Upd.mk' ?_ rfl ?_ ?_ ?_ ?_

theorem upd_abortTags {s₀ s : State} (h : Upd s₀ s) (l : List Nat) : Upd s₀ (State.abortTags s l) := by
  unfold State.abortTags
  repeat' first
    | with_reducible assumption
    | with_reducible refine upd_snd (by with_reducible assumption) ?_
    | with_reducible refine upd_fst (by with_reducible assumption) ?_
    | with_reducible exact fun w => w
    | with_reducible exact Nat.le_refl _
    | with_reducible exact Nat.le_add_right _ _
    | with_reducible apply upd_raise
    | with_reducible apply upd_foldl
    | with_reducible apply upd_foldl_fst
    | with_reducible apply upd_foldl_snd
    | intro _
    | (extract_lets +onlyGivenNames t; first
      | (refine Upd.cut (s := s₀) (t := t) ?_ ?_; subst t; rotate_left; intro _; clear_value t)
      | (refine Upd.cut (s := s₀) (t := t.2) ?_ ?_; subst t; rotate_left; intro _; clear_value t)
      | (refine Upd.cut (s := s₀) (t := t.1) ?_ ?_; subst t; rotate_left; intro _; clear_value t)
      | subst t)
    | with_reducible apply upd_ite
    | with_reducible apply upd_ite_fst
    | with_reducible apply upd_ite_snd
    | (with_reducible refine id (?_ : Upd _ _); dsimp -zeta only [])
    | split
    | with_reducible refine Upd.mk' ?_ rfl ?_ ?_ ?_ ?_

theorem upd_abortMbx {s₀ s : State} (h : Upd s₀ s) : Upd s₀ (State.abortMbx s) := by
  unfold State.abortMbx
  repeat' first
    | with_reducible assumption
    | with_reducible exact fun w => w
    | with_reducible exact Nat.le_refl _
    | with_reducible exact Nat.le_add_right _ _
    | with_reducible apply upd_put
    | with_reducible apply upd_raise
    | with_reducible refine upd_snd (by with_reducible assumption) ?_
    | with_reducible refine upd_fst (by with_reducible assumption) ?_
    | intro _
    | (extract_lets +onlyGivenNames t; first
      | (refine Upd.cut (s := s₀) (t := t) ?_ ?_; subst t; rotate_left; intro _; clear_value t)
      | (refine Upd.cut (s := s₀) (t := t.2) ?_ ?_; subst t; rotate_left; intro _; clear_value t)
      | (refine Upd.cut (s := s₀) (t := t.1) ?_ ?_; subst t; rotate_left; intro _; clear_value t)
      | subst t)
    | with_reducible apply upd_ite
    | with_reducible apply upd_ite_fst
    | with_reducible apply upd_ite_snd
    | (with_reducible refine id (?_ : Upd _ _); dsimp -zeta only [])
    | split
    | with_reducible refine Upd.mk' ?_ rfl ?_ ?_ ?_ ?_

theorem upd_zeroize {s₀ s : State} (h : Upd s₀ s) (l : List Nat) (cause : Nat)
    : Upd s₀ (State.zeroize s l cause) := by
  unfold State.zeroize
  repeat' first
    | with_reducible assumption
    | with_reducible exact fun w => w
    | with_reducible exact Nat.le_refl _
    | with_reducible exact Nat.le_add_right _ _
    | with_reducible apply upd_abortTags
    | with_reducible apply upd_abortMbx
    | with_reducible apply upd_zeroSlot
    | with_reducible apply upd_raise
    | with_reducible apply upd_foldl
    | intro _
    | (extract_lets +onlyGivenNames t; first
      | (refine Upd.cut (s := s₀) (t := t) ?_ ?_; subst t; rotate_left; intro _; clear_value t)
      | (refine Upd.cut (s := s₀) (t := t.2) ?_ ?_; subst t; rotate_left; intro _; clear_value t)
      | (refine Upd.cut (s := s₀) (t := t.1) ?_ ?_; subst t; rotate_left; intro _; clear_value t)
      | subst t)
    | with_reducible apply upd_ite
    | with_reducible apply upd_ite_fst
    | with_reducible apply upd_ite_snd
    | (with_reducible refine id (?_ : Upd _ _); dsimp -zeta only [])
    | split
    | with_reducible refine Upd.mk' ?_ rfl ?_ ?_ ?_ ?_

theorem upd_dbgLevel {s₀ s : State} (h : Upd s₀ s) (new : Nat) (zeroed : Bool) : Upd s₀ (State.dbgLevel s new zeroed) := by
  unfold State.dbgLevel
  repeat' first
    | with_reducible assumption
    | with_reducible exact fun w => w
    | with_reducible exact Nat.le_refl _
    | with_reducible exact Nat.le_add_right _ _
    | with_reducible apply upd_put
    | with_reducible apply upd_irq
    | with_reducible apply upd_raise
    | intro _
    | (extract_lets +onlyGivenNames t; first
      | (refine Upd.cut (s := s₀) (t := t) ?_ ?_; subst t; rotate_left; intro _; clear_value t)
      | (refine Upd.cut (s := s₀) (t := t.2) ?_ ?_; subst t; rotate_left; intro _; clear_value t)
      | (refine Upd.cut (s := s₀) (t := t.1) ?_ ?_; subst t; rotate_left; intro _; clear_value t)
      | subst t)
    | with_reducible apply upd_ite
    | with_reducible apply upd_ite_fst
    | with_reducible apply upd_ite_snd
    | split

theorem upd_dbgPower {s₀ s : State} (h : Upd s₀ s) : Upd s₀ (State.dbgPower s) := by
  unfold State.dbgPower
  repeat' first
    | with_reducible assumption
    | with_reducible exact fun w => w
    | with_reducible exact Nat.le_refl _
    | with_reducible exact Nat.le_add_right _ _
    | with_reducible apply upd_dbgLevel
    | intro _
    | with_reducible apply upd_ite
    | with_reducible apply upd_ite_fst
    | with_reducible apply upd_ite_snd
    | split

theorem upd_dbgNewChal {s₀ s : State} (h : Upd s₀ s) : Upd s₀ (State.dbgNewChal s) := by
  unfold State.dbgNewChal
  repeat' first
    | with_reducible assumption
    | with_reducible exact fun w => w
    | with_reducible exact Nat.le_refl _
    | with_reducible exact Nat.le_add_right _ _
    | with_reducible apply upd_fresh
    | with_reducible apply upd_wr
    | with_reducible apply upd_put
    | with_reducible apply upd_foldl
    | with_reducible apply upd_foldl_fst
    | with_reducible apply upd_foldl_snd
    | intro _
    | (extract_lets +onlyGivenNames t; first
      | (refine Upd.cut (s := s₀) (t := t) ?_ ?_; subst t; rotate_left; intro _; clear_value t)
      | (refine Upd.cut (s := s₀) (t := t.2) ?_ ?_; subst t; rotate_left; intro _; clear_value t)
      | (refine Upd.cut (s := s₀) (t := t.1) ?_ ?_; subst t; rotate_left; intro _; clear_value t)
      | subst t)
    | with_reducible apply upd_ite
    | with_reducible apply upd_ite_fst
    | with_reducible apply upd_ite_snd
    | (with_reducible refine id (?_ : Upd _ _); dsimp -zeta only [])
    | split
    | with_reducible refine Upd.mk' ?_ rfl ?_ ?_ ?_ ?_

theorem upd_dbgVoid {s₀ s : State} (h : Upd s₀ s) : Upd s₀ (State.dbgVoid s) := by
  unfold State.dbgVoid
  repeat' first
    | with_reducible assumption
    | with_reducible exact fun w => w
    | with_reducible exact Nat.le_refl _
    | with_reducible exact Nat.le_add_right _ _
    | with_reducible apply upd_put
    | intro _
    | split
    | with_reducible refine Upd.mk' ?_ rfl ?_ ?_ ?_ ?_

theorem upd_dbgRequest {s₀ s : State} (h : Upd s₀ s) (level : Nat) : Upd s₀ (State.dbgRequest s level) := by
  unfold State.dbgRequest
  repeat' first
    | with_reducible assumption
    | with_reducible exact fun w => w
    | with_reducible exact Nat.le_refl _
    | with_reducible exact Nat.le_add_right _ _
    | with_reducible apply upd_put
    | with_reducible apply upd_dbgVoid
    | with_reducible apply upd_zeroize
    | with_reducible apply upd_dbgLevel
    | with_reducible apply upd_raise
    | intro _
    | (extract_lets +onlyGivenNames t; first
      | (refine Upd.cut (s := s₀) (t := t) ?_ ?_; subst t; rotate_left; intro _; clear_value t)
      | (refine Upd.cut (s := s₀) (t := t.2) ?_ ?_; subst t; rotate_left; intro _; clear_value t)
      | (refine Upd.cut (s := s₀) (t := t.1) ?_ ?_; subst t; rotate_left; intro _; clear_value t)
      | subst t)
    | with_reducible apply upd_ite
    | with_reducible apply upd_ite_fst
    | with_reducible apply upd_ite_snd
    | (with_reducible refine id (?_ : Upd _ _); dsimp -zeta only [])
    | split
    | with_reducible refine Upd.mk' ?_ rfl ?_ ?_ ?_ ?_

theorem upd_dbgChalExpire {s₀ s : State} (h : Upd s₀ s) : Upd s₀ (State.dbgChalExpire s) := by
  unfold State.dbgChalExpire
  repeat' first
    | with_reducible assumption
    | with_reducible refine upd_snd (by with_reducible assumption) ?_
    | with_reducible refine upd_fst (by with_reducible assumption) ?_
    | with_reducible exact fun w => w
    | with_reducible exact Nat.le_refl _
    | with_reducible exact Nat.le_add_right _ _
    | with_reducible apply upd_dbgVoid
    | intro _
    | with_reducible apply upd_ite
    | with_reducible apply upd_ite_fst
    | with_reducible apply upd_ite_snd
    | split

theorem upd_dbgLockEnd {s₀ s : State} (h : Upd s₀ s) : Upd s₀ (State.dbgLockEnd s) := by
  unfold State.dbgLockEnd
  repeat' first
    | with_reducible assumption
    | with_reducible exact fun w => w
    | with_reducible exact Nat.le_refl _
    | with_reducible exact Nat.le_add_right _ _
    | with_reducible apply upd_put
    | with_reducible refine upd_snd (by with_reducible assumption) ?_
    | with_reducible refine upd_fst (by with_reducible assumption) ?_
    | intro _
    | (with_reducible refine id (?_ : Upd _ _); dsimp -zeta only [])
    | split
    | with_reducible refine Upd.mk' ?_ rfl ?_ ?_ ?_ ?_

theorem upd_lockKeys {s₀ s : State} (h : Upd s₀ s) (why : Nat) : Upd s₀ (State.lockKeys s why) := by
  unfold State.lockKeys
  repeat' first
    | with_reducible assumption
    | with_reducible exact fun w => w
    | with_reducible exact Nat.le_refl _
    | with_reducible exact Nat.le_add_right _ _
    | with_reducible apply upd_put
    | with_reducible apply upd_irq
    | with_reducible apply upd_raise
    | intro _
    | (extract_lets +onlyGivenNames t; first
      | (refine Upd.cut (s := s₀) (t := t) ?_ ?_; subst t; rotate_left; intro _; clear_value t)
      | (refine Upd.cut (s := s₀) (t := t.2) ?_ ?_; subst t; rotate_left; intro _; clear_value t)
      | (refine Upd.cut (s := s₀) (t := t.1) ?_ ?_; subst t; rotate_left; intro _; clear_value t)
      | subst t)
    | with_reducible apply upd_ite
    | with_reducible apply upd_ite_fst
    | with_reducible apply upd_ite_snd
    | split
    | with_reducible refine Upd.mk' ?_ rfl ?_ ?_ ?_ ?_

theorem upd_applyPolicy {s₀ s : State} (h : Upd s₀ s) (why : Nat) : Upd s₀ (State.applyPolicy s why) := by
  unfold State.applyPolicy
  repeat' first
    | with_reducible assumption
    | with_reducible exact fun w => w
    | with_reducible exact Nat.le_refl _
    | with_reducible exact Nat.le_add_right _ _
    | with_reducible apply upd_zeroize
    | with_reducible apply upd_lockKeys
    | intro _
    | (extract_lets +onlyGivenNames t; first
      | (refine Upd.cut (s := s₀) (t := t) ?_ ?_; subst t; rotate_left; intro _; clear_value t)
      | (refine Upd.cut (s := s₀) (t := t.2) ?_ ?_; subst t; rotate_left; intro _; clear_value t)
      | (refine Upd.cut (s := s₀) (t := t.1) ?_ ?_; subst t; rotate_left; intro _; clear_value t)
      | subst t)
    | with_reducible apply upd_ite
    | with_reducible apply upd_ite_fst
    | with_reducible apply upd_ite_snd
    | split

theorem upd_alarm {s₀ s : State} (h : Upd s₀ s) (src : Nat) : Upd s₀ (State.alarm s src) := by
  unfold State.alarm
  repeat' first
    | with_reducible assumption
    | with_reducible exact fun w => w
    | with_reducible exact Nat.le_refl _
    | with_reducible exact Nat.le_add_right _ _
    | with_reducible apply upd_dbgLevel
    | with_reducible apply upd_put
    | with_reducible apply upd_irq
    | with_reducible apply upd_raise
    | with_reducible apply upd_abortTags
    | with_reducible apply upd_abortMbx
    | with_reducible apply upd_applyPolicy
    | intro _
    | (extract_lets +onlyGivenNames t; first
      | (refine Upd.cut (s := s₀) (t := t) ?_ ?_; subst t; rotate_left; intro _; clear_value t)
      | (refine Upd.cut (s := s₀) (t := t.2) ?_ ?_; subst t; rotate_left; intro _; clear_value t)
      | (refine Upd.cut (s := s₀) (t := t.1) ?_ ?_; subst t; rotate_left; intro _; clear_value t)
      | subst t)
    | with_reducible apply upd_ite
    | with_reducible apply upd_ite_fst
    | with_reducible apply upd_ite_snd
    | (with_reducible refine id (?_ : Upd _ _); dsimp -zeta only [])
    | split
    | with_reducible refine Upd.mk' ?_ rfl ?_ ?_ ?_ ?_

theorem upd_tamper {s₀ s : State} (h : Upd s₀ s) (src : Nat) (active : Bool) (vioC : Bool) : Upd s₀ (State.tamper s src active vioC) := by
  unfold State.tamper
  repeat' first
    | with_reducible assumption
    | with_reducible exact fun w => w
    | with_reducible exact Nat.le_refl _
    | with_reducible exact Nat.le_add_right _ _
    | with_reducible apply upd_alarm
    | intro _
    | (extract_lets +onlyGivenNames t; first
      | (refine Upd.cut (s := s₀) (t := t) ?_ ?_; subst t; rotate_left; intro _; clear_value t)
      | (refine Upd.cut (s := s₀) (t := t.2) ?_ ?_; subst t; rotate_left; intro _; clear_value t)
      | (refine Upd.cut (s := s₀) (t := t.1) ?_ ?_; subst t; rotate_left; intro _; clear_value t)
      | subst t)
    | with_reducible apply upd_ite
    | with_reducible apply upd_ite_fst
    | with_reducible apply upd_ite_snd
    | split
    | with_reducible refine Upd.mk' ?_ rfl ?_ ?_ ?_ ?_

theorem upd_tampClear {s₀ s : State} (h : Upd s₀ s) (bits : Nat) (lock : Bool) : Upd s₀ ((State.tampClear s bits lock).2) := by
  unfold State.tampClear
  repeat' first
    | with_reducible assumption
    | with_reducible exact fun w => w
    | with_reducible exact Nat.le_refl _
    | with_reducible exact Nat.le_add_right _ _
    | with_reducible apply upd_put
    | with_reducible apply upd_raise
    | intro _
    | (extract_lets +onlyGivenNames t; first
      | (refine Upd.cut (s := s₀) (t := t) ?_ ?_; subst t; rotate_left; intro _; clear_value t)
      | (refine Upd.cut (s := s₀) (t := t.2) ?_ ?_; subst t; rotate_left; intro _; clear_value t)
      | (refine Upd.cut (s := s₀) (t := t.1) ?_ ?_; subst t; rotate_left; intro _; clear_value t)
      | subst t)
    | with_reducible apply upd_ite
    | with_reducible apply upd_ite_fst
    | with_reducible apply upd_ite_snd
    | split
    | with_reducible refine Upd.mk' ?_ rfl ?_ ?_ ?_ ?_

theorem upd_tampLatchClear {s₀ s : State} (h : Upd s₀ s) (v : Word) : Upd s₀ (State.tampLatchClear s v) := by
  unfold State.tampLatchClear
  repeat' first
    | with_reducible assumption
    | with_reducible exact fun w => w
    | with_reducible exact Nat.le_refl _
    | with_reducible exact Nat.le_add_right _ _
    | with_reducible apply upd_tampClear
    | intro _
    | (extract_lets +onlyGivenNames t; first
      | (refine Upd.cut (s := s₀) (t := t) ?_ ?_; subst t; rotate_left; intro _; clear_value t)
      | (refine Upd.cut (s := s₀) (t := t.2) ?_ ?_; subst t; rotate_left; intro _; clear_value t)
      | (refine Upd.cut (s := s₀) (t := t.1) ?_ ?_; subst t; rotate_left; intro _; clear_value t)
      | subst t)
    | with_reducible apply upd_ite
    | with_reducible apply upd_ite_fst
    | with_reducible apply upd_ite_snd
    | split

theorem upd_enterLc {s₀ s : State} (h : Upd s₀ s) (new : Nat) : Upd s₀ (s.enterLc new) := by
  unfold State.enterLc
  extract_lets +onlyGivenNames old
  split
  · exact h
  · rename_i hne
    extract_lets +onlyGivenNames t
    have ht : Upd s₀ t := by
      subst t; split
      · exact upd_zeroize h _ _
      · split
        · exact upd_zeroize h _ _
        · exact h
    clear_value t
    have hs : s.nv.keys.lc ≠ 4 := hne
    refine upd_raise ?_ _ _ _
    refine ⟨ht.pending, ht.free, ht.ns, ht.regs, fun w => ?_⟩
    exact absurd (h.lc w) hs

theorem upd_keyWrite {s₀ s : State} (h : Upd s₀ s) (o : KeyOp) : Upd s₀ (State.keyWrite s o) := by
  unfold State.keyWrite
  repeat' first
    | with_reducible assumption
    | with_reducible exact fun w => w
    | with_reducible exact Nat.le_refl _
    | with_reducible exact Nat.le_add_right _ _
    | with_reducible apply upd_setKey
    | with_reducible apply upd_deriveBuses
    | intro _
    | (extract_lets +onlyGivenNames t; first
      | (refine Upd.cut (s := s₀) (t := t) ?_ ?_; subst t; rotate_left; intro _; clear_value t)
      | (refine Upd.cut (s := s₀) (t := t.2) ?_ ?_; subst t; rotate_left; intro _; clear_value t)
      | (refine Upd.cut (s := s₀) (t := t.1) ?_ ?_; subst t; rotate_left; intro _; clear_value t)
      | subst t)
    | with_reducible apply upd_ite
    | with_reducible apply upd_ite_fst
    | with_reducible apply upd_ite_snd
    | (with_reducible refine id (?_ : Upd _ _); dsimp -zeta only [])
    | split
    | with_reducible refine Upd.mk' ?_ rfl ?_ ?_ ?_ ?_

theorem upd_keyOp {s₀ s : State} (h : Upd s₀ s) (o : KeyOp) : Upd s₀ (State.keyOp s o) := by
  unfold State.keyOp
  repeat' first
    | with_reducible assumption
    | with_reducible exact fun w => w
    | with_reducible exact Nat.le_refl _
    | with_reducible exact Nat.le_add_right _ _
    | with_reducible apply upd_revoke
    | with_reducible apply upd_zeroize
    | with_reducible apply upd_enterLc
    | with_reducible apply upd_put
    | with_reducible apply upd_tampClear
    | with_reducible apply upd_setKey
    | intro _
    | (extract_lets +onlyGivenNames t; first
      | (refine Upd.cut (s := s₀) (t := t) ?_ ?_; subst t; rotate_left; intro _; clear_value t)
      | (refine Upd.cut (s := s₀) (t := t.2) ?_ ?_; subst t; rotate_left; intro _; clear_value t)
      | (refine Upd.cut (s := s₀) (t := t.1) ?_ ?_; subst t; rotate_left; intro _; clear_value t)
      | subst t)
    | with_reducible apply upd_ite
    | with_reducible apply upd_ite_fst
    | with_reducible apply upd_ite_snd
    | split
    | with_reducible refine Upd.mk' ?_ rfl ?_ ?_ ?_ ?_

theorem upd_applyMsg {s₀ s : State} (h : Upd s₀ s) (m : KeyMsg) (ops : List KeyOp)
    : Upd s₀ (State.applyMsg s m ops) := by
  unfold State.applyMsg
  repeat' first
    | with_reducible assumption
    | with_reducible exact fun w => w
    | with_reducible exact Nat.le_refl _
    | with_reducible exact Nat.le_add_right _ _
    | with_reducible apply upd_keyOp
    | with_reducible apply upd_raise
    | with_reducible apply upd_put
    | with_reducible apply upd_foldl
    | intro _
    | (extract_lets +onlyGivenNames t; first
      | (refine Upd.cut (s := s₀) (t := t) ?_ ?_; subst t; rotate_left; intro _; clear_value t)
      | (refine Upd.cut (s := s₀) (t := t.2) ?_ ?_; subst t; rotate_left; intro _; clear_value t)
      | (refine Upd.cut (s := s₀) (t := t.1) ?_ ?_; subst t; rotate_left; intro _; clear_value t)
      | subst t)
    | with_reducible apply upd_ite
    | with_reducible apply upd_ite_fst
    | with_reducible apply upd_ite_snd
    | (with_reducible refine id (?_ : Upd _ _); dsimp -zeta only [])
    | split
    | with_reducible refine Upd.mk' ?_ rfl ?_ ?_ ?_ ?_

theorem upd_keyEdge {s₀ s : State} (h : Upd s₀ s) : Upd s₀ (State.keyEdge s) := by
  unfold State.keyEdge
  repeat' first
    | with_reducible assumption
    | with_reducible exact fun w => w
    | with_reducible exact Nat.le_refl _
    | with_reducible exact Nat.le_add_right _ _
    | with_reducible apply upd_keyWrite
    | with_reducible apply upd_put
    | with_reducible apply upd_raise
    | with_reducible refine upd_snd (by with_reducible assumption) ?_
    | with_reducible refine upd_fst (by with_reducible assumption) ?_
    | with_reducible apply upd_foldl
    | with_reducible apply upd_foldl_fst
    | with_reducible apply upd_foldl_snd
    | intro _
    | (extract_lets +onlyGivenNames t; first
      | (refine Upd.cut (s := s₀) (t := t) ?_ ?_; subst t; rotate_left; intro _; clear_value t)
      | (refine Upd.cut (s := s₀) (t := t.2) ?_ ?_; subst t; rotate_left; intro _; clear_value t)
      | (refine Upd.cut (s := s₀) (t := t.1) ?_ ?_; subst t; rotate_left; intro _; clear_value t)
      | subst t)
    | with_reducible apply upd_ite
    | with_reducible apply upd_ite_fst
    | with_reducible apply upd_ite_snd
    | (with_reducible refine id (?_ : Upd _ _); dsimp -zeta only [])
    | split
    | with_reducible refine Upd.mk' ?_ rfl ?_ ?_ ?_ ?_

theorem upd_setOut {s₀ s : State} (h : Upd s₀ s) (l : List Word) : Upd s₀ (State.setOut s l) := by
  unfold State.setOut
  repeat' first
    | with_reducible assumption
    | with_reducible exact fun w => w
    | with_reducible exact Nat.le_refl _
    | with_reducible exact Nat.le_add_right _ _
    | with_reducible apply upd_put
    | intro _
    | split
    | with_reducible refine Upd.mk' ?_ rfl ?_ ?_ ?_ ?_

theorem upd_mbxStart {s₀ s : State} (h : Upd s₀ s) (init : Nat) (cmd : Nat) (len : Nat) : Upd s₀ (State.mbxStart s init cmd len) := by
  unfold State.mbxStart
  repeat' first
    | with_reducible assumption
    | with_reducible exact fun w => w
    | with_reducible exact Nat.le_refl _
    | with_reducible exact Nat.le_add_right _ _
    | with_reducible apply upd_put
    | intro _
    | (extract_lets +onlyGivenNames t; first
      | (refine Upd.cut (s := s₀) (t := t) ?_ ?_; subst t; rotate_left; intro _; clear_value t)
      | (refine Upd.cut (s := s₀) (t := t.2) ?_ ?_; subst t; rotate_left; intro _; clear_value t)
      | (refine Upd.cut (s := s₀) (t := t.1) ?_ ?_; subst t; rotate_left; intro _; clear_value t)
      | subst t)
    | split
    | with_reducible refine Upd.mk' ?_ rfl ?_ ?_ ?_ ?_

theorem upd_mbxPush {s₀ s : State} (h : Upd s₀ s) (w : Word) : Upd s₀ ((State.mbxPush s w).2) := by
  unfold State.mbxPush
  repeat' first
    | with_reducible assumption
    | with_reducible exact fun w => w
    | with_reducible exact Nat.le_refl _
    | with_reducible exact Nat.le_add_right _ _
    | intro _
    | with_reducible apply upd_ite
    | with_reducible apply upd_ite_fst
    | with_reducible apply upd_ite_snd
    | split
    | with_reducible refine Upd.mk' ?_ rfl ?_ ?_ ?_ ?_

theorem upd_mbxPop {s₀ s : State} (h : Upd s₀ s) : Upd s₀ ((State.mbxPop s).2) := by
  unfold State.mbxPop
  repeat' first
    | with_reducible assumption
    | with_reducible refine upd_snd (by with_reducible assumption) ?_
    | with_reducible refine upd_fst (by with_reducible assumption) ?_
    | with_reducible exact fun w => w
    | with_reducible exact Nat.le_refl _
    | with_reducible exact Nat.le_add_right _ _
    | with_reducible apply upd_setOut
    | intro _
    | split

theorem upd_mbxResult {s₀ s : State} (h : Upd s₀ s) (code : Nat) (out : List Nat) : Upd s₀ (State.mbxResult s code out) := by
  unfold State.mbxResult
  repeat' first
    | with_reducible assumption
    | with_reducible exact fun w => w
    | with_reducible exact Nat.le_refl _
    | with_reducible exact Nat.le_add_right _ _
    | with_reducible apply upd_setOut
    | intro _
    | (extract_lets +onlyGivenNames t; first
      | (refine Upd.cut (s := s₀) (t := t) ?_ ?_; subst t; rotate_left; intro _; clear_value t)
      | (refine Upd.cut (s := s₀) (t := t.2) ?_ ?_; subst t; rotate_left; intro _; clear_value t)
      | (refine Upd.cut (s := s₀) (t := t.1) ?_ ?_; subst t; rotate_left; intro _; clear_value t)
      | subst t)
    | with_reducible apply upd_ite
    | with_reducible apply upd_ite_fst
    | with_reducible apply upd_ite_snd
    | split
    | with_reducible refine Upd.mk' ?_ rfl ?_ ?_ ?_ ?_

theorem upd_mbxDone {s₀ s : State} (h : Upd s₀ s) : Upd s₀ (State.mbxDone s) := by
  unfold State.mbxDone
  repeat' first
    | with_reducible assumption
    | with_reducible refine upd_snd (by with_reducible assumption) ?_
    | with_reducible refine upd_fst (by with_reducible assumption) ?_
    | with_reducible exact fun w => w
    | with_reducible exact Nat.le_refl _
    | with_reducible exact Nat.le_add_right _ _
    | with_reducible apply upd_put
    | with_reducible apply upd_irq
    | intro _
    | (extract_lets +onlyGivenNames t; first
      | (refine Upd.cut (s := s₀) (t := t) ?_ ?_; subst t; rotate_left; intro _; clear_value t)
      | (refine Upd.cut (s := s₀) (t := t.2) ?_ ?_; subst t; rotate_left; intro _; clear_value t)
      | (refine Upd.cut (s := s₀) (t := t.1) ?_ ?_; subst t; rotate_left; intro _; clear_value t)
      | subst t)
    | split
    | with_reducible refine Upd.mk' ?_ rfl ?_ ?_ ?_ ?_

theorem upd_mbxKeyUpdate {s₀ s : State} (h : Upd s₀ s) : Upd s₀ (State.mbxKeyUpdate s) := by
  unfold State.mbxKeyUpdate
  repeat' first
    | with_reducible assumption
    | with_reducible refine upd_snd (by with_reducible assumption) ?_
    | with_reducible refine upd_fst (by with_reducible assumption) ?_
    | with_reducible exact fun w => w
    | with_reducible exact Nat.le_refl _
    | with_reducible exact Nat.le_add_right _ _
    | with_reducible apply upd_mbxResult
    | with_reducible apply upd_raise
    | with_reducible apply upd_applyMsg
    | intro _
    | (extract_lets +onlyGivenNames t; first
      | (refine Upd.cut (s := s₀) (t := t) ?_ ?_; subst t; rotate_left; intro _; clear_value t)
      | (refine Upd.cut (s := s₀) (t := t.2) ?_ ?_; subst t; rotate_left; intro _; clear_value t)
      | (refine Upd.cut (s := s₀) (t := t.1) ?_ ?_; subst t; rotate_left; intro _; clear_value t)
      | subst t)
    | with_reducible apply upd_ite
    | with_reducible apply upd_ite_fst
    | with_reducible apply upd_ite_snd
    | split
    | with_reducible refine Upd.mk' ?_ rfl ?_ ?_ ?_ ?_

theorem upd_mbxSlotOp {s₀ s : State} (h : Upd s₀ s) (cmd slot use : Nat) (f : KeySlot → Option (List Nat))
    : Upd s₀ (State.mbxSlotOp s cmd slot use f) := by
  unfold State.mbxSlotOp
  repeat' first
    | with_reducible assumption
    | with_reducible exact fun w => w
    | with_reducible exact Nat.le_refl _
    | with_reducible exact Nat.le_add_right _ _
    | with_reducible apply upd_mbxResult
    | with_reducible refine upd_snd (by with_reducible assumption) ?_
    | with_reducible refine upd_fst (by with_reducible assumption) ?_
    | intro _
    | (with_reducible refine id (?_ : Upd _ _); dsimp -zeta only [])
    | split

theorem upd_mbxSign {s₀ s : State} (h : Upd s₀ s) (slot : Nat) (msg : List Nat)
    : Upd s₀ (State.mbxSign s slot msg) := by
  unfold State.mbxSign
  repeat' first
    | with_reducible assumption
    | with_reducible exact fun w => w
    | with_reducible exact Nat.le_refl _
    | with_reducible exact Nat.le_add_right _ _
    | with_reducible apply upd_fresh
    | with_reducible apply upd_mbxSlotOp
    | with_reducible refine upd_snd (by with_reducible assumption) ?_
    | with_reducible refine upd_fst (by with_reducible assumption) ?_
    | intro _
    | (extract_lets +onlyGivenNames t; first
      | (refine Upd.cut (s := s₀) (t := t) ?_ ?_; subst t; rotate_left; intro _; clear_value t)
      | (refine Upd.cut (s := s₀) (t := t.2) ?_ ?_; subst t; rotate_left; intro _; clear_value t)
      | (refine Upd.cut (s := s₀) (t := t.1) ?_ ?_; subst t; rotate_left; intro _; clear_value t)
      | subst t)
    | with_reducible apply upd_ite
    | with_reducible apply upd_ite_fst
    | with_reducible apply upd_ite_snd
    | split

theorem upd_mbxPubkey {s₀ s : State} (h : Upd s₀ s) (slot : Nat) : Upd s₀ (State.mbxPubkey s slot) := by
  unfold State.mbxPubkey
  repeat' first
    | with_reducible assumption
    | with_reducible exact fun w => w
    | with_reducible exact Nat.le_refl _
    | with_reducible exact Nat.le_add_right _ _
    | with_reducible apply upd_mbxResult
    | intro _
    | split

theorem upd_drawN {s₀ s : State} (h : Upd s₀ s) (n : Nat) : Upd s₀ (State.drawN n s).2 := by
  induction n generalizing s with
  | zero => exact h
  | succ n ih => exact ih (upd_fresh h)

theorem upd_mbxRandom {s₀ s : State} (h : Upd s₀ s) (n : Nat) : Upd s₀ (s.mbxRandom n) := by
  unfold State.mbxRandom
  split
  · exact h
  · exact upd_mbxResult (upd_drawN h _) _ _

theorem upd_mbxGenerate {s₀ s : State} (h : Upd s₀ s) (slot : Nat) : Upd s₀ (State.mbxGenerate s slot) := by
  unfold State.mbxGenerate
  repeat' first
    | with_reducible assumption
    | with_reducible exact fun w => w
    | with_reducible exact Nat.le_refl _
    | with_reducible exact Nat.le_add_right _ _
    | with_reducible apply upd_mbxResult
    | with_reducible apply upd_fresh
    | with_reducible apply upd_setKey
    | with_reducible refine upd_snd (by with_reducible assumption) ?_
    | with_reducible refine upd_fst (by with_reducible assumption) ?_
    | intro _
    | (extract_lets +onlyGivenNames t; first
      | (refine Upd.cut (s := s₀) (t := t) ?_ ?_; subst t; rotate_left; intro _; clear_value t)
      | (refine Upd.cut (s := s₀) (t := t.2) ?_ ?_; subst t; rotate_left; intro _; clear_value t)
      | (refine Upd.cut (s := s₀) (t := t.1) ?_ ?_; subst t; rotate_left; intro _; clear_value t)
      | subst t)
    | with_reducible apply upd_ite
    | with_reducible apply upd_ite_fst
    | with_reducible apply upd_ite_snd
    | (with_reducible refine id (?_ : Upd _ _); dsimp -zeta only [])
    | split
    | with_reducible refine Upd.mk' ?_ rfl ?_ ?_ ?_ ?_

theorem upd_groundFlush {s₀ s : State} (h : Upd s₀ s) : Upd s₀ (State.groundFlush s) := by
  unfold State.groundFlush
  repeat' first
    | with_reducible assumption
    | with_reducible refine upd_snd (by with_reducible assumption) ?_
    | with_reducible refine upd_fst (by with_reducible assumption) ?_
    | with_reducible exact fun w => w
    | with_reducible exact Nat.le_refl _
    | with_reducible exact Nat.le_add_right _ _
    | with_reducible apply upd_setOut
    | with_reducible apply upd_put
    | intro _
    | (extract_lets +onlyGivenNames t; first
      | (refine Upd.cut (s := s₀) (t := t) ?_ ?_; subst t; rotate_left; intro _; clear_value t)
      | (refine Upd.cut (s := s₀) (t := t.2) ?_ ?_; subst t; rotate_left; intro _; clear_value t)
      | (refine Upd.cut (s := s₀) (t := t.1) ?_ ?_; subst t; rotate_left; intro _; clear_value t)
      | subst t)
    | split
    | with_reducible refine Upd.mk' ?_ rfl ?_ ?_ ?_ ?_

theorem upd_portRequest {s₀ s : State} (h : Upd s₀ s) (port : Nat) (data extra : List Nat)
    : Upd s₀ (State.portRequest s port data extra) := by
  unfold State.portRequest
  repeat' first
    | with_reducible assumption
    | with_reducible exact fun w => w
    | with_reducible exact Nat.le_refl _
    | with_reducible exact Nat.le_add_right _ _
    | with_reducible apply upd_countTag
    | with_reducible refine upd_snd (by with_reducible assumption) ?_
    | with_reducible refine upd_fst (by with_reducible assumption) ?_
    | intro _
    | (extract_lets +onlyGivenNames t; first
      | (refine Upd.cut (s := s₀) (t := t) ?_ ?_; subst t; rotate_left; intro _; clear_value t)
      | (refine Upd.cut (s := s₀) (t := t.2) ?_ ?_; subst t; rotate_left; intro _; clear_value t)
      | (refine Upd.cut (s := s₀) (t := t.1) ?_ ?_; subst t; rotate_left; intro _; clear_value t)
      | subst t)
    | with_reducible apply upd_ite
    | with_reducible apply upd_ite_fst
    | with_reducible apply upd_ite_snd
    | (with_reducible refine id (?_ : Upd _ _); dsimp -zeta only [])
    | split
    | with_reducible refine Upd.mk' ?_ rfl ?_ ?_ ?_ ?_

theorem upd_groundStart {s₀ s : State} (h : Upd s₀ s) : Upd s₀ s.groundStart := by
  unfold State.groundStart
  extract_lets +onlyGivenNames c n1 n2 n3 w t n4 g u on z
  have hw : Upd s₀ w := ⟨h.pending, h.free, h.ns, h.regs, h.lc⟩
  have ht : Upd s₀ t := upd_put (upd_put hw _ _) _ _
  have hg : Upd s₀ g := by
    refine upd_put ?_ _ _
    exact ⟨ht.pending, ht.free, ht.ns, ht.regs, ht.lc⟩
  have hu : Upd s₀ u := upd_put hg _ _
  have hz : Upd s₀ z := by
    subst z; repeat' split
    all_goals first
      | with_reducible exact hu
      | with_reducible exact upd_applyPolicy (upd_raise hu _ _ _) _
      | with_reducible exact upd_lockKeys hu _
  split
  · with_reducible exact upd_deriveBuses hz _
  · exact hz

end Sys2Proof.Machine
end

