-- ==== Sys2Proof/Laws/UpdIu.lean ====
section
/-! SUPPORT. The operations of Machine/Iu.lean as updates. -/

namespace Sys2Proof.Machine

theorem upd_setStack {s₀ s : State} (h : Upd s₀ s) (c : Nat) (l : List (Nat × Nat)) : Upd s₀ (State.setStack s c l) := by
  unfold State.setStack
  repeat' first
    | with_reducible assumption
    | with_reducible exact fun w => w
    | with_reducible exact Nat.le_refl _
    | with_reducible exact Nat.le_add_right _ _
    | intro _
    | (with_reducible refine id (?_ : Upd _ _); dsimp -zeta only [])
    | split
    | with_reducible refine Upd.mk' ?_ rfl ?_ ?_ ?_ ?_

theorem upd_iuJump {s₀ s : State} (h : Upd s₀ s) (c : Nat) (o : Nat) : Upd s₀ (State.iuJump s c o) := by
  unfold State.iuJump
  repeat' first
    | with_reducible assumption
    | with_reducible exact fun w => w
    | with_reducible exact Nat.le_refl _
    | with_reducible exact Nat.le_add_right _ _
    | intro _
    | (with_reducible refine id (?_ : Upd _ _); dsimp -zeta only [])
    | split
    | with_reducible refine Upd.mk' ?_ rfl ?_ ?_ ?_ ?_

theorem upd_iuDeliver {s₀ s : State} (h : Upd s₀ s) (c : Nat) (i : Nat) : Upd s₀ (State.iuDeliver s c i) := by
  unfold State.iuDeliver
  repeat' first
    | with_reducible assumption
    | with_reducible exact fun w => w
    | with_reducible exact Nat.le_refl _
    | with_reducible exact Nat.le_add_right _ _
    | with_reducible apply upd_setStack
    | with_reducible apply upd_iuJump
    | intro _
    | split

theorem upd_iuDelivery {s₀ s : State} (h : Upd s₀ s) (c : Nat) : Upd s₀ (State.iuDelivery s c) := by
  unfold State.iuDelivery
  repeat' first
    | with_reducible assumption
    | with_reducible refine upd_snd (by with_reducible assumption) ?_
    | with_reducible refine upd_fst (by with_reducible assumption) ?_
    | with_reducible exact fun w => w
    | with_reducible exact Nat.le_refl _
    | with_reducible exact Nat.le_add_right _ _
    | with_reducible apply upd_setEntry
    | with_reducible apply upd_iuDeliver
    | with_reducible apply upd_iuLook
    | intro _
    | (extract_lets +onlyGivenNames t; first
      | (refine Upd.cut (s := s₀) (t := t) ?_ ?_; subst t; rotate_left; intro _; clear_value t)
      | (refine Upd.cut (s := s₀) (t := t.2) ?_ ?_; subst t; rotate_left; intro _; clear_value t)
      | (refine Upd.cut (s := s₀) (t := t.1) ?_ ?_; subst t; rotate_left; intro _; clear_value t)
      | subst t)
    | split

theorem upd_iuFault {s₀ s : State} (h : Upd s₀ s) (c : Nat) (src : Nat) : Upd s₀ (State.iuFault s c src) := by
  unfold State.iuFault
  repeat' first
    | with_reducible assumption
    | with_reducible refine upd_snd (by with_reducible assumption) ?_
    | with_reducible refine upd_fst (by with_reducible assumption) ?_
    | with_reducible exact fun w => w
    | with_reducible exact Nat.le_refl _
    | with_reducible exact Nat.le_add_right _ _
    | with_reducible apply upd_put
    | with_reducible apply upd_setStack
    | with_reducible apply upd_iuJump
    | with_reducible apply upd_irq
    | with_reducible apply upd_raise
    | with_reducible apply upd_coalSettle
    | with_reducible apply upd_iuLookAll
    | intro _
    | (extract_lets +onlyGivenNames t; first
      | (refine Upd.cut (s := s₀) (t := t) ?_ ?_; subst t; rotate_left; intro _; clear_value t)
      | (refine Upd.cut (s := s₀) (t := t.2) ?_ ?_; subst t; rotate_left; intro _; clear_value t)
      | (refine Upd.cut (s := s₀) (t := t.1) ?_ ?_; subst t; rotate_left; intro _; clear_value t)
      | subst t)
    | with_reducible apply upd_ite
    | with_reducible apply upd_ite_fst
    | with_reducible apply upd_ite_snd
    | split

theorem upd_iuEoi {s₀ s : State} (h : Upd s₀ s) (c : Nat) (src : Nat) : Upd s₀ (State.iuEoi s c src) := by
  unfold State.iuEoi
  repeat' first
    | with_reducible assumption
    | with_reducible refine upd_snd (by with_reducible assumption) ?_
    | with_reducible refine upd_fst (by with_reducible assumption) ?_
    | with_reducible exact fun w => w
    | with_reducible exact Nat.le_refl _
    | with_reducible exact Nat.le_add_right _ _
    | with_reducible apply upd_iuFault
    | with_reducible apply upd_setStack
    | with_reducible apply upd_coalSettle
    | with_reducible apply upd_iuLook
    | intro _
    | with_reducible apply upd_ite
    | with_reducible apply upd_ite_fst
    | with_reducible apply upd_ite_snd
    | split

theorem upd_iuDoorbell {s₀ s : State} (h : Upd s₀ s) (m : Word) : Upd s₀ (State.iuDoorbell s m) := by
  unfold State.iuDoorbell
  repeat' first
    | with_reducible assumption
    | with_reducible exact fun w => w
    | with_reducible exact Nat.le_refl _
    | with_reducible exact Nat.le_add_right _ _
    | with_reducible apply upd_withReq
    | with_reducible apply upd_put
    | with_reducible apply upd_foldl
    | with_reducible apply upd_foldl_fst
    | with_reducible apply upd_foldl_snd
    | intro _
    | with_reducible apply upd_ite
    | with_reducible apply upd_ite_fst
    | with_reducible apply upd_ite_snd
    | (with_reducible refine id (?_ : Upd _ _); dsimp -zeta only [])
    | split
    | with_reducible refine Upd.mk' ?_ rfl ?_ ?_ ?_ ?_

theorem upd_iuChanged {s₀ s : State} (h : Upd s₀ s) : Upd s₀ (State.iuChanged s) := by
  unfold State.iuChanged
  repeat' first
    | with_reducible assumption
    | with_reducible exact fun w => w
    | with_reducible exact Nat.le_refl _
    | with_reducible exact Nat.le_add_right _ _
    | with_reducible apply upd_coalSettle
    | with_reducible apply upd_iuLookAll
    | intro _
    | split

theorem upd_coalTimer {s₀ s : State} (h : Upd s₀ s) (g : Nat) : Upd s₀ (State.coalTimer s g) := by
  unfold State.coalTimer
  repeat' first
    | with_reducible assumption
    | with_reducible exact fun w => w
    | with_reducible exact Nat.le_refl _
    | with_reducible exact Nat.le_add_right _ _
    | with_reducible apply upd_setCoal
    | with_reducible apply upd_coalSettle
    | with_reducible apply upd_iuLookAll
    | intro _
    | (extract_lets +onlyGivenNames t; first
      | (refine Upd.cut (s := s₀) (t := t) ?_ ?_; subst t; rotate_left; intro _; clear_value t)
      | (refine Upd.cut (s := s₀) (t := t.2) ?_ ?_; subst t; rotate_left; intro _; clear_value t)
      | (refine Upd.cut (s := s₀) (t := t.1) ?_ ?_; subst t; rotate_left; intro _; clear_value t)
      | subst t)
    | with_reducible apply upd_ite
    | with_reducible apply upd_ite_fst
    | with_reducible apply upd_ite_snd
    | split
    | with_reducible refine Upd.mk' ?_ rfl ?_ ?_ ?_ ?_

theorem upd_iuSoftReset {s₀ s : State} (h : Upd s₀ s) : Upd s₀ (State.iuSoftReset s) := by
  unfold State.iuSoftReset
  repeat' first
    | with_reducible assumption
    | with_reducible exact fun w => w
    | with_reducible exact Nat.le_refl _
    | with_reducible exact Nat.le_add_right _ _
    | with_reducible apply upd_wr
    | intro _
    | split
    | with_reducible refine Upd.mk' ?_ rfl ?_ ?_ ?_ ?_

theorem upd_iucSoftReset {s₀ s : State} (h : Upd s₀ s) (c : Nat) : Upd s₀ (State.iucSoftReset s c) := by
  unfold State.iucSoftReset
  repeat' first
    | with_reducible assumption
    | with_reducible exact fun w => w
    | with_reducible exact Nat.le_refl _
    | with_reducible exact Nat.le_add_right _ _
    | with_reducible apply upd_setStack
    | with_reducible apply upd_setEntry
    | with_reducible apply upd_wr
    | with_reducible apply upd_iuChanged
    | intro _
    | split

end Sys2Proof.Machine
end

