-- ==== Sys2Proof/Laws/UpdBlock.lean ====
section
/-! SUPPORT. The operations of Machine/Block.lean as updates. -/

namespace Sys2Proof.Machine

theorem upd_resetRegs {s₀ s : State} (h : Upd s₀ s) (l : List Nat) : Upd s₀ (State.resetRegs s l) := by
  unfold State.resetRegs
  repeat' first
    | with_reducible assumption
    | with_reducible exact fun w => w
    | with_reducible exact Nat.le_refl _
    | with_reducible exact Nat.le_add_right _ _
    | with_reducible apply upd_wr
    | with_reducible apply upd_foldl
    | with_reducible apply upd_foldl_fst
    | with_reducible apply upd_foldl_snd
    | intro _
    | (with_reducible refine id (?_ : Upd _ _); dsimp -zeta only [])
    | split

theorem upd_resetBanks {s₀ s : State} (h : Upd s₀ s) (n : Nat) (l : List Nat) : Upd s₀ (State.resetBanks s n l) := by
  unfold State.resetBanks
  repeat' first
    | with_reducible assumption
    | with_reducible exact fun w => w
    | with_reducible exact Nat.le_refl _
    | with_reducible exact Nat.le_add_right _ _
    | with_reducible apply upd_resetRegs
    | with_reducible apply upd_foldl
    | with_reducible apply upd_foldl_fst
    | with_reducible apply upd_foldl_snd
    | intro _
    | (with_reducible refine id (?_ : Upd _ _); dsimp -zeta only [])
    | split

theorem upd_blockStart {s₀ s : State} (h : Upd s₀ s) (p : Nat) : Upd s₀ (State.blockStart s p) := by
  unfold State.blockStart
  repeat' first
    | with_reducible assumption
    | with_reducible exact fun w => w
    | with_reducible exact Nat.le_refl _
    | with_reducible exact Nat.le_add_right _ _
    | with_reducible apply upd_put
    | with_reducible apply upd_iuChanged
    | with_reducible apply upd_fbEnable
    | intro _
    | (extract_lets +onlyGivenNames t; first
      | (refine Upd.cut (s := s₀) (t := t) ?_ ?_; subst t; rotate_left; intro _; clear_value t)
      | (refine Upd.cut (s := s₀) (t := t.2) ?_ ?_; subst t; rotate_left; intro _; clear_value t)
      | (refine Upd.cut (s := s₀) (t := t.1) ?_ ?_; subst t; rotate_left; intro _; clear_value t)
      | subst t)
    | with_reducible apply upd_ite
    | with_reducible apply upd_ite_fst
    | with_reducible apply upd_ite_snd
    | split

theorem upd_blockStop {s₀ s : State} (h : Upd s₀ s) (p : Nat) : Upd s₀ (State.blockStop s p) := by
  unfold State.blockStop
  repeat' first
    | with_reducible assumption
    | with_reducible exact fun w => w
    | with_reducible exact Nat.le_refl _
    | with_reducible exact Nat.le_add_right _ _
    | with_reducible apply upd_put
    | with_reducible apply upd_portDisable
    | with_reducible apply upd_byellOff
    | with_reducible apply upd_pcieLink
    | intro _
    | (extract_lets +onlyGivenNames t; first
      | (refine Upd.cut (s := s₀) (t := t) ?_ ?_; subst t; rotate_left; intro _; clear_value t)
      | (refine Upd.cut (s := s₀) (t := t.2) ?_ ?_; subst t; rotate_left; intro _; clear_value t)
      | (refine Upd.cut (s := s₀) (t := t.1) ?_ ?_; subst t; rotate_left; intro _; clear_value t)
      | subst t)
    | with_reducible apply upd_ite
    | with_reducible apply upd_ite_fst
    | with_reducible apply upd_ite_snd
    | split

theorem upd_blockStopped {s₀ s : State} (h : Upd s₀ s) (p : Nat) : Upd s₀ (State.blockStopped s p) := by
  unfold State.blockStopped
  repeat' first
    | with_reducible assumption
    | with_reducible exact fun w => w
    | with_reducible exact Nat.le_refl _
    | with_reducible exact Nat.le_add_right _ _
    | with_reducible apply upd_fbStop
    | with_reducible apply upd_put
    | intro _
    | split

theorem upd_metSoftReset {s₀ s : State} (h : Upd s₀ s) (n : Nat) : Upd s₀ (State.metSoftReset s n) := by
  unfold State.metSoftReset
  repeat' first
    | with_reducible assumption
    | with_reducible exact fun w => w
    | with_reducible exact Nat.le_refl _
    | with_reducible exact Nat.le_add_right _ _
    | with_reducible apply upd_resetRegs
    | with_reducible apply upd_put
    | with_reducible apply upd_setMet
    | with_reducible apply upd_foldl
    | with_reducible apply upd_foldl_fst
    | with_reducible apply upd_foldl_snd
    | intro _
    | (extract_lets +onlyGivenNames t; first
      | (refine Upd.cut (s := s₀) (t := t) ?_ ?_; subst t; rotate_left; intro _; clear_value t)
      | (refine Upd.cut (s := s₀) (t := t.2) ?_ ?_; subst t; rotate_left; intro _; clear_value t)
      | (refine Upd.cut (s := s₀) (t := t.1) ?_ ?_; subst t; rotate_left; intro _; clear_value t)
      | subst t)
    | (with_reducible refine id (?_ : Upd _ _); dsimp -zeta only [])
    | split
    | with_reducible refine Upd.mk' ?_ rfl ?_ ?_ ?_ ?_

theorem upd_softReset {s₀ s : State} (h : Upd s₀ s) (p : Nat) : Upd s₀ (State.softReset s p) := by
  unfold State.softReset
  repeat' first
    | with_reducible assumption
    | with_reducible exact fun w => w
    | with_reducible exact Nat.le_refl _
    | with_reducible exact Nat.le_add_right _ _
    | with_reducible apply upd_resetRegs
    | with_reducible apply upd_modTick
    | with_reducible apply upd_hatchFlush
    | with_reducible apply upd_hatchZero
    | with_reducible apply upd_graphClear
    | with_reducible apply upd_put
    | with_reducible apply upd_fbSoftReset
    | with_reducible apply upd_metSoftReset
    | with_reducible apply upd_traceSoftReset
    | with_reducible apply upd_calLoad
    | with_reducible apply upd_rtcCancel
    | with_reducible apply upd_swSoftReset
    | with_reducible apply upd_portSoftReset
    | with_reducible apply upd_iuSoftReset
    | with_reducible apply upd_iuChanged
    | with_reducible apply upd_iucSoftReset
    | with_reducible apply upd_qmSoftReset
    | with_reducible apply upd_qmqSoftReset
    | with_reducible apply upd_pcieClear
    | with_reducible apply upd_resetBanks
    | with_reducible apply upd_pairSoftReset
    | with_reducible apply upd_byellSoftReset
    | with_reducible apply upd_witSoftReset
    | with_reducible apply upd_groundFlush
    | with_reducible apply upd_recSoftReset
    | with_reducible apply upd_diEffect
    | with_reducible apply upd_dbgVoid
    | with_reducible refine upd_snd (by with_reducible assumption) ?_
    | with_reducible refine upd_fst (by with_reducible assumption) ?_
    | with_reducible apply upd_foldl
    | with_reducible apply upd_foldl_fst
    | with_reducible apply upd_foldl_snd
    | intro _
    | (extract_lets +onlyGivenNames t; first
      | (refine Upd.cut (s := s₀) (t := t) ?_ ?_; subst t; rotate_left; intro _; clear_value t)
      | (refine Upd.cut (s := s₀) (t := t.2) ?_ ?_; subst t; rotate_left; intro _; clear_value t)
      | (refine Upd.cut (s := s₀) (t := t.1) ?_ ?_; subst t; rotate_left; intro _; clear_value t)
      | subst t)
    | with_reducible apply upd_ite
    | with_reducible apply upd_ite_fst
    | with_reducible apply upd_ite_snd
    | (with_reducible refine id (?_ : Upd _ _); dsimp -zeta only [])
    | split
    | with_reducible refine Upd.mk' ?_ rfl ?_ ?_ ?_ ?_

theorem upd_blockReset {s₀ s : State} (h : Upd s₀ s) (p : Nat) : Upd s₀ (State.blockReset s p) := by
  unfold State.blockReset
  repeat' first
    | with_reducible assumption
    | with_reducible exact fun w => w
    | with_reducible exact Nat.le_refl _
    | with_reducible exact Nat.le_add_right _ _
    | with_reducible apply upd_softReset
    | with_reducible apply upd_put
    | with_reducible apply upd_wr
    | with_reducible apply upd_qAbortPage
    | with_reducible apply upd_iuChanged
    | intro _
    | (extract_lets +onlyGivenNames t; first
      | (refine Upd.cut (s := s₀) (t := t) ?_ ?_; subst t; rotate_left; intro _; clear_value t)
      | (refine Upd.cut (s := s₀) (t := t.2) ?_ ?_; subst t; rotate_left; intro _; clear_value t)
      | (refine Upd.cut (s := s₀) (t := t.1) ?_ ?_; subst t; rotate_left; intro _; clear_value t)
      | subst t)
    | with_reducible apply upd_ite
    | with_reducible apply upd_ite_fst
    | with_reducible apply upd_ite_snd
    | (with_reducible refine id (?_ : Upd _ _); dsimp -zeta only [])
    | split
    | with_reducible refine Upd.mk' ?_ rfl ?_ ?_ ?_ ?_

theorem upd_blockFlush {s₀ s : State} (h : Upd s₀ s) (p : Nat) : Upd s₀ (State.blockFlush s p) := by
  unfold State.blockFlush
  repeat' first
    | with_reducible assumption
    | with_reducible refine upd_snd (by with_reducible assumption) ?_
    | with_reducible refine upd_fst (by with_reducible assumption) ?_
    | with_reducible exact fun w => w
    | with_reducible exact Nat.le_refl _
    | with_reducible exact Nat.le_add_right _ _
    | with_reducible apply upd_hatchFlush
    | with_reducible apply upd_fbFlush
    | with_reducible apply upd_qFlushAll
    | with_reducible apply upd_groundFlush
    | with_reducible apply upd_recFlush
    | with_reducible apply upd_put
    | intro _
    | (extract_lets +onlyGivenNames t; first
      | (refine Upd.cut (s := s₀) (t := t) ?_ ?_; subst t; rotate_left; intro _; clear_value t)
      | (refine Upd.cut (s := s₀) (t := t.2) ?_ ?_; subst t; rotate_left; intro _; clear_value t)
      | (refine Upd.cut (s := s₀) (t := t.1) ?_ ?_; subst t; rotate_left; intro _; clear_value t)
      | subst t)
    | with_reducible apply upd_ite
    | with_reducible apply upd_ite_fst
    | with_reducible apply upd_ite_snd
    | split

theorem upd_blockWatchdog {s₀ s : State} (h : Upd s₀ s) (p : Nat) : Upd s₀ (State.blockWatchdog s p) := by
  unfold State.blockWatchdog
  repeat' first
    | with_reducible assumption
    | with_reducible exact fun w => w
    | with_reducible exact Nat.le_refl _
    | with_reducible exact Nat.le_add_right _ _
    | with_reducible apply upd_hatchStop
    | with_reducible apply upd_blockReset
    | with_reducible apply upd_put
    | with_reducible apply upd_irq
    | intro _
    | (extract_lets +onlyGivenNames t; first
      | (refine Upd.cut (s := s₀) (t := t) ?_ ?_; subst t; rotate_left; intro _; clear_value t)
      | (refine Upd.cut (s := s₀) (t := t.2) ?_ ?_; subst t; rotate_left; intro _; clear_value t)
      | (refine Upd.cut (s := s₀) (t := t.1) ?_ ?_; subst t; rotate_left; intro _; clear_value t)
      | subst t)
    | with_reducible apply upd_ite
    | with_reducible apply upd_ite_fst
    | with_reducible apply upd_ite_snd
    | split
    | with_reducible refine Upd.mk' ?_ rfl ?_ ?_ ?_ ?_

end Sys2Proof.Machine
end

