-- ==== Sys2Proof/Laws/UpdPower.lean ====
section
/-! SUPPORT. The operations of Machine/Power.lean as updates. -/

namespace Sys2Proof.Machine

theorem upd_modPwr {s₀ s : State} (h : Upd s₀ s) (f : PwrSt → PwrSt) : Upd s₀ (State.modPwr s f) := by
  unfold State.modPwr
  repeat' first
    | with_reducible assumption
    | with_reducible exact fun w => w
    | with_reducible exact Nat.le_refl _
    | with_reducible exact Nat.le_add_right _ _
    | intro _
    | split
    | with_reducible refine Upd.mk' ?_ rfl ?_ ?_ ?_ ?_

theorem upd_rt {s₀ s t : State} (h : Upd s₀ s) (k : Upd s₀ t) : Upd s₀ (s.rt t) := by
  unfold State.rt; split <;> assumption

theorem upd_nw {s₀ s t : State} (h : Upd s₀ s) (k : Upd s₀ t) : Upd s₀ (s.nw t) := by
  unfold State.nw; split <;> assumption

theorem upd_app {s₀ s t : State} (h : Upd s₀ s) (k : Upd s₀ t) : Upd s₀ (s.app t) := by
  unfold State.app; split <;> assumption

theorem upd_setPwr {s₀ s : State} (h : Upd s₀ s) (p : PowerState) : Upd s₀ (State.setPwr s p) := by
  unfold State.setPwr
  repeat' first
    | with_reducible assumption
    | with_reducible exact fun w => w
    | with_reducible exact Nat.le_refl _
    | with_reducible exact Nat.le_add_right _ _
    | with_reducible apply upd_modPwr
    | with_reducible apply upd_irq
    | with_reducible apply upd_raise
    | with_reducible apply upd_dbgPower
    | intro _
    | (extract_lets +onlyGivenNames t; first
      | (refine Upd.cut (s := s₀) (t := t) ?_ ?_; subst t; rotate_left; intro _; clear_value t)
      | (refine Upd.cut (s := s₀) (t := t.2) ?_ ?_; subst t; rotate_left; intro _; clear_value t)
      | (refine Upd.cut (s := s₀) (t := t.1) ?_ ?_; subst t; rotate_left; intro _; clear_value t)
      | subst t)
    | with_reducible apply upd_ite
    | with_reducible apply upd_ite_fst
    | with_reducible apply upd_ite_snd
    | split
    | with_reducible refine Upd.mk' ?_ rfl ?_ ?_ ?_ ?_

theorem upd_clearDomain {s₀ s : State} (h : Upd s₀ s) (p : Nat → Bool) : Upd s₀ (s.clearDomain p) :=
  ⟨h.pending, h.free, h.ns, fun k => ⟨Tab.wf_clear _ _ _ (h.regs k).1, (h.regs k).2⟩, h.lc⟩

theorem upd_appReset {s₀ s : State} (h : Upd s₀ s) : Upd s₀ (State.appReset s) := by
  unfold State.appReset
  repeat' first
    | with_reducible assumption
    | with_reducible exact fun w => w
    | with_reducible exact Nat.le_refl _
    | with_reducible exact Nat.le_add_right _ _
    | with_reducible apply upd_qAbortPage
    | with_reducible apply upd_lspRestart
    | with_reducible apply upd_abortMbx
    | with_reducible apply upd_mbxDone
    | with_reducible apply upd_groundFlush
    | with_reducible apply upd_clearDomain
    | with_reducible apply upd_foldl
    | intro _
    | (extract_lets +onlyGivenNames t; first
      | (refine Upd.cut (s := s₀) (t := t) ?_ ?_; subst t; rotate_left; intro _; clear_value t)
      | (refine Upd.cut (s := s₀) (t := t.2) ?_ ?_; subst t; rotate_left; intro _; clear_value t)
      | (refine Upd.cut (s := s₀) (t := t.1) ?_ ?_; subst t; rotate_left; intro _; clear_value t)
      | subst t)
    | with_reducible apply upd_ite
    | with_reducible apply upd_ite_fst
    | with_reducible apply upd_ite_snd
    | (with_reducible refine id (?_ : Upd _ _); dsimp -zeta only [])
    | split
    | with_reducible refine Upd.mk' ?_ rfl ?_ ?_ ?_ ?_

theorem upd_netReset {s₀ s : State} (h : Upd s₀ s) : Upd s₀ (State.netReset s) := by
  unfold State.netReset
  repeat' first
    | with_reducible assumption
    | with_reducible exact fun w => w
    | with_reducible exact Nat.le_refl _
    | with_reducible exact Nat.le_add_right _ _
    | with_reducible apply upd_qAbortPage
    | with_reducible apply upd_clearDomain
    | with_reducible apply upd_netRestart
    | with_reducible apply upd_put
    | with_reducible apply upd_foldl
    | with_reducible apply upd_foldl_fst
    | with_reducible apply upd_foldl_snd
    | intro _
    | (extract_lets +onlyGivenNames t; first
      | (refine Upd.cut (s := s₀) (t := t) ?_ ?_; subst t; rotate_left; intro _; clear_value t)
      | (refine Upd.cut (s := s₀) (t := t.2) ?_ ?_; subst t; rotate_left; intro _; clear_value t)
      | (refine Upd.cut (s := s₀) (t := t.1) ?_ ?_; subst t; rotate_left; intro _; clear_value t)
      | subst t)
    | (with_reducible refine id (?_ : Upd _ _); dsimp -zeta only [])
    | split

theorem upd_appDown {s₀ s : State} (h : Upd s₀ s) : Upd s₀ (State.appDown s) := by
  unfold State.appDown
  repeat' first
    | with_reducible assumption
    | with_reducible exact fun w => w
    | with_reducible exact Nat.le_refl _
    | with_reducible exact Nat.le_add_right _ _
    | with_reducible apply upd_appReset
    | with_reducible apply upd_modPwr
    | intro _
    | (with_reducible refine id (?_ : Upd _ _); dsimp -zeta only [])
    | split
    | with_reducible refine Upd.mk' ?_ rfl ?_ ?_ ?_ ?_

theorem upd_netDown {s₀ s : State} (h : Upd s₀ s) : Upd s₀ (State.netDown s) := by
  unfold State.netDown
  repeat' first
    | with_reducible assumption
    | with_reducible exact fun w => w
    | with_reducible exact Nat.le_refl _
    | with_reducible exact Nat.le_add_right _ _
    | with_reducible apply upd_netReset
    | with_reducible apply upd_lspRestart
    | with_reducible apply upd_modPwr
    | intro _
    | split
    | with_reducible refine Upd.mk' ?_ rfl ?_ ?_ ?_ ?_

theorem upd_modBoot {s₀ s : State} (h : Upd s₀ s) (f : NvBoot → NvBoot) : Upd s₀ (State.modBoot s f) := by
  unfold State.modBoot
  repeat' first
    | with_reducible assumption
    | with_reducible exact fun w => w
    | with_reducible exact Nat.le_refl _
    | with_reducible exact Nat.le_add_right _ _
    | intro _
    | split
    | with_reducible refine Upd.mk' ?_ rfl ?_ ?_ ?_ ?_

theorem upd_setFail {s₀ s : State} (h : Upd s₀ s) (n : Nat) (v : Nat) : Upd s₀ (State.setFail s n v) := by
  unfold State.setFail
  repeat' first
    | with_reducible assumption
    | with_reducible exact fun w => w
    | with_reducible exact Nat.le_refl _
    | with_reducible exact Nat.le_add_right _ _
    | with_reducible apply upd_modBoot
    | intro _
    | (with_reducible refine id (?_ : Upd _ _); dsimp -zeta only [])
    | split
    | with_reducible refine Upd.mk' ?_ rfl ?_ ?_ ?_ ?_

theorem upd_setRes {s₀ s : State} (h : Upd s₀ s) (n : Nat) (v : Nat) : Upd s₀ (State.setRes s n v) := by
  unfold State.setRes
  repeat' first
    | with_reducible assumption
    | with_reducible exact fun w => w
    | with_reducible exact Nat.le_refl _
    | with_reducible exact Nat.le_add_right _ _
    | with_reducible apply upd_modPwr
    | intro _
    | (with_reducible refine id (?_ : Upd _ _); dsimp -zeta only [])
    | split
    | with_reducible refine Upd.mk' ?_ rfl ?_ ?_ ?_ ?_

theorem upd_loadCfg {s₀ s : State} (h : Upd s₀ s) (p : Nat → Bool) : Upd s₀ (State.loadCfg s p) := by
  unfold State.loadCfg
  repeat' first
    | with_reducible assumption
    | with_reducible exact fun w => w
    | with_reducible exact Nat.le_refl _
    | with_reducible exact Nat.le_add_right _ _
    | with_reducible apply upd_wr
    | with_reducible apply upd_modFb
    | with_reducible refine upd_snd (by with_reducible assumption) ?_
    | with_reducible refine upd_fst (by with_reducible assumption) ?_
    | with_reducible apply upd_foldl
    | with_reducible apply upd_foldl_fst
    | with_reducible apply upd_foldl_snd
    | intro _
    | (with_reducible refine id (?_ : Upd _ _); dsimp -zeta only [])
    | split
    | with_reducible refine Upd.mk' ?_ rfl ?_ ?_ ?_ ?_

theorem upd_loadNodes {s₀ s : State} (h : Upd s₀ s) : Upd s₀ (State.loadNodes s) := by
  unfold State.loadNodes
  repeat' first
    | with_reducible assumption
    | with_reducible exact fun w => w
    | with_reducible exact Nat.le_refl _
    | with_reducible exact Nat.le_add_right _ _
    | with_reducible refine upd_snd (by with_reducible assumption) ?_
    | with_reducible refine upd_fst (by with_reducible assumption) ?_
    | with_reducible apply upd_foldl
    | with_reducible apply upd_foldl_fst
    | with_reducible apply upd_foldl_snd
    | intro _
    | (extract_lets +onlyGivenNames t; first
      | (refine Upd.cut (s := s₀) (t := t) ?_ ?_; subst t; rotate_left; intro _; clear_value t)
      | (refine Upd.cut (s := s₀) (t := t.2) ?_ ?_; subst t; rotate_left; intro _; clear_value t)
      | (refine Upd.cut (s := s₀) (t := t.1) ?_ ?_; subst t; rotate_left; intro _; clear_value t)
      | subst t)
    | with_reducible apply upd_ite
    | with_reducible apply upd_ite_fst
    | with_reducible apply upd_ite_snd
    | (with_reducible refine id (?_ : Upd _ _); dsimp -zeta only [])
    | split
    | with_reducible refine Upd.mk' ?_ rfl ?_ ?_ ?_ ?_

theorem upd_copyAllNodes {s₀ s : State} (h : Upd s₀ s) : Upd s₀ (State.copyAllNodes s) := by
  unfold State.copyAllNodes
  repeat' first
    | with_reducible assumption
    | with_reducible exact fun w => w
    | with_reducible exact Nat.le_refl _
    | with_reducible exact Nat.le_add_right _ _
    | intro _
    | (with_reducible refine id (?_ : Upd _ _); dsimp -zeta only [])
    | split
    | with_reducible refine Upd.mk' ?_ rfl ?_ ?_ ?_ ?_

theorem upd_setWatchdogs {s₀ s : State} (h : Upd s₀ s) : Upd s₀ (State.setWatchdogs s) := by
  unfold State.setWatchdogs
  repeat' first
    | with_reducible assumption
    | with_reducible exact fun w => w
    | with_reducible exact Nat.le_refl _
    | with_reducible exact Nat.le_add_right _ _
    | with_reducible apply upd_wr
    | with_reducible apply upd_foldl
    | with_reducible apply upd_foldl_fst
    | with_reducible apply upd_foldl_snd
    | intro _
    | (extract_lets +onlyGivenNames t; first
      | (refine Upd.cut (s := s₀) (t := t) ?_ ?_; subst t; rotate_left; intro _; clear_value t)
      | (refine Upd.cut (s := s₀) (t := t.2) ?_ ?_; subst t; rotate_left; intro _; clear_value t)
      | (refine Upd.cut (s := s₀) (t := t.1) ?_ ?_; subst t; rotate_left; intro _; clear_value t)
      | subst t)
    | (with_reducible refine id (?_ : Upd _ _); dsimp -zeta only [])
    | split

theorem upd_romExec {s₀ s : State} (h : Upd s₀ s) (n : Nat) : Upd s₀ (State.romExec s n) := by
  unfold State.romExec
  repeat' first
    | with_reducible assumption
    | with_reducible exact fun w => w
    | with_reducible exact Nat.le_refl _
    | with_reducible exact Nat.le_add_right _ _
    | with_reducible apply upd_modPwr
    | with_reducible apply upd_raise
    | with_reducible apply upd_loadCfg
    | with_reducible apply upd_loadNodes
    | with_reducible apply upd_put
    | with_reducible apply upd_blockStart
    | with_reducible apply upd_timeStart
    | with_reducible apply upd_enterHold
    | with_reducible apply upd_foldl
    | intro _
    | (extract_lets +onlyGivenNames t; first
      | (refine Upd.cut (s := s₀) (t := t) ?_ ?_; subst t; rotate_left; intro _; clear_value t)
      | (refine Upd.cut (s := s₀) (t := t.2) ?_ ?_; subst t; rotate_left; intro _; clear_value t)
      | (refine Upd.cut (s := s₀) (t := t.1) ?_ ?_; subst t; rotate_left; intro _; clear_value t)
      | subst t)
    | with_reducible apply upd_ite
    | with_reducible apply upd_ite_fst
    | with_reducible apply upd_ite_snd
    | (with_reducible refine id (?_ : Upd _ _); dsimp -zeta only [])
    | split
    | with_reducible refine Upd.mk' ?_ rfl ?_ ?_ ?_ ?_

theorem upd_stageAction {s₀ s : State} (h : Upd s₀ s) (n : Nat) : Upd s₀ (State.stageAction s n) := by
  unfold State.stageAction
  repeat' first
    | with_reducible assumption
    | with_reducible exact fun w => w
    | with_reducible exact Nat.le_refl _
    | with_reducible exact Nat.le_add_right _ _
    | with_reducible apply upd_romExec
    | with_reducible apply upd_enterHold
    | with_reducible apply upd_put
    | with_reducible apply upd_graphActivate
    | with_reducible apply upd_modPwr
    | with_reducible apply upd_appDown
    | with_reducible apply upd_setPwr
    | with_reducible apply upd_blockStop
    | with_reducible apply upd_setErps
    | with_reducible apply upd_foldl
    | with_reducible apply upd_foldl_fst
    | with_reducible apply upd_foldl_snd
    | intro _
    | (extract_lets +onlyGivenNames t; first
      | (refine Upd.cut (s := s₀) (t := t) ?_ ?_; subst t; rotate_left; intro _; clear_value t)
      | (refine Upd.cut (s := s₀) (t := t.2) ?_ ?_; subst t; rotate_left; intro _; clear_value t)
      | (refine Upd.cut (s := s₀) (t := t.1) ?_ ?_; subst t; rotate_left; intro _; clear_value t)
      | subst t)
    | with_reducible apply upd_ite
    | with_reducible apply upd_ite_fst
    | with_reducible apply upd_ite_snd
    | (with_reducible refine id (?_ : Upd _ _); dsimp -zeta only [])
    | split
    | with_reducible refine Upd.mk' ?_ rfl ?_ ?_ ?_ ?_

theorem upd_enterHoldup {s₀ s : State} (h : Upd s₀ s) (plan : Nat) : Upd s₀ (State.enterHoldup s plan) := by
  unfold State.enterHoldup
  repeat' first
    | with_reducible assumption
    | with_reducible exact fun w => w
    | with_reducible exact Nat.le_refl _
    | with_reducible exact Nat.le_add_right _ _
    | with_reducible apply upd_setPwr
    | with_reducible apply upd_modPwr
    | with_reducible apply upd_raise
    | with_reducible apply upd_scapLost
    | with_reducible apply upd_appDown
    | with_reducible apply upd_netDown
    | with_reducible apply upd_yieldIfStandby
    | with_reducible apply upd_recGasp
    | with_reducible apply upd_energySave
    | with_reducible apply upd_copyAllNodes
    | intro _
    | (extract_lets +onlyGivenNames t; first
      | (refine Upd.cut (s := s₀) (t := t) ?_ ?_; subst t; rotate_left; intro _; clear_value t)
      | (refine Upd.cut (s := s₀) (t := t.2) ?_ ?_; subst t; rotate_left; intro _; clear_value t)
      | (refine Upd.cut (s := s₀) (t := t.1) ?_ ?_; subst t; rotate_left; intro _; clear_value t)
      | subst t)
    | with_reducible apply upd_ite
    | with_reducible apply upd_ite_fst
    | with_reducible apply upd_ite_snd
    | (with_reducible refine id (?_ : Upd _ _); dsimp -zeta only [])
    | split
    | with_reducible refine Upd.mk' ?_ rfl ?_ ?_ ?_ ?_

theorem upd_stageWork {s₀ s : State} (h : Upd s₀ s) (n : Nat) : Upd s₀ (State.stageWork s n) := by
  unfold State.stageWork
  repeat' first
    | with_reducible assumption
    | with_reducible exact fun w => w
    | with_reducible exact Nat.le_refl _
    | with_reducible exact Nat.le_add_right _ _
    | with_reducible apply upd_updBoot
    | with_reducible apply upd_groundStart
    | with_reducible apply upd_loadCfg
    | with_reducible apply upd_put
    | with_reducible apply upd_loadNodes
    | with_reducible apply upd_timeStart
    | with_reducible apply upd_setWatchdogs
    | with_reducible apply upd_modPwr
    | with_reducible apply upd_blockStart
    | with_reducible apply upd_enterHoldup
    | with_reducible apply upd_energyRestore
    | with_reducible apply upd_calCheck
    | with_reducible apply upd_calLoad
    | with_reducible apply upd_graphActivate
    | with_reducible apply upd_recMount
    | with_reducible apply upd_modBoot
    | with_reducible apply upd_lspRestart
    | with_reducible apply upd_erpsStart
    | with_reducible apply upd_srcCfg
    | with_reducible apply upd_irq
    | with_reducible apply upd_raise
    | with_reducible refine upd_snd (by with_reducible assumption) ?_
    | with_reducible refine upd_fst (by with_reducible assumption) ?_
    | with_reducible apply upd_foldl
    | with_reducible apply upd_foldl_fst
    | with_reducible apply upd_foldl_snd
    | intro _
    | (extract_lets +onlyGivenNames t; first
      | (refine Upd.cut (s := s₀) (t := t) ?_ ?_; subst t; rotate_left; intro _; clear_value t)
      | (refine Upd.cut (s := s₀) (t := t.2) ?_ ?_; subst t; rotate_left; intro _; clear_value t)
      | (refine Upd.cut (s := s₀) (t := t.1) ?_ ?_; subst t; rotate_left; intro _; clear_value t)
      | subst t)
    | with_reducible apply upd_ite
    | with_reducible apply upd_ite_fst
    | with_reducible apply upd_ite_snd
    | (with_reducible refine id (?_ : Upd _ _); dsimp -zeta only [])
    | split
    | with_reducible refine Upd.mk' ?_ rfl ?_ ?_ ?_ ?_

theorem upd_bootGo {s₀ s : State} (h : Upd s₀ s) (f : Nat) : Upd s₀ (State.bootGo f s) := by
  induction f generalizing s with
  | zero => exact h
  | succ f ih =>
    unfold State.bootGo
    split
    · exact h
    · rename_i n rest _
      refine upd_ite h (upd_ite h ?_)
      extract_lets +onlyGivenNames t worn again
      have ht : Upd s₀ t := upd_put (upd_modPwr h _) _ _
      refine upd_ite ?_ ?_
      · extract_lets +onlyGivenNames how u
        have hu : Upd s₀ u := upd_modPwr ht _
        exact ih (upd_stageAction (upd_raise hu _ _ _) _)
      · extract_lets +onlyGivenNames u v w
        have hu : Upd s₀ u := upd_ite (upd_raise ht _ _ _) ht
        have hv : Upd s₀ v := upd_modPwr (upd_setRes hu _ _) _
        have hw : Upd s₀ w := upd_modBoot hv _
        exact upd_ite (upd_modPwr hw _) hw

theorem upd_runStages {s₀ s : State} (h : Upd s₀ s) (l : List Nat) : Upd s₀ (State.runStages s l) := by
  unfold State.runStages
  repeat' first
    | with_reducible assumption
    | with_reducible exact fun w => w
    | with_reducible exact Nat.le_refl _
    | with_reducible exact Nat.le_add_right _ _
    | with_reducible apply upd_modPwr
    | with_reducible apply upd_setRes
    | with_reducible apply upd_modBoot
    | with_reducible apply upd_bootGo
    | with_reducible apply upd_foldl
    | with_reducible apply upd_foldl_fst
    | with_reducible apply upd_foldl_snd
    | intro _
    | (extract_lets +onlyGivenNames t; first
      | (refine Upd.cut (s := s₀) (t := t) ?_ ?_; subst t; rotate_left; intro _; clear_value t)
      | (refine Upd.cut (s := s₀) (t := t.2) ?_ ?_; subst t; rotate_left; intro _; clear_value t)
      | (refine Upd.cut (s := s₀) (t := t.1) ?_ ?_; subst t; rotate_left; intro _; clear_value t)
      | subst t)
    | with_reducible apply upd_ite
    | with_reducible apply upd_ite_fst
    | with_reducible apply upd_ite_snd
    | (with_reducible refine id (?_ : Upd _ _); dsimp -zeta only [])
    | split
    | with_reducible refine Upd.mk' ?_ rfl ?_ ?_ ?_ ?_

theorem upd_stageFail {s₀ s : State} (h : Upd s₀ s) (n : Nat) (cause : Nat) : Upd s₀ (State.stageFail s n cause) := by
  unfold State.stageFail
  repeat' first
    | with_reducible assumption
    | with_reducible exact fun w => w
    | with_reducible exact Nat.le_refl _
    | with_reducible exact Nat.le_add_right _ _
    | with_reducible apply upd_setFail
    | with_reducible apply upd_setRes
    | with_reducible apply upd_graphActivate
    | with_reducible apply upd_irq
    | with_reducible apply upd_raise
    | intro _
    | (extract_lets +onlyGivenNames t; first
      | (refine Upd.cut (s := s₀) (t := t) ?_ ?_; subst t; rotate_left; intro _; clear_value t)
      | (refine Upd.cut (s := s₀) (t := t.2) ?_ ?_; subst t; rotate_left; intro _; clear_value t)
      | (refine Upd.cut (s := s₀) (t := t.1) ?_ ?_; subst t; rotate_left; intro _; clear_value t)
      | subst t)
    | with_reducible apply upd_ite
    | with_reducible apply upd_ite_fst
    | with_reducible apply upd_ite_snd
    | split

theorem upd_stageNext {s₀ s : State} (h : Upd s₀ s) (n : Nat) (ms : Nat) : Upd s₀ (State.stageNext s n ms) := by
  unfold State.stageNext
  repeat' first
    | with_reducible assumption
    | with_reducible exact fun w => w
    | with_reducible exact Nat.le_refl _
    | with_reducible exact Nat.le_add_right _ _
    | with_reducible apply upd_modPwr
    | with_reducible apply upd_modBoot
    | with_reducible apply upd_bootGo
    | intro _
    | (extract_lets +onlyGivenNames t; first
      | (refine Upd.cut (s := s₀) (t := t) ?_ ?_; subst t; rotate_left; intro _; clear_value t)
      | (refine Upd.cut (s := s₀) (t := t.2) ?_ ?_; subst t; rotate_left; intro _; clear_value t)
      | (refine Upd.cut (s := s₀) (t := t.1) ?_ ?_; subst t; rotate_left; intro _; clear_value t)
      | subst t)
    | (with_reducible refine id (?_ : Upd _ _); dsimp -zeta only [])
    | split
    | with_reducible refine Upd.mk' ?_ rfl ?_ ?_ ?_ ?_

theorem upd_stageDone {s₀ s : State} (h : Upd s₀ s) (ok : Bool) (ms : Nat) : Upd s₀ (State.stageDone s ok ms) := by
  unfold State.stageDone
  repeat' first
    | with_reducible assumption
    | with_reducible exact fun w => w
    | with_reducible exact Nat.le_refl _
    | with_reducible exact Nat.le_add_right _ _
    | with_reducible apply upd_setFail
    | with_reducible apply upd_setRes
    | with_reducible apply upd_stageWork
    | with_reducible apply upd_stageNext
    | with_reducible apply upd_stageFail
    | intro _
    | (extract_lets +onlyGivenNames t; first
      | (refine Upd.cut (s := s₀) (t := t) ?_ ?_; subst t; rotate_left; intro _; clear_value t)
      | (refine Upd.cut (s := s₀) (t := t.2) ?_ ?_; subst t; rotate_left; intro _; clear_value t)
      | (refine Upd.cut (s := s₀) (t := t.1) ?_ ?_; subst t; rotate_left; intro _; clear_value t)
      | subst t)
    | with_reducible apply upd_ite
    | with_reducible apply upd_ite_fst
    | with_reducible apply upd_ite_snd
    | split

theorem upd_stageLate {s₀ s : State} (h : Upd s₀ s) (ms : Nat) : Upd s₀ (State.stageLate s ms) := by
  unfold State.stageLate
  repeat' first
    | with_reducible assumption
    | with_reducible exact fun w => w
    | with_reducible exact Nat.le_refl _
    | with_reducible exact Nat.le_add_right _ _
    | with_reducible apply upd_stageFail
    | with_reducible apply upd_stageNext
    | intro _
    | (extract_lets +onlyGivenNames t; first
      | (refine Upd.cut (s := s₀) (t := t) ?_ ?_; subst t; rotate_left; intro _; clear_value t)
      | (refine Upd.cut (s := s₀) (t := t.2) ?_ ?_; subst t; rotate_left; intro _; clear_value t)
      | (refine Upd.cut (s := s₀) (t := t.1) ?_ ?_; subst t; rotate_left; intro _; clear_value t)
      | subst t)
    | with_reducible apply upd_ite
    | with_reducible apply upd_ite_fst
    | with_reducible apply upd_ite_snd
    | split

theorem upd_bootStart {s₀ s : State} (h : Upd s₀ s) : Upd s₀ (State.bootStart s) := by
  unfold State.bootStart
  repeat' first
    | with_reducible assumption
    | with_reducible exact fun w => w
    | with_reducible exact Nat.le_refl _
    | with_reducible exact Nat.le_add_right _ _
    | with_reducible apply upd_recBoot
    | with_reducible apply upd_modBoot
    | with_reducible apply upd_raise
    | with_reducible apply upd_stageFail
    | with_reducible apply upd_modPwr
    | with_reducible apply upd_bootGo
    | intro _
    | (extract_lets +onlyGivenNames t; first
      | (refine Upd.cut (s := s₀) (t := t) ?_ ?_; subst t; rotate_left; intro _; clear_value t)
      | (refine Upd.cut (s := s₀) (t := t.2) ?_ ?_; subst t; rotate_left; intro _; clear_value t)
      | (refine Upd.cut (s := s₀) (t := t.1) ?_ ?_; subst t; rotate_left; intro _; clear_value t)
      | subst t)
    | with_reducible apply upd_ite
    | with_reducible apply upd_ite_fst
    | with_reducible apply upd_ite_snd
    | (with_reducible refine id (?_ : Upd _ _); dsimp -zeta only [])
    | split
    | with_reducible refine Upd.mk' ?_ rfl ?_ ?_ ?_ ?_

theorem upd_afterReset {s₀ s : State} (h : Upd s₀ s) : Upd s₀ s.afterReset := by
  unfold State.afterReset
  extract_lets +onlyGivenNames u v p g di di' sfp
  have hv : Upd s₀ v := upd_modBoot (upd_calTorn h) _
  clear_value v
  extract_lets +onlyGivenNames g0 g1 t w
  have ht : Upd s₀ t := ⟨hv.pending, hv.free, hv.ns, fun k => ⟨Tab.wf_clear _ _ _ (hv.regs k).1, rfl⟩, hv.lc⟩
  have hw : Upd s₀ w := upd_foldl ht fun t x h => upd_put (upd_put h _ _) _ _
  exact upd_calLoad (upd_foldl hw fun t x h => upd_fvBoot h _)

theorem upd_startReset {s₀ s : State} (h : Upd s₀ s) (c : ResetCause) (bare : Bool) : Upd s₀ (State.startReset s c bare) := by
  unfold State.startReset
  repeat' first
    | with_reducible assumption
    | with_reducible exact fun w => w
    | with_reducible exact Nat.le_refl _
    | with_reducible exact Nat.le_add_right _ _
    | with_reducible apply upd_modPwr
    | with_reducible apply upd_yieldIfStandby
    | with_reducible apply upd_recGasp
    | intro _
    | (extract_lets +onlyGivenNames t; first
      | (refine Upd.cut (s := s₀) (t := t) ?_ ?_; subst t; rotate_left; intro _; clear_value t)
      | (refine Upd.cut (s := s₀) (t := t.2) ?_ ?_; subst t; rotate_left; intro _; clear_value t)
      | (refine Upd.cut (s := s₀) (t := t.1) ?_ ?_; subst t; rotate_left; intro _; clear_value t)
      | subst t)
    | with_reducible apply upd_ite
    | with_reducible apply upd_ite_fst
    | with_reducible apply upd_ite_snd
    | split
    | with_reducible refine Upd.mk' ?_ rfl ?_ ?_ ?_ ?_

theorem upd_moduleReset {s₀ s : State} (h : Upd s₀ s) : Upd s₀ (State.moduleReset s) := by
  unfold State.moduleReset
  repeat' first
    | with_reducible assumption
    | with_reducible refine upd_snd (by with_reducible assumption) ?_
    | with_reducible refine upd_fst (by with_reducible assumption) ?_
    | with_reducible exact fun w => w
    | with_reducible exact Nat.le_refl _
    | with_reducible exact Nat.le_add_right _ _
    | with_reducible apply upd_afterReset
    | with_reducible apply upd_wr
    | with_reducible apply upd_put
    | with_reducible apply upd_bootStart
    | intro _
    | (extract_lets +onlyGivenNames t; first
      | (refine Upd.cut (s := s₀) (t := t) ?_ ?_; subst t; rotate_left; intro _; clear_value t)
      | (refine Upd.cut (s := s₀) (t := t.2) ?_ ?_; subst t; rotate_left; intro _; clear_value t)
      | (refine Upd.cut (s := s₀) (t := t.1) ?_ ?_; subst t; rotate_left; intro _; clear_value t)
      | subst t)
    | with_reducible apply upd_ite
    | with_reducible apply upd_ite_fst
    | with_reducible apply upd_ite_snd
    | split

theorem upd_coldState {s₀ s : State} (h : Upd s₀ s) : Upd s₀ s.coldState := by
  unfold State.coldState
  extract_lets +onlyGivenNames t g u
  have ht : Upd s₀ t := upd_afterReset h
  clear_value t
  have hu : Upd s₀ u := ⟨ht.pending, ht.free, ht.ns, fun k => ⟨Tab.wf_clear _ _ _ (ht.regs k).1, (ht.regs k).2⟩, ht.lc⟩
  exact upd_put hu _ _

theorem upd_coldReset {s₀ s : State} (h : Upd s₀ s) : Upd s₀ (State.coldReset s) := by
  unfold State.coldReset
  repeat' first
    | with_reducible assumption
    | with_reducible exact fun w => w
    | with_reducible exact Nat.le_refl _
    | with_reducible exact Nat.le_add_right _ _
    | with_reducible apply upd_coldState
    | with_reducible apply upd_modPwr
    | intro _
    | with_reducible apply upd_ite
    | with_reducible apply upd_ite_fst
    | with_reducible apply upd_ite_snd
    | split
    | with_reducible refine Upd.mk' ?_ rfl ?_ ?_ ?_ ?_

theorem upd_supvReset {s₀ s : State} (h : Upd s₀ s) (cause : Nat) : Upd s₀ (State.supvReset s cause) := by
  unfold State.supvReset
  repeat' first
    | with_reducible assumption
    | with_reducible exact fun w => w
    | with_reducible exact Nat.le_refl _
    | with_reducible exact Nat.le_add_right _ _
    | with_reducible apply upd_raise
    | with_reducible apply upd_startReset
    | intro _
    | (extract_lets +onlyGivenNames t; first
      | (refine Upd.cut (s := s₀) (t := t) ?_ ?_; subst t; rotate_left; intro _; clear_value t)
      | (refine Upd.cut (s := s₀) (t := t.2) ?_ ?_; subst t; rotate_left; intro _; clear_value t)
      | (refine Upd.cut (s := s₀) (t := t.1) ?_ ?_; subst t; rotate_left; intro _; clear_value t)
      | subst t)
    | with_reducible apply upd_ite
    | with_reducible apply upd_ite_fst
    | with_reducible apply upd_ite_snd
    | split
    | with_reducible refine Upd.mk' ?_ rfl ?_ ?_ ?_ ?_

theorem upd_rtWatchdog {s₀ s : State} (h : Upd s₀ s) : Upd s₀ (State.rtWatchdog s) := by
  unfold State.rtWatchdog
  repeat' first
    | with_reducible assumption
    | with_reducible exact fun w => w
    | with_reducible exact Nat.le_refl _
    | with_reducible exact Nat.le_add_right _ _
    | with_reducible apply upd_irq
    | with_reducible apply upd_raise
    | with_reducible apply upd_startReset
    | intro _
    | split

theorem upd_dbgReset {s₀ s : State} (h : Upd s₀ s) : Upd s₀ (State.dbgReset s) := by
  unfold State.dbgReset
  repeat' first
    | with_reducible assumption
    | with_reducible exact fun w => w
    | with_reducible exact Nat.le_refl _
    | with_reducible exact Nat.le_add_right _ _
    | with_reducible apply upd_startReset
    | intro _
    | split

theorem upd_romReset {s₀ s : State} (h : Upd s₀ s) : Upd s₀ (State.romReset s) := by
  unfold State.romReset
  repeat' first
    | with_reducible assumption
    | with_reducible exact fun w => w
    | with_reducible exact Nat.le_refl _
    | with_reducible exact Nat.le_add_right _ _
    | with_reducible apply upd_romExec
    | with_reducible apply upd_startReset
    | intro _
    | with_reducible apply upd_ite
    | with_reducible apply upd_ite_fst
    | with_reducible apply upd_ite_snd
    | split

theorem upd_domainApp {s₀ s : State} (h : Upd s₀ s) (cause : Nat) : Upd s₀ (State.domainApp s cause) := by
  unfold State.domainApp
  repeat' first
    | with_reducible assumption
    | with_reducible exact fun w => w
    | with_reducible exact Nat.le_refl _
    | with_reducible exact Nat.le_add_right _ _
    | with_reducible apply upd_appReset
    | with_reducible apply upd_raise
    | with_reducible apply upd_runStages
    | intro _
    | with_reducible apply upd_ite
    | with_reducible apply upd_ite_fst
    | with_reducible apply upd_ite_snd
    | split

theorem upd_domainNet {s₀ s : State} (h : Upd s₀ s) (cause : Nat) : Upd s₀ (State.domainNet s cause) := by
  unfold State.domainNet
  repeat' first
    | with_reducible assumption
    | with_reducible exact fun w => w
    | with_reducible exact Nat.le_refl _
    | with_reducible exact Nat.le_add_right _ _
    | with_reducible apply upd_netReset
    | with_reducible apply upd_raise
    | with_reducible apply upd_runStages
    | intro _
    | with_reducible apply upd_ite
    | with_reducible apply upd_ite_fst
    | with_reducible apply upd_ite_snd
    | split

theorem upd_netWatchdog {s₀ s : State} (h : Upd s₀ s) : Upd s₀ (State.netWatchdog s) := by
  unfold State.netWatchdog
  repeat' first
    | with_reducible assumption
    | with_reducible exact fun w => w
    | with_reducible exact Nat.le_refl _
    | with_reducible exact Nat.le_add_right _ _
    | with_reducible apply upd_domainNet
    | intro _
    | with_reducible apply upd_ite
    | with_reducible apply upd_ite_fst
    | with_reducible apply upd_ite_snd
    | split

theorem upd_coreWatchdog {s₀ s : State} (h : Upd s₀ s) (n : Nat) : Upd s₀ (State.coreWatchdog s n) := by
  unfold State.coreWatchdog
  repeat' first
    | with_reducible assumption
    | with_reducible exact fun w => w
    | with_reducible exact Nat.le_refl _
    | with_reducible exact Nat.le_add_right _ _
    | with_reducible apply upd_put
    | with_reducible apply upd_irq
    | with_reducible apply upd_raise
    | with_reducible apply upd_domainApp
    | intro _
    | (extract_lets +onlyGivenNames t; first
      | (refine Upd.cut (s := s₀) (t := t) ?_ ?_; subst t; rotate_left; intro _; clear_value t)
      | (refine Upd.cut (s := s₀) (t := t.2) ?_ ?_; subst t; rotate_left; intro _; clear_value t)
      | (refine Upd.cut (s := s₀) (t := t.1) ?_ ?_; subst t; rotate_left; intro _; clear_value t)
      | subst t)
    | with_reducible apply upd_ite
    | with_reducible apply upd_ite_fst
    | with_reducible apply upd_ite_snd
    | split
    | with_reducible refine Upd.mk' ?_ rfl ?_ ?_ ?_ ?_

theorem upd_kick {s₀ s : State} (h : Upd s₀ s) (ini : Nat) : Upd s₀ (State.kick s ini) := by
  unfold State.kick
  repeat' first
    | with_reducible assumption
    | with_reducible exact fun w => w
    | with_reducible exact Nat.le_refl _
    | with_reducible exact Nat.le_add_right _ _
    | with_reducible apply upd_modPwr
    | intro _
    | with_reducible apply upd_ite
    | with_reducible apply upd_ite_fst
    | with_reducible apply upd_ite_snd
    | (with_reducible refine id (?_ : Upd _ _); dsimp -zeta only [])
    | split
    | with_reducible refine Upd.mk' ?_ rfl ?_ ?_ ?_ ?_

theorem upd_powerRise {s₀ s : State} (h : Upd s₀ s) (vin : Nat) : Upd s₀ (State.powerRise s vin) := by
  unfold State.powerRise
  repeat' first
    | with_reducible assumption
    | with_reducible exact fun w => w
    | with_reducible exact Nat.le_refl _
    | with_reducible exact Nat.le_add_right _ _
    | with_reducible apply upd_fresh
    | with_reducible apply upd_modPwr
    | with_reducible apply upd_afterReset
    | with_reducible apply upd_coldState
    | with_reducible apply upd_wr
    | with_reducible apply upd_irq
    | with_reducible apply upd_raise
    | with_reducible apply upd_bootStart
    | intro _
    | (extract_lets +onlyGivenNames t; first
      | (refine Upd.cut (s := s₀) (t := t) ?_ ?_; subst t; rotate_left; intro _; clear_value t)
      | (refine Upd.cut (s := s₀) (t := t.2) ?_ ?_; subst t; rotate_left; intro _; clear_value t)
      | (refine Upd.cut (s := s₀) (t := t.1) ?_ ?_; subst t; rotate_left; intro _; clear_value t)
      | subst t)
    | with_reducible apply upd_ite
    | with_reducible apply upd_ite_fst
    | with_reducible apply upd_ite_snd
    | (with_reducible refine id (?_ : Upd _ _); dsimp -zeta only [])
    | split
    | with_reducible refine Upd.mk' ?_ rfl ?_ ?_ ?_ ?_

theorem upd_powerGone {s₀ s : State} (h : Upd s₀ s) (vbat : Bool) : Upd s₀ (State.powerGone s vbat) := by
  unfold State.powerGone
  repeat' first
    | with_reducible assumption
    | with_reducible exact fun w => w
    | with_reducible exact Nat.le_refl _
    | with_reducible exact Nat.le_add_right _ _
    | with_reducible apply upd_calTorn
    | with_reducible apply upd_recTorn
    | with_reducible apply upd_modBoot
    | with_reducible apply upd_rtcCancel
    | with_reducible apply upd_modPwr
    | intro _
    | (extract_lets +onlyGivenNames t; first
      | (refine Upd.cut (s := s₀) (t := t) ?_ ?_; subst t; rotate_left; intro _; clear_value t)
      | (refine Upd.cut (s := s₀) (t := t.2) ?_ ?_; subst t; rotate_left; intro _; clear_value t)
      | (refine Upd.cut (s := s₀) (t := t.1) ?_ ?_; subst t; rotate_left; intro _; clear_value t)
      | subst t)
    | with_reducible apply upd_ite
    | with_reducible apply upd_ite_fst
    | with_reducible apply upd_ite_snd
    | (with_reducible refine id (?_ : Upd _ _); dsimp -zeta only [])
    | split
    | with_reducible refine Upd.mk' ?_ rfl ?_ ?_ ?_ ?_

theorem upd_powerFall {s₀ s : State} (h : Upd s₀ s) (vin : Nat) (vbat : Bool) : Upd s₀ (State.powerFall s vin vbat) := by
  unfold State.powerFall
  repeat' first
    | with_reducible assumption
    | with_reducible exact fun w => w
    | with_reducible exact Nat.le_refl _
    | with_reducible exact Nat.le_add_right _ _
    | with_reducible apply upd_modPwr
    | with_reducible apply upd_enterHoldup
    | with_reducible apply upd_modBoot
    | with_reducible apply upd_powerGone
    | intro _
    | (extract_lets +onlyGivenNames t; first
      | (refine Upd.cut (s := s₀) (t := t) ?_ ?_; subst t; rotate_left; intro _; clear_value t)
      | (refine Upd.cut (s := s₀) (t := t.2) ?_ ?_; subst t; rotate_left; intro _; clear_value t)
      | (refine Upd.cut (s := s₀) (t := t.1) ?_ ?_; subst t; rotate_left; intro _; clear_value t)
      | subst t)
    | with_reducible apply upd_ite
    | with_reducible apply upd_ite_fst
    | with_reducible apply upd_ite_snd
    | split
    | with_reducible refine Upd.mk' ?_ rfl ?_ ?_ ?_ ?_

theorem upd_vholdReady {s₀ s : State} (h : Upd s₀ s) (mv : Nat) : Upd s₀ (State.vholdReady s mv) := by
  unfold State.vholdReady
  repeat' first
    | with_reducible assumption
    | with_reducible exact fun w => w
    | with_reducible exact Nat.le_refl _
    | with_reducible exact Nat.le_add_right _ _
    | with_reducible apply upd_modPwr
    | with_reducible apply upd_irq
    | intro _
    | (with_reducible refine id (?_ : Upd _ _); dsimp -zeta only [])
    | split
    | with_reducible refine Upd.mk' ?_ rfl ?_ ?_ ?_ ?_

theorem upd_rideEnd {s₀ s : State} (h : Upd s₀ s) : Upd s₀ (State.rideEnd s) := by
  unfold State.rideEnd
  repeat' first
    | with_reducible assumption
    | with_reducible exact fun w => w
    | with_reducible exact Nat.le_refl _
    | with_reducible exact Nat.le_add_right _ _
    | with_reducible apply upd_modPwr
    | with_reducible apply upd_copyAllNodes
    | intro _
    | (with_reducible refine id (?_ : Upd _ _); dsimp -zeta only [])
    | split
    | with_reducible refine Upd.mk' ?_ rfl ?_ ?_ ?_ ?_

theorem upd_powerDown {s₀ s : State} (h : Upd s₀ s) (vbat : Bool) : Upd s₀ (State.powerDown s vbat) := by
  unfold State.powerDown
  repeat' first
    | with_reducible assumption
    | with_reducible exact fun w => w
    | with_reducible exact Nat.le_refl _
    | with_reducible exact Nat.le_add_right _ _
    | with_reducible apply upd_raise
    | with_reducible apply upd_recGasp
    | with_reducible apply upd_powerGone
    | intro _
    | (extract_lets +onlyGivenNames t; first
      | (refine Upd.cut (s := s₀) (t := t) ?_ ?_; subst t; rotate_left; intro _; clear_value t)
      | (refine Upd.cut (s := s₀) (t := t.2) ?_ ?_; subst t; rotate_left; intro _; clear_value t)
      | (refine Upd.cut (s := s₀) (t := t.1) ?_ ?_; subst t; rotate_left; intro _; clear_value t)
      | subst t)
    | with_reducible apply upd_ite
    | with_reducible apply upd_ite_fst
    | with_reducible apply upd_ite_snd
    | split

theorem upd_vinReturn {s₀ s : State} (h : Upd s₀ s) (vin : Nat) : Upd s₀ (State.vinReturn s vin) := by
  unfold State.vinReturn
  repeat' first
    | with_reducible assumption
    | with_reducible exact fun w => w
    | with_reducible exact Nat.le_refl _
    | with_reducible exact Nat.le_add_right _ _
    | with_reducible apply upd_raise
    | with_reducible apply upd_setPwr
    | with_reducible apply upd_modPwr
    | with_reducible apply upd_romExec
    | with_reducible apply upd_runStages
    | intro _
    | (extract_lets +onlyGivenNames t; first
      | (refine Upd.cut (s := s₀) (t := t) ?_ ?_; subst t; rotate_left; intro _; clear_value t)
      | (refine Upd.cut (s := s₀) (t := t.2) ?_ ?_; subst t; rotate_left; intro _; clear_value t)
      | (refine Upd.cut (s := s₀) (t := t.1) ?_ ?_; subst t; rotate_left; intro _; clear_value t)
      | subst t)
    | with_reducible apply upd_ite
    | with_reducible apply upd_ite_fst
    | with_reducible apply upd_ite_snd
    | split
    | with_reducible refine Upd.mk' ?_ rfl ?_ ?_ ?_ ?_

theorem upd_pwrStat {s₀ s : State} (h : Upd s₀ s) (r : Nat) : Upd s₀ (State.pwrStat s r) := by
  unfold State.pwrStat
  repeat' first
    | with_reducible assumption
    | with_reducible exact fun w => w
    | with_reducible exact Nat.le_refl _
    | with_reducible exact Nat.le_add_right _ _
    | with_reducible apply upd_put
    | intro _
    | split

theorem upd_toRun {s₀ s : State} (h : Upd s₀ s) : Upd s₀ (State.toRun s) := by
  unfold State.toRun
  repeat' first
    | with_reducible assumption
    | with_reducible exact fun w => w
    | with_reducible exact Nat.le_refl _
    | with_reducible exact Nat.le_add_right _ _
    | with_reducible apply upd_setPwr
    | with_reducible apply upd_modPwr
    | with_reducible apply upd_runStages
    | intro _
    | split
    | with_reducible refine Upd.mk' ?_ rfl ?_ ?_ ?_ ?_

theorem upd_recDrain {s₀ s : State} (h : Upd s₀ s) : Upd s₀ (State.recDrain s) := by
  unfold State.recDrain
  repeat' first
    | with_reducible assumption
    | with_reducible exact fun w => w
    | with_reducible exact Nat.le_refl _
    | with_reducible exact Nat.le_add_right _ _
    | with_reducible apply upd_recToLog
    | with_reducible apply upd_recToFallback
    | with_reducible apply upd_foldl
    | with_reducible apply upd_foldl_fst
    | with_reducible apply upd_foldl_snd
    | intro _
    | (extract_lets +onlyGivenNames t; first
      | (refine Upd.cut (s := s₀) (t := t) ?_ ?_; subst t; rotate_left; intro _; clear_value t)
      | (refine Upd.cut (s := s₀) (t := t.2) ?_ ?_; subst t; rotate_left; intro _; clear_value t)
      | (refine Upd.cut (s := s₀) (t := t.1) ?_ ?_; subst t; rotate_left; intro _; clear_value t)
      | subst t)
    | with_reducible apply upd_ite
    | with_reducible apply upd_ite_fst
    | with_reducible apply upd_ite_snd
    | (with_reducible refine id (?_ : Upd _ _); dsimp -zeta only [])
    | split
    | with_reducible refine Upd.mk' ?_ rfl ?_ ?_ ?_ ?_

theorem upd_toStandby {s₀ s : State} (h : Upd s₀ s) : Upd s₀ (State.toStandby s) := by
  unfold State.toStandby
  repeat' first
    | with_reducible assumption
    | with_reducible exact fun w => w
    | with_reducible exact Nat.le_refl _
    | with_reducible exact Nat.le_add_right _ _
    | with_reducible apply upd_pwrStat
    | with_reducible apply upd_setPwr
    | with_reducible apply upd_calTorn
    | with_reducible apply upd_recDrain
    | with_reducible apply upd_energySave
    | with_reducible apply upd_copyAllNodes
    | with_reducible apply upd_modBoot
    | with_reducible apply upd_rtcCancel
    | with_reducible apply upd_modPwr
    | intro _
    | (extract_lets +onlyGivenNames t; first
      | (refine Upd.cut (s := s₀) (t := t) ?_ ?_; subst t; rotate_left; intro _; clear_value t)
      | (refine Upd.cut (s := s₀) (t := t.2) ?_ ?_; subst t; rotate_left; intro _; clear_value t)
      | (refine Upd.cut (s := s₀) (t := t.1) ?_ ?_; subst t; rotate_left; intro _; clear_value t)
      | subst t)
    | with_reducible apply upd_ite
    | with_reducible apply upd_ite_fst
    | with_reducible apply upd_ite_snd
    | (with_reducible refine id (?_ : Upd _ _); dsimp -zeta only [])
    | split
    | with_reducible refine Upd.mk' ?_ rfl ?_ ?_ ?_ ?_

theorem upd_pwrCmd {s₀ s : State} (h : Upd s₀ s) (op : Nat) : Upd s₀ (State.pwrCmd s op) := by
  unfold State.pwrCmd
  repeat' first
    | with_reducible assumption
    | with_reducible exact fun w => w
    | with_reducible exact Nat.le_refl _
    | with_reducible exact Nat.le_add_right _ _
    | with_reducible apply upd_pwrStat
    | with_reducible apply upd_toRun
    | with_reducible apply upd_appDown
    | with_reducible apply upd_setPwr
    | with_reducible apply upd_modPwr
    | with_reducible apply upd_bootGo
    | with_reducible apply upd_toStandby
    | with_reducible apply upd_domainApp
    | with_reducible apply upd_domainNet
    | intro _
    | (extract_lets +onlyGivenNames t; first
      | (refine Upd.cut (s := s₀) (t := t) ?_ ?_; subst t; rotate_left; intro _; clear_value t)
      | (refine Upd.cut (s := s₀) (t := t.2) ?_ ?_; subst t; rotate_left; intro _; clear_value t)
      | (refine Upd.cut (s := s₀) (t := t.1) ?_ ?_; subst t; rotate_left; intro _; clear_value t)
      | subst t)
    | with_reducible apply upd_ite
    | with_reducible apply upd_ite_fst
    | with_reducible apply upd_ite_snd
    | (with_reducible refine id (?_ : Upd _ _); dsimp -zeta only [])
    | split
    | with_reducible refine Upd.mk' ?_ rfl ?_ ?_ ?_ ?_

theorem upd_wake {s₀ s : State} (h : Upd s₀ s) : Upd s₀ (State.wake s) := by
  unfold State.wake
  repeat' first
    | with_reducible assumption
    | with_reducible exact fun w => w
    | with_reducible exact Nat.le_refl _
    | with_reducible exact Nat.le_add_right _ _
    | with_reducible apply upd_afterReset
    | with_reducible apply upd_wr
    | with_reducible apply upd_irq
    | with_reducible apply upd_raise
    | with_reducible apply upd_bootStart
    | with_reducible apply upd_toRun
    | intro _
    | (extract_lets +onlyGivenNames t; first
      | (refine Upd.cut (s := s₀) (t := t) ?_ ?_; subst t; rotate_left; intro _; clear_value t)
      | (refine Upd.cut (s := s₀) (t := t.2) ?_ ?_; subst t; rotate_left; intro _; clear_value t)
      | (refine Upd.cut (s := s₀) (t := t.1) ?_ ?_; subst t; rotate_left; intro _; clear_value t)
      | subst t)
    | with_reducible apply upd_ite
    | with_reducible apply upd_ite_fst
    | with_reducible apply upd_ite_snd
    | split

theorem upd_vinLost {s₀ s : State} (h : Upd s₀ s) (vbat : Bool) : Upd s₀ (State.vinLost s vbat) := by
  unfold State.vinLost
  repeat' first
    | with_reducible assumption
    | with_reducible exact fun w => w
    | with_reducible exact Nat.le_refl _
    | with_reducible exact Nat.le_add_right _ _
    | with_reducible apply upd_powerGone
    | intro _
    | with_reducible apply upd_ite
    | with_reducible apply upd_ite_fst
    | with_reducible apply upd_ite_snd
    | split

theorem upd_bootCmd {s₀ s : State} (h : Upd s₀ s) (v : Word) : Upd s₀ (State.bootCmd s v) := by
  unfold State.bootCmd
  repeat' first
    | with_reducible assumption
    | with_reducible exact fun w => w
    | with_reducible exact Nat.le_refl _
    | with_reducible exact Nat.le_add_right _ _
    | with_reducible apply upd_modBoot
    | with_reducible apply upd_setFail
    | intro _
    | (extract_lets +onlyGivenNames t; first
      | (refine Upd.cut (s := s₀) (t := t) ?_ ?_; subst t; rotate_left; intro _; clear_value t)
      | (refine Upd.cut (s := s₀) (t := t.2) ?_ ?_; subst t; rotate_left; intro _; clear_value t)
      | (refine Upd.cut (s := s₀) (t := t.1) ?_ ?_; subst t; rotate_left; intro _; clear_value t)
      | subst t)
    | with_reducible apply upd_ite
    | with_reducible apply upd_ite_fst
    | with_reducible apply upd_ite_snd
    | split
    | with_reducible refine Upd.mk' ?_ rfl ?_ ?_ ?_ ?_

end Sys2Proof.Machine
end

