-- ==== Sys2Proof/Laws/UpdWrite.lean ====
section
/-! SUPPORT. The operations of Machine/Write.lean as updates. -/

namespace Sys2Proof.Machine

theorem upd_store {s₀ s : State} (h : Upd s₀ s) (p : Nat) (o : Nat) (v : Word) : Upd s₀ (State.store s p o v) := by
  unfold State.store
  repeat' first
    | with_reducible assumption
    | with_reducible refine upd_snd (by with_reducible assumption) ?_
    | with_reducible refine upd_fst (by with_reducible assumption) ?_
    | with_reducible exact fun w => w
    | with_reducible exact Nat.le_refl _
    | with_reducible exact Nat.le_add_right _ _
    | with_reducible apply upd_wr
    | intro _
    | (extract_lets +onlyGivenNames t; first
      | (refine Upd.cut (s := s₀) (t := t) ?_ ?_; subst t; rotate_left; intro _; clear_value t)
      | (refine Upd.cut (s := s₀) (t := t.2) ?_ ?_; subst t; rotate_left; intro _; clear_value t)
      | (refine Upd.cut (s := s₀) (t := t.1) ?_ ?_; subst t; rotate_left; intro _; clear_value t)
      | subst t)
    | split

theorem upd_persist {s₀ s : State} (h : Upd s₀ s) (p : Nat) (o : Nat) : Upd s₀ (State.persist s p o) := by
  unfold State.persist
  repeat' first
    | with_reducible assumption
    | with_reducible exact fun w => w
    | with_reducible exact Nat.le_refl _
    | with_reducible exact Nat.le_add_right _ _
    | intro _
    | (extract_lets +onlyGivenNames t; first
      | (refine Upd.cut (s := s₀) (t := t) ?_ ?_; subst t; rotate_left; intro _; clear_value t)
      | (refine Upd.cut (s := s₀) (t := t.2) ?_ ?_; subst t; rotate_left; intro _; clear_value t)
      | (refine Upd.cut (s := s₀) (t := t.1) ?_ ?_; subst t; rotate_left; intro _; clear_value t)
      | subst t)
    | with_reducible apply upd_ite
    | with_reducible apply upd_ite_fst
    | with_reducible apply upd_ite_snd
    | split
    | with_reducible refine Upd.mk' ?_ rfl ?_ ?_ ?_ ?_

theorem upd_ctrlWrite {s₀ s : State} (h : Upd s₀ s) (p : Nat) (pi : PageInfo) (v : Word) : Upd s₀ (State.ctrlWrite s p pi v) := by
  unfold State.ctrlWrite
  repeat' first
    | with_reducible assumption
    | with_reducible exact fun w => w
    | with_reducible exact Nat.le_refl _
    | with_reducible exact Nat.le_add_right _ _
    | with_reducible apply upd_wr
    | with_reducible apply upd_blockReset
    | with_reducible apply upd_persist
    | with_reducible apply upd_blockStart
    | with_reducible apply upd_blockStop
    | with_reducible apply upd_blockFlush
    | intro _
    | (extract_lets +onlyGivenNames t; first
      | (refine Upd.cut (s := s₀) (t := t) ?_ ?_; subst t; rotate_left; intro _; clear_value t)
      | (refine Upd.cut (s := s₀) (t := t.2) ?_ ?_; subst t; rotate_left; intro _; clear_value t)
      | (refine Upd.cut (s := s₀) (t := t.1) ?_ ?_; subst t; rotate_left; intro _; clear_value t)
      | subst t)
    | with_reducible apply upd_ite
    | with_reducible apply upd_ite_fst
    | with_reducible apply upd_ite_snd
    | split

theorem upd_headerWrite {s₀ s : State} (h : Upd s₀ s) (p : Nat) (pi : PageInfo) (o : Nat) (v : Word) : Upd s₀ (State.headerWrite s p pi o v) := by
  unfold State.headerWrite
  repeat' first
    | with_reducible assumption
    | with_reducible exact fun w => w
    | with_reducible exact Nat.le_refl _
    | with_reducible exact Nat.le_add_right _ _
    | with_reducible apply upd_ctrlWrite
    | with_reducible apply upd_withReq
    | with_reducible apply upd_wr
    | with_reducible apply upd_iuChanged
    | with_reducible apply upd_iuDoorbell
    | intro _
    | with_reducible apply upd_ite
    | with_reducible apply upd_ite_fst
    | with_reducible apply upd_ite_snd
    | split

theorem upd_hold {s₀ s : State} (h : Upd s₀ s) (ini : Nat) (p : Nat) (o : Nat) (v : Word) : Upd s₀ (State.hold s ini p o v) := by
  unfold State.hold
  repeat' first
    | with_reducible assumption
    | with_reducible exact fun w => w
    | with_reducible exact Nat.le_refl _
    | with_reducible exact Nat.le_add_right _ _
    | intro _
    | (with_reducible refine id (?_ : Upd _ _); dsimp -zeta only [])
    | split
    | with_reducible refine Upd.mk' ?_ rfl ?_ ?_ ?_ ?_

theorem upd_unhold {s₀ s : State} (h : Upd s₀ s) (ini : Nat) (p : Nat) (o : Nat) : Upd s₀ (State.unhold s ini p o) := by
  unfold State.unhold
  repeat' first
    | with_reducible assumption
    | with_reducible exact fun w => w
    | with_reducible exact Nat.le_refl _
    | with_reducible exact Nat.le_add_right _ _
    | intro _
    | (with_reducible refine id (?_ : Upd _ _); dsimp -zeta only [])
    | split
    | with_reducible refine Upd.mk' ?_ rfl ?_ ?_ ?_ ?_

theorem upd_storeWide {s₀ s : State} (h : Upd s₀ s) (ini : Nat) (p : Nat) (lo : Nat) (hi : Nat) (v : Word) : Upd s₀ (State.storeWide s ini p lo hi v) := by
  unfold State.storeWide
  repeat' first
    | with_reducible assumption
    | with_reducible refine upd_snd (by with_reducible assumption) ?_
    | with_reducible refine upd_fst (by with_reducible assumption) ?_
    | with_reducible exact fun w => w
    | with_reducible exact Nat.le_refl _
    | with_reducible exact Nat.le_add_right _ _
    | with_reducible apply upd_store
    | with_reducible apply upd_persist
    | with_reducible apply upd_unhold
    | intro _
    | (extract_lets +onlyGivenNames t; first
      | (refine Upd.cut (s := s₀) (t := t) ?_ ?_; subst t; rotate_left; intro _; clear_value t)
      | (refine Upd.cut (s := s₀) (t := t.2) ?_ ?_; subst t; rotate_left; intro _; clear_value t)
      | (refine Upd.cut (s := s₀) (t := t.1) ?_ ?_; subst t; rotate_left; intro _; clear_value t)
      | subst t)
    | split

theorem upd_tickWrite {s₀ s : State} (h : Upd s₀ s) (o : Nat) (v : Word) : Upd s₀ (State.tickWrite s o v) := by
  unfold State.tickWrite
  repeat' first
    | with_reducible assumption
    | with_reducible exact fun w => w
    | with_reducible exact Nat.le_refl _
    | with_reducible exact Nat.le_add_right _ _
    | with_reducible apply upd_store
    | with_reducible apply upd_persist
    | with_reducible apply upd_raise
    | intro _
    | (extract_lets +onlyGivenNames t; first
      | (refine Upd.cut (s := s₀) (t := t) ?_ ?_; subst t; rotate_left; intro _; clear_value t)
      | (refine Upd.cut (s := s₀) (t := t.2) ?_ ?_; subst t; rotate_left; intro _; clear_value t)
      | (refine Upd.cut (s := s₀) (t := t.1) ?_ ?_; subst t; rotate_left; intro _; clear_value t)
      | subst t)
    | with_reducible apply upd_ite
    | with_reducible apply upd_ite_fst
    | with_reducible apply upd_ite_snd
    | split

theorem upd_hatchgWrite {s₀ s : State} (h : Upd s₀ s) (o : Nat) (v : Word) : Upd s₀ (State.hatchgWrite s o v) := by
  unfold State.hatchgWrite
  repeat' first
    | with_reducible assumption
    | with_reducible exact fun w => w
    | with_reducible exact Nat.le_refl _
    | with_reducible exact Nat.le_add_right _ _
    | with_reducible apply upd_graphCtrl
    | with_reducible apply upd_loadWin
    | with_reducible apply upd_store
    | intro _
    | with_reducible apply upd_ite
    | with_reducible apply upd_ite_fst
    | with_reducible apply upd_ite_snd
    | split

theorem upd_groupWrite {s₀ s : State} (h : Upd s₀ s) (o : Nat) (v : Word) : Upd s₀ (State.groupWrite s o v) := by
  unfold State.groupWrite
  repeat' first
    | with_reducible assumption
    | with_reducible exact fun w => w
    | with_reducible exact Nat.le_refl _
    | with_reducible exact Nat.le_add_right _ _
    | with_reducible apply upd_latchClr
    | with_reducible apply upd_brokenClear
    | with_reducible apply upd_store
    | with_reducible apply upd_persist
    | intro _
    | with_reducible apply upd_ite
    | with_reducible apply upd_ite_fst
    | with_reducible apply upd_ite_snd
    | split

theorem upd_nodeWrite {s₀ s : State} (h : Upd s₀ s) (o : Nat) (v : Word) : Upd s₀ (State.nodeWrite s o v) := by
  unfold State.nodeWrite
  repeat' first
    | with_reducible assumption
    | with_reducible exact fun w => w
    | with_reducible exact Nat.le_refl _
    | with_reducible exact Nat.le_add_right _ _
    | with_reducible apply upd_nodeCmdWrite
    | with_reducible apply upd_entWrite
    | with_reducible apply upd_store
    | intro _
    | with_reducible apply upd_ite
    | with_reducible apply upd_ite_fst
    | with_reducible apply upd_ite_snd
    | split

theorem upd_fbWrite {s₀ s : State} (h : Upd s₀ s) (b : Nat) (o : Nat) (v : Word) : Upd s₀ (State.fbWrite s b o v) := by
  unfold State.fbWrite
  repeat' first
    | with_reducible assumption
    | with_reducible exact fun w => w
    | with_reducible exact Nat.le_refl _
    | with_reducible exact Nat.le_add_right _ _
    | with_reducible apply upd_store
    | with_reducible apply upd_persist
    | with_reducible apply upd_modFb
    | intro _
    | (extract_lets +onlyGivenNames t; first
      | (refine Upd.cut (s := s₀) (t := t) ?_ ?_; subst t; rotate_left; intro _; clear_value t)
      | (refine Upd.cut (s := s₀) (t := t.2) ?_ ?_; subst t; rotate_left; intro _; clear_value t)
      | (refine Upd.cut (s := s₀) (t := t.1) ?_ ?_; subst t; rotate_left; intro _; clear_value t)
      | subst t)
    | with_reducible apply upd_ite
    | with_reducible apply upd_ite_fst
    | with_reducible apply upd_ite_snd
    | split
    | with_reducible refine Upd.mk' ?_ rfl ?_ ?_ ?_ ?_

theorem upd_traceWrite {s₀ s : State} (h : Upd s₀ s) (o : Nat) (v : Word) : Upd s₀ (State.traceWrite s o v) := by
  unfold State.traceWrite
  repeat' first
    | with_reducible assumption
    | with_reducible exact fun w => w
    | with_reducible exact Nat.le_refl _
    | with_reducible exact Nat.le_add_right _ _
    | with_reducible apply upd_traceSelWrite
    | with_reducible apply upd_store
    | intro _
    | with_reducible apply upd_ite
    | with_reducible apply upd_ite_fst
    | with_reducible apply upd_ite_snd
    | split
    | with_reducible refine Upd.mk' ?_ rfl ?_ ?_ ?_ ?_

theorem upd_calWrite {s₀ s : State} (h : Upd s₀ s) (o : Nat) (v : Word) : Upd s₀ (State.calWrite s o v) := by
  unfold State.calWrite
  repeat' first
    | with_reducible assumption
    | with_reducible exact fun w => w
    | with_reducible exact Nat.le_refl _
    | with_reducible exact Nat.le_add_right _ _
    | with_reducible apply upd_calSelWrite
    | with_reducible apply upd_calCommit
    | with_reducible apply upd_store
    | intro _
    | with_reducible apply upd_ite
    | with_reducible apply upd_ite_fst
    | with_reducible apply upd_ite_snd
    | split

theorem upd_rtcWrite {s₀ s : State} (h : Upd s₀ s) (ini o : Nat) (v : Word) : Upd s₀ (State.rtcWrite s ini o v) := by
  unfold State.rtcWrite
  repeat' first
    | with_reducible assumption
    | with_reducible exact fun w => w
    | with_reducible exact Nat.le_refl _
    | with_reducible exact Nat.le_add_right _ _
    | with_reducible apply upd_rtcStageSec
    | with_reducible apply upd_unhold
    | with_reducible apply upd_hold
    | with_reducible apply upd_rtcStageDate
    | with_reducible apply upd_rtcStageTime
    | with_reducible apply upd_rtcStageWday
    | with_reducible apply upd_rtcCancel
    | with_reducible apply upd_wakeCfgWrite
    | with_reducible apply upd_store
    | with_reducible apply upd_timeReselect
    | with_reducible refine upd_snd (by with_reducible assumption) ?_
    | with_reducible refine upd_fst (by with_reducible assumption) ?_
    | intro _
    | (extract_lets +onlyGivenNames t; first
      | (refine Upd.cut (s := s₀) (t := t) ?_ ?_; subst t; rotate_left; intro _; clear_value t)
      | (refine Upd.cut (s := s₀) (t := t.2) ?_ ?_; subst t; rotate_left; intro _; clear_value t)
      | (refine Upd.cut (s := s₀) (t := t.1) ?_ ?_; subst t; rotate_left; intro _; clear_value t)
      | subst t)
    | with_reducible apply upd_ite
    | with_reducible apply upd_ite_fst
    | with_reducible apply upd_ite_snd
    | (with_reducible refine id (?_ : Upd _ _); dsimp -zeta only [])
    | split

theorem upd_timeWrite {s₀ s : State} (h : Upd s₀ s) (o : Nat) (v : Word) : Upd s₀ (State.timeWrite s o v) := by
  unfold State.timeWrite
  repeat' first
    | with_reducible assumption
    | with_reducible exact fun w => w
    | with_reducible exact Nat.le_refl _
    | with_reducible exact Nat.le_add_right _ _
    | with_reducible apply upd_srcSelWrite
    | with_reducible apply upd_store
    | with_reducible apply upd_persist
    | with_reducible apply upd_srcCfg
    | intro _
    | (extract_lets +onlyGivenNames t; first
      | (refine Upd.cut (s := s₀) (t := t) ?_ ?_; subst t; rotate_left; intro _; clear_value t)
      | (refine Upd.cut (s := s₀) (t := t.2) ?_ ?_; subst t; rotate_left; intro _; clear_value t)
      | (refine Upd.cut (s := s₀) (t := t.1) ?_ ?_; subst t; rotate_left; intro _; clear_value t)
      | subst t)
    | with_reducible apply upd_ite
    | with_reducible apply upd_ite_fst
    | with_reducible apply upd_ite_snd
    | split

theorem upd_schedWrite {s₀ s : State} (h : Upd s₀ s) (ini : Nat) (o : Nat) (v : Word) : Upd s₀ (State.schedWrite s ini o v) := by
  unfold State.schedWrite
  repeat' first
    | with_reducible assumption
    | with_reducible exact fun w => w
    | with_reducible exact Nat.le_refl _
    | with_reducible exact Nat.le_add_right _ _
    | with_reducible apply upd_schedStage
    | with_reducible apply upd_schedCommit
    | with_reducible apply upd_store
    | with_reducible apply upd_persist
    | with_reducible apply upd_fbSave
    | intro _
    | (extract_lets +onlyGivenNames t; first
      | (refine Upd.cut (s := s₀) (t := t) ?_ ?_; subst t; rotate_left; intro _; clear_value t)
      | (refine Upd.cut (s := s₀) (t := t.2) ?_ ?_; subst t; rotate_left; intro _; clear_value t)
      | (refine Upd.cut (s := s₀) (t := t.1) ?_ ?_; subst t; rotate_left; intro _; clear_value t)
      | subst t)
    | with_reducible apply upd_ite
    | with_reducible apply upd_ite_fst
    | with_reducible apply upd_ite_snd
    | (with_reducible refine id (?_ : Upd _ _); dsimp -zeta only [])
    | split
    | with_reducible refine Upd.mk' ?_ rfl ?_ ?_ ?_ ?_

theorem upd_swWrite {s₀ s : State} (h : Upd s₀ s) (o : Nat) (v : Word) : Upd s₀ (State.swWrite s o v) := by
  unfold State.swWrite
  repeat' first
    | with_reducible assumption
    | with_reducible exact fun w => w
    | with_reducible exact Nat.le_refl _
    | with_reducible exact Nat.le_add_right _ _
    | with_reducible apply upd_erpsCmd
    | with_reducible apply upd_store
    | with_reducible apply upd_persist
    | with_reducible apply upd_erpsCfgChanged
    | intro _
    | (extract_lets +onlyGivenNames t; first
      | (refine Upd.cut (s := s₀) (t := t) ?_ ?_; subst t; rotate_left; intro _; clear_value t)
      | (refine Upd.cut (s := s₀) (t := t.2) ?_ ?_; subst t; rotate_left; intro _; clear_value t)
      | (refine Upd.cut (s := s₀) (t := t.1) ?_ ?_; subst t; rotate_left; intro _; clear_value t)
      | subst t)
    | with_reducible apply upd_ite
    | with_reducible apply upd_ite_fst
    | with_reducible apply upd_ite_snd
    | split

theorem upd_iuWrite {s₀ s : State} (h : Upd s₀ s) (o : Nat) (v : Word) : Upd s₀ (State.iuWrite s o v) := by
  unfold State.iuWrite
  repeat' first
    | with_reducible assumption
    | with_reducible exact fun w => w
    | with_reducible exact Nat.le_refl _
    | with_reducible exact Nat.le_add_right _ _
    | with_reducible apply upd_store
    | with_reducible apply upd_iuChanged
    | intro _
    | split

theorem upd_iucWrite {s₀ s : State} (h : Upd s₀ s) (c : Nat) (o : Nat) (v : Word) : Upd s₀ (State.iucWrite s c o v) := by
  unfold State.iucWrite
  repeat' first
    | with_reducible assumption
    | with_reducible exact fun w => w
    | with_reducible exact Nat.le_refl _
    | with_reducible exact Nat.le_add_right _ _
    | with_reducible apply upd_iuEoi
    | with_reducible apply upd_store
    | with_reducible apply upd_iuChanged
    | intro _
    | with_reducible apply upd_ite
    | with_reducible apply upd_ite_fst
    | with_reducible apply upd_ite_snd
    | split

theorem upd_qmWrite {s₀ s : State} (h : Upd s₀ s) (o : Nat) (v : Word) : Upd s₀ (State.qmWrite s o v) := by
  unfold State.qmWrite
  repeat' first
    | with_reducible assumption
    | with_reducible exact fun w => w
    | with_reducible exact Nat.le_refl _
    | with_reducible exact Nat.le_add_right _ _
    | with_reducible apply upd_qCfgWrite
    | with_reducible apply upd_qCfg2Write
    | with_reducible apply upd_store
    | intro _
    | (extract_lets +onlyGivenNames t; first
      | (refine Upd.cut (s := s₀) (t := t) ?_ ?_; subst t; rotate_left; intro _; clear_value t)
      | (refine Upd.cut (s := s₀) (t := t.2) ?_ ?_; subst t; rotate_left; intro _; clear_value t)
      | (refine Upd.cut (s := s₀) (t := t.1) ?_ ?_; subst t; rotate_left; intro _; clear_value t)
      | subst t)
    | with_reducible apply upd_ite
    | with_reducible apply upd_ite_fst
    | with_reducible apply upd_ite_snd
    | split
    | with_reducible refine Upd.mk' ?_ rfl ?_ ?_ ?_ ?_

theorem upd_qmqWrite {s₀ s : State} (h : Upd s₀ s) (ini : Nat) (o : Nat) (v : Word) : Upd s₀ (State.qmqWrite s ini o v) := by
  unfold State.qmqWrite
  repeat' first
    | with_reducible assumption
    | with_reducible exact fun w => w
    | with_reducible exact Nat.le_refl _
    | with_reducible exact Nat.le_add_right _ _
    | with_reducible apply upd_qCommit
    | with_reducible apply upd_qStage
    | intro _
    | (extract_lets +onlyGivenNames t; first
      | (refine Upd.cut (s := s₀) (t := t) ?_ ?_; subst t; rotate_left; intro _; clear_value t)
      | (refine Upd.cut (s := s₀) (t := t.2) ?_ ?_; subst t; rotate_left; intro _; clear_value t)
      | (refine Upd.cut (s := s₀) (t := t.1) ?_ ?_; subst t; rotate_left; intro _; clear_value t)
      | subst t)
    | with_reducible apply upd_ite
    | with_reducible apply upd_ite_fst
    | with_reducible apply upd_ite_snd
    | split

theorem upd_pcieWrite {s₀ s : State} (h : Upd s₀ s) (ini : Nat) (o : Nat) (v : Word) : Upd s₀ (State.pcieWrite s ini o v) := by
  unfold State.pcieWrite
  repeat' first
    | with_reducible assumption
    | with_reducible exact fun w => w
    | with_reducible exact Nat.le_refl _
    | with_reducible exact Nat.le_add_right _ _
    | with_reducible apply upd_hdbSet
    | with_reducible apply upd_store
    | with_reducible apply upd_iuChanged
    | with_reducible apply upd_storeWide
    | with_reducible apply upd_hold
    | with_reducible apply upd_cqCfgWrite
    | with_reducible apply upd_cqDrain
    | with_reducible apply upd_cplPost
    | intro _
    | (extract_lets +onlyGivenNames t; first
      | (refine Upd.cut (s := s₀) (t := t) ?_ ?_; subst t; rotate_left; intro _; clear_value t)
      | (refine Upd.cut (s := s₀) (t := t.2) ?_ ?_; subst t; rotate_left; intro _; clear_value t)
      | (refine Upd.cut (s := s₀) (t := t.1) ?_ ?_; subst t; rotate_left; intro _; clear_value t)
      | subst t)
    | with_reducible apply upd_ite
    | with_reducible apply upd_ite_fst
    | with_reducible apply upd_ite_snd
    | (with_reducible refine id (?_ : Upd _ _); dsimp -zeta only [])
    | split
    | with_reducible refine Upd.mk' ?_ rfl ?_ ?_ ?_ ?_

theorem upd_pairWrite {s₀ s : State} (h : Upd s₀ s) (o : Nat) (v : Word) : Upd s₀ (State.pairWrite s o v) := by
  unfold State.pairWrite
  repeat' first
    | with_reducible assumption
    | with_reducible exact fun w => w
    | with_reducible exact Nat.le_refl _
    | with_reducible exact Nat.le_add_right _ _
    | with_reducible apply upd_pairCmd
    | with_reducible apply upd_store
    | with_reducible apply upd_persist
    | intro _
    | with_reducible apply upd_ite
    | with_reducible apply upd_ite_fst
    | with_reducible apply upd_ite_snd
    | split

theorem upd_witWrite {s₀ s : State} (h : Upd s₀ s) (ini : Nat) (o : Nat) (v : Word) : Upd s₀ (State.witWrite s ini o v) := by
  unfold State.witWrite
  repeat' first
    | with_reducible assumption
    | with_reducible exact fun w => w
    | with_reducible exact Nat.le_refl _
    | with_reducible exact Nat.le_add_right _ _
    | with_reducible apply upd_storeWide
    | with_reducible apply upd_hold
    | with_reducible apply upd_store
    | with_reducible apply upd_persist
    | intro _
    | with_reducible apply upd_ite
    | with_reducible apply upd_ite_fst
    | with_reducible apply upd_ite_snd
    | split

theorem upd_groundWrite {s₀ s : State} (h : Upd s₀ s) (ini : Nat) (o : Nat) (v : Word) : Upd s₀ (State.groundWrite s ini o v) := by
  unfold State.groundWrite
  repeat' first
    | with_reducible assumption
    | with_reducible exact fun w => w
    | with_reducible exact Nat.le_refl _
    | with_reducible exact Nat.le_add_right _ _
    | with_reducible apply upd_mbxStart
    | with_reducible apply upd_mbxPush
    | with_reducible apply upd_store
    | intro _
    | with_reducible apply upd_ite
    | with_reducible apply upd_ite_fst
    | with_reducible apply upd_ite_snd
    | split

theorem upd_tampWrite {s₀ s : State} (h : Upd s₀ s) (o : Nat) (v : Word) : Upd s₀ (State.tampWrite s o v) := by
  unfold State.tampWrite
  repeat' first
    | with_reducible assumption
    | with_reducible exact fun w => w
    | with_reducible exact Nat.le_refl _
    | with_reducible exact Nat.le_add_right _ _
    | with_reducible apply upd_tampLatchClear
    | with_reducible apply upd_store
    | with_reducible apply upd_diDoor
    | intro _
    | (extract_lets +onlyGivenNames t; first
      | (refine Upd.cut (s := s₀) (t := t) ?_ ?_; subst t; rotate_left; intro _; clear_value t)
      | (refine Upd.cut (s := s₀) (t := t.2) ?_ ?_; subst t; rotate_left; intro _; clear_value t)
      | (refine Upd.cut (s := s₀) (t := t.1) ?_ ?_; subst t; rotate_left; intro _; clear_value t)
      | subst t)
    | with_reducible apply upd_ite
    | with_reducible apply upd_ite_fst
    | with_reducible apply upd_ite_snd
    | (with_reducible refine id (?_ : Upd _ _); dsimp -zeta only [])
    | split
    | with_reducible refine Upd.mk' ?_ rfl ?_ ?_ ?_ ?_

theorem upd_updWrite {s₀ s : State} (h : Upd s₀ s) (o : Nat) (v : Word) : Upd s₀ (State.updWrite s o v) := by
  unfold State.updWrite
  repeat' first
    | with_reducible assumption
    | with_reducible exact fun w => w
    | with_reducible exact Nat.le_refl _
    | with_reducible exact Nat.le_add_right _ _
    | with_reducible apply upd_updCmd
    | with_reducible apply upd_modUpd
    | with_reducible apply upd_store
    | intro _
    | with_reducible apply upd_ite
    | with_reducible apply upd_ite_fst
    | with_reducible apply upd_ite_snd
    | split
    | with_reducible refine Upd.mk' ?_ rfl ?_ ?_ ?_ ?_

theorem upd_recWrite {s₀ s : State} (h : Upd s₀ s) (ini : Nat) (o : Nat) (v : Word) : Upd s₀ (State.recWrite s ini o v) := by
  unfold State.recWrite
  repeat' first
    | with_reducible assumption
    | with_reducible exact fun w => w
    | with_reducible exact Nat.le_refl _
    | with_reducible exact Nat.le_add_right _ _
    | with_reducible apply upd_recSelWrite
    | with_reducible apply upd_quotaWrite
    | with_reducible apply upd_appPost
    | with_reducible apply upd_store
    | intro _
    | with_reducible apply upd_ite
    | with_reducible apply upd_ite_fst
    | with_reducible apply upd_ite_snd
    | (with_reducible refine id (?_ : Upd _ _); dsimp -zeta only [])
    | split
    | with_reducible refine Upd.mk' ?_ rfl ?_ ?_ ?_ ?_

theorem upd_ageWrite {s₀ s : State} (h : Upd s₀ s) (m : Int) (o : Nat) (v : Word) : Upd s₀ (State.ageWrite s m o v) := by
  unfold State.ageWrite
  repeat' first
    | with_reducible assumption
    | with_reducible exact fun w => w
    | with_reducible exact Nat.le_refl _
    | with_reducible exact Nat.le_add_right _ _
    | with_reducible apply upd_ageMeasure
    | with_reducible apply upd_scapStart
    | with_reducible apply upd_store
    | intro _
    | with_reducible apply upd_ite
    | with_reducible apply upd_ite_fst
    | with_reducible apply upd_ite_snd
    | split
    | with_reducible refine Upd.mk' ?_ rfl ?_ ?_ ?_ ?_

theorem upd_ioWrite {s₀ s : State} (h : Upd s₀ s) (o : Nat) (v : Word) : Upd s₀ (State.ioWrite s o v) := by
  unfold State.ioWrite
  repeat' first
    | with_reducible assumption
    | with_reducible exact fun w => w
    | with_reducible exact Nat.le_refl _
    | with_reducible exact Nat.le_add_right _ _
    | with_reducible apply upd_coCmdWrite
    | with_reducible apply upd_store
    | with_reducible apply upd_diCfg
    | with_reducible apply upd_coSense
    | with_reducible apply upd_foldl
    | intro _
    | (extract_lets +onlyGivenNames t; first
      | (refine Upd.cut (s := s₀) (t := t) ?_ ?_; subst t; rotate_left; intro _; clear_value t)
      | (refine Upd.cut (s := s₀) (t := t.2) ?_ ?_; subst t; rotate_left; intro _; clear_value t)
      | (refine Upd.cut (s := s₀) (t := t.1) ?_ ?_; subst t; rotate_left; intro _; clear_value t)
      | subst t)
    | with_reducible apply upd_ite
    | with_reducible apply upd_ite_fst
    | with_reducible apply upd_ite_snd
    | split

theorem upd_dbgWrite {s₀ s : State} (h : Upd s₀ s) (o : Nat) (v : Word) : Upd s₀ (State.dbgWrite s o v) := by
  unfold State.dbgWrite
  repeat' first
    | with_reducible assumption
    | with_reducible exact fun w => w
    | with_reducible exact Nat.le_refl _
    | with_reducible exact Nat.le_add_right _ _
    | with_reducible apply upd_dbgNewChal
    | with_reducible apply upd_dbgRequest
    | with_reducible apply upd_dbgLevel
    | intro _
    | (extract_lets +onlyGivenNames t; first
      | (refine Upd.cut (s := s₀) (t := t) ?_ ?_; subst t; rotate_left; intro _; clear_value t)
      | (refine Upd.cut (s := s₀) (t := t.2) ?_ ?_; subst t; rotate_left; intro _; clear_value t)
      | (refine Upd.cut (s := s₀) (t := t.1) ?_ ?_; subst t; rotate_left; intro _; clear_value t)
      | subst t)
    | with_reducible apply upd_ite
    | with_reducible apply upd_ite_fst
    | with_reducible apply upd_ite_snd
    | (with_reducible refine id (?_ : Upd _ _); dsimp -zeta only [])
    | split
    | with_reducible refine Upd.mk' ?_ rfl ?_ ?_ ?_ ?_

theorem upd_blockWrite {s₀ s : State} (h : Upd s₀ s) (ini : Nat) (p : Nat) (o : Nat) (v : Word) : Upd s₀ (State.blockWrite s ini p o v) := by
  unfold State.blockWrite
  repeat' first
    | with_reducible assumption
    | with_reducible exact fun w => w
    | with_reducible exact Nat.le_refl _
    | with_reducible exact Nat.le_add_right _ _
    | with_reducible apply upd_startReset
    | with_reducible apply upd_store
    | with_reducible apply upd_tickWrite
    | with_reducible apply upd_hatchgWrite
    | with_reducible apply upd_groupWrite
    | with_reducible apply upd_nodeWrite
    | with_reducible apply upd_fbWrite
    | with_reducible apply upd_traceWrite
    | with_reducible apply upd_calWrite
    | with_reducible apply upd_rtcWrite
    | with_reducible apply upd_timeWrite
    | with_reducible apply upd_schedWrite
    | with_reducible apply upd_swWrite
    | with_reducible apply upd_persist
    | with_reducible apply upd_iuWrite
    | with_reducible apply upd_iucWrite
    | with_reducible apply upd_qmWrite
    | with_reducible apply upd_qmqWrite
    | with_reducible apply upd_pcieWrite
    | with_reducible apply upd_pairWrite
    | with_reducible apply upd_witWrite
    | with_reducible apply upd_groundWrite
    | with_reducible apply upd_tampWrite
    | with_reducible apply upd_updWrite
    | with_reducible apply upd_recWrite
    | with_reducible apply upd_fresh
    | with_reducible apply upd_ageWrite
    | with_reducible apply upd_pwrCmd
    | with_reducible apply upd_bootCmd
    | with_reducible apply upd_kick
    | with_reducible apply upd_ioWrite
    | with_reducible apply upd_dbgWrite
    | intro _
    | with_reducible apply upd_ite
    | with_reducible apply upd_ite_fst
    | with_reducible apply upd_ite_snd
    | split

theorem upd_moWrite {s₀ s : State} (h : Upd s₀ s) (b : Nat) (o : Nat) (v : Word) : Upd s₀ (State.moWrite s b o v) := by
  unfold State.moWrite
  repeat' first
    | with_reducible assumption
    | with_reducible exact fun w => w
    | with_reducible exact Nat.le_refl _
    | with_reducible exact Nat.le_add_right _ _
    | with_reducible apply upd_wr
    | with_reducible apply upd_moCtlWrite
    | intro _
    | (extract_lets +onlyGivenNames t; first
      | (refine Upd.cut (s := s₀) (t := t) ?_ ?_; subst t; rotate_left; intro _; clear_value t)
      | (refine Upd.cut (s := s₀) (t := t.2) ?_ ?_; subst t; rotate_left; intro _; clear_value t)
      | (refine Upd.cut (s := s₀) (t := t.1) ?_ ?_; subst t; rotate_left; intro _; clear_value t)
      | subst t)
    | with_reducible apply upd_ite
    | with_reducible apply upd_ite_fst
    | with_reducible apply upd_ite_snd
    | split

end Sys2Proof.Machine
end

