-- ==== Sys2Proof/Laws/UpdAccess.lean ====
section
/-! SUPPORT. The operations of Machine/Access.lean as updates. -/

namespace Sys2Proof.Machine

theorem upd_capture {s₀ s : State} (h : Upd s₀ s) (ini : Nat) (p : Nat) (o : Nat) (write : Bool) (code : Nat) : Upd s₀ (State.capture s ini p o write code) := by
  unfold State.capture
  repeat' first
    | with_reducible assumption
    | with_reducible exact fun w => w
    | with_reducible exact Nat.le_refl _
    | with_reducible exact Nat.le_add_right _ _
    | with_reducible apply upd_put
    | with_reducible apply upd_wr
    | with_reducible apply upd_irq
    | intro _
    | (extract_lets +onlyGivenNames t; first
      | (refine Upd.cut (s := s₀) (t := t) ?_ ?_; subst t; rotate_left; intro _; clear_value t)
      | (refine Upd.cut (s := s₀) (t := t.2) ?_ ?_; subst t; rotate_left; intro _; clear_value t)
      | (refine Upd.cut (s := s₀) (t := t.1) ?_ ?_; subst t; rotate_left; intro _; clear_value t)
      | subst t)
    | with_reducible apply upd_ite
    | with_reducible apply upd_ite_fst
    | with_reducible apply upd_ite_snd
    | split
    | with_reducible refine Upd.mk' ?_ rfl ?_ ?_ ?_ ?_

theorem upd_captureSys {s₀ s : State} (h : Upd s₀ s) (ini : Nat) (write : Bool) (code : Nat) (a : Nat) : Upd s₀ (State.captureSys s ini write code a) := by
  unfold State.captureSys
  repeat' first
    | with_reducible assumption
    | with_reducible exact fun w => w
    | with_reducible exact Nat.le_refl _
    | with_reducible exact Nat.le_add_right _ _
    | with_reducible apply upd_wr
    | with_reducible apply upd_irq
    | with_reducible apply upd_put
    | intro _
    | (extract_lets +onlyGivenNames t; first
      | (refine Upd.cut (s := s₀) (t := t) ?_ ?_; subst t; rotate_left; intro _; clear_value t)
      | (refine Upd.cut (s := s₀) (t := t.2) ?_ ?_; subst t; rotate_left; intro _; clear_value t)
      | (refine Upd.cut (s := s₀) (t := t.1) ?_ ?_; subst t; rotate_left; intro _; clear_value t)
      | subst t)
    | with_reducible apply upd_ite
    | with_reducible apply upd_ite_fst
    | with_reducible apply upd_ite_snd
    | split
    | with_reducible refine Upd.mk' ?_ rfl ?_ ?_ ?_ ?_

theorem upd_respond {s₀ s : State} (h : Upd s₀ s) (data : Word) (err : Bool) : Upd s₀ (State.respond s data err) := by
  unfold State.respond
  repeat' first
    | with_reducible assumption
    | with_reducible exact fun w => w
    | with_reducible exact Nat.le_refl _
    | with_reducible exact Nat.le_add_right _ _
    | intro _
    | split
    | with_reducible refine Upd.mk' ?_ rfl ?_ ?_ ?_ ?_

theorem upd_setUnlock {s₀ s : State} (h : Upd s₀ s) (p : Nat) (x : Option Nat) : Upd s₀ (State.setUnlock s p x) := by
  unfold State.setUnlock
  repeat' first
    | with_reducible assumption
    | with_reducible exact fun w => w
    | with_reducible exact Nat.le_refl _
    | with_reducible exact Nat.le_add_right _ _
    | intro _
    | (with_reducible refine id (?_ : Upd _ _); dsimp -zeta only [])
    | split
    | with_reducible refine Upd.mk' ?_ rfl ?_ ?_ ?_ ?_

theorem upd_lockWrite {s₀ s : State} (h : Upd s₀ s) (ini : Nat) (p : Nat) (v : Word) : Upd s₀ (State.lockWrite s ini p v) := by
  unfold State.lockWrite
  repeat' first
    | with_reducible assumption
    | with_reducible exact fun w => w
    | with_reducible exact Nat.le_refl _
    | with_reducible exact Nat.le_add_right _ _
    | with_reducible apply upd_setUnlock
    | intro _
    | with_reducible apply upd_ite
    | with_reducible apply upd_ite_fst
    | with_reducible apply upd_ite_snd
    | split

theorem upd_lockExpire {s₀ s : State} (h : Upd s₀ s) (p : Nat) : Upd s₀ (State.lockExpire s p) := by
  unfold State.lockExpire
  repeat' first
    | with_reducible assumption
    | with_reducible exact fun w => w
    | with_reducible exact Nat.le_refl _
    | with_reducible exact Nat.le_add_right _ _
    | with_reducible apply upd_setUnlock
    | intro _
    | split

theorem upd_useLock {s₀ s : State} (h : Upd s₀ s) (ini : Nat) (p : Nat) : Upd s₀ (State.useLock s ini p) := by
  unfold State.useLock
  repeat' first
    | with_reducible assumption
    | with_reducible exact fun w => w
    | with_reducible exact Nat.le_refl _
    | with_reducible exact Nat.le_add_right _ _
    | with_reducible apply upd_setUnlock
    | intro _
    | with_reducible apply upd_ite
    | with_reducible apply upd_ite_fst
    | with_reducible apply upd_ite_snd
    | split

theorem upd_errorRsp {s₀ s : State} (h : Upd s₀ s) (ini a : Nat) (write : Bool) (e : Nat × Bool)
    : Upd s₀ (State.errorRsp s ini a write e) := by
  unfold State.errorRsp
  repeat' first
    | with_reducible assumption
    | with_reducible exact fun w => w
    | with_reducible exact Nat.le_refl _
    | with_reducible exact Nat.le_add_right _ _
    | with_reducible apply upd_captureSys
    | with_reducible apply upd_capture
    | with_reducible apply upd_useLock
    | with_reducible apply upd_respond
    | with_reducible refine upd_snd (by with_reducible assumption) ?_
    | with_reducible refine upd_fst (by with_reducible assumption) ?_
    | intro _
    | (extract_lets +onlyGivenNames t; first
      | (refine Upd.cut (s := s₀) (t := t) ?_ ?_; subst t; rotate_left; intro _; clear_value t)
      | (refine Upd.cut (s := s₀) (t := t.2) ?_ ?_; subst t; rotate_left; intro _; clear_value t)
      | (refine Upd.cut (s := s₀) (t := t.1) ?_ ?_; subst t; rotate_left; intro _; clear_value t)
      | subst t)
    | with_reducible apply upd_ite
    | with_reducible apply upd_ite_fst
    | with_reducible apply upd_ite_snd
    | split

theorem upd_applyWrite {s₀ s : State} (h : Upd s₀ s) (ini : Nat) (p : Nat) (o : Nat) (v : Word) : Upd s₀ (State.applyWrite s ini p o v) := by
  unfold State.applyWrite
  repeat' first
    | with_reducible assumption
    | with_reducible refine upd_snd (by with_reducible assumption) ?_
    | with_reducible refine upd_fst (by with_reducible assumption) ?_
    | with_reducible exact fun w => w
    | with_reducible exact Nat.le_refl _
    | with_reducible exact Nat.le_add_right _ _
    | with_reducible apply upd_capture
    | with_reducible apply upd_moWrite
    | with_reducible apply upd_headerWrite
    | with_reducible apply upd_blockWrite
    | intro _
    | (extract_lets +onlyGivenNames t; first
      | (refine Upd.cut (s := s₀) (t := t) ?_ ?_; subst t; rotate_left; intro _; clear_value t)
      | (refine Upd.cut (s := s₀) (t := t.2) ?_ ?_; subst t; rotate_left; intro _; clear_value t)
      | (refine Upd.cut (s := s₀) (t := t.1) ?_ ?_; subst t; rotate_left; intro _; clear_value t)
      | subst t)
    | with_reducible apply upd_ite
    | with_reducible apply upd_ite_fst
    | with_reducible apply upd_ite_snd
    | split

theorem upd_wrote {s₀ s : State} (h : Upd s₀ s) (a : Nat) (v : Word) : Upd s₀ (State.wrote s a v) := by
  unfold State.wrote
  repeat' first
    | with_reducible assumption
    | with_reducible exact fun w => w
    | with_reducible exact Nat.le_refl _
    | with_reducible exact Nat.le_add_right _ _
    | with_reducible apply upd_countIn
    | with_reducible apply upd_mirrorOut
    | intro _
    | (extract_lets +onlyGivenNames t; first
      | (refine Upd.cut (s := s₀) (t := t) ?_ ?_; subst t; rotate_left; intro _; clear_value t)
      | (refine Upd.cut (s := s₀) (t := t.2) ?_ ?_; subst t; rotate_left; intro _; clear_value t)
      | (refine Upd.cut (s := s₀) (t := t.1) ?_ ?_; subst t; rotate_left; intro _; clear_value t)
      | subst t)
    | with_reducible apply upd_ite
    | with_reducible apply upd_ite_fst
    | with_reducible apply upd_ite_snd
    | split

theorem upd_writeReg {s₀ s : State} (h : Upd s₀ s) (ini a : Nat) (v : Word) : Upd s₀ (State.writeReg s ini a v) := by
  unfold State.writeReg
  repeat' first
    | with_reducible assumption
    | with_reducible exact fun w => w
    | with_reducible exact Nat.le_refl _
    | with_reducible exact Nat.le_add_right _ _
    | with_reducible apply upd_respond
    | with_reducible apply upd_lockWrite
    | with_reducible apply upd_useLock
    | with_reducible apply upd_capture
    | with_reducible apply upd_mbxPush
    | with_reducible apply upd_applyWrite
    | with_reducible apply upd_wrote
    | with_reducible refine upd_snd (by with_reducible assumption) ?_
    | with_reducible refine upd_fst (by with_reducible assumption) ?_
    | intro _
    | (extract_lets +onlyGivenNames t; first
      | (refine Upd.cut (s := s₀) (t := t) ?_ ?_; subst t; rotate_left; intro _; clear_value t)
      | (refine Upd.cut (s := s₀) (t := t.2) ?_ ?_; subst t; rotate_left; intro _; clear_value t)
      | (refine Upd.cut (s := s₀) (t := t.1) ?_ ?_; subst t; rotate_left; intro _; clear_value t)
      | subst t)
    | with_reducible apply upd_ite
    | with_reducible apply upd_ite_fst
    | with_reducible apply upd_ite_snd
    | (with_reducible refine id (?_ : Upd _ _); dsimp -zeta only [])
    | split
    | with_reducible refine Upd.mk' ?_ rfl ?_ ?_ ?_ ?_

theorem upd_busWrite {s₀ s : State} (h : Upd s₀ s) (ini : Nat) (a : Nat) (size : Nat) (v : Word) : Upd s₀ (State.busWrite s ini a size v) := by
  unfold State.busWrite
  repeat' first
    | with_reducible assumption
    | with_reducible refine upd_snd (by with_reducible assumption) ?_
    | with_reducible refine upd_fst (by with_reducible assumption) ?_
    | with_reducible exact fun w => w
    | with_reducible exact Nat.le_refl _
    | with_reducible exact Nat.le_add_right _ _
    | with_reducible apply upd_respond
    | with_reducible apply upd_errorRsp
    | with_reducible apply upd_writeReg
    | intro _
    | (extract_lets +onlyGivenNames t; first
      | (refine Upd.cut (s := s₀) (t := t) ?_ ?_; subst t; rotate_left; intro _; clear_value t)
      | (refine Upd.cut (s := s₀) (t := t.2) ?_ ?_; subst t; rotate_left; intro _; clear_value t)
      | (refine Upd.cut (s := s₀) (t := t.1) ?_ ?_; subst t; rotate_left; intro _; clear_value t)
      | subst t)
    | with_reducible apply upd_ite
    | with_reducible apply upd_ite_fst
    | with_reducible apply upd_ite_snd
    | split

theorem upd_mirrorWrite {s₀ s : State} (h : Upd s₀ s) (a : Nat) (v : Word) : Upd s₀ (State.mirrorWrite s a v) := by
  unfold State.mirrorWrite
  repeat' first
    | with_reducible assumption
    | with_reducible exact fun w => w
    | with_reducible exact Nat.le_refl _
    | with_reducible exact Nat.le_add_right _ _
    | with_reducible apply upd_applyWrite
    | with_reducible apply upd_put
    | with_reducible refine upd_snd (by with_reducible assumption) ?_
    | with_reducible refine upd_fst (by with_reducible assumption) ?_
    | intro _
    | (extract_lets +onlyGivenNames t; first
      | (refine Upd.cut (s := s₀) (t := t) ?_ ?_; subst t; rotate_left; intro _; clear_value t)
      | (refine Upd.cut (s := s₀) (t := t.2) ?_ ?_; subst t; rotate_left; intro _; clear_value t)
      | (refine Upd.cut (s := s₀) (t := t.1) ?_ ?_; subst t; rotate_left; intro _; clear_value t)
      | subst t)
    | with_reducible apply upd_ite
    | with_reducible apply upd_ite_fst
    | with_reducible apply upd_ite_snd
    | (with_reducible refine id (?_ : Upd _ _); dsimp -zeta only [])
    | split
    | with_reducible refine Upd.mk' ?_ rfl ?_ ?_ ?_ ?_

theorem upd_releaseHeld {s₀ s : State} (h : Upd s₀ s) (p : Nat) : Upd s₀ (State.releaseHeld s p) := by
  unfold State.releaseHeld
  repeat' first
    | with_reducible assumption
    | with_reducible exact fun w => w
    | with_reducible exact Nat.le_refl _
    | with_reducible exact Nat.le_add_right _ _
    | with_reducible apply upd_applyWrite
    | with_reducible refine upd_snd (by with_reducible assumption) ?_
    | with_reducible refine upd_fst (by with_reducible assumption) ?_
    | with_reducible apply upd_foldl
    | with_reducible apply upd_foldl_fst
    | with_reducible apply upd_foldl_snd
    | intro _
    | (extract_lets +onlyGivenNames t; first
      | (refine Upd.cut (s := s₀) (t := t) ?_ ?_; subst t; rotate_left; intro _; clear_value t)
      | (refine Upd.cut (s := s₀) (t := t.2) ?_ ?_; subst t; rotate_left; intro _; clear_value t)
      | (refine Upd.cut (s := s₀) (t := t.1) ?_ ?_; subst t; rotate_left; intro _; clear_value t)
      | subst t)
    | (with_reducible refine id (?_ : Upd _ _); dsimp -zeta only [])
    | split
    | with_reducible refine Upd.mk' ?_ rfl ?_ ?_ ?_ ?_

theorem upd_blockFlushDone {s₀ s : State} (h : Upd s₀ s) (p : Nat) : Upd s₀ (State.blockFlushDone s p) := by
  unfold State.blockFlushDone
  repeat' first
    | with_reducible assumption
    | with_reducible exact fun w => w
    | with_reducible exact Nat.le_refl _
    | with_reducible exact Nat.le_add_right _ _
    | with_reducible apply upd_put
    | with_reducible apply upd_releaseHeld
    | intro _
    | split

theorem upd_blockResetDone {s₀ s : State} (h : Upd s₀ s) (p : Nat) : Upd s₀ (State.blockResetDone s p) := by
  unfold State.blockResetDone
  repeat' first
    | with_reducible assumption
    | with_reducible exact fun w => w
    | with_reducible exact Nat.le_refl _
    | with_reducible exact Nat.le_add_right _ _
    | with_reducible apply upd_put
    | with_reducible apply upd_releaseHeld
    | intro _
    | split

theorem upd_setLatch {s₀ s : State} (h : Upd s₀ s) (ini : Nat) (p : Nat) (o : Nat) (w : Word) : Upd s₀ (State.setLatch s ini p o w) := by
  unfold State.setLatch
  repeat' first
    | with_reducible assumption
    | with_reducible exact fun w => w
    | with_reducible exact Nat.le_refl _
    | with_reducible exact Nat.le_add_right _ _
    | intro _
    | (with_reducible refine id (?_ : Upd _ _); dsimp -zeta only [])
    | split
    | with_reducible refine Upd.mk' ?_ rfl ?_ ?_ ?_ ?_

theorem upd_takeSnapshot {s₀ s : State} (h : Upd s₀ s) (ini p o : Nat) : Upd s₀ (State.takeSnapshot s ini p o) := by
  unfold State.takeSnapshot
  repeat' first
    | with_reducible assumption
    | with_reducible exact fun w => w
    | with_reducible exact Nat.le_refl _
    | with_reducible exact Nat.le_add_right _ _
    | with_reducible apply upd_rtcDraw
    | with_reducible apply upd_drawOfs
    | with_reducible apply upd_setLatch
    | with_reducible refine upd_snd (by with_reducible assumption) ?_
    | with_reducible refine upd_fst (by with_reducible assumption) ?_
    | with_reducible apply upd_foldl
    | with_reducible apply upd_foldl_fst
    | with_reducible apply upd_foldl_snd
    | intro _
    | (extract_lets +onlyGivenNames t; first
      | (refine Upd.cut (s := s₀) (t := t) ?_ ?_; subst t; rotate_left; intro _; clear_value t)
      | (refine Upd.cut (s := s₀) (t := t.2) ?_ ?_; subst t; rotate_left; intro _; clear_value t)
      | (refine Upd.cut (s := s₀) (t := t.1) ?_ ?_; subst t; rotate_left; intro _; clear_value t)
      | subst t)
    | with_reducible apply upd_ite
    | with_reducible apply upd_ite_fst
    | with_reducible apply upd_ite_snd
    | split

theorem upd_popRead {s₀ s t : State} (h : Upd s₀ s) (ini p o : Nat) (w : Word) (e : s.popRead ini p o = some (w, t)) :
    Upd s₀ t := by
  unfold State.popRead at e
  extract_lets t1 t2 at e
  have h1 : Upd s₀ t1 := upd_qCheck h _
  have h2 : Upd s₀ t2 := upd_recLatch h _
  repeat' split at e
  · exact upd_snd (Option.some.inj e) (upd_qPop h _ _)
  · exact upd_snd (Option.some.inj e) h1
  · exact upd_snd (Option.some.inj e) (upd_plateWin h)
  · exact upd_snd (Option.some.inj e) (upd_mbxPop h)
  · exact upd_snd (Option.some.inj e) (upd_metHarmNext h _)
  · exact upd_snd (Option.some.inj e) h2
  · exact upd_snd (Option.some.inj e) (upd_recAdvance h _)
  · exact upd_snd (Option.some.inj e) (upd_drawOfs h)
  · cases e

theorem upd_entNext {s₀ s : State} (h : Upd s₀ s) (p : Nat) (o : Nat) : Upd s₀ (State.entNext s p o) := by
  unfold State.entNext
  repeat' first
    | with_reducible assumption
    | with_reducible exact fun w => w
    | with_reducible exact Nat.le_refl _
    | with_reducible exact Nat.le_add_right _ _
    | with_reducible apply upd_put
    | intro _
    | with_reducible apply upd_ite
    | with_reducible apply upd_ite_fst
    | with_reducible apply upd_ite_snd
    | split

theorem upd_readReg {s₀ s : State} (h : Upd s₀ s) (ini a : Nat) : Upd s₀ (s.readReg ini a).2 := by
  unfold State.readReg
  extract_lets p o
  cases e : s.popRead ini p o
  · have ht := upd_takeSnapshot h ini p o
    exact upd_entNext (upd_ite (upd_wr ht _ _) ht) _ _
  · rename_i r
    exact upd_popRead h ini p o r.1 e

theorem upd_busRead {s₀ s : State} (h : Upd s₀ s) (ini : Nat) (a : Nat) (size : Nat) : Upd s₀ (State.busRead s ini a size) := by
  unfold State.busRead
  repeat' first
    | with_reducible assumption
    | with_reducible refine upd_snd (by with_reducible assumption) ?_
    | with_reducible refine upd_fst (by with_reducible assumption) ?_
    | with_reducible exact fun w => w
    | with_reducible exact Nat.le_refl _
    | with_reducible exact Nat.le_add_right _ _
    | with_reducible apply upd_respond
    | with_reducible apply upd_errorRsp
    | with_reducible apply upd_readReg
    | intro _
    | (extract_lets +onlyGivenNames t; first
      | (refine Upd.cut (s := s₀) (t := t) ?_ ?_; subst t; rotate_left; intro _; clear_value t)
      | (refine Upd.cut (s := s₀) (t := t.2) ?_ ?_; subst t; rotate_left; intro _; clear_value t)
      | (refine Upd.cut (s := s₀) (t := t.1) ?_ ?_; subst t; rotate_left; intro _; clear_value t)
      | subst t)
    | with_reducible apply upd_ite
    | with_reducible apply upd_ite_fst
    | with_reducible apply upd_ite_snd
    | split

theorem upd_accessTimeout {s₀ s : State} (h : Upd s₀ s) (ini a : Nat) (write : Bool)
    : Upd s₀ (State.accessTimeout s ini a write) := by
  unfold State.accessTimeout
  repeat' first
    | with_reducible assumption
    | with_reducible exact fun w => w
    | with_reducible exact Nat.le_refl _
    | with_reducible exact Nat.le_add_right _ _
    | with_reducible apply upd_errorRsp
    | with_reducible refine upd_snd (by with_reducible assumption) ?_
    | with_reducible refine upd_fst (by with_reducible assumption) ?_
    | intro _
    | (extract_lets +onlyGivenNames t; first
      | (refine Upd.cut (s := s₀) (t := t) ?_ ?_; subst t; rotate_left; intro _; clear_value t)
      | (refine Upd.cut (s := s₀) (t := t.2) ?_ ?_; subst t; rotate_left; intro _; clear_value t)
      | (refine Upd.cut (s := s₀) (t := t.1) ?_ ?_; subst t; rotate_left; intro _; clear_value t)
      | subst t)
    | with_reducible apply upd_ite
    | with_reducible apply upd_ite_fst
    | with_reducible apply upd_ite_snd
    | (with_reducible refine id (?_ : Upd _ _); dsimp -zeta only [])
    | split

end Sys2Proof.Machine
end

