-- ==== Sys2Proof/Laws/UpdEdge.lean ====
section
/-! SUPPORT. The operations of Machine/Edge.lean as updates. -/

namespace Sys2Proof.Machine

theorem upd_freeze {s₀ s : State} (h : Upd s₀ s) (upTo : Nat → Nat → Bool) : Upd s₀ (State.freeze s upTo) := by
  unfold State.freeze
  repeat' first
    | with_reducible assumption
    | with_reducible exact fun w => w
    | with_reducible exact Nat.le_refl _
    | with_reducible exact Nat.le_add_right _ _
    | with_reducible apply upd_nodeFreeze
    | with_reducible apply upd_schedFreeze
    | with_reducible apply upd_put
    | with_reducible refine upd_snd (by with_reducible assumption) ?_
    | with_reducible refine upd_fst (by with_reducible assumption) ?_
    | intro _
    | (extract_lets +onlyGivenNames t; first
      | (refine Upd.cut (s := s₀) (t := t) ?_ ?_; subst t; rotate_left; intro _; clear_value t)
      | (refine Upd.cut (s := s₀) (t := t.2) ?_ ?_; subst t; rotate_left; intro _; clear_value t)
      | (refine Upd.cut (s := s₀) (t := t.1) ?_ ?_; subst t; rotate_left; intro _; clear_value t)
      | subst t)
    | (with_reducible refine id (?_ : Upd _ _); dsimp -zeta only [])
    | split
    | with_reducible refine Upd.mk' ?_ rfl ?_ ?_ ?_ ?_

theorem upd_coFreezeFrom {s₀ s : State} (h : Upd s₀ s) (l : List Bool) : Upd s₀ (State.coFreezeFrom s l) := by
  unfold State.coFreezeFrom
  repeat' first
    | with_reducible assumption
    | with_reducible exact fun w => w
    | with_reducible exact Nat.le_refl _
    | with_reducible exact Nat.le_add_right _ _
    | with_reducible apply upd_coFreezeAs
    | intro _
    | split

theorem upd_edgeTable {s₀ s : State} (h : Upd s₀ s) : Upd s₀ s.edgeTable := by
  unfold State.edgeTable
  extract_lets t
  have ht : Upd s₀ t := upd_graphSwap (upd_nodeEdge h)
  exact ⟨ht.pending, ht.free, ht.ns, fun k => ⟨(ht.regs k).1, (ht.regs k).1⟩, ht.lc⟩

theorem upd_edgeSched {s₀ s : State} (h : Upd s₀ s) (first : Bool) : Upd s₀ (State.edgeSched s first) := by
  unfold State.edgeSched
  repeat' first
    | with_reducible assumption
    | with_reducible exact fun w => w
    | with_reducible exact Nat.le_refl _
    | with_reducible exact Nat.le_add_right _ _
    | with_reducible apply upd_schedEdge
    | with_reducible apply upd_coDrop
    | with_reducible apply upd_coApply
    | intro _
    | (extract_lets +onlyGivenNames t; first
      | (refine Upd.cut (s := s₀) (t := t) ?_ ?_; subst t; rotate_left; intro _; clear_value t)
      | (refine Upd.cut (s := s₀) (t := t.2) ?_ ?_; subst t; rotate_left; intro _; clear_value t)
      | (refine Upd.cut (s := s₀) (t := t.1) ?_ ?_; subst t; rotate_left; intro _; clear_value t)
      | subst t)
    | with_reducible apply upd_ite
    | with_reducible apply upd_ite_fst
    | with_reducible apply upd_ite_snd
    | split

theorem upd_edgeRest {s₀ s : State} (h : Upd s₀ s) (old : Nat) (cur : List Nat) : Upd s₀ (State.edgeRest s old cur) := by
  unfold State.edgeRest
  repeat' first
    | with_reducible assumption
    | with_reducible exact fun w => w
    | with_reducible exact Nat.le_refl _
    | with_reducible exact Nat.le_add_right _ _
    | with_reducible apply upd_keyEdge
    | with_reducible apply upd_rolloutStart
    | with_reducible apply upd_rolloutEdge
    | with_reducible apply upd_calEdge
    | with_reducible apply upd_traceEdge
    | with_reducible apply upd_reconEdge
    | with_reducible apply upd_updEdge
    | with_reducible apply upd_foldl
    | with_reducible apply upd_foldl_fst
    | with_reducible apply upd_foldl_snd
    | intro _
    | (extract_lets +onlyGivenNames t; first
      | (refine Upd.cut (s := s₀) (t := t) ?_ ?_; subst t; rotate_left; intro _; clear_value t)
      | (refine Upd.cut (s := s₀) (t := t.2) ?_ ?_; subst t; rotate_left; intro _; clear_value t)
      | (refine Upd.cut (s := s₀) (t := t.1) ?_ ?_; subst t; rotate_left; intro _; clear_value t)
      | subst t)
    | with_reducible apply upd_ite
    | with_reducible apply upd_ite_fst
    | with_reducible apply upd_ite_snd
    | split
    | with_reducible refine Upd.mk' ?_ rfl ?_ ?_ ?_ ?_

theorem upd_firstEdge {s₀ s : State} (h : Upd s₀ s) : Upd s₀ (State.firstEdge s) := by
  unfold State.firstEdge
  repeat' first
    | with_reducible assumption
    | with_reducible exact fun w => w
    | with_reducible exact Nat.le_refl _
    | with_reducible exact Nat.le_add_right _ _
    | with_reducible apply upd_pairFirst
    | with_reducible apply upd_coInitialRead
    | with_reducible apply upd_fvFirst
    | with_reducible apply upd_nodeBoot
    | with_reducible apply upd_foldl
    | intro _
    | (extract_lets +onlyGivenNames t; first
      | (refine Upd.cut (s := s₀) (t := t) ?_ ?_; subst t; rotate_left; intro _; clear_value t)
      | (refine Upd.cut (s := s₀) (t := t.2) ?_ ?_; subst t; rotate_left; intro _; clear_value t)
      | (refine Upd.cut (s := s₀) (t := t.1) ?_ ?_; subst t; rotate_left; intro _; clear_value t)
      | subst t)
    | split

theorem upd_edgeMark {s₀ s : State} (h : Upd s₀ s) : Upd s₀ (State.edgeMark s) := by
  unfold State.edgeMark
  repeat' first
    | with_reducible assumption
    | with_reducible exact fun w => w
    | with_reducible exact Nat.le_refl _
    | with_reducible exact Nat.le_add_right _ _
    | with_reducible apply upd_modPair
    | intro _
    | (with_reducible refine id (?_ : Upd _ _); dsimp -zeta only [])
    | split
    | with_reducible refine Upd.mk' ?_ rfl ?_ ?_ ?_ ?_

theorem upd_edgeFlags {s₀ s : State} (h : Upd s₀ s) : Upd s₀ (State.edgeFlags s) := by
  unfold State.edgeFlags
  repeat' first
    | with_reducible assumption
    | with_reducible exact fun w => w
    | with_reducible exact Nat.le_refl _
    | with_reducible exact Nat.le_add_right _ _
    | with_reducible apply upd_modTick
    | with_reducible apply upd_modPair
    | with_reducible apply upd_byellSend
    | intro _
    | (extract_lets +onlyGivenNames t; first
      | (refine Upd.cut (s := s₀) (t := t) ?_ ?_; subst t; rotate_left; intro _; clear_value t)
      | (refine Upd.cut (s := s₀) (t := t.2) ?_ ?_; subst t; rotate_left; intro _; clear_value t)
      | (refine Upd.cut (s := s₀) (t := t.1) ?_ ?_; subst t; rotate_left; intro _; clear_value t)
      | subst t)
    | with_reducible apply upd_ite
    | with_reducible apply upd_ite_fst
    | with_reducible apply upd_ite_snd
    | (with_reducible refine id (?_ : Upd _ _); dsimp -zeta only [])
    | split
    | with_reducible refine Upd.mk' ?_ rfl ?_ ?_ ?_ ?_

theorem upd_edgeFull {s₀ s : State} (h : Upd s₀ s) (first : Bool) (old : Nat) (cur : List Nat)
    : Upd s₀ (State.edgeFull s first old cur) := by
  unfold State.edgeFull
  repeat' first
    | with_reducible assumption
    | with_reducible exact fun w => w
    | with_reducible exact Nat.le_refl _
    | with_reducible exact Nat.le_add_right _ _
    | with_reducible apply upd_freeze
    | with_reducible apply upd_put
    | with_reducible apply upd_edgeTable
    | with_reducible apply upd_edgeModes
    | with_reducible apply upd_firstEdge
    | with_reducible apply upd_coFreeze
    | with_reducible apply upd_edgeSched
    | with_reducible apply upd_edgeRest
    | intro _
    | (extract_lets +onlyGivenNames t; first
      | (refine Upd.cut (s := s₀) (t := t) ?_ ?_; subst t; rotate_left; intro _; clear_value t)
      | (refine Upd.cut (s := s₀) (t := t.2) ?_ ?_; subst t; rotate_left; intro _; clear_value t)
      | (refine Upd.cut (s := s₀) (t := t.1) ?_ ?_; subst t; rotate_left; intro _; clear_value t)
      | subst t)
    | with_reducible apply upd_ite
    | with_reducible apply upd_ite_fst
    | with_reducible apply upd_ite_snd
    | split

theorem upd_edgeSwap {s₀ s : State} (h : Upd s₀ s) : Upd s₀ (State.edgeSwap s) := by
  unfold State.edgeSwap
  repeat' first
    | with_reducible assumption
    | with_reducible exact fun w => w
    | with_reducible exact Nat.le_refl _
    | with_reducible exact Nat.le_add_right _ _
    | with_reducible apply upd_composeDone
    | with_reducible apply upd_plateSwap
    | intro _
    | with_reducible apply upd_ite
    | with_reducible apply upd_ite_fst
    | with_reducible apply upd_ite_snd
    | split

theorem upd_edgeEnd {s₀ s : State} (h : Upd s₀ s) (us : Nat) (err : Int) : Upd s₀ (State.edgeEnd s us err) := by
  unfold State.edgeEnd
  repeat' first
    | with_reducible assumption
    | with_reducible exact fun w => w
    | with_reducible exact Nat.le_refl _
    | with_reducible exact Nat.le_add_right _ _
    | with_reducible apply upd_fbEdge
    | with_reducible apply upd_edgeSteps
    | with_reducible apply upd_edgePhase
    | with_reducible apply upd_edgeFlags
    | with_reducible apply upd_startReset
    | with_reducible apply upd_bootGo
    | with_reducible apply upd_settle
    | with_reducible apply upd_irq
    | with_reducible apply upd_foldl
    | intro _
    | (extract_lets +onlyGivenNames t; first
      | (refine Upd.cut (s := s₀) (t := t) ?_ ?_; subst t; rotate_left; intro _; clear_value t)
      | (refine Upd.cut (s := s₀) (t := t.2) ?_ ?_; subst t; rotate_left; intro _; clear_value t)
      | (refine Upd.cut (s := s₀) (t := t.1) ?_ ?_; subst t; rotate_left; intro _; clear_value t)
      | subst t)
    | with_reducible apply upd_ite
    | with_reducible apply upd_ite_fst
    | with_reducible apply upd_ite_snd
    | (with_reducible refine id (?_ : Upd _ _); dsimp -zeta only [])
    | split
    | with_reducible refine Upd.mk' ?_ rfl ?_ ?_ ?_ ?_

theorem upd_opsecAdvance {s₀ s : State} (h : Upd s₀ s) (before : Nat) : Upd s₀ (State.opsecAdvance s before) := by
  unfold State.opsecAdvance
  repeat' first
    | with_reducible assumption
    | with_reducible exact fun w => w
    | with_reducible exact Nat.le_refl _
    | with_reducible exact Nat.le_add_right _ _
    | intro _
    | (extract_lets +onlyGivenNames t; first
      | (refine Upd.cut (s := s₀) (t := t) ?_ ?_; subst t; rotate_left; intro _; clear_value t)
      | (refine Upd.cut (s := s₀) (t := t.2) ?_ ?_; subst t; rotate_left; intro _; clear_value t)
      | (refine Upd.cut (s := s₀) (t := t.1) ?_ ?_; subst t; rotate_left; intro _; clear_value t)
      | subst t)
    | split
    | with_reducible refine Upd.mk' ?_ rfl ?_ ?_ ?_ ?_

theorem upd_tickEdge {s₀ s : State} (h : Upd s₀ s) (dt : Nat) (err : Int) (cur : List Nat)
    : Upd s₀ (State.tickEdge s dt err cur) := by
  unfold State.tickEdge
  repeat' first
    | with_reducible assumption
    | with_reducible exact fun w => w
    | with_reducible exact Nat.le_refl _
    | with_reducible exact Nat.le_add_right _ _
    | with_reducible apply upd_modPwr
    | with_reducible apply upd_timeAdvance
    | with_reducible apply upd_opsecAdvance
    | with_reducible apply upd_metTick
    | with_reducible apply upd_settle
    | with_reducible apply upd_fbEdgeClose
    | with_reducible apply upd_edgeNumber
    | with_reducible apply upd_edgeSteps
    | with_reducible apply upd_edgePhase
    | with_reducible apply upd_fbEdge
    | with_reducible apply upd_countOverrun
    | with_reducible apply upd_modTick
    | with_reducible apply upd_irq
    | with_reducible apply upd_impMissing
    | with_reducible apply upd_roleEdge
    | with_reducible apply upd_edgeMark
    | with_reducible apply upd_traceUnsent
    | with_reducible apply upd_edgeSwap
    | with_reducible apply upd_pairEdge
    | with_reducible apply upd_edgeModes
    | with_reducible apply upd_edgeFull
    | with_reducible apply upd_edgeEnd
    | with_reducible apply upd_foldl
    | intro _
    | (extract_lets +onlyGivenNames t; first
      | (refine Upd.cut (s := s₀) (t := t) ?_ ?_; subst t; rotate_left; intro _; clear_value t)
      | (refine Upd.cut (s := s₀) (t := t.2) ?_ ?_; subst t; rotate_left; intro _; clear_value t)
      | (refine Upd.cut (s := s₀) (t := t.1) ?_ ?_; subst t; rotate_left; intro _; clear_value t)
      | subst t)
    | with_reducible apply upd_ite
    | with_reducible apply upd_ite_fst
    | with_reducible apply upd_ite_snd
    | (with_reducible refine id (?_ : Upd _ _); dsimp -zeta only [])
    | split
    | with_reducible refine Upd.mk' ?_ rfl ?_ ?_ ?_ ?_

theorem upd_applyMirror {s₀ s : State} (h : Upd s₀ s) (m : MirrorIn) : Upd s₀ (s.applyMirror m) := by
  cases m
  · exact upd_mirrorWrite h _ _
  · exact upd_putIdent h _ _
  · exact upd_putIdent h _ _
  · rw [State.applyMirror]; exact upd_modFb h _ _

theorem upd_takeMirror {s₀ s : State} (h : Upd s₀ s) (upTo : Nat → Bool) : Upd s₀ (State.takeMirror s upTo) := by
  unfold State.takeMirror
  repeat' first
    | with_reducible assumption
    | with_reducible exact fun w => w
    | with_reducible exact Nat.le_refl _
    | with_reducible exact Nat.le_add_right _ _
    | with_reducible apply upd_modPair
    | with_reducible apply upd_applyMirror
    | with_reducible apply upd_foldl
    | with_reducible apply upd_foldl_fst
    | with_reducible apply upd_foldl_snd
    | intro _
    | (extract_lets +onlyGivenNames t; first
      | (refine Upd.cut (s := s₀) (t := t) ?_ ?_; subst t; rotate_left; intro _; clear_value t)
      | (refine Upd.cut (s := s₀) (t := t.2) ?_ ?_; subst t; rotate_left; intro _; clear_value t)
      | (refine Upd.cut (s := s₀) (t := t.1) ?_ ?_; subst t; rotate_left; intro _; clear_value t)
      | subst t)
    | (with_reducible refine id (?_ : Upd _ _); dsimp -zeta only [])
    | split
    | with_reducible refine Upd.mk' ?_ rfl ?_ ?_ ?_ ?_

theorem upd_ownCut {s₀ s : State} (h : Upd s₀ s) : Upd s₀ (State.ownCut s) := by
  unfold State.ownCut
  repeat' first
    | with_reducible assumption
    | with_reducible exact fun w => w
    | with_reducible exact Nat.le_refl _
    | with_reducible exact Nat.le_add_right _ _
    | with_reducible apply upd_takeMirror
    | with_reducible apply upd_freeze
    | with_reducible apply upd_mark
    | with_reducible apply upd_put
    | with_reducible apply upd_modTick
    | with_reducible apply upd_edgeTable
    | with_reducible apply upd_coFreeze
    | with_reducible apply upd_edgeSched
    | with_reducible apply upd_edgeRest
    | intro _
    | (extract_lets +onlyGivenNames t; first
      | (refine Upd.cut (s := s₀) (t := t) ?_ ?_; subst t; rotate_left; intro _; clear_value t)
      | (refine Upd.cut (s := s₀) (t := t.2) ?_ ?_; subst t; rotate_left; intro _; clear_value t)
      | (refine Upd.cut (s := s₀) (t := t.1) ?_ ?_; subst t; rotate_left; intro _; clear_value t)
      | subst t)
    | with_reducible apply upd_ite
    | with_reducible apply upd_ite_fst
    | with_reducible apply upd_ite_snd
    | (with_reducible refine id (?_ : Upd _ _); dsimp -zeta only [])
    | split
    | with_reducible refine Upd.mk' ?_ rfl ?_ ?_ ?_ ?_

theorem upd_cutReceived {s₀ s : State} (h : Upd s₀ s) (m : CutMsg) (ok : Bool)
    : Upd s₀ (State.cutReceived s m ok) := by
  unfold State.cutReceived
  repeat' first
    | with_reducible assumption
    | with_reducible exact fun w => w
    | with_reducible exact Nat.le_refl _
    | with_reducible exact Nat.le_add_right _ _
    | with_reducible apply upd_byellGot
    | with_reducible apply upd_putInt
    | with_reducible apply upd_modPair
    | with_reducible apply upd_fitUpdate
    | with_reducible apply upd_ownCut
    | with_reducible apply upd_takeMirror
    | with_reducible apply upd_freeze
    | with_reducible apply upd_put
    | with_reducible apply upd_modTick
    | with_reducible apply upd_edgeTable
    | with_reducible apply upd_coFreezeFrom
    | with_reducible apply upd_edgeSched
    | with_reducible apply upd_edgeRest
    | intro _
    | (extract_lets +onlyGivenNames t; first
      | (refine Upd.cut (s := s₀) (t := t) ?_ ?_; subst t; rotate_left; intro _; clear_value t)
      | (refine Upd.cut (s := s₀) (t := t.2) ?_ ?_; subst t; rotate_left; intro _; clear_value t)
      | (refine Upd.cut (s := s₀) (t := t.1) ?_ ?_; subst t; rotate_left; intro _; clear_value t)
      | subst t)
    | with_reducible apply upd_ite
    | with_reducible apply upd_ite_fst
    | with_reducible apply upd_ite_snd
    | (with_reducible refine id (?_ : Upd _ _); dsimp -zeta only [])
    | split
    | with_reducible refine Upd.mk' ?_ rfl ?_ ?_ ?_ ?_

end Sys2Proof.Machine
end

