-- ==== Sys2Proof/Laws/UpdBatch.lean ====
section
/-! SUPPORT. The operations of Machine/Batch.lean as updates. -/

namespace Sys2Proof.Machine

theorem upd_batchAccess {s₀ s : State} (h : Upd s₀ s) (ini : Nat) (o : BatchOp) (write : Bool) : Upd s₀ ((State.batchAccess s ini o write).2) := by
  unfold State.batchAccess
  repeat' first
    | with_reducible assumption
    | with_reducible exact fun w => w
    | with_reducible exact Nat.le_refl _
    | with_reducible exact Nat.le_add_right _ _
    | with_reducible apply upd_fresh
    | with_reducible apply upd_busWrite
    | with_reducible apply upd_busRead
    | intro _
    | (extract_lets +onlyGivenNames t; first
      | (refine Upd.cut (s := s₀) (t := t) ?_ ?_; subst t; rotate_left; intro _; clear_value t)
      | (refine Upd.cut (s := s₀) (t := t.2) ?_ ?_; subst t; rotate_left; intro _; clear_value t)
      | (refine Upd.cut (s := s₀) (t := t.1) ?_ ?_; subst t; rotate_left; intro _; clear_value t)
      | subst t)
    | with_reducible apply upd_ite
    | with_reducible apply upd_ite_fst
    | with_reducible apply upd_ite_snd
    | split
    | with_reducible refine Upd.mk' ?_ rfl ?_ ?_ ?_ ?_

theorem upd_batchOp {s₀ s : State} (h : Upd s₀ s) (ini : Nat) (o : BatchOp) : Upd s₀ ((State.batchOp s ini o).2) := by
  unfold State.batchOp
  repeat' first
    | with_reducible assumption
    | with_reducible exact fun w => w
    | with_reducible exact Nat.le_refl _
    | with_reducible exact Nat.le_add_right _ _
    | with_reducible apply upd_batchAccess
    | with_reducible apply upd_fresh
    | intro _
    | (extract_lets +onlyGivenNames t; first
      | (refine Upd.cut (s := s₀) (t := t) ?_ ?_; subst t; rotate_left; intro _; clear_value t)
      | (refine Upd.cut (s := s₀) (t := t.2) ?_ ?_; subst t; rotate_left; intro _; clear_value t)
      | (refine Upd.cut (s := s₀) (t := t.1) ?_ ?_; subst t; rotate_left; intro _; clear_value t)
      | subst t)
    | with_reducible apply upd_ite
    | with_reducible apply upd_ite_fst
    | with_reducible apply upd_ite_snd
    | split
    | with_reducible refine Upd.mk' ?_ rfl ?_ ?_ ?_ ?_

theorem upd_batchRun {s₀ s : State} (h : Upd s₀ s) (ini : Nat) (stop : Bool) (l : List BatchOp) :
    Upd s₀ (State.batchRun ini stop s l).2 := by
  induction l generalizing s with
  | nil => exact h
  | cons o t ih =>
    unfold State.batchRun
    exact upd_ite_snd (upd_batchOp h _ _) (ih (upd_batchOp h _ _))

theorem upd_regBatch {s₀ s : State} (h : Upd s₀ s) (k queued core reqId : Nat) (stop : Bool) (ops : List BatchOp)
    : Upd s₀ (State.regBatch s k queued core reqId stop ops) := by
  unfold State.regBatch
  repeat' first
    | with_reducible assumption
    | with_reducible exact fun w => w
    | with_reducible exact Nat.le_refl _
    | with_reducible exact Nat.le_add_right _ _
    | with_reducible apply upd_store
    | with_reducible apply upd_lspOut
    | with_reducible apply upd_batchRun
    | with_reducible refine upd_snd (by with_reducible assumption) ?_
    | with_reducible refine upd_fst (by with_reducible assumption) ?_
    | intro _
    | (extract_lets +onlyGivenNames t; first
      | (refine Upd.cut (s := s₀) (t := t) ?_ ?_; subst t; rotate_left; intro _; clear_value t)
      | (refine Upd.cut (s := s₀) (t := t.2) ?_ ?_; subst t; rotate_left; intro _; clear_value t)
      | (refine Upd.cut (s := s₀) (t := t.1) ?_ ?_; subst t; rotate_left; intro _; clear_value t)
      | subst t)
    | with_reducible apply upd_ite
    | with_reducible apply upd_ite_fst
    | with_reducible apply upd_ite_snd
    | (with_reducible refine id (?_ : Upd _ _); dsimp -zeta only [])
    | split
    | with_reducible refine Upd.mk' ?_ rfl ?_ ?_ ?_ ?_

theorem upd_lspReceive {s₀ s : State} (h : Upd s₀ s) (k queued core : Nat) (m : List Nat)
    : Upd s₀ (State.lspReceive s k queued core m) := by
  unfold State.lspReceive
  repeat' first
    | with_reducible assumption
    | with_reducible exact fun w => w
    | with_reducible exact Nat.le_refl _
    | with_reducible exact Nat.le_add_right _ _
    | with_reducible apply upd_heardPeer
    | with_reducible apply upd_lspOut
    | with_reducible apply upd_regBatch
    | with_reducible apply upd_eventAck
    | with_reducible refine upd_snd (by with_reducible assumption) ?_
    | with_reducible refine upd_fst (by with_reducible assumption) ?_
    | intro _
    | (extract_lets +onlyGivenNames t; first
      | (refine Upd.cut (s := s₀) (t := t) ?_ ?_; subst t; rotate_left; intro _; clear_value t)
      | (refine Upd.cut (s := s₀) (t := t.2) ?_ ?_; subst t; rotate_left; intro _; clear_value t)
      | (refine Upd.cut (s := s₀) (t := t.1) ?_ ?_; subst t; rotate_left; intro _; clear_value t)
      | subst t)
    | with_reducible apply upd_ite
    | with_reducible apply upd_ite_fst
    | with_reducible apply upd_ite_snd
    | (with_reducible refine id (?_ : Upd _ _); dsimp -zeta only [])
    | split

end Sys2Proof.Machine
end

