-- ==== Sys2Proof/Laws/UpdCmd.lean ====
section
/-! SUPPORT. The operations of Machine/Cmd.lean as updates. -/

namespace Sys2Proof.Machine

theorem upd_ifOk {s₀ s t : State} (h : Upd s₀ s) (c : Bool) (k : Upd s₀ t) : Upd s₀ (s.ifOk c t) := by
  unfold State.ifOk; split <;> assumption

theorem upd_coHoldEnd {s₀ s : State} (h : Upd s₀ s) (j : Nat) : Upd s₀ (State.coHoldEnd s j) := by
  unfold State.coHoldEnd
  repeat' first
    | with_reducible assumption
    | with_reducible exact fun w => w
    | with_reducible exact Nat.le_refl _
    | with_reducible exact Nat.le_add_right _ _
    | with_reducible apply upd_hold
    | with_reducible apply upd_setCo
    | intro _
    | (with_reducible refine id (?_ : Upd _ _); dsimp -zeta only [])
    | split
    | with_reducible refine Upd.mk' ?_ rfl ?_ ?_ ?_ ?_

theorem upd_coExternal {s₀ s : State} (h : Upd s₀ s) (j : Nat) (level : Bool)
    : Upd s₀ (State.coExternal s j level) := by
  unfold State.coExternal
  repeat' first
    | with_reducible assumption
    | with_reducible exact fun w => w
    | with_reducible exact Nat.le_refl _
    | with_reducible exact Nat.le_add_right _ _
    | with_reducible apply upd_rt
    | with_reducible apply upd_coSense
    | intro _
    | (extract_lets +onlyGivenNames t; first
      | (refine Upd.cut (s := s₀) (t := t) ?_ ?_; subst t; rotate_left; intro _; clear_value t)
      | (refine Upd.cut (s := s₀) (t := t.2) ?_ ?_; subst t; rotate_left; intro _; clear_value t)
      | (refine Upd.cut (s := s₀) (t := t.1) ?_ ?_; subst t; rotate_left; intro _; clear_value t)
      | subst t)
    | (with_reducible refine id (?_ : Upd _ _); dsimp -zeta only [])
    | split
    | with_reducible refine Upd.mk' ?_ rfl ?_ ?_ ?_ ?_

theorem upd_holdExpire {s₀ s : State} (h : Upd s₀ s) : Upd s₀ (State.holdExpire s) := by
  unfold State.holdExpire
  repeat' first
    | with_reducible assumption
    | with_reducible exact fun w => w
    | with_reducible exact Nat.le_refl _
    | with_reducible exact Nat.le_add_right _ _
    | with_reducible apply upd_rtcFallback
    | intro _
    | with_reducible apply upd_ite
    | with_reducible apply upd_ite_fst
    | with_reducible apply upd_ite_snd
    | split

theorem upd_rtcHour {s₀ s : State} (h : Upd s₀ s) (cyc : Int) (trim : Option Int)
    : Upd s₀ (State.rtcHour s cyc trim) := by
  unfold State.rtcHour
  repeat' first
    | with_reducible assumption
    | with_reducible exact fun w => w
    | with_reducible exact Nat.le_refl _
    | with_reducible exact Nat.le_add_right _ _
    | with_reducible apply upd_rtcDiscipline
    | with_reducible apply upd_ageMeasure
    | with_reducible refine upd_snd (by with_reducible assumption) ?_
    | with_reducible refine upd_fst (by with_reducible assumption) ?_
    | intro _
    | (extract_lets +onlyGivenNames t; first
      | (refine Upd.cut (s := s₀) (t := t) ?_ ?_; subst t; rotate_left; intro _; clear_value t)
      | (refine Upd.cut (s := s₀) (t := t.2) ?_ ?_; subst t; rotate_left; intro _; clear_value t)
      | (refine Upd.cut (s := s₀) (t := t.1) ?_ ?_; subst t; rotate_left; intro _; clear_value t)
      | subst t)
    | with_reducible apply upd_ite
    | with_reducible apply upd_ite_fst
    | with_reducible apply upd_ite_snd
    | (with_reducible refine id (?_ : Upd _ _); dsimp -zeta only [])
    | split

theorem upd_hostAccess {s₀ s : State} (h : Upd s₀ s) (a size : Nat) (write : Bool) (v : Word)
    : Upd s₀ (State.hostAccess s a size write v) := by
  unfold State.hostAccess
  repeat' first
    | with_reducible assumption
    | with_reducible exact fun w => w
    | with_reducible exact Nat.le_refl _
    | with_reducible exact Nat.le_add_right _ _
    | with_reducible apply upd_hostWake
    | with_reducible apply upd_busWrite
    | with_reducible apply upd_busRead
    | intro _
    | (extract_lets +onlyGivenNames t; first
      | (refine Upd.cut (s := s₀) (t := t) ?_ ?_; subst t; rotate_left; intro _; clear_value t)
      | (refine Upd.cut (s := s₀) (t := t.2) ?_ ?_; subst t; rotate_left; intro _; clear_value t)
      | (refine Upd.cut (s := s₀) (t := t.1) ?_ ?_; subst t; rotate_left; intro _; clear_value t)
      | subst t)
    | with_reducible apply upd_ite
    | with_reducible apply upd_ite_fst
    | with_reducible apply upd_ite_snd
    | split

theorem upd_updGo {s₀ s t : State} (h : Upd s₀ s) (k : Upd s₀ t) : Upd s₀ (s.updGo t) := upd_rt h (upd_ifOk h _ k)

theorem upd_updRun {s₀ s t : State} (h : Upd s₀ s) (k : Upd s₀ t) : Upd s₀ (s.updRun t) := upd_ifOk h _ k

theorem upd_recWritten {s₀ s : State} (h : Upd s₀ s) : Upd s₀ (State.recWritten s) := by
  unfold State.recWritten
  repeat' first
    | with_reducible assumption
    | with_reducible exact fun w => w
    | with_reducible exact Nat.le_refl _
    | with_reducible exact Nat.le_add_right _ _
    | with_reducible apply upd_recWriteDone
    | with_reducible apply upd_lspSendAll
    | intro _
    | (extract_lets +onlyGivenNames t; first
      | (refine Upd.cut (s := s₀) (t := t) ?_ ?_; subst t; rotate_left; intro _; clear_value t)
      | (refine Upd.cut (s := s₀) (t := t.2) ?_ ?_; subst t; rotate_left; intro _; clear_value t)
      | (refine Upd.cut (s := s₀) (t := t.1) ?_ ?_; subst t; rotate_left; intro _; clear_value t)
      | subst t)
    | with_reducible apply upd_ite
    | with_reducible apply upd_ite_fst
    | with_reducible apply upd_ite_snd
    | split

end Sys2Proof.Machine
end

