-- ==== Sys2Proof/Laws/UpdExec.lean ====
section
/-! SUPPORT. Each command's effect as an update, and exec's. -/

namespace Sys2Proof.Machine

theorem upd_execRegisterWrite {ini a size v} {σ τ : State} (h : execRegisterWrite ini a size v σ = .next τ)
    : Upd σ τ := by
  cases h
  repeat' first | with_reducible exact Upd.refl _ | with_reducible assumption | with_reducible apply upd_busWrite
theorem upd_execAccessTimeout {ini a write} {σ τ : State} (h : execAccessTimeout ini a write σ = .next τ)
    : Upd σ τ := by
  cases h
  repeat' first | with_reducible exact Upd.refl _ | with_reducible assumption | with_reducible apply upd_accessTimeout
theorem upd_execSplitLoRead {ini a} {σ τ : State} (h : execSplitLoRead ini a σ = .next τ) : Upd σ τ := by
  cases h
  repeat' first
    | with_reducible exact Upd.refl _
    | with_reducible assumption
    | with_reducible apply upd_ifOk
    | with_reducible apply upd_busRead
theorem upd_execSplitHiWrite {ini a v} {σ τ : State} (h : execSplitHiWrite ini a v σ = .next τ) : Upd σ τ := by
  cases h
  repeat' first
    | with_reducible exact Upd.refl _
    | with_reducible assumption
    | with_reducible apply upd_ifOk
    | with_reducible apply upd_busWrite
theorem upd_execSplitLoWrite {ini a v} {σ τ : State} (h : execSplitLoWrite ini a v σ = .next τ) : Upd σ τ := by
  cases h
  repeat' first
    | with_reducible exact Upd.refl _
    | with_reducible assumption
    | with_reducible apply upd_ifOk
    | with_reducible apply upd_busWrite
theorem upd_execErrCapRead {ini page} {σ τ : State} (h : execErrCapRead ini page σ = .next τ) : Upd σ τ := by
  cases h
  repeat' first
    | with_reducible exact Upd.refl _
    | with_reducible assumption
    | with_reducible apply upd_ifOk
    | with_reducible apply upd_busRead
theorem upd_execBuserrRead {ini info} {σ τ : State} (h : execBuserrRead ini info σ = .next τ) : Upd σ τ := by
  cases h
  repeat' first
    | with_reducible exact Upd.refl _
    | with_reducible assumption
    | with_reducible apply upd_busRead
    | split
theorem upd_execRstCauseRead {ini} {σ τ : State} (h : execRstCauseRead ini σ = .next τ) : Upd σ τ := by
  cases h
  repeat' first | with_reducible exact Upd.refl _ | with_reducible assumption | with_reducible apply upd_busRead
theorem upd_execIrqStatClear {ini page v} {σ τ : State} (h : execIrqStatClear ini page v σ = .next τ) : Upd σ τ := by
  cases h
  repeat' first
    | with_reducible exact Upd.refl _
    | with_reducible assumption
    | with_reducible apply upd_ifOk
    | with_reducible apply upd_busWrite
theorem upd_execBlockEnable {ini page} {σ τ : State} (h : execBlockEnable ini page σ = .next τ) : Upd σ τ := by
  cases h
  repeat' first
    | with_reducible exact Upd.refl _
    | with_reducible assumption
    | with_reducible apply upd_ifOk
    | with_reducible apply upd_busWrite
theorem upd_execBlockDisable {ini page} {σ τ : State} (h : execBlockDisable ini page σ = .next τ) : Upd σ τ := by
  cases h
  repeat' first
    | with_reducible exact Upd.refl _
    | with_reducible assumption
    | with_reducible apply upd_ifOk
    | with_reducible apply upd_busWrite
theorem upd_execBlockStopPoint {page} {σ τ : State} (h : execBlockStopPoint page σ = .next τ) : Upd σ τ := by
  cases h
  repeat' first
    | with_reducible exact Upd.refl _
    | with_reducible assumption
    | with_reducible apply upd_rt
    | with_reducible apply upd_blockStopped
theorem upd_execSoftReset {ini page} {σ τ : State} (h : execSoftReset ini page σ = .next τ) : Upd σ τ := by
  cases h
  repeat' first
    | with_reducible exact Upd.refl _
    | with_reducible assumption
    | with_reducible apply upd_ifOk
    | with_reducible apply upd_busWrite
theorem upd_execSoftResetDone {page} {σ τ : State} (h : execSoftResetDone page σ = .next τ) : Upd σ τ := by
  cases h
  repeat' first
    | with_reducible exact Upd.refl _
    | with_reducible assumption
    | with_reducible apply upd_rt
    | with_reducible apply upd_blockResetDone
theorem upd_execFlush {ini page} {σ τ : State} (h : execFlush ini page σ = .next τ) : Upd σ τ := by
  cases h
  repeat' first
    | with_reducible exact Upd.refl _
    | with_reducible assumption
    | with_reducible apply upd_ifOk
    | with_reducible apply upd_busWrite
theorem upd_execFlushDone {page} {σ τ : State} (h : execFlushDone page σ = .next τ) : Upd σ τ := by
  cases h
  repeat' first
    | with_reducible exact Upd.refl _
    | with_reducible assumption
    | with_reducible apply upd_rt
    | with_reducible apply upd_blockFlushDone
theorem upd_execLockWrite {ini page v} {σ τ : State} (h : execLockWrite ini page v σ = .next τ) : Upd σ τ := by
  cases h
  repeat' first
    | with_reducible exact Upd.refl _
    | with_reducible assumption
    | with_reducible apply upd_ifOk
    | with_reducible apply upd_busWrite
theorem upd_execUnlockExpire {page} {σ τ : State} (h : execUnlockExpire page σ = .next τ) : Upd σ τ := by
  cases h
  repeat' first | with_reducible exact Upd.refl _ | with_reducible assumption | with_reducible apply upd_lockExpire
theorem upd_execBlockWatchdogExpire {page} {σ τ : State} (h : execBlockWatchdogExpire page σ = .next τ)
    : Upd σ τ := by
  cases h
  repeat' first
    | with_reducible exact Upd.refl _
    | with_reducible assumption
    | with_reducible apply upd_rt
    | with_reducible apply upd_blockWatchdog
theorem upd_execSysRstCmd {ini} {σ τ : State} (h : execSysRstCmd ini σ = .next τ) : Upd σ τ := by
  cases h
  repeat' first | with_reducible exact Upd.refl _ | with_reducible assumption | with_reducible apply upd_busWrite
theorem upd_execModuleReset {σ τ : State} (h : execModuleReset σ = .next τ) : Upd σ τ := by
  cases h
  repeat' first | with_reducible exact Upd.refl _ | with_reducible assumption | with_reducible apply upd_moduleReset
theorem upd_execColdReset {σ τ : State} (h : execColdReset σ = .next τ) : Upd σ τ := by
  cases h
  repeat' first | with_reducible exact Upd.refl _ | with_reducible assumption | with_reducible apply upd_coldReset
theorem upd_execDebugResetRequest {σ τ : State} (h : execDebugResetRequest σ = .next τ) : Upd σ τ := by
  cases h
  repeat' first
    | with_reducible exact Upd.refl _
    | with_reducible assumption
    | with_reducible apply upd_rt
    | with_reducible apply upd_dbgReset
theorem upd_execRtWatchdogExpire {σ τ : State} (h : execRtWatchdogExpire σ = .next τ) : Upd σ τ := by
  cases h
  repeat' first
    | with_reducible exact Upd.refl _
    | with_reducible assumption
    | with_reducible apply upd_rt
    | with_reducible apply upd_rtWatchdog
theorem upd_execSupervisorReset {cause} {σ τ : State} (h : execSupervisorReset cause σ = .next τ) : Upd σ τ := by
  cases h
  repeat' first
    | with_reducible exact Upd.refl _
    | with_reducible assumption
    | with_reducible apply upd_rt
    | with_reducible apply upd_supvReset
theorem upd_execTickEdge {dt err cur} {σ τ : State} (h : execTickEdge dt err cur σ = .next τ) : Upd σ τ := by
  cases h
  repeat' first
    | with_reducible exact Upd.refl _
    | with_reducible assumption
    | with_reducible apply upd_rt
    | with_reducible apply upd_tickEdge
theorem upd_execOwnCut {σ τ : State} (h : execOwnCut σ = .next τ) : Upd σ τ := by
  cases h
  repeat' first
    | with_reducible exact Upd.refl _
    | with_reducible assumption
    | with_reducible apply upd_rt
    | with_reducible apply upd_ownCut
theorem upd_execHatchRunStart {σ τ : State} (h : execHatchRunStart σ = .next τ) : Upd σ τ := by
  cases h
  repeat' first
    | with_reducible exact Upd.refl _
    | with_reducible assumption
    | with_reducible apply upd_rt
    | with_reducible apply upd_hatchStart
theorem upd_execHatchRunDone {us} {σ τ : State} (h : execHatchRunDone us σ = .next τ) : Upd σ τ := by
  cases h
  repeat' first
    | with_reducible exact Upd.refl _
    | with_reducible assumption
    | with_reducible apply upd_rt
    | with_reducible apply upd_hatchDone
theorem upd_execHatchWindowEnd {us} {σ τ : State} (h : execHatchWindowEnd us σ = .next τ) : Upd σ τ := by
  cases h
  repeat' first
    | with_reducible exact Upd.refl _
    | with_reducible assumption
    | with_reducible apply upd_rt
    | with_reducible apply upd_windowEnd
theorem upd_execComposeStart {σ τ : State} (h : execComposeStart σ = .next τ) : Upd σ τ := by
  cases h
  repeat' first
    | with_reducible exact Upd.refl _
    | with_reducible assumption
    | with_reducible apply upd_rt
    | with_reducible apply upd_composeBegin
theorem upd_execComposeDone {us} {σ τ : State} (h : execComposeDone us σ = .next τ) : Upd σ τ := by
  cases h
  repeat' first
    | with_reducible exact Upd.refl _
    | with_reducible assumption
    | with_reducible apply upd_rt
    | with_reducible apply upd_composeEnd
theorem upd_execTickComposeMiss {nodes} {σ τ : State} (h : execTickComposeMiss nodes σ = .next τ) : Upd σ τ := by
  cases h
  repeat' first
    | with_reducible exact Upd.refl _
    | with_reducible assumption
    | with_reducible apply upd_rt
    | with_reducible apply upd_composeLate
theorem upd_execTickImpLate {bytes} {σ τ : State} (h : execTickImpLate bytes σ = .next τ) : Upd σ τ := by
  cases h
  repeat' first
    | with_reducible exact Upd.refl _
    | with_reducible assumption
    | with_reducible apply upd_rt
    | with_reducible apply upd_impLate
theorem upd_execImpCopyComplete {σ τ : State} (h : execImpCopyComplete σ = .next τ) : Upd σ τ := by
  cases h
  repeat' first
    | with_reducible exact Upd.refl _
    | with_reducible assumption
    | with_reducible apply upd_rt
    | with_reducible apply upd_impDone
theorem upd_execGuardBand {σ τ : State} (h : execGuardBand σ = .next τ) : Upd σ τ := by
  cases h
  repeat' first
    | with_reducible exact Upd.refl _
    | with_reducible assumption
    | with_reducible apply upd_rt
    | with_reducible apply upd_guardBand
theorem upd_execGraphOpen {ini} {σ τ : State} (h : execGraphOpen ini σ = .next τ) : Upd σ τ := by
  cases h
  repeat' first | with_reducible exact Upd.refl _ | with_reducible assumption | with_reducible apply upd_busWrite
theorem upd_execGraphCommit {ini} {σ τ : State} (h : execGraphCommit ini σ = .next τ) : Upd σ τ := by
  cases h
  repeat' first | with_reducible exact Upd.refl _ | with_reducible assumption | with_reducible apply upd_busWrite
theorem upd_execGraphAbort {ini} {σ τ : State} (h : execGraphAbort ini σ = .next τ) : Upd σ τ := by
  cases h
  repeat' first | with_reducible exact Upd.refl _ | with_reducible assumption | with_reducible apply upd_busWrite
theorem upd_execGraphRecordStore {ini w v} {σ τ : State} (h : execGraphRecordStore ini w v σ = .next τ)
    : Upd σ τ := by
  cases h
  repeat' first | with_reducible exact Upd.refl _ | with_reducible assumption | with_reducible apply upd_busWrite
theorem upd_execGraphValidationDone {σ τ : State} (h : execGraphValidationDone σ = .next τ) : Upd σ τ := by
  cases h
  repeat' first
    | with_reducible exact Upd.refl _
    | with_reducible assumption
    | with_reducible apply upd_rt
    | with_reducible apply upd_graphValidated
theorem upd_execGraphPersistDone {σ τ : State} (h : execGraphPersistDone σ = .next τ) : Upd σ τ := by
  cases h
  repeat' first
    | with_reducible exact Upd.refl _
    | with_reducible assumption
    | with_reducible apply upd_rt
    | with_reducible apply upd_graphPersisted
theorem upd_execPlateWinRead {ini} {σ τ : State} (h : execPlateWinRead ini σ = .next τ) : Upd σ τ := by
  cases h
  repeat' first | with_reducible exact Upd.refl _ | with_reducible assumption | with_reducible apply upd_busRead
theorem upd_execBrokenClear {ini k v} {σ τ : State} (h : execBrokenClear ini k v σ = .next τ) : Upd σ τ := by
  cases h
  repeat' first | with_reducible exact Upd.refl _ | with_reducible assumption | with_reducible apply upd_busWrite
theorem upd_execLatchClr {ini v} {σ τ : State} (h : execLatchClr ini v σ = .next τ) : Upd σ τ := by
  cases h
  repeat' first | with_reducible exact Upd.refl _ | with_reducible assumption | with_reducible apply upd_busWrite
theorem upd_execCoCmdWrite {ini v} {σ τ : State} (h : execCoCmdWrite ini v σ = .next τ) : Upd σ τ := by
  cases h
  repeat' first | with_reducible exact Upd.refl _ | with_reducible assumption | with_reducible apply upd_busWrite
theorem upd_execCoPulseStart {j} {σ τ : State} (h : execCoPulseStart j σ = .next τ) : Upd σ τ := by
  cases h
  repeat' first
    | with_reducible exact Upd.refl _
    | with_reducible assumption
    | with_reducible apply upd_rt
    | with_reducible apply upd_ifOk
    | with_reducible apply upd_coStart
theorem upd_execCoPulseEnd {j} {σ τ : State} (h : execCoPulseEnd j σ = .next τ) : Upd σ τ := by
  cases h
  repeat' first
    | with_reducible exact Upd.refl _
    | with_reducible assumption
    | with_reducible apply upd_rt
    | with_reducible apply upd_ifOk
    | with_reducible apply upd_coEnd
theorem upd_execCoFeedbackRead {j} {σ τ : State} (h : execCoFeedbackRead j σ = .next τ) : Upd σ τ := by
  cases h
  repeat' first
    | with_reducible exact Upd.refl _
    | with_reducible assumption
    | with_reducible apply upd_rt
    | with_reducible apply upd_ifOk
    | with_reducible apply upd_coRead
theorem upd_execCoRetryPulse {j} {σ τ : State} (h : execCoRetryPulse j σ = .next τ) : Upd σ τ := by
  cases h
  repeat' first
    | with_reducible exact Upd.refl _
    | with_reducible assumption
    | with_reducible apply upd_rt
    | with_reducible apply upd_ifOk
    | with_reducible apply upd_coRetry
theorem upd_execCoExternal {j level} {σ τ : State} (h : execCoExternal j level σ = .next τ) : Upd σ τ := by
  cases h
  repeat' first
    | with_reducible exact Upd.refl _
    | with_reducible assumption
    | with_reducible apply upd_ifOk
    | with_reducible apply upd_coExternal
theorem upd_execEvalHoldExpire {j} {σ τ : State} (h : execEvalHoldExpire j σ = .next τ) : Upd σ τ := by
  cases h
  repeat' first
    | with_reducible exact Upd.refl _
    | with_reducible assumption
    | with_reducible apply upd_rt
    | with_reducible apply upd_ifOk
    | with_reducible apply upd_coHoldEnd
theorem upd_execFbFrameStart {b us} {σ τ : State} (h : execFbFrameStart b us σ = .next τ) : Upd σ τ := by
  cases h
  repeat' first
    | with_reducible exact Upd.refl _
    | with_reducible assumption
    | with_reducible apply upd_rt
    | with_reducible apply upd_ifOk
    | with_reducible apply upd_fbStart
theorem upd_execFbTagResponse {b} {σ τ : State} (h : execFbTagResponse b σ = .next τ) : Upd σ τ := by
  cases h
  repeat' first
    | with_reducible exact Upd.refl _
    | with_reducible assumption
    | with_reducible apply upd_rt
    | with_reducible apply upd_ifOk
    | with_reducible apply upd_tagResponse
theorem upd_execFbTagTimeout {b} {σ τ : State} (h : execFbTagTimeout b σ = .next τ) : Upd σ τ := by
  cases h
  repeat' first
    | with_reducible exact Upd.refl _
    | with_reducible assumption
    | with_reducible apply upd_rt
    | with_reducible apply upd_ifOk
    | with_reducible apply upd_tagTimeout
theorem upd_execFbWindowClose {b w} {σ τ : State} (h : execFbWindowClose b w σ = .next τ) : Upd σ τ := by
  cases h
  repeat' first
    | with_reducible exact Upd.refl _
    | with_reducible assumption
    | with_reducible apply upd_rt
    | with_reducible apply upd_ifOk
    | with_reducible apply upd_windowClose
theorem upd_execFbFrameSent {b us sof tec rec_} {σ τ : State} (h : execFbFrameSent b us sof tec rec_ σ = .next τ)
    : Upd σ τ := by
  cases h
  repeat' first
    | with_reducible exact Upd.refl _
    | with_reducible assumption
    | with_reducible apply upd_rt
    | with_reducible apply upd_ifOk
    | with_reducible apply upd_fbSent
theorem upd_execFbFrameReceived {b f} {σ τ : State} (h : execFbFrameReceived b f σ = .next τ) : Upd σ τ := by
  cases h
  repeat' first
    | with_reducible exact Upd.refl _
    | with_reducible assumption
    | with_reducible apply upd_rt
    | with_reducible apply upd_ifOk
    | with_reducible apply upd_fbReceive
theorem upd_execFbError {b code dataPhase id own tec rec_} {σ τ : State} (h : execFbError b code dataPhase id own tec rec_ σ = .next τ)
    : Upd σ τ := by
  cases h
  repeat' first
    | with_reducible exact Upd.refl _
    | with_reducible assumption
    | with_reducible apply upd_rt
    | with_reducible apply upd_ifOk
    | with_reducible apply upd_fbError
theorem upd_execFbRecovered {b} {σ τ : State} (h : execFbRecovered b σ = .next τ) : Upd σ τ := by
  cases h
  repeat' first
    | with_reducible exact Upd.refl _
    | with_reducible assumption
    | with_reducible apply upd_rt
    | with_reducible apply upd_ifOk
    | with_reducible apply upd_fbRecovered
theorem upd_execFbStormEnd {b} {σ τ : State} (h : execFbStormEnd b σ = .next τ) : Upd σ τ := by
  cases h
  repeat' first
    | with_reducible exact Upd.refl _
    | with_reducible assumption
    | with_reducible apply upd_rt
    | with_reducible apply upd_ifOk
    | with_reducible apply upd_stormEnd
theorem upd_execFbRateDetected {b arb data} {σ τ : State} (h : execFbRateDetected b arb data σ = .next τ)
    : Upd σ τ := by
  cases h
  repeat' first
    | with_reducible exact Upd.refl _
    | with_reducible assumption
    | with_reducible apply upd_rt
    | with_reducible apply upd_ifOk
    | with_reducible apply upd_rateDetected
theorem upd_execFbRateNone {b} {σ τ : State} (h : execFbRateNone b σ = .next τ) : Upd σ τ := by
  cases h
  repeat' first
    | with_reducible exact Upd.refl _
    | with_reducible assumption
    | with_reducible apply upd_rt
    | with_reducible apply upd_ifOk
    | with_reducible apply upd_rateNone
theorem upd_execMoTxRequest {ini b i v} {σ τ : State} (h : execMoTxRequest ini b i v σ = .next τ) : Upd σ τ := by
  cases h
  repeat' first
    | with_reducible exact Upd.refl _
    | with_reducible assumption
    | with_reducible apply upd_ifOk
    | with_reducible apply upd_busWrite
theorem upd_execMoRxArm {ini b i v} {σ τ : State} (h : execMoRxArm ini b i v σ = .next τ) : Upd σ τ := by
  cases h
  repeat' first
    | with_reducible exact Upd.refl _
    | with_reducible assumption
    | with_reducible apply upd_ifOk
    | with_reducible apply upd_busWrite
theorem upd_execPollResponseTimeout {b} {σ τ : State} (h : execPollResponseTimeout b σ = .next τ) : Upd σ τ := by
  cases h
  repeat' first
    | with_reducible exact Upd.refl _
    | with_reducible assumption
    | with_reducible apply upd_rt
    | with_reducible apply upd_ifOk
    | with_reducible apply upd_pollTimeout
theorem upd_execFaultEventHoldExpire {i code} {σ τ : State} (h : execFaultEventHoldExpire i code σ = .next τ)
    : Upd σ τ := by
  cases h
  repeat' first
    | with_reducible exact Upd.refl _
    | with_reducible assumption
    | with_reducible apply upd_rt
    | with_reducible apply upd_ifOk
    | with_reducible apply upd_faultExpire
theorem upd_execNodePlan {ini index} {σ τ : State} (h : execNodePlan ini index σ = .next τ) : Upd σ τ := by
  cases h
  repeat' first | with_reducible exact Upd.refl _ | with_reducible assumption | with_reducible apply upd_busWrite
theorem upd_execNodeUnplan {ini index} {σ τ : State} (h : execNodeUnplan ini index σ = .next τ) : Upd σ τ := by
  cases h
  repeat' first | with_reducible exact Upd.refl _ | with_reducible assumption | with_reducible apply upd_busWrite
theorem upd_execNodeDecommission {ini index} {σ τ : State} (h : execNodeDecommission ini index σ = .next τ)
    : Upd σ τ := by
  cases h
  repeat' first | with_reducible exact Upd.refl _ | with_reducible assumption | with_reducible apply upd_busWrite
theorem upd_execNodeQuarantine {ini index} {σ τ : State} (h : execNodeQuarantine ini index σ = .next τ)
    : Upd σ τ := by
  cases h
  repeat' first | with_reducible exact Upd.refl _ | with_reducible assumption | with_reducible apply upd_busWrite
theorem upd_execNodeUnquarantine {ini index} {σ τ : State} (h : execNodeUnquarantine ini index σ = .next τ)
    : Upd σ τ := by
  cases h
  repeat' first | with_reducible exact Upd.refl _ | with_reducible assumption | with_reducible apply upd_busWrite
theorem upd_execNodeRecommission {ini index} {σ τ : State} (h : execNodeRecommission ini index σ = .next τ)
    : Upd σ τ := by
  cases h
  repeat' first | with_reducible exact Upd.refl _ | with_reducible assumption | with_reducible apply upd_busWrite
theorem upd_execNodeIdent {ini index} {σ τ : State} (h : execNodeIdent ini index σ = .next τ) : Upd σ τ := by
  cases h
  repeat' first | with_reducible exact Upd.refl _ | with_reducible assumption | with_reducible apply upd_busWrite
theorem upd_execNodeMove {ini index arg} {σ τ : State} (h : execNodeMove ini index arg σ = .next τ) : Upd σ τ := by
  cases h
  repeat' first | with_reducible exact Upd.refl _ | with_reducible assumption | with_reducible apply upd_busWrite
theorem upd_execNodeWink {ini index arg} {σ τ : State} (h : execNodeWink ini index arg σ = .next τ) : Upd σ τ := by
  cases h
  repeat' first | with_reducible exact Upd.refl _ | with_reducible assumption | with_reducible apply upd_busWrite
theorem upd_execNodeCmdResend {b a op} {σ τ : State} (h : execNodeCmdResend b a op σ = .next τ) : Upd σ τ := by
  cases h
  repeat' first
    | with_reducible exact Upd.refl _
    | with_reducible assumption
    | with_reducible apply upd_rt
    | with_reducible apply upd_ifOk
    | with_reducible apply upd_cmdResend
theorem upd_execProbeOutcome {b busy} {σ τ : State} (h : execProbeOutcome b busy σ = .next τ) : Upd σ τ := by
  cases h
  repeat' first
    | with_reducible exact Upd.refl _
    | with_reducible assumption
    | with_reducible apply upd_rt
    | with_reducible apply upd_ifOk
    | with_reducible apply upd_probeOutcome
theorem upd_execKeyInstallTimeout {i} {σ τ : State} (h : execKeyInstallTimeout i σ = .next τ) : Upd σ τ := by
  cases h
  repeat' first
    | with_reducible exact Upd.refl _
    | with_reducible assumption
    | with_reducible apply upd_rt
    | with_reducible apply upd_ifOk
    | with_reducible apply upd_keyingTimeout
theorem upd_execRecomRelease {i} {σ τ : State} (h : execRecomRelease i σ = .next τ) : Upd σ τ := by
  cases h
  repeat' first
    | with_reducible exact Upd.refl _
    | with_reducible assumption
    | with_reducible apply upd_rt
    | with_reducible apply upd_ifOk
    | with_reducible apply upd_recomRelease
theorem upd_execNodeRecomFail {i} {σ τ : State} (h : execNodeRecomFail i σ = .next τ) : Upd σ τ := by
  cases h
  repeat' first
    | with_reducible exact Upd.refl _
    | with_reducible assumption
    | with_reducible apply upd_rt
    | with_reducible apply upd_ifOk
    | with_reducible apply upd_recomFail
theorem upd_execKeyRolloutSwitch {b} {σ τ : State} (h : execKeyRolloutSwitch b σ = .next τ) : Upd σ τ := by
  cases h
  repeat' first
    | with_reducible exact Upd.refl _
    | with_reducible assumption
    | with_reducible apply upd_rt
    | with_reducible apply upd_ifOk
    | with_reducible apply upd_rolloutSwitch
theorem upd_execSatWindowEnd {i} {σ τ : State} (h : execSatWindowEnd i σ = .next τ) : Upd σ τ := by
  cases h
  repeat' first
    | with_reducible exact Upd.refl _
    | with_reducible assumption
    | with_reducible apply upd_rt
    | with_reducible apply upd_ifOk
    | with_reducible apply upd_satWindow
theorem upd_execNodeEntRead {ini k} {σ τ : State} (h : execNodeEntRead ini k σ = .next τ) : Upd σ τ := by
  cases h
  repeat' first | with_reducible exact Upd.refl _ | with_reducible assumption | with_reducible apply upd_busRead
theorem upd_execNodeEntWrite {ini k v} {σ τ : State} (h : execNodeEntWrite ini k v σ = .next τ) : Upd σ τ := by
  cases h
  repeat' first | with_reducible exact Upd.refl _ | with_reducible assumption | with_reducible apply upd_busWrite
theorem upd_execDiConfirm {i} {σ τ : State} (h : execDiConfirm i σ = .next τ) : Upd σ τ := by
  cases h
  repeat' first
    | with_reducible exact Upd.refl _
    | with_reducible assumption
    | with_reducible apply upd_rt
    | with_reducible apply upd_ifOk
    | with_reducible apply upd_diConfirm
theorem upd_execDiStuck {i} {σ τ : State} (h : execDiStuck i σ = .next τ) : Upd σ τ := by
  cases h
  repeat' first
    | with_reducible exact Upd.refl _
    | with_reducible assumption
    | with_reducible apply upd_rt
    | with_reducible apply upd_ifOk
    | with_reducible apply upd_diStuckAt
theorem upd_execMetWindowEnd {n w} {σ τ : State} (h : execMetWindowEnd n w σ = .next τ) : Upd σ τ := by
  cases h
  repeat' first
    | with_reducible exact Upd.refl _
    | with_reducible assumption
    | with_reducible apply upd_rt
    | with_reducible apply upd_ifOk
    | with_reducible apply upd_metWindow
theorem upd_execMetWinCntRead {ini n} {σ τ : State} (h : execMetWinCntRead ini n σ = .next τ) : Upd σ τ := by
  cases h
  repeat' first
    | with_reducible exact Upd.refl _
    | with_reducible assumption
    | with_reducible apply upd_ifOk
    | with_reducible apply upd_busRead
theorem upd_execMetEnergySave {σ τ : State} (h : execMetEnergySave σ = .next τ) : Upd σ τ := by
  cases h
  repeat' first
    | with_reducible exact Upd.refl _
    | with_reducible assumption
    | with_reducible apply upd_rt
    | with_reducible apply upd_energySave
theorem upd_execTraceStart {ini node} {σ τ : State} (h : execTraceStart ini node σ = .next τ) : Upd σ τ := by
  cases h
  repeat' first | with_reducible exact Upd.refl _ | with_reducible assumption | with_reducible apply upd_busWrite
theorem upd_execTraceDecision {k} {σ τ : State} (h : execTraceDecision k σ = .next τ) : Upd σ τ := by
  cases h
  repeat' first
    | with_reducible exact Upd.refl _
    | with_reducible assumption
    | with_reducible apply upd_rt
    | with_reducible apply upd_ifOk
    | with_reducible apply upd_traceDecide
theorem upd_execCalChSel {ini v} {σ τ : State} (h : execCalChSel ini v σ = .next τ) : Upd σ τ := by
  cases h
  repeat' first | with_reducible exact Upd.refl _ | with_reducible assumption | with_reducible apply upd_busWrite
theorem upd_execCalCommit {ini} {σ τ : State} (h : execCalCommit ini σ = .next τ) : Upd σ τ := by
  cases h
  repeat' first | with_reducible exact Upd.refl _ | with_reducible assumption | with_reducible apply upd_busWrite
theorem upd_execRtcSecond {dev} {σ τ : State} (h : execRtcSecond dev σ = .next τ) : Upd σ τ := by
  cases h
  repeat' first | with_reducible exact Upd.refl _ | with_reducible assumption | with_reducible apply upd_rtcSecond
theorem upd_execRtcStageWrite {ini w v} {σ τ : State} (h : execRtcStageWrite ini w v σ = .next τ) : Upd σ τ := by
  cases h
  repeat' first | with_reducible exact Upd.refl _ | with_reducible assumption | with_reducible apply upd_busWrite
theorem upd_execRtcStageCancel {ini} {σ τ : State} (h : execRtcStageCancel ini σ = .next τ) : Upd σ τ := by
  cases h
  repeat' first | with_reducible exact Upd.refl _ | with_reducible assumption | with_reducible apply upd_busWrite
theorem upd_execRtcSecLoRead {ini} {σ τ : State} (h : execRtcSecLoRead ini σ = .next τ) : Upd σ τ := by
  cases h
  repeat' first | with_reducible exact Upd.refl _ | with_reducible assumption | with_reducible apply upd_busRead
theorem upd_execRtcCrystalStop {σ τ : State} (h : execRtcCrystalStop σ = .next τ) : Upd σ τ := by
  cases h
  repeat' first | with_reducible exact Upd.refl _ | with_reducible assumption | with_reducible apply upd_crystalStop
theorem upd_execRtcCrystalStart {σ τ : State} (h : execRtcCrystalStart σ = .next τ) : Upd σ τ := by
  cases h
  repeat' first | with_reducible exact Upd.refl _ | with_reducible assumption | with_reducible apply upd_crystalStart
theorem upd_execWakeTimerExpire {σ τ : State} (h : execWakeTimerExpire σ = .next τ) : Upd σ τ := by
  cases h
  repeat' first | with_reducible exact Upd.refl _ | with_reducible assumption | with_reducible apply upd_wakeExpire
theorem upd_execWakeCfgWrite {ini v} {σ τ : State} (h : execWakeCfgWrite ini v σ = .next τ) : Upd σ τ := by
  cases h
  repeat' first | with_reducible exact Upd.refl _ | with_reducible assumption | with_reducible apply upd_busWrite
theorem upd_execPtpSyncReceived {h port seq twoStep sec ns corr rx} {σ τ : State} (h : execPtpSyncReceived h port seq twoStep sec ns corr rx σ = .next τ)
    : Upd σ τ := by
  cases h
  repeat' first
    | with_reducible exact Upd.refl _
    | with_reducible assumption
    | with_reducible apply upd_nw
    | with_reducible apply upd_ptpBoth
    | with_reducible apply upd_ptpSync
    | intro _
theorem upd_execPtpAnnounceReceived {h port m} {σ τ : State} (h : execPtpAnnounceReceived h port m σ = .next τ)
    : Upd σ τ := by
  cases h
  repeat' first
    | with_reducible exact Upd.refl _
    | with_reducible assumption
    | with_reducible apply upd_nw
    | with_reducible apply upd_ptpBoth
    | with_reducible apply upd_ptpAnnounce
    | intro _
theorem upd_execPtpDelayRespReceived {h port seq sec ns corr} {σ τ : State} (h : execPtpDelayRespReceived h port seq sec ns corr σ = .next τ)
    : Upd σ τ := by
  cases h
  repeat' first
    | with_reducible exact Upd.refl _
    | with_reducible assumption
    | with_reducible apply upd_nw
    | with_reducible apply upd_ptpBoth
    | with_reducible apply upd_ptpDelayResp
    | intro _
theorem upd_execPtpDelayReqSend {k seq t} {σ τ : State} (h : execPtpDelayReqSend k seq t σ = .next τ) : Upd σ τ := by
  cases h
  repeat' first
    | with_reducible exact Upd.refl _
    | with_reducible assumption
    | with_reducible apply upd_nw
    | with_reducible apply upd_ptpDelayReq
theorem upd_execPtpTimeout {k} {σ τ : State} (h : execPtpTimeout k σ = .next τ) : Upd σ τ := by
  cases h
  repeat' first
    | with_reducible exact Upd.refl _
    | with_reducible assumption
    | with_reducible apply upd_rt
    | with_reducible apply upd_ptpTimeout
theorem upd_execGnssSentenceReceived {kind sec ok} {σ τ : State} (h : execGnssSentenceReceived kind sec ok σ = .next τ)
    : Upd σ τ := by
  cases h
  repeat' first
    | with_reducible exact Upd.refl _
    | with_reducible assumption
    | with_reducible apply upd_rt
    | with_reducible apply upd_gnssSentence
theorem upd_execPpsInEdge {t} {σ τ : State} (h : execPpsInEdge t σ = .next τ) : Upd σ τ := by
  cases h
  repeat' first
    | with_reducible exact Upd.refl _
    | with_reducible assumption
    | with_reducible apply upd_rt
    | with_reducible apply upd_ppsIn
theorem upd_execGnssLost {reason} {σ τ : State} (h : execGnssLost reason σ = .next τ) : Upd σ τ := by
  cases h
  repeat' first
    | with_reducible exact Upd.refl _
    | with_reducible assumption
    | with_reducible apply upd_rt
    | with_reducible apply upd_gnssDrop
theorem upd_execSrcRevert {k} {σ τ : State} (h : execSrcRevert k σ = .next τ) : Upd σ τ := by
  cases h
  repeat' first
    | with_reducible exact Upd.refl _
    | with_reducible assumption
    | with_reducible apply upd_rt
    | with_reducible apply upd_srcRevert
theorem upd_execTimeRtcFallback {σ τ : State} (h : execTimeRtcFallback σ = .next τ) : Upd σ τ := by
  cases h
  repeat' first
    | with_reducible exact Upd.refl _
    | with_reducible assumption
    | with_reducible apply upd_rt
    | with_reducible apply upd_holdExpire
theorem upd_execStepWaitEnd {σ τ : State} (h : execStepWaitEnd σ = .next τ) : Upd σ τ := by
  cases h
  repeat' first
    | with_reducible exact Upd.refl _
    | with_reducible assumption
    | with_reducible apply upd_rt
    | with_reducible apply upd_stepWaitEnd
theorem upd_execTimeLeap {σ τ : State} (h : execTimeLeap σ = .next τ) : Upd σ τ := by
  cases h
  repeat' first
    | with_reducible exact Upd.refl _
    | with_reducible assumption
    | with_reducible apply upd_rt
    | with_reducible apply upd_timeLeap
theorem upd_execRtcDiscipline {cyc trim} {σ τ : State} (h : execRtcDiscipline cyc trim σ = .next τ) : Upd σ τ := by
  cases h
  repeat' first
    | with_reducible exact Upd.refl _
    | with_reducible assumption
    | with_reducible apply upd_rt
    | with_reducible apply upd_rtcHour
theorem upd_execPpsOutPulse {σ τ : State} (h : execPpsOutPulse σ = .next τ) : Upd σ τ := by
  cases h
  repeat' first
    | with_reducible exact Upd.refl _
    | with_reducible assumption
    | with_reducible apply upd_rt
    | with_reducible apply upd_ppsOut
theorem upd_execTimeNowRead {ini} {σ τ : State} (h : execTimeNowRead ini σ = .next τ) : Upd σ τ := by
  cases h
  repeat' first | with_reducible exact Upd.refl _ | with_reducible assumption | with_reducible apply upd_busRead
theorem upd_execSchedEntStage {ini w v} {σ τ : State} (h : execSchedEntStage ini w v σ = .next τ) : Upd σ τ := by
  cases h
  repeat' first | with_reducible exact Upd.refl _ | with_reducible assumption | with_reducible apply upd_busWrite
theorem upd_execSchedEntCommit {ini v} {σ τ : State} (h : execSchedEntCommit ini v σ = .next τ) : Upd σ τ := by
  cases h
  repeat' first | with_reducible exact Upd.refl _ | with_reducible assumption | with_reducible apply upd_busWrite
theorem upd_execSchedEntRead {ini} {σ τ : State} (h : execSchedEntRead ini σ = .next τ) : Upd σ τ := by
  cases h
  repeat' first | with_reducible exact Upd.refl _ | with_reducible assumption | with_reducible apply upd_busRead
theorem upd_execSchedFbSave {ini lvl} {σ τ : State} (h : execSchedFbSave ini lvl σ = .next τ) : Upd σ τ := by
  cases h
  repeat' first | with_reducible exact Upd.refl _ | with_reducible assumption | with_reducible apply upd_busWrite
theorem upd_execSchedFbSaved {σ τ : State} (h : execSchedFbSaved σ = .next τ) : Upd σ τ := by
  cases h
  repeat' first
    | with_reducible exact Upd.refl _
    | with_reducible assumption
    | with_reducible apply upd_rt
    | with_reducible apply upd_fbSaved
theorem upd_execSwFrameForward {p f} {σ τ : State} (h : execSwFrameForward p f σ = .next τ) : Upd σ τ := by
  cases h
  repeat' first
    | with_reducible exact Upd.refl _
    | with_reducible assumption
    | with_reducible apply upd_rt
    | with_reducible apply upd_swFrame
theorem upd_execMacAge {vid mac} {σ τ : State} (h : execMacAge vid mac σ = .next τ) : Upd σ τ := by
  cases h
  repeat' first
    | with_reducible exact Upd.refl _
    | with_reducible assumption
    | with_reducible apply upd_nw
    | with_reducible apply upd_macAge
theorem upd_execRingSf {n} {σ τ : State} (h : execRingSf n σ = .next τ) : Upd σ τ := by
  cases h
  repeat' first
    | with_reducible exact Upd.refl _
    | with_reducible assumption
    | with_reducible apply upd_nw
    | with_reducible apply upd_ringSf
theorem upd_execRingSignalRestore {n} {σ τ : State} (h : execRingSignalRestore n σ = .next τ) : Upd σ τ := by
  cases h
  repeat' first
    | with_reducible exact Upd.refl _
    | with_reducible assumption
    | with_reducible apply upd_nw
    | with_reducible apply upd_ringRestore
theorem upd_execRapsReceived {m} {σ τ : State} (h : execRapsReceived m σ = .next τ) : Upd σ τ := by
  cases h
  repeat' first
    | with_reducible exact Upd.refl _
    | with_reducible assumption
    | with_reducible apply upd_nw
    | with_reducible apply upd_rapsReceived
theorem upd_execWtrExpire {σ τ : State} (h : execWtrExpire σ = .next τ) : Upd σ τ := by
  cases h
  repeat' first
    | with_reducible exact Upd.refl _
    | with_reducible assumption
    | with_reducible apply upd_nw
    | with_reducible apply upd_wtrExpire
theorem upd_execHoldoffExpire {n} {σ τ : State} (h : execHoldoffExpire n σ = .next τ) : Upd σ τ := by
  cases h
  repeat' first
    | with_reducible exact Upd.refl _
    | with_reducible assumption
    | with_reducible apply upd_nw
    | with_reducible apply upd_holdoffExpire
theorem upd_execGuardExpire {σ τ : State} (h : execGuardExpire σ = .next τ) : Upd σ τ := by
  cases h
  repeat' first
    | with_reducible exact Upd.refl _
    | with_reducible assumption
    | with_reducible apply upd_nw
    | with_reducible apply upd_guardExpire
theorem upd_execErpsForcedSwitch {ini port} {σ τ : State} (h : execErpsForcedSwitch ini port σ = .next τ)
    : Upd σ τ := by
  cases h
  repeat' first | with_reducible exact Upd.refl _ | with_reducible assumption | with_reducible apply upd_busWrite
theorem upd_execErpsManualSwitch {ini port} {σ τ : State} (h : execErpsManualSwitch ini port σ = .next τ)
    : Upd σ τ := by
  cases h
  repeat' first | with_reducible exact Upd.refl _ | with_reducible assumption | with_reducible apply upd_busWrite
theorem upd_execErpsClear {ini} {σ τ : State} (h : execErpsClear ini σ = .next τ) : Upd σ τ := by
  cases h
  repeat' first | with_reducible exact Upd.refl _ | with_reducible assumption | with_reducible apply upd_busWrite
theorem upd_execErpsCfgWrite {ini v} {σ τ : State} (h : execErpsCfgWrite ini v σ = .next τ) : Upd σ τ := by
  cases h
  repeat' first | with_reducible exact Upd.refl _ | with_reducible assumption | with_reducible apply upd_busWrite
theorem upd_execRingSfp {n inserted fault} {σ τ : State} (h : execRingSfp n inserted fault σ = .next τ)
    : Upd σ τ := by
  cases h
  repeat' first
    | with_reducible exact Upd.refl _
    | with_reducible assumption
    | with_reducible apply upd_nw
    | with_reducible apply upd_ringSfp
theorem upd_execPortLinkUp {n mbps} {σ τ : State} (h : execPortLinkUp n mbps σ = .next τ) : Upd σ τ := by
  cases h
  repeat' first
    | with_reducible exact Upd.refl _
    | with_reducible assumption
    | with_reducible apply upd_nw
    | with_reducible apply upd_portLinkUp
theorem upd_execPortLinkDown {n} {σ τ : State} (h : execPortLinkDown n σ = .next τ) : Upd σ τ := by
  cases h
  repeat' first
    | with_reducible exact Upd.refl _
    | with_reducible assumption
    | with_reducible apply upd_nw
    | with_reducible apply upd_portLinkDown
theorem upd_execDtlsHandshake {h} {σ τ : State} (h : execDtlsHandshake h σ = .next τ) : Upd σ τ := by
  cases h
  repeat' first
    | with_reducible exact Upd.refl _
    | with_reducible assumption
    | with_reducible apply upd_ifOk
    | with_reducible apply upd_dtlsHandshake
theorem upd_execLspRegBatch {k queued core m} {σ τ : State} (h : execLspRegBatch k queued core m σ = .next τ)
    : Upd σ τ := by
  cases h
  repeat' first
    | with_reducible exact Upd.refl _
    | with_reducible assumption
    | with_reducible apply upd_app
    | with_reducible apply upd_lspReceive
theorem upd_execEventAck {k m} {σ τ : State} (h : execEventAck k m σ = .next τ) : Upd σ τ := by
  cases h
  repeat' first
    | with_reducible exact Upd.refl _
    | with_reducible assumption
    | with_reducible apply upd_app
    | with_reducible apply upd_lspReceive
theorem upd_execLspEventResend {k seq} {σ τ : State} (h : execLspEventResend k seq σ = .next τ) : Upd σ τ := by
  cases h
  repeat' first
    | with_reducible exact Upd.refl _
    | with_reducible assumption
    | with_reducible apply upd_app
    | with_reducible apply upd_eventResend
theorem upd_execKeepalive {k} {σ τ : State} (h : execKeepalive k σ = .next τ) : Upd σ τ := by
  cases h
  repeat' first
    | with_reducible exact Upd.refl _
    | with_reducible assumption
    | with_reducible apply upd_app
    | with_reducible apply upd_keepalive
theorem upd_execKeepaliveReceived {k m} {σ τ : State} (h : execKeepaliveReceived k m σ = .next τ) : Upd σ τ := by
  cases h
  repeat' first
    | with_reducible exact Upd.refl _
    | with_reducible assumption
    | with_reducible apply upd_app
    | with_reducible apply upd_lspReceive
theorem upd_execLspSessionDown {k alert} {σ τ : State} (h : execLspSessionDown k alert σ = .next τ) : Upd σ τ := by
  cases h
  repeat' first
    | with_reducible exact Upd.refl _
    | with_reducible assumption
    | with_reducible apply upd_app
    | with_reducible apply upd_sessionDown
theorem upd_execIuDelivery {c} {σ τ : State} (h : execIuDelivery c σ = .next τ) : Upd σ τ := by
  cases h
  repeat' first
    | with_reducible exact Upd.refl _
    | with_reducible assumption
    | with_reducible apply upd_app
    | with_reducible apply upd_ifOk
    | with_reducible apply upd_iuDelivery
theorem upd_execIuEoi {c src} {σ τ : State} (h : execIuEoi c src σ = .next τ) : Upd σ τ := by
  cases h
  repeat' first
    | with_reducible exact Upd.refl _
    | with_reducible assumption
    | with_reducible apply upd_ifOk
    | with_reducible apply upd_busWrite
theorem upd_execIuDoorbellSet {ini v} {σ τ : State} (h : execIuDoorbellSet ini v σ = .next τ) : Upd σ τ := by
  cases h
  repeat' first | with_reducible exact Upd.refl _ | with_reducible assumption | with_reducible apply upd_busWrite
theorem upd_execIuDoorbellClear {ini v} {σ τ : State} (h : execIuDoorbellClear ini v σ = .next τ) : Upd σ τ := by
  cases h
  repeat' first | with_reducible exact Upd.refl _ | with_reducible assumption | with_reducible apply upd_busWrite
theorem upd_execCoalOpen {g} {σ τ : State} (h : execCoalOpen g σ = .next τ) : Upd σ τ := by
  cases h
  repeat' first
    | with_reducible exact Upd.refl _
    | with_reducible assumption
    | with_reducible apply upd_app
    | with_reducible apply upd_ifOk
    | with_reducible apply upd_coalTimer
theorem upd_execQueueStageWrite {ini q w v} {σ τ : State} (h : execQueueStageWrite ini q w v σ = .next τ)
    : Upd σ τ := by
  cases h
  repeat' first
    | with_reducible exact Upd.refl _
    | with_reducible assumption
    | with_reducible apply upd_ifOk
    | with_reducible apply upd_busWrite
theorem upd_execQueuePush {ini q v} {σ τ : State} (h : execQueuePush ini q v σ = .next τ) : Upd σ τ := by
  cases h
  repeat' first
    | with_reducible exact Upd.refl _
    | with_reducible assumption
    | with_reducible apply upd_ifOk
    | with_reducible apply upd_busWrite
theorem upd_execQueuePop {ini q} {σ τ : State} (h : execQueuePop ini q σ = .next τ) : Upd σ τ := by
  cases h
  repeat' first
    | with_reducible exact Upd.refl _
    | with_reducible assumption
    | with_reducible apply upd_ifOk
    | with_reducible apply upd_busRead
theorem upd_execQueueLatchRead {ini q w} {σ τ : State} (h : execQueueLatchRead ini q w σ = .next τ) : Upd σ τ := by
  cases h
  repeat' first
    | with_reducible exact Upd.refl _
    | with_reducible assumption
    | with_reducible apply upd_ifOk
    | with_reducible apply upd_busRead
theorem upd_execQueueEnable {ini v} {σ τ : State} (h : execQueueEnable ini v σ = .next τ) : Upd σ τ := by
  cases h
  repeat' first | with_reducible exact Upd.refl _ | with_reducible assumption | with_reducible apply upd_busWrite
theorem upd_execQueueFlush {ini} {σ τ : State} (h : execQueueFlush ini σ = .next τ) : Upd σ τ := by
  cases h
  repeat' first | with_reducible exact Upd.refl _ | with_reducible assumption | with_reducible apply upd_busWrite
theorem upd_execQmStall {q} {σ τ : State} (h : execQmStall q σ = .next τ) : Upd σ τ := by
  cases h
  repeat' first
    | with_reducible exact Upd.refl _
    | with_reducible assumption
    | with_reducible apply upd_app
    | with_reducible apply upd_ifOk
    | with_reducible apply upd_qStall
theorem upd_execHostAccess {a size write v} {σ τ : State} (h : execHostAccess a size write v σ = .next τ)
    : Upd σ τ := by
  cases h
  repeat' first | with_reducible exact Upd.refl _ | with_reducible assumption | with_reducible apply upd_hostAccess
theorem upd_execHdbSet {v} {σ τ : State} (h : execHdbSet v σ = .next τ) : Upd σ τ := by
  cases h
  repeat' first | with_reducible exact Upd.refl _ | with_reducible assumption | with_reducible apply upd_busWrite
theorem upd_execHdbClear {ini v} {σ τ : State} (h : execHdbClear ini v σ = .next τ) : Upd σ τ := by
  cases h
  repeat' first | with_reducible exact Upd.refl _ | with_reducible assumption | with_reducible apply upd_busWrite
theorem upd_execCplCmd {ini v} {σ τ : State} (h : execCplCmd ini v σ = .next τ) : Upd σ τ := by
  cases h
  repeat' first | with_reducible exact Upd.refl _ | with_reducible assumption | with_reducible apply upd_busWrite
theorem upd_execCqEntryWrite {k} {σ τ : State} (h : execCqEntryWrite k σ = .next τ) : Upd σ τ := by
  cases h
  repeat' first
    | with_reducible exact Upd.refl _
    | with_reducible assumption
    | with_reducible apply upd_app
    | with_reducible apply upd_ifOk
    | with_reducible apply upd_cqEntryWrite
theorem upd_execCqHeadWrite {v} {σ τ : State} (h : execCqHeadWrite v σ = .next τ) : Upd σ τ := by
  cases h
  repeat' first | with_reducible exact Upd.refl _ | with_reducible assumption | with_reducible apply upd_busWrite
theorem upd_execModTimerExpire {k} {σ τ : State} (h : execModTimerExpire k σ = .next τ) : Upd σ τ := by
  cases h
  repeat' first
    | with_reducible exact Upd.refl _
    | with_reducible assumption
    | with_reducible apply upd_app
    | with_reducible apply upd_ifOk
    | with_reducible apply upd_modExpire
theorem upd_execMsixSend {k} {σ τ : State} (h : execMsixSend k σ = .next τ) : Upd σ τ := by
  cases h
  repeat' first
    | with_reducible exact Upd.refl _
    | with_reducible assumption
    | with_reducible apply upd_app
    | with_reducible apply upd_ifOk
    | with_reducible apply upd_msixSend
theorem upd_execHostWake {d0} {σ τ : State} (h : execHostWake d0 σ = .next τ) : Upd σ τ := by
  cases h
  repeat' first
    | with_reducible exact Upd.refl _
    | with_reducible assumption
    | with_reducible apply upd_app
    | with_reducible apply upd_hostWake
theorem upd_execPcieReset {cause} {σ τ : State} (h : execPcieReset cause σ = .next τ) : Upd σ τ := by
  cases h
  repeat' first
    | with_reducible exact Upd.refl _
    | with_reducible assumption
    | with_reducible apply upd_app
    | with_reducible apply upd_pcieReset
theorem upd_execPcieLink {up speed width} {σ τ : State} (h : execPcieLink up speed width σ = .next τ) : Upd σ τ := by
  cases h
  repeat' first
    | with_reducible exact Upd.refl _
    | with_reducible assumption
    | with_reducible apply upd_app
    | with_reducible apply upd_pcieLink
theorem upd_execByellUp {lanes} {σ τ : State} (h : execByellUp lanes σ = .next τ) : Upd σ τ := by
  cases h
  repeat' first
    | with_reducible exact Upd.refl _
    | with_reducible assumption
    | with_reducible apply upd_rt
    | with_reducible apply upd_byellUp
theorem upd_execByellDown {σ τ : State} (h : execByellDown σ = .next τ) : Upd σ τ := by
  cases h
  repeat' first
    | with_reducible exact Upd.refl _
    | with_reducible assumption
    | with_reducible apply upd_rt
    | with_reducible apply upd_byellDown
theorem upd_execByellLane {lane} {σ τ : State} (h : execByellLane lane σ = .next τ) : Upd σ τ := by
  cases h
  repeat' first
    | with_reducible exact Upd.refl _
    | with_reducible assumption
    | with_reducible apply upd_rt
    | with_reducible apply upd_byellLane
theorem upd_execCutReceived {m ok} {σ τ : State} (h : execCutReceived m ok σ = .next τ) : Upd σ τ := by
  cases h
  repeat' first
    | with_reducible exact Upd.refl _
    | with_reducible assumption
    | with_reducible apply upd_rt
    | with_reducible apply upd_cutReceived
theorem upd_execMirrorReceived {seq x ok} {σ τ : State} (h : execMirrorReceived seq x ok σ = .next τ) : Upd σ τ := by
  cases h
  repeat' first
    | with_reducible exact Upd.refl _
    | with_reducible assumption
    | with_reducible apply upd_rt
    | with_reducible apply upd_mirrorGot
theorem upd_execImpDataReceived {l ok} {σ τ : State} (h : execImpDataReceived l ok σ = .next τ) : Upd σ τ := by
  cases h
  repeat' first
    | with_reducible exact Upd.refl _
    | with_reducible assumption
    | with_reducible apply upd_rt
    | with_reducible apply upd_impData
theorem upd_execImpEndReceived {m} {σ τ : State} (h : execImpEndReceived m σ = .next τ) : Upd σ τ := by
  cases h
  repeat' first
    | with_reducible exact Upd.refl _
    | with_reducible assumption
    | with_reducible apply upd_rt
    | with_reducible apply upd_impEnd
theorem upd_execStatusReceived {m ok} {σ τ : State} (h : execStatusReceived m ok σ = .next τ) : Upd σ τ := by
  cases h
  repeat' first
    | with_reducible exact Upd.refl _
    | with_reducible assumption
    | with_reducible apply upd_rt
    | with_reducible apply upd_statusGot
theorem upd_execStatusTimeout {σ τ : State} (h : execStatusTimeout σ = .next τ) : Upd σ τ := by
  cases h
  repeat' first
    | with_reducible exact Upd.refl _
    | with_reducible assumption
    | with_reducible apply upd_rt
    | with_reducible apply upd_statusTimeout
theorem upd_execYieldReceived {lastEnd ok} {σ τ : State} (h : execYieldReceived lastEnd ok σ = .next τ)
    : Upd σ τ := by
  cases h
  repeat' first
    | with_reducible exact Upd.refl _
    | with_reducible assumption
    | with_reducible apply upd_rt
    | with_reducible apply upd_yieldGot
theorem upd_execSyncDataReceived {x ok} {σ τ : State} (h : execSyncDataReceived x ok σ = .next τ) : Upd σ τ := by
  cases h
  repeat' first
    | with_reducible exact Upd.refl _
    | with_reducible assumption
    | with_reducible apply upd_rt
    | with_reducible apply upd_syncData
theorem upd_execFormationTimeout {σ τ : State} (h : execFormationTimeout σ = .next τ) : Upd σ τ := by
  cases h
  repeat' first
    | with_reducible exact Upd.refl _
    | with_reducible assumption
    | with_reducible apply upd_rt
    | with_reducible apply upd_formationTimeout
theorem upd_execJoinClaimTimeout {σ τ : State} (h : execJoinClaimTimeout σ = .next τ) : Upd σ τ := by
  cases h
  repeat' first
    | with_reducible exact Upd.refl _
    | with_reducible assumption
    | with_reducible apply upd_rt
    | with_reducible apply upd_joinClaim
theorem upd_execWitHeartbeat {σ τ : State} (h : execWitHeartbeat σ = .next τ) : Upd σ τ := by
  cases h
  repeat' first
    | with_reducible exact Upd.refl _
    | with_reducible assumption
    | with_reducible apply upd_rt
    | with_reducible apply upd_heartbeat
theorem upd_execWitReplyReceived {m} {σ τ : State} (h : execWitReplyReceived m σ = .next τ) : Upd σ τ := by
  cases h
  repeat' first
    | with_reducible exact Upd.refl _
    | with_reducible assumption
    | with_reducible apply upd_rt
    | with_reducible apply upd_witReply
theorem upd_execWitReplyTimeout {σ τ : State} (h : execWitReplyTimeout σ = .next τ) : Upd σ τ := by
  cases h
  repeat' first
    | with_reducible exact Upd.refl _
    | with_reducible assumption
    | with_reducible apply upd_rt
    | with_reducible apply upd_witTimeout
theorem upd_execLeaseLost {σ τ : State} (h : execLeaseLost σ = .next τ) : Upd σ τ := by
  cases h
  repeat' first
    | with_reducible exact Upd.refl _
    | with_reducible assumption
    | with_reducible apply upd_rt
    | with_reducible apply upd_leaseLost
theorem upd_execPairSwap {ini} {σ τ : State} (h : execPairSwap ini σ = .next τ) : Upd σ τ := by
  cases h
  repeat' first | with_reducible exact Upd.refl _ | with_reducible assumption | with_reducible apply upd_busWrite
theorem upd_execPairFence {ini} {σ τ : State} (h : execPairFence ini σ = .next τ) : Upd σ τ := by
  cases h
  repeat' first | with_reducible exact Upd.refl _ | with_reducible assumption | with_reducible apply upd_busWrite
theorem upd_execPairUnfence {ini} {σ τ : State} (h : execPairUnfence ini σ = .next τ) : Upd σ τ := by
  cases h
  repeat' first | with_reducible exact Upd.refl _ | with_reducible assumption | with_reducible apply upd_busWrite
theorem upd_execSwapPeriodExpire {σ τ : State} (h : execSwapPeriodExpire σ = .next τ) : Upd σ τ := by
  cases h
  repeat' first
    | with_reducible exact Upd.refl _
    | with_reducible assumption
    | with_reducible apply upd_rt
    | with_reducible apply upd_swapDue
theorem upd_execGroundPortRequest {port data extra} {σ τ : State} (h : execGroundPortRequest port data extra σ = .next τ)
    : Upd σ τ := by
  cases h
  repeat' first
    | with_reducible exact Upd.refl _
    | with_reducible assumption
    | with_reducible apply upd_rt
    | with_reducible apply upd_ifOk
    | with_reducible apply upd_portRequest
theorem upd_execMbxInWrite {ini v} {σ τ : State} (h : execMbxInWrite ini v σ = .next τ) : Upd σ τ := by
  cases h
  repeat' first | with_reducible exact Upd.refl _ | with_reducible assumption | with_reducible apply upd_busWrite
theorem upd_execMbxOutRead {ini} {σ τ : State} (h : execMbxOutRead ini σ = .next τ) : Upd σ τ := by
  cases h
  repeat' first | with_reducible exact Upd.refl _ | with_reducible assumption | with_reducible apply upd_busRead
theorem upd_execGroundKeyUpdate {σ τ : State} (h : execGroundKeyUpdate σ = .next τ) : Upd σ τ := by
  cases h
  repeat' first
    | with_reducible exact Upd.refl _
    | with_reducible assumption
    | with_reducible apply upd_rt
    | with_reducible apply upd_mbxKeyUpdate
theorem upd_execGroundPubkey {slot} {σ τ : State} (h : execGroundPubkey slot σ = .next τ) : Upd σ τ := by
  cases h
  repeat' first
    | with_reducible exact Upd.refl _
    | with_reducible assumption
    | with_reducible apply upd_rt
    | with_reducible apply upd_mbxPubkey
theorem upd_execGroundSign {slot msg} {σ τ : State} (h : execGroundSign slot msg σ = .next τ) : Upd σ τ := by
  cases h
  repeat' first
    | with_reducible exact Upd.refl _
    | with_reducible assumption
    | with_reducible apply upd_rt
    | with_reducible apply upd_mbxSign
theorem upd_execGroundCmac {slot msg} {σ τ : State} (h : execGroundCmac slot msg σ = .next τ) : Upd σ τ := by
  cases h
  repeat' first
    | with_reducible exact Upd.refl _
    | with_reducible assumption
    | with_reducible apply upd_rt
    | with_reducible apply upd_mbxSlotOp
    | intro _
theorem upd_execGroundAeadEnc {slot head msg} {σ τ : State} (h : execGroundAeadEnc slot head msg σ = .next τ)
    : Upd σ τ := by
  cases h
  repeat' first
    | with_reducible exact Upd.refl _
    | with_reducible assumption
    | with_reducible apply upd_rt
    | with_reducible apply upd_mbxSlotOp
    | intro _
theorem upd_execGroundAeadDec {slot head msg} {σ τ : State} (h : execGroundAeadDec slot head msg σ = .next τ)
    : Upd σ τ := by
  cases h
  repeat' first
    | with_reducible exact Upd.refl _
    | with_reducible assumption
    | with_reducible apply upd_rt
    | with_reducible apply upd_mbxSlotOp
    | intro _
theorem upd_execGroundRandom {n} {σ τ : State} (h : execGroundRandom n σ = .next τ) : Upd σ τ := by
  cases h
  repeat' first
    | with_reducible exact Upd.refl _
    | with_reducible assumption
    | with_reducible apply upd_rt
    | with_reducible apply upd_mbxRandom
theorem upd_execGroundGenerate {slot} {σ τ : State} (h : execGroundGenerate slot σ = .next τ) : Upd σ τ := by
  cases h
  repeat' first
    | with_reducible exact Upd.refl _
    | with_reducible assumption
    | with_reducible apply upd_rt
    | with_reducible apply upd_mbxGenerate
theorem upd_execGroundCommandDone {σ τ : State} (h : execGroundCommandDone σ = .next τ) : Upd σ τ := by
  cases h
  repeat' first
    | with_reducible exact Upd.refl _
    | with_reducible assumption
    | with_reducible apply upd_rt
    | with_reducible apply upd_mbxDone
theorem upd_execTamper {src active vioC} {σ τ : State} (h : execTamper src active vioC σ = .next τ) : Upd σ τ := by
  cases h
  repeat' first
    | with_reducible exact Upd.refl _
    | with_reducible assumption
    | with_reducible apply upd_ifOk
    | with_reducible apply upd_tamperIn
theorem upd_execTampLatchClear {ini v} {σ τ : State} (h : execTampLatchClear ini v σ = .next τ) : Upd σ τ := by
  cases h
  repeat' first | with_reducible exact Upd.refl _ | with_reducible assumption | with_reducible apply upd_busWrite
theorem upd_execDbgNewChal {ini} {σ τ : State} (h : execDbgNewChal ini σ = .next τ) : Upd σ τ := by
  cases h
  repeat' first | with_reducible exact Upd.refl _ | with_reducible assumption | with_reducible apply upd_busWrite
theorem upd_execDbgRequest {ini level} {σ τ : State} (h : execDbgRequest ini level σ = .next τ) : Upd σ τ := by
  cases h
  repeat' first | with_reducible exact Upd.refl _ | with_reducible assumption | with_reducible apply upd_busWrite
theorem upd_execDbgEnd {ini} {σ τ : State} (h : execDbgEnd ini σ = .next τ) : Upd σ τ := by
  cases h
  repeat' first | with_reducible exact Upd.refl _ | with_reducible assumption | with_reducible apply upd_busWrite
theorem upd_execDbgChalExpire {σ τ : State} (h : execDbgChalExpire σ = .next τ) : Upd σ τ := by
  cases h
  repeat' first
    | with_reducible exact Upd.refl _
    | with_reducible assumption
    | with_reducible apply upd_rt
    | with_reducible apply upd_dbgChalExpire
theorem upd_execDbgLockoutEnd {σ τ : State} (h : execDbgLockoutEnd σ = .next τ) : Upd σ τ := by
  cases h
  repeat' first
    | with_reducible exact Upd.refl _
    | with_reducible assumption
    | with_reducible apply upd_rt
    | with_reducible apply upd_dbgLockEnd
theorem upd_execRtHalt {σ τ : State} (h : execRtHalt σ = .next τ) : Upd σ τ := by
  cases h
  repeat' first
    | with_reducible exact Upd.refl _
    | with_reducible assumption
    | with_reducible apply upd_rt
    | with_reducible apply upd_rtHalt
theorem upd_execRtResume {σ τ : State} (h : execRtResume σ = .next τ) : Upd σ τ := by
  cases h
  repeat' first
    | with_reducible exact Upd.refl _
    | with_reducible assumption
    | with_reducible apply upd_rt
    | with_reducible apply upd_rtResume
theorem upd_execBulkOpen {src m} {σ τ : State} (h : execBulkOpen src m σ = .next τ) : Upd σ τ := by
  cases h
  repeat' first
    | with_reducible exact Upd.refl _
    | with_reducible assumption
    | with_reducible apply upd_updRun
    | with_reducible apply upd_ifOk
    | with_reducible apply upd_bulkFrom
    | with_reducible apply upd_bulkOpen
    | intro _
theorem upd_execBulkData {src m} {σ τ : State} (h : execBulkData src m σ = .next τ) : Upd σ τ := by
  cases h
  repeat' first
    | with_reducible exact Upd.refl _
    | with_reducible assumption
    | with_reducible apply upd_updRun
    | with_reducible apply upd_ifOk
    | with_reducible apply upd_bulkFrom
    | with_reducible apply upd_bulkData
    | intro _
theorem upd_execBulkAck {k m} {σ τ : State} (h : execBulkAck k m σ = .next τ) : Upd σ τ := by
  cases h
  repeat' first
    | with_reducible exact Upd.refl _
    | with_reducible assumption
    | with_reducible apply upd_updRun
    | with_reducible apply upd_ifOk
    | with_reducible apply upd_bulkFrom
    | with_reducible apply upd_bulkAck
    | intro _
theorem upd_execBulkAckSend {σ τ : State} (h : execBulkAckSend σ = .next τ) : Upd σ τ := by
  cases h
  repeat' first
    | with_reducible exact Upd.refl _
    | with_reducible assumption
    | with_reducible apply upd_updRun
    | with_reducible apply upd_bulkAckSend
theorem upd_execBulkChunkResend {k c} {σ τ : State} (h : execBulkChunkResend k c σ = .next τ) : Upd σ τ := by
  cases h
  repeat' first
    | with_reducible exact Upd.refl _
    | with_reducible assumption
    | with_reducible apply upd_updRun
    | with_reducible apply upd_ifOk
    | with_reducible apply upd_bulkChunkResend
theorem upd_execBulkOpenResend {k} {σ τ : State} (h : execBulkOpenResend k σ = .next τ) : Upd σ τ := by
  cases h
  repeat' first
    | with_reducible exact Upd.refl _
    | with_reducible assumption
    | with_reducible apply upd_updRun
    | with_reducible apply upd_ifOk
    | with_reducible apply upd_bulkOpenResend
theorem upd_execBulkStreamTimeout {σ τ : State} (h : execBulkStreamTimeout σ = .next τ) : Upd σ τ := by
  cases h
  repeat' first
    | with_reducible exact Upd.refl _
    | with_reducible assumption
    | with_reducible apply upd_updRun
    | with_reducible apply upd_bulkTimeout
theorem upd_execBulkCloseDone {src m} {σ τ : State} (h : execBulkCloseDone src m σ = .next τ) : Upd σ τ := by
  cases h
  repeat' first
    | with_reducible exact Upd.refl _
    | with_reducible assumption
    | with_reducible apply upd_updRun
    | with_reducible apply upd_ifOk
    | with_reducible apply upd_bulkClosed
theorem upd_execBulkCloseAbort {src m} {σ τ : State} (h : execBulkCloseAbort src m σ = .next τ) : Upd σ τ := by
  cases h
  repeat' first
    | with_reducible exact Upd.refl _
    | with_reducible assumption
    | with_reducible apply upd_updRun
    | with_reducible apply upd_ifOk
    | with_reducible apply upd_bulkClosed
theorem upd_execBulkCloseActivate {src m} {σ τ : State} (h : execBulkCloseActivate src m σ = .next τ) : Upd σ τ := by
  cases h
  repeat' first
    | with_reducible exact Upd.refl _
    | with_reducible assumption
    | with_reducible apply upd_updRun
    | with_reducible apply upd_ifOk
    | with_reducible apply upd_bulkClosed
theorem upd_execBulkCloseRevert {src m} {σ τ : State} (h : execBulkCloseRevert src m σ = .next τ) : Upd σ τ := by
  cases h
  repeat' first
    | with_reducible exact Upd.refl _
    | with_reducible assumption
    | with_reducible apply upd_updRun
    | with_reducible apply upd_ifOk
    | with_reducible apply upd_bulkClosed
theorem upd_execUpdVerifyDone {σ τ : State} (h : execUpdVerifyDone σ = .next τ) : Upd σ τ := by
  cases h
  repeat' first
    | with_reducible exact Upd.refl _
    | with_reducible assumption
    | with_reducible apply upd_updGo
    | with_reducible apply upd_updVerified
theorem upd_execUpdDeadline {σ τ : State} (h : execUpdDeadline σ = .next τ) : Upd σ τ := by
  cases h
  repeat' first
    | with_reducible exact Upd.refl _
    | with_reducible assumption
    | with_reducible apply upd_updGo
    | with_reducible apply upd_updDeadline
theorem upd_execUpdCmdActivate {ini} {σ τ : State} (h : execUpdCmdActivate ini σ = .next τ) : Upd σ τ := by
  cases h
  repeat' first | with_reducible exact Upd.refl _ | with_reducible assumption | with_reducible apply upd_busWrite
theorem upd_execUpdCmdAbort {ini} {σ τ : State} (h : execUpdCmdAbort ini σ = .next τ) : Upd σ τ := by
  cases h
  repeat' first | with_reducible exact Upd.refl _ | with_reducible assumption | with_reducible apply upd_busWrite
theorem upd_execUpdCmdConfirm {ini} {σ τ : State} (h : execUpdCmdConfirm ini σ = .next τ) : Upd σ τ := by
  cases h
  repeat' first | with_reducible exact Upd.refl _ | with_reducible assumption | with_reducible apply upd_busWrite
theorem upd_execUpdCmdRevert {ini} {σ τ : State} (h : execUpdCmdRevert ini σ = .next τ) : Upd σ τ := by
  cases h
  repeat' first | with_reducible exact Upd.refl _ | with_reducible assumption | with_reducible apply upd_busWrite
theorem upd_execUpdArmTimeout {σ τ : State} (h : execUpdArmTimeout σ = .next τ) : Upd σ τ := by
  cases h
  repeat' first
    | with_reducible exact Upd.refl _
    | with_reducible assumption
    | with_reducible apply upd_updGo
    | with_reducible apply upd_updArmTimeout
theorem upd_execUpdPartnerTimeout {σ τ : State} (h : execUpdPartnerTimeout σ = .next τ) : Upd σ τ := by
  cases h
  repeat' first
    | with_reducible exact Upd.refl _
    | with_reducible assumption
    | with_reducible apply upd_updGo
    | with_reducible apply upd_updPartnerTimeout
theorem upd_execLoaderUnitDone {σ τ : State} (h : execLoaderUnitDone σ = .next τ) : Upd σ τ := by
  cases h
  repeat' first
    | with_reducible exact Upd.refl _
    | with_reducible assumption
    | with_reducible apply upd_rt
    | with_reducible apply upd_loaderUnit
theorem upd_execLoaderExchangeDone {σ τ : State} (h : execLoaderExchangeDone σ = .next τ) : Upd σ τ := by
  cases h
  repeat' first
    | with_reducible exact Upd.refl _
    | with_reducible assumption
    | with_reducible apply upd_rt
    | with_reducible apply upd_loaderDone
theorem upd_execUpdStableConfirm {σ τ : State} (h : execUpdStableConfirm σ = .next τ) : Upd σ τ := by
  cases h
  repeat' first
    | with_reducible exact Upd.refl _
    | with_reducible assumption
    | with_reducible apply upd_updGo
    | with_reducible apply upd_updStable
theorem upd_execUpdNodeConfirmTimeout {σ τ : State} (h : execUpdNodeConfirmTimeout σ = .next τ) : Upd σ τ := by
  cases h
  repeat' first
    | with_reducible exact Upd.refl _
    | with_reducible assumption
    | with_reducible apply upd_updGo
    | with_reducible apply upd_updNodeTimeout
theorem upd_execUpdContainerRelease {σ τ : State} (h : execUpdContainerRelease σ = .next τ) : Upd σ τ := by
  cases h
  repeat' first
    | with_reducible exact Upd.refl _
    | with_reducible assumption
    | with_reducible apply upd_updGo
    | with_reducible apply upd_updRelease
theorem upd_execRecWriteDone {σ τ : State} (h : execRecWriteDone σ = .next τ) : Upd σ τ := by
  cases h
  repeat' first
    | with_reducible exact Upd.refl _
    | with_reducible assumption
    | with_reducible apply upd_rt
    | with_reducible apply upd_recWritten
theorem upd_execLogDegraded {cause} {σ τ : State} (h : execLogDegraded cause σ = .next τ) : Upd σ τ := by
  cases h
  repeat' first
    | with_reducible exact Upd.refl _
    | with_reducible assumption
    | with_reducible apply upd_rt
    | with_reducible apply upd_logFail
theorem upd_execRecTrialWrite {ok} {σ τ : State} (h : execRecTrialWrite ok σ = .next τ) : Upd σ τ := by
  cases h
  repeat' first
    | with_reducible exact Upd.refl _
    | with_reducible assumption
    | with_reducible apply upd_rt
    | with_reducible apply upd_recTrial
theorem upd_execLogRestored {σ τ : State} (h : execLogRestored σ = .next τ) : Upd σ τ := by
  cases h
  repeat' first
    | with_reducible exact Upd.refl _
    | with_reducible assumption
    | with_reducible apply upd_rt
    | with_reducible apply upd_recRestored
theorem upd_execRecRdSelWrite {ini v} {σ τ : State} (h : execRecRdSelWrite ini v σ = .next τ) : Upd σ τ := by
  cases h
  repeat' first | with_reducible exact Upd.refl _ | with_reducible assumption | with_reducible apply upd_busWrite
theorem upd_execRecRdWin0Read {ini} {σ τ : State} (h : execRecRdWin0Read ini σ = .next τ) : Upd σ τ := by
  cases h
  repeat' first | with_reducible exact Upd.refl _ | with_reducible assumption | with_reducible apply upd_busRead
theorem upd_execRecRdWin15Read {ini} {σ τ : State} (h : execRecRdWin15Read ini σ = .next τ) : Upd σ τ := by
  cases h
  repeat' first | with_reducible exact Upd.refl _ | with_reducible assumption | with_reducible apply upd_busRead
theorem upd_execRecQuotaWrite {ini v} {σ τ : State} (h : execRecQuotaWrite ini v σ = .next τ) : Upd σ τ := by
  cases h
  repeat' first | with_reducible exact Upd.refl _ | with_reducible assumption | with_reducible apply upd_busWrite
theorem upd_execRecAppPost {ini v} {σ τ : State} (h : execRecAppPost ini v σ = .next τ) : Upd σ τ := by
  cases h
  repeat' first | with_reducible exact Upd.refl _ | with_reducible assumption | with_reducible apply upd_busWrite
theorem upd_execAgeMeasure {k v} {σ τ : State} (h : execAgeMeasure k v σ = .next τ) : Upd σ τ := by
  cases h
  repeat' first
    | with_reducible exact Upd.refl _
    | with_reducible assumption
    | with_reducible apply upd_rt
    | with_reducible apply upd_ifOk
    | with_reducible apply upd_ageMeasure
theorem upd_execNandScanDone {v} {σ τ : State} (h : execNandScanDone v σ = .next τ) : Upd σ τ := by
  cases h
  repeat' first
    | with_reducible exact Upd.refl _
    | with_reducible assumption
    | with_reducible apply upd_rt
    | with_reducible apply upd_nandScan
theorem upd_execScapTestStart {σ τ : State} (h : execScapTestStart σ = .next τ) : Upd σ τ := by
  cases h
  repeat' first
    | with_reducible exact Upd.refl _
    | with_reducible assumption
    | with_reducible apply upd_rt
    | with_reducible apply upd_scapHour
theorem upd_execAgeScapTest {c esr} {σ τ : State} (h : execAgeScapTest c esr σ = .next τ) : Upd σ τ := by
  cases h
  repeat' first
    | with_reducible exact Upd.refl _
    | with_reducible assumption
    | with_reducible apply upd_rt
    | with_reducible apply upd_scapDone
theorem upd_execSamplePointReplan {b} {σ τ : State} (h : execSamplePointReplan b σ = .next τ) : Upd σ τ := by
  cases h
  repeat' first
    | with_reducible exact Upd.refl _
    | with_reducible assumption
    | with_reducible apply upd_rt
    | with_reducible apply upd_ifOk
    | with_reducible apply upd_spReplan
theorem upd_execDriveCapReplan {σ τ : State} (h : execDriveCapReplan σ = .next τ) : Upd σ τ := by
  cases h
  repeat' first
    | with_reducible exact Upd.refl _
    | with_reducible assumption
    | with_reducible apply upd_rt
    | with_reducible apply upd_capReplan
theorem upd_execAgeCmdMeasure {ini} {σ τ : State} (h : execAgeCmdMeasure ini σ = .next τ) : Upd σ τ := by
  cases h
  repeat' first | with_reducible exact Upd.refl _ | with_reducible assumption | with_reducible apply upd_busWrite
theorem upd_execAgeCmdScapTest {ini} {σ τ : State} (h : execAgeCmdScapTest ini σ = .next τ) : Upd σ τ := by
  cases h
  repeat' first | with_reducible exact Upd.refl _ | with_reducible assumption | with_reducible apply upd_busWrite
theorem upd_execPowerGoodRise {vin} {σ τ : State} (h : execPowerGoodRise vin σ = .next τ) : Upd σ τ := by
  cases h
  repeat' first | with_reducible exact Upd.refl _ | with_reducible assumption | with_reducible apply upd_powerRise
theorem upd_execPowerGoodFall {vin vbat} {σ τ : State} (h : execPowerGoodFall vin vbat σ = .next τ) : Upd σ τ := by
  cases h
  repeat' first | with_reducible exact Upd.refl _ | with_reducible assumption | with_reducible apply upd_powerFall
theorem upd_execVholdReady {mv} {σ τ : State} (h : execVholdReady mv σ = .next τ) : Upd σ τ := by
  cases h
  repeat' first | with_reducible exact Upd.refl _ | with_reducible assumption | with_reducible apply upd_vholdReady
theorem upd_execRideThroughEnd {σ τ : State} (h : execRideThroughEnd σ = .next τ) : Upd σ τ := by
  cases h
  repeat' first | with_reducible exact Upd.refl _ | with_reducible assumption | with_reducible apply upd_rideEnd
theorem upd_execPowerDownDone {vbat} {σ τ : State} (h : execPowerDownDone vbat σ = .next τ) : Upd σ τ := by
  cases h
  repeat' first | with_reducible exact Upd.refl _ | with_reducible assumption | with_reducible apply upd_powerDown
theorem upd_execPwrVinReturn {vin} {σ τ : State} (h : execPwrVinReturn vin σ = .next τ) : Upd σ τ := by
  cases h
  repeat' first | with_reducible exact Upd.refl _ | with_reducible assumption | with_reducible apply upd_vinReturn
theorem upd_execPwrCmdRun {ini} {σ τ : State} (h : execPwrCmdRun ini σ = .next τ) : Upd σ τ := by
  cases h
  repeat' first | with_reducible exact Upd.refl _ | with_reducible assumption | with_reducible apply upd_busWrite
theorem upd_execPwrCmdLow {ini} {σ τ : State} (h : execPwrCmdLow ini σ = .next τ) : Upd σ τ := by
  cases h
  repeat' first | with_reducible exact Upd.refl _ | with_reducible assumption | with_reducible apply upd_busWrite
theorem upd_execPwrCmdStandby {ini} {σ τ : State} (h : execPwrCmdStandby ini σ = .next τ) : Upd σ τ := by
  cases h
  repeat' first | with_reducible exact Upd.refl _ | with_reducible assumption | with_reducible apply upd_busWrite
theorem upd_execDomainRstApp {ini} {σ τ : State} (h : execDomainRstApp ini σ = .next τ) : Upd σ τ := by
  cases h
  repeat' first | with_reducible exact Upd.refl _ | with_reducible assumption | with_reducible apply upd_busWrite
theorem upd_execDomainRstNet {ini} {σ τ : State} (h : execDomainRstNet ini σ = .next τ) : Upd σ τ := by
  cases h
  repeat' first | with_reducible exact Upd.refl _ | with_reducible assumption | with_reducible apply upd_busWrite
theorem upd_execNetWatchdogExpire {σ τ : State} (h : execNetWatchdogExpire σ = .next τ) : Upd σ τ := by
  cases h
  repeat' first
    | with_reducible exact Upd.refl _
    | with_reducible assumption
    | with_reducible apply upd_nw
    | with_reducible apply upd_netWatchdog
theorem upd_execCoreWatchdogExpire {n} {σ τ : State} (h : execCoreWatchdogExpire n σ = .next τ) : Upd σ τ := by
  cases h
  repeat' first
    | with_reducible exact Upd.refl _
    | with_reducible assumption
    | with_reducible apply upd_app
    | with_reducible apply upd_coreWatchdog
theorem upd_execWdogKick {ini v} {σ τ : State} (h : execWdogKick ini v σ = .next τ) : Upd σ τ := by
  cases h
  repeat' first | with_reducible exact Upd.refl _ | with_reducible assumption | with_reducible apply upd_busWrite
theorem upd_execPwrWake {σ τ : State} (h : execPwrWake σ = .next τ) : Upd σ τ := by
  cases h
  repeat' first | with_reducible exact Upd.refl _ | with_reducible assumption | with_reducible apply upd_wake
theorem upd_execVinLostStandby {vbat} {σ τ : State} (h : execVinLostStandby vbat σ = .next τ) : Upd σ τ := by
  cases h
  repeat' first | with_reducible exact Upd.refl _ | with_reducible assumption | with_reducible apply upd_vinLost
theorem upd_execBootStageDone {ok ms} {σ τ : State} (h : execBootStageDone ok ms σ = .next τ) : Upd σ τ := by
  cases h
  repeat' first
    | with_reducible exact Upd.refl _
    | with_reducible assumption
    | with_reducible apply upd_rt
    | with_reducible apply upd_stageDone
theorem upd_execBootStageDeadline {ms} {σ τ : State} (h : execBootStageDeadline ms σ = .next τ) : Upd σ τ := by
  cases h
  repeat' first
    | with_reducible exact Upd.refl _
    | with_reducible assumption
    | with_reducible apply upd_rt
    | with_reducible apply upd_stageLate
theorem upd_execRomExecReset {σ τ : State} (h : execRomExecReset σ = .next τ) : Upd σ τ := by
  cases h
  repeat' first
    | with_reducible exact Upd.refl _
    | with_reducible assumption
    | with_reducible apply upd_rt
    | with_reducible apply upd_romReset
theorem upd_execBootRetryAll {ini} {σ τ : State} (h : execBootRetryAll ini σ = .next τ) : Upd σ τ := by
  cases h
  repeat' first | with_reducible exact Upd.refl _ | with_reducible assumption | with_reducible apply upd_busWrite
theorem upd_execBootRetrySel {ini stage} {σ τ : State} (h : execBootRetrySel ini stage σ = .next τ) : Upd σ τ := by
  cases h
  repeat' first | with_reducible exact Upd.refl _ | with_reducible assumption | with_reducible apply upd_busWrite
theorem upd_execNodeHistoryRecord {σ τ : State} (h : execNodeHistoryRecord σ = .next τ) : Upd σ τ := by
  cases h
  repeat' first
    | with_reducible exact Upd.refl _
    | with_reducible assumption
    | with_reducible apply upd_app
    | with_reducible apply upd_nodeHistory
theorem upd_execFeederHistoryRecord {σ τ : State} (h : execFeederHistoryRecord σ = .next τ) : Upd σ τ := by
  cases h
  repeat' first
    | with_reducible exact Upd.refl _
    | with_reducible assumption
    | with_reducible apply upd_app
    | with_reducible apply upd_feederHistory
theorem upd_execRcRegisterRead {ini a size} {σ τ : State} (h : execRcRegisterRead ini a size σ = .next τ)
    : Upd σ τ := by
  cases h
  repeat' first
    | with_reducible exact Upd.refl _
    | with_reducible assumption
    | with_reducible apply upd_ifOk
    | with_reducible apply upd_busRead
theorem upd_execAgeMarginRead {ini} {σ τ : State} (h : execAgeMarginRead ini σ = .next τ) : Upd σ τ := by
  cases h
  repeat' first | with_reducible exact Upd.refl _ | with_reducible assumption | with_reducible apply upd_busRead
theorem upd_execHarmWinRead {ini n} {σ τ : State} (h : execHarmWinRead ini n σ = .next τ) : Upd σ τ := by
  cases h
  repeat' first
    | with_reducible exact Upd.refl _
    | with_reducible assumption
    | with_reducible apply upd_ifOk
    | with_reducible apply upd_busRead
theorem upd_execByellLaneRestored {σ τ : State} (h : execByellLaneRestored σ = .next τ) : Upd σ τ := by
  cases h
  repeat' first
    | with_reducible exact Upd.refl _
    | with_reducible assumption
    | with_reducible apply upd_rt
    | with_reducible apply upd_byellLaneBack
theorem upd_execPcieHostSleep {l1 d3} {σ τ : State} (h : execPcieHostSleep l1 d3 σ = .next τ) : Upd σ τ := by
  cases h
  repeat' first
    | with_reducible exact Upd.refl _
    | with_reducible assumption
    | with_reducible apply upd_app
    | with_reducible apply upd_hostSleep
theorem upd_execMsixVectorUnmask {v} {σ τ : State} (h : execMsixVectorUnmask v σ = .next τ) : Upd σ τ := by
  cases h
  repeat' first
    | with_reducible exact Upd.refl _
    | with_reducible assumption
    | with_reducible apply upd_app
    | with_reducible apply upd_ifOk
    | with_reducible apply upd_msixUnmask
theorem upd_execPtpFollowUpReceived {h port seq sec ns corr} {σ τ : State} (h : execPtpFollowUpReceived h port seq sec ns corr σ = .next τ)
    : Upd σ τ := by
  cases h
  repeat' first
    | with_reducible exact Upd.refl _
    | with_reducible assumption
    | with_reducible apply upd_nw
    | with_reducible apply upd_ptpBoth
    | with_reducible apply upd_ptpFollowUp
    | intro _
theorem upd_execDiChatterWindowEnd {i} {σ τ : State} (h : execDiChatterWindowEnd i σ = .next τ) : Upd σ τ := by
  cases h
  repeat' first
    | with_reducible exact Upd.refl _
    | with_reducible assumption
    | with_reducible apply upd_rt
    | with_reducible apply upd_ifOk
    | with_reducible apply upd_diChatterEnd
theorem upd_execDiLevelChange {i level vioC} {σ τ : State} (h : execDiLevelChange i level vioC σ = .next τ)
    : Upd σ τ := by
  cases h
  repeat' first | with_reducible exact Upd.refl _ | with_reducible assumption | with_reducible apply upd_diLevel
theorem upd_execFbIntegrated {b} {σ τ : State} (h : execFbIntegrated b σ = .next τ) : Upd σ τ := by
  cases h
  repeat' first
    | with_reducible exact Upd.refl _
    | with_reducible assumption
    | with_reducible apply upd_rt
    | with_reducible apply upd_ifOk
    | with_reducible apply upd_fbIntegrated
theorem upd_execCalCommitDone {σ τ : State} (h : execCalCommitDone σ = .next τ) : Upd σ τ := by
  cases h
  repeat' first
    | with_reducible exact Upd.refl _
    | with_reducible assumption
    | with_reducible apply upd_rt
    | with_reducible apply upd_calDone

theorem upd_exec (c : Instr) {s t : State} (h : exec c s = .next t) : Upd s t := by
  cases c with
  | registerWrite _ _ _ _ => exact upd_execRegisterWrite h
  | accessTimeout _ _ _ => exact upd_execAccessTimeout h
  | splitLoRead _ _ => exact upd_execSplitLoRead h
  | splitHiWrite _ _ _ => exact upd_execSplitHiWrite h
  | splitLoWrite _ _ _ => exact upd_execSplitLoWrite h
  | errCapRead _ _ => exact upd_execErrCapRead h
  | buserrRead _ _ => exact upd_execBuserrRead h
  | rstCauseRead _ => exact upd_execRstCauseRead h
  | irqStatClear _ _ _ => exact upd_execIrqStatClear h
  | blockEnable _ _ => exact upd_execBlockEnable h
  | blockDisable _ _ => exact upd_execBlockDisable h
  | blockStopPoint _ => exact upd_execBlockStopPoint h
  | softReset _ _ => exact upd_execSoftReset h
  | softResetDone _ => exact upd_execSoftResetDone h
  | flush _ _ => exact upd_execFlush h
  | flushDone _ => exact upd_execFlushDone h
  | lockWrite _ _ _ => exact upd_execLockWrite h
  | unlockExpire _ => exact upd_execUnlockExpire h
  | blockWatchdogExpire _ => exact upd_execBlockWatchdogExpire h
  | sysRstCmd _ => exact upd_execSysRstCmd h
  | moduleReset => exact upd_execModuleReset h
  | coldReset => exact upd_execColdReset h
  | debugResetRequest => exact upd_execDebugResetRequest h
  | rtWatchdogExpire => exact upd_execRtWatchdogExpire h
  | supervisorReset _ => exact upd_execSupervisorReset h
  | tickEdge _ _ _ => exact upd_execTickEdge h
  | ownCut => exact upd_execOwnCut h
  | hatchRunStart => exact upd_execHatchRunStart h
  | hatchRunDone _ => exact upd_execHatchRunDone h
  | hatchWindowEnd _ => exact upd_execHatchWindowEnd h
  | composeStart => exact upd_execComposeStart h
  | composeDone _ => exact upd_execComposeDone h
  | tickComposeMiss _ => exact upd_execTickComposeMiss h
  | tickImpLate _ => exact upd_execTickImpLate h
  | impCopyComplete => exact upd_execImpCopyComplete h
  | guardBand => exact upd_execGuardBand h
  | graphOpen _ => exact upd_execGraphOpen h
  | graphCommit _ => exact upd_execGraphCommit h
  | graphAbort _ => exact upd_execGraphAbort h
  | graphRecordStore _ _ _ => exact upd_execGraphRecordStore h
  | graphValidationDone => exact upd_execGraphValidationDone h
  | graphPersistDone => exact upd_execGraphPersistDone h
  | plateWinRead _ => exact upd_execPlateWinRead h
  | brokenClear _ _ _ => exact upd_execBrokenClear h
  | latchClr _ _ => exact upd_execLatchClr h
  | coCmdWrite _ _ => exact upd_execCoCmdWrite h
  | coPulseStart _ => exact upd_execCoPulseStart h
  | coPulseEnd _ => exact upd_execCoPulseEnd h
  | coFeedbackRead _ => exact upd_execCoFeedbackRead h
  | coRetryPulse _ => exact upd_execCoRetryPulse h
  | coExternal _ _ => exact upd_execCoExternal h
  | evalHoldExpire _ => exact upd_execEvalHoldExpire h
  | fbFrameStart _ _ => exact upd_execFbFrameStart h
  | fbTagResponse _ => exact upd_execFbTagResponse h
  | fbTagTimeout _ => exact upd_execFbTagTimeout h
  | fbWindowClose _ _ => exact upd_execFbWindowClose h
  | fbFrameSent _ _ _ _ _ => exact upd_execFbFrameSent h
  | fbFrameReceived _ _ => exact upd_execFbFrameReceived h
  | fbError _ _ _ _ _ _ _ => exact upd_execFbError h
  | fbRecovered _ => exact upd_execFbRecovered h
  | fbStormEnd _ => exact upd_execFbStormEnd h
  | fbRateDetected _ _ _ => exact upd_execFbRateDetected h
  | fbRateNone _ => exact upd_execFbRateNone h
  | moTxRequest _ _ _ _ => exact upd_execMoTxRequest h
  | moRxArm _ _ _ _ => exact upd_execMoRxArm h
  | pollResponseTimeout _ => exact upd_execPollResponseTimeout h
  | faultEventHoldExpire _ _ => exact upd_execFaultEventHoldExpire h
  | nodePlan _ _ => exact upd_execNodePlan h
  | nodeUnplan _ _ => exact upd_execNodeUnplan h
  | nodeDecommission _ _ => exact upd_execNodeDecommission h
  | nodeQuarantine _ _ => exact upd_execNodeQuarantine h
  | nodeUnquarantine _ _ => exact upd_execNodeUnquarantine h
  | nodeRecommission _ _ => exact upd_execNodeRecommission h
  | nodeIdent _ _ => exact upd_execNodeIdent h
  | nodeMove _ _ _ => exact upd_execNodeMove h
  | nodeWink _ _ _ => exact upd_execNodeWink h
  | nodeCmdResend _ _ _ => exact upd_execNodeCmdResend h
  | probeOutcome _ _ => exact upd_execProbeOutcome h
  | keyInstallTimeout _ => exact upd_execKeyInstallTimeout h
  | recomRelease _ => exact upd_execRecomRelease h
  | nodeRecomFail _ => exact upd_execNodeRecomFail h
  | keyRolloutSwitch _ => exact upd_execKeyRolloutSwitch h
  | satWindowEnd _ => exact upd_execSatWindowEnd h
  | nodeEntRead _ _ => exact upd_execNodeEntRead h
  | nodeEntWrite _ _ _ => exact upd_execNodeEntWrite h
  | diConfirm _ => exact upd_execDiConfirm h
  | diStuck _ => exact upd_execDiStuck h
  | metWindowEnd _ _ => exact upd_execMetWindowEnd h
  | metWinCntRead _ _ => exact upd_execMetWinCntRead h
  | metEnergySave => exact upd_execMetEnergySave h
  | traceStart _ _ => exact upd_execTraceStart h
  | traceDecision _ => exact upd_execTraceDecision h
  | calChSel _ _ => exact upd_execCalChSel h
  | calCommit _ => exact upd_execCalCommit h
  | rtcSecond _ => exact upd_execRtcSecond h
  | rtcStageWrite _ _ _ => exact upd_execRtcStageWrite h
  | rtcStageCancel _ => exact upd_execRtcStageCancel h
  | rtcSecLoRead _ => exact upd_execRtcSecLoRead h
  | rtcCrystalStop => exact upd_execRtcCrystalStop h
  | rtcCrystalStart => exact upd_execRtcCrystalStart h
  | wakeTimerExpire => exact upd_execWakeTimerExpire h
  | wakeCfgWrite _ _ => exact upd_execWakeCfgWrite h
  | ptpSyncReceived _ _ _ _ _ _ _ _ => exact upd_execPtpSyncReceived h
  | ptpAnnounceReceived _ _ _ => exact upd_execPtpAnnounceReceived h
  | ptpDelayRespReceived _ _ _ _ _ _ => exact upd_execPtpDelayRespReceived h
  | ptpDelayReqSend _ _ _ => exact upd_execPtpDelayReqSend h
  | ptpTimeout _ => exact upd_execPtpTimeout h
  | gnssSentenceReceived _ _ _ => exact upd_execGnssSentenceReceived h
  | ppsInEdge _ => exact upd_execPpsInEdge h
  | gnssLost _ => exact upd_execGnssLost h
  | srcRevert _ => exact upd_execSrcRevert h
  | timeRtcFallback => exact upd_execTimeRtcFallback h
  | stepWaitEnd => exact upd_execStepWaitEnd h
  | timeLeap => exact upd_execTimeLeap h
  | rtcDiscipline _ _ => exact upd_execRtcDiscipline h
  | ppsOutPulse => exact upd_execPpsOutPulse h
  | timeNowRead _ => exact upd_execTimeNowRead h
  | schedEntStage _ _ _ => exact upd_execSchedEntStage h
  | schedEntCommit _ _ => exact upd_execSchedEntCommit h
  | schedEntRead _ => exact upd_execSchedEntRead h
  | schedFbSave _ _ => exact upd_execSchedFbSave h
  | schedFbSaved => exact upd_execSchedFbSaved h
  | swFrameForward _ _ => exact upd_execSwFrameForward h
  | macAge _ _ => exact upd_execMacAge h
  | ringSf _ => exact upd_execRingSf h
  | ringSignalRestore _ => exact upd_execRingSignalRestore h
  | rapsReceived _ => exact upd_execRapsReceived h
  | wtrExpire => exact upd_execWtrExpire h
  | holdoffExpire _ => exact upd_execHoldoffExpire h
  | guardExpire => exact upd_execGuardExpire h
  | erpsForcedSwitch _ _ => exact upd_execErpsForcedSwitch h
  | erpsManualSwitch _ _ => exact upd_execErpsManualSwitch h
  | erpsClear _ => exact upd_execErpsClear h
  | erpsCfgWrite _ _ => exact upd_execErpsCfgWrite h
  | ringSfp _ _ _ => exact upd_execRingSfp h
  | portLinkUp _ _ => exact upd_execPortLinkUp h
  | portLinkDown _ => exact upd_execPortLinkDown h
  | dtlsHandshake _ => exact upd_execDtlsHandshake h
  | lspRegBatch _ _ _ _ => exact upd_execLspRegBatch h
  | eventAck _ _ => exact upd_execEventAck h
  | lspEventResend _ _ => exact upd_execLspEventResend h
  | keepalive _ => exact upd_execKeepalive h
  | keepaliveReceived _ _ => exact upd_execKeepaliveReceived h
  | lspSessionDown _ _ => exact upd_execLspSessionDown h
  | iuDelivery _ => exact upd_execIuDelivery h
  | iuEoi _ _ => exact upd_execIuEoi h
  | iuDoorbellSet _ _ => exact upd_execIuDoorbellSet h
  | iuDoorbellClear _ _ => exact upd_execIuDoorbellClear h
  | coalOpen _ => exact upd_execCoalOpen h
  | queueStageWrite _ _ _ _ => exact upd_execQueueStageWrite h
  | queuePush _ _ _ => exact upd_execQueuePush h
  | queuePop _ _ => exact upd_execQueuePop h
  | queueLatchRead _ _ _ => exact upd_execQueueLatchRead h
  | queueEnable _ _ => exact upd_execQueueEnable h
  | queueFlush _ => exact upd_execQueueFlush h
  | qmStall _ => exact upd_execQmStall h
  | hostAccess _ _ _ _ => exact upd_execHostAccess h
  | hdbSet _ => exact upd_execHdbSet h
  | hdbClear _ _ => exact upd_execHdbClear h
  | cplCmd _ _ => exact upd_execCplCmd h
  | cqEntryWrite _ => exact upd_execCqEntryWrite h
  | cqHeadWrite _ => exact upd_execCqHeadWrite h
  | modTimerExpire _ => exact upd_execModTimerExpire h
  | msixSend _ => exact upd_execMsixSend h
  | hostWake _ => exact upd_execHostWake h
  | pcieReset _ => exact upd_execPcieReset h
  | pcieLink _ _ _ => exact upd_execPcieLink h
  | byellUp _ => exact upd_execByellUp h
  | byellDown => exact upd_execByellDown h
  | byellLane _ => exact upd_execByellLane h
  | cutReceived _ _ => exact upd_execCutReceived h
  | mirrorReceived _ _ _ => exact upd_execMirrorReceived h
  | impDataReceived _ _ => exact upd_execImpDataReceived h
  | impEndReceived _ => exact upd_execImpEndReceived h
  | statusReceived _ _ => exact upd_execStatusReceived h
  | statusTimeout => exact upd_execStatusTimeout h
  | yieldReceived _ _ => exact upd_execYieldReceived h
  | syncDataReceived _ _ => exact upd_execSyncDataReceived h
  | formationTimeout => exact upd_execFormationTimeout h
  | joinClaimTimeout => exact upd_execJoinClaimTimeout h
  | witHeartbeat => exact upd_execWitHeartbeat h
  | witReplyReceived _ => exact upd_execWitReplyReceived h
  | witReplyTimeout => exact upd_execWitReplyTimeout h
  | leaseLost => exact upd_execLeaseLost h
  | pairSwap _ => exact upd_execPairSwap h
  | pairFence _ => exact upd_execPairFence h
  | pairUnfence _ => exact upd_execPairUnfence h
  | swapPeriodExpire => exact upd_execSwapPeriodExpire h
  | groundPortRequest _ _ _ => exact upd_execGroundPortRequest h
  | mbxInWrite _ _ => exact upd_execMbxInWrite h
  | mbxOutRead _ => exact upd_execMbxOutRead h
  | groundKeyUpdate => exact upd_execGroundKeyUpdate h
  | groundPubkey _ => exact upd_execGroundPubkey h
  | groundSign _ _ => exact upd_execGroundSign h
  | groundCmac _ _ => exact upd_execGroundCmac h
  | groundAeadEnc _ _ _ => exact upd_execGroundAeadEnc h
  | groundAeadDec _ _ _ => exact upd_execGroundAeadDec h
  | groundRandom _ => exact upd_execGroundRandom h
  | groundGenerate _ => exact upd_execGroundGenerate h
  | groundCommandDone => exact upd_execGroundCommandDone h
  | tamper _ _ _ => exact upd_execTamper h
  | tampLatchClear _ _ => exact upd_execTampLatchClear h
  | dbgNewChal _ => exact upd_execDbgNewChal h
  | dbgRequest _ _ => exact upd_execDbgRequest h
  | dbgEnd _ => exact upd_execDbgEnd h
  | dbgChalExpire => exact upd_execDbgChalExpire h
  | dbgLockoutEnd => exact upd_execDbgLockoutEnd h
  | rtHalt => exact upd_execRtHalt h
  | rtResume => exact upd_execRtResume h
  | bulkOpen _ _ => exact upd_execBulkOpen h
  | bulkData _ _ => exact upd_execBulkData h
  | bulkAck _ _ => exact upd_execBulkAck h
  | bulkAckSend => exact upd_execBulkAckSend h
  | bulkChunkResend _ _ => exact upd_execBulkChunkResend h
  | bulkOpenResend _ => exact upd_execBulkOpenResend h
  | bulkStreamTimeout => exact upd_execBulkStreamTimeout h
  | bulkCloseDone _ _ => exact upd_execBulkCloseDone h
  | bulkCloseAbort _ _ => exact upd_execBulkCloseAbort h
  | bulkCloseActivate _ _ => exact upd_execBulkCloseActivate h
  | bulkCloseRevert _ _ => exact upd_execBulkCloseRevert h
  | updVerifyDone => exact upd_execUpdVerifyDone h
  | updDeadline => exact upd_execUpdDeadline h
  | updCmdActivate _ => exact upd_execUpdCmdActivate h
  | updCmdAbort _ => exact upd_execUpdCmdAbort h
  | updCmdConfirm _ => exact upd_execUpdCmdConfirm h
  | updCmdRevert _ => exact upd_execUpdCmdRevert h
  | updArmTimeout => exact upd_execUpdArmTimeout h
  | updPartnerTimeout => exact upd_execUpdPartnerTimeout h
  | loaderUnitDone => exact upd_execLoaderUnitDone h
  | loaderExchangeDone => exact upd_execLoaderExchangeDone h
  | updStableConfirm => exact upd_execUpdStableConfirm h
  | updNodeConfirmTimeout => exact upd_execUpdNodeConfirmTimeout h
  | updContainerRelease => exact upd_execUpdContainerRelease h
  | recWriteDone => exact upd_execRecWriteDone h
  | logDegraded _ => exact upd_execLogDegraded h
  | recTrialWrite _ => exact upd_execRecTrialWrite h
  | logRestored => exact upd_execLogRestored h
  | recRdSelWrite _ _ => exact upd_execRecRdSelWrite h
  | recRdWin0Read _ => exact upd_execRecRdWin0Read h
  | recRdWin15Read _ => exact upd_execRecRdWin15Read h
  | recQuotaWrite _ _ => exact upd_execRecQuotaWrite h
  | recAppPost _ _ => exact upd_execRecAppPost h
  | ageMeasure _ _ => exact upd_execAgeMeasure h
  | nandScanDone _ => exact upd_execNandScanDone h
  | scapTestStart => exact upd_execScapTestStart h
  | ageScapTest _ _ => exact upd_execAgeScapTest h
  | samplePointReplan _ => exact upd_execSamplePointReplan h
  | driveCapReplan => exact upd_execDriveCapReplan h
  | ageCmdMeasure _ => exact upd_execAgeCmdMeasure h
  | ageCmdScapTest _ => exact upd_execAgeCmdScapTest h
  | powerGoodRise _ => exact upd_execPowerGoodRise h
  | powerGoodFall _ _ => exact upd_execPowerGoodFall h
  | vholdReady _ => exact upd_execVholdReady h
  | rideThroughEnd => exact upd_execRideThroughEnd h
  | powerDownDone _ => exact upd_execPowerDownDone h
  | pwrVinReturn _ => exact upd_execPwrVinReturn h
  | pwrCmdRun _ => exact upd_execPwrCmdRun h
  | pwrCmdLow _ => exact upd_execPwrCmdLow h
  | pwrCmdStandby _ => exact upd_execPwrCmdStandby h
  | domainRstApp _ => exact upd_execDomainRstApp h
  | domainRstNet _ => exact upd_execDomainRstNet h
  | netWatchdogExpire => exact upd_execNetWatchdogExpire h
  | coreWatchdogExpire _ => exact upd_execCoreWatchdogExpire h
  | wdogKick _ _ => exact upd_execWdogKick h
  | pwrWake => exact upd_execPwrWake h
  | vinLostStandby _ => exact upd_execVinLostStandby h
  | bootStageDone _ _ => exact upd_execBootStageDone h
  | bootStageDeadline _ => exact upd_execBootStageDeadline h
  | romExecReset => exact upd_execRomExecReset h
  | bootRetryAll _ => exact upd_execBootRetryAll h
  | bootRetrySel _ _ => exact upd_execBootRetrySel h
  | nodeHistoryRecord => exact upd_execNodeHistoryRecord h
  | feederHistoryRecord => exact upd_execFeederHistoryRecord h
  | rcRegisterRead _ _ _ => exact upd_execRcRegisterRead h
  | ageMarginRead _ => exact upd_execAgeMarginRead h
  | harmWinRead _ _ => exact upd_execHarmWinRead h
  | byellLaneRestored => exact upd_execByellLaneRestored h
  | pcieHostSleep _ _ => exact upd_execPcieHostSleep h
  | msixVectorUnmask _ => exact upd_execMsixVectorUnmask h
  | ptpFollowUpReceived _ _ _ _ _ _ => exact upd_execPtpFollowUpReceived h
  | diChatterWindowEnd _ => exact upd_execDiChatterWindowEnd h
  | diLevelChange _ _ _ => exact upd_execDiLevelChange h
  | fbIntegrated _ => exact upd_execFbIntegrated h
  | calCommitDone => exact upd_execCalCommitDone h

end Sys2Proof.Machine
end

