-- ==== Sys2Proof/Machine/Lands.lean ====
section
/-! DEFINITION. The lands: their map (R421 to R424), the state each takes (R425, R427) and the test access port's
instructions (R350). -/

namespace Sys2Proof.Machine

/-- What a land carries, R422 to R424. Links are RING0, RING1, LAN0, LAN1, the two Byell lanes and the two PCIe lanes
(0 to 7); `pos` is the member _P. Of a contactor part 0 is A, 1 B, 2 FB; of an SFP+ cage signals 0 to 5 are TXDIS, TXFLT,
MODABS, LOS, RS0, RS1. -/
inductive Land where
  | bus (n : Nat) (high : Bool)
  | contactor (n part : Nat)
  | tx (link : Nat) (pos : Bool)
  | rx (link : Nat) (pos : Bool)
  | pcieClk (pos : Bool)
  | sfp (ring signal : Nat)
  | perstN
  | wakeN
  | witness (b : Bool)
  | meter (set channel : Nat) (pos : Bool)
  | di (n : Nat)
  | tampOut
  | tampIn
  | ppsIn
  | ppsOut
  | gnssRxd
  | conTxd
  | conRxd
  | tck
  | tms
  | tdi
  | tdo
  | trstN
  | vin
  | vhold
  | vioA
  | vioB
  | vioC
  | vbat
  | gnd
  | agnd
  | witIgnd
  | dnc
deriving DecidableEq, Repr

/-- The rows in order from the marked corner, R421. -/
def landRows : List String :=
  ["A", "B", "C", "D", "E", "F", "G", "H", "J", "K", "L", "M", "N", "P", "T", "U", "V", "W", "Y", "AA", "AB", "AC"]

/-- Columns 1 to 16 of rows Y to AC: `c` counts from 0, `cur` is the current row, `m` the first of its two sets (R424). -/
def meterLand (m c : Nat) (cur : Bool) : Land :=
  let set := m + c / 8
  let k := c % 8 / 2
  if cur then .meter set (3 + k) (c % 2 == 0)
  else if k = 3 then .agnd else .meter set k (c % 2 == 0)

/-- A row of one serial link in columns 17 to 22: GND, the transmit pair, GND, the receive pair (R423). -/
def linkLand (link c : Nat) : Land :=
  match c with
  | 1 => .tx link true
  | 2 => .tx link false
  | 4 => .rx link true
  | 5 => .rx link false
  | _ => .gnd

/-- Columns 17 to 22 of rows E to V, R423; `c` counts from 0 at column 17. -/
def serialLand (row c : Nat) : Land :=
  match row with
  | 4 => linkLand 0 c
  | 5 => .sfp 0 c
  | 6 => linkLand 1 c
  | 7 => .sfp 1 c
  | 14 =>
    match c with
    | 1 => .pcieClk true
    | 2 => .pcieClk false
    | 4 => .perstN
    | 5 => .wakeN
    | _ => .gnd
  | 15 => if c < 2 then .vioB else .gnd
  | 16 => if c < 4 then .dnc else .gnd
  | r => linkLand (r - 6) c

/-- Columns 17 to 22 of rows W to AC, R422. -/
def cornerLand (row c : Nat) : Land :=
  match row with
  | 17 => ([.witness false, .witness true, .witIgnd, .witIgnd, .dnc, .vioA] : List Land).getD c .gnd
  | 18 => .di c
  | 19 => ([.di 6, .di 7, .vioC, .vioC, .tampOut, .tampIn] : List Land).getD c .gnd
  | 20 => ([.ppsIn, .ppsOut, .gnssRxd, .conTxd, .conRxd, .vbat] : List Land).getD c .gnd
  | _ => ([.tck, .tms, .tdi, .tdo, .trstN, .vioA] : List Land).getD c .gnd

/-- The land in row `row` (0 is A, 21 is AC) and column `col` (1 to 22), R422. -/
def landAt (row col : Nat) : Land :=
  let c := col - 1
  if row ≤ 1 then (if c < 16 then .bus (8 * row + c / 2) (c % 2 == 0) else .vin)
  else if row = 2 then (if c < 16 then .gnd else if c < 20 then .vin else .vhold)
  else if row = 3 then (if c < 18 then .contactor (c / 3) (c % 3) else if c < 20 then .gnd else .vhold)
  else if row = 4 ∧ c < 6 then .contactor (6 + c / 3) (c % 3)
  else if row < 18 ∧ c < 16 then .gnd
  else if row < 17 then serialLand row (c - 16)
  else if c < 16 then
    (if row = 18 then meterLand 2 c true else if row = 19 then meterLand 2 c false
     else if row = 20 then meterLand 0 c true else meterLand 0 c false)
  else cornerLand row (c - 16)

/-- The land of a name such as AC22, R421. -/
def landNamed (row : String) (col : Nat) : Option Land :=
  match landRows.findIdx? (· == row) with
  | some r => if 1 ≤ col ∧ col ≤ 22 then some (landAt r col) else none
  | none => none

/-- Every land, row by row. -/
def lands : List Land := (List.range 22).flatMap fun r => (List.range 22).map fun c => landAt r (c + 1)

/-- Supplies and grounds. -/
def Land.supply : Land → Bool
  | .vin | .vhold | .vioA | .vioB | .vioC | .vbat | .gnd | .agnd | .witIgnd | .dnc => true
  | _ => false

/-- What a land does, R425. -/
inductive LandState where
  | highZ
  | input
  | pulledUp
  | terminated
  | electricalIdle
  | link
  | low
  | high
  | dominant
  | toVin
  | toGnd
  | released
  | receiving
  | driven
  | supply
deriving DecidableEq, Repr

/-- Which of the cabinet board's supplies are present: the three bank supplies and VBAT. They are pins, R426. -/
structure Banks where
  a : Bool := true
  b : Bool := true
  c : Bool := true
  vbat : Bool := true
deriving DecidableEq, Repr

/-- The module's own supplies are up: in STANDBY and VBAT_ONLY lands stand as unpowered. DEDUCED: log entry 215. -/
def State.landsUp (s : State) : Bool := s.pwr.state == .run || s.pwr.state == .low || s.pwr.state == .holdup

/-- The block of a serial link is enabled, R25. -/
def State.linkEnabled (s : State) (link : Nat) : Bool :=
  if link < 4 then s.portOn link
  else if link < 6 then s.flag (Fd.en Pg.byell)
  else s.pwr.appOn && s.flag (Fd.en Pg.pcie)

/-- An output of a bank, high impedance while the bank is absent (R427). -/
def bankOut (present : Bool) (st : LandState) : LandState := if present then st else .highZ

/-- The state a land takes between two commands, R425 and R427. A frame of the witness, a PPS pulse, a console character and
a TAP shift begin and end inside a command, so their drivers rest. DEDUCED: log entry 215. -/
def State.land (s : State) (v : Banks) (l : Land) : LandState :=
  match l with
  | .tampOut => if v.vbat || s.landsUp || s.pwr.pgood then .driven else .highZ
  | .tampIn => if v.vbat || s.landsUp || s.pwr.pgood then .input else .highZ
  | .meter _ _ _ => .input
  | .di _ => if s.landsUp || s.pwr.state == .standby then .input else .highZ
  | l =>
    if l.supply then .supply
    else if !s.landsUp then .highZ
    else
      match l with
      | .bus n _ => if (s.fbs n).tx.isSome then .dominant else .highZ
      | .contactor n part =>
        if part = 2 then .pulledUp
        else if (s.co n).phase == .pulse then (if (s.co n).target == (part == 0) then .toVin else .toGnd)
        else .highZ
      | .tx link _ => if s.linkEnabled link then .link else .electricalIdle
      | .rx _ _ | .pcieClk _ => .terminated
      | .sfp ring signal =>
        if signal = 0 then bankOut v.b (if s.portUp ring then .low else .high)
        else if signal = 4 ∨ signal = 5 then bankOut v.b (if s.portOn ring then .high else .low)
        else .input
      | .wakeN => bankOut v.b (if s.pcie.wake then .low else .released)
      | .witness _ => .receiving
      | .ppsOut => bankOut v.b .low
      | .conTxd => bankOut v.a .high
      | .tdo => .highZ
      | _ => .input

/-- The level an input land is read at: low while its bank is absent (R427). -/
def bankIn (present level : Bool) : Bool := present && level

/-- The JTAG IDCODE of module revision B, R425. -/
def idcode : Word := 0x14096C3F

/-- The IEEE 1149.1 instructions that scan serves: all, EXTEST and CLAMP included, or BYPASS, IDCODE and SAMPLE/PRELOAD, or
none. -/
inductive Scan where
  | every
  | passive
  | off
deriving DecidableEq, Repr

/-- Scan by lifecycle state, debug level and power state, R350; in STANDBY and VBAT_ONLY it works only while VIO_A is
present. -/
def State.scan (s : State) (v : Banks) : Scan :=
  if s.pwr.state == .standby || s.pwr.state == .vbatOnly then (if v.a then .passive else .off)
  else if s.pwr.state == .holdup then .passive
  else if s.lc = 2 ∧ s.get Fd.DBG_LEVEL_CUR ≠ 2 then .passive
  else .every

end Sys2Proof.Machine
end

