-- ==== Sys2Proof/WellFormed.lean ====
section
/-! DEFINITION. Well-formed commands: every operand names something that the spec gives the module. -/

namespace Sys2Proof

open Sys2Proof.Machine

/-- The operands of a command are in their ranges. -/
def Instr.wf : Instr → Bool
  | .registerWrite ini a _ _ => decide (ini ≤ 6) && decide (a < 0x80000)
  | .accessTimeout ini a _ => decide (ini ≤ 6) && decide (a < 0x80000)
  | .splitLoRead ini a => decide (ini ≤ 6) && splitLo (a / 0x1000) (a % 0x1000)
  | .splitHiWrite ini a _ => decide (ini ≤ 6) && splitHi.contains a
  | .splitLoWrite ini a _ => decide (ini ≤ 6) && splitHi.contains (a + 4)
  | .errCapRead ini page => decide (ini ≤ 6) && hasHeader page
  | .buserrRead ini _ => decide (ini ≤ 6)
  | .rstCauseRead ini => decide (ini ≤ 6)
  | .irqStatClear ini page _ => decide (ini ≤ 6) && hasHeader page
  | .blockEnable ini page => decide (ini ≤ 6) && hasHeader page
  | .blockDisable ini page => decide (ini ≤ 6) && hasHeader page
  | .blockStopPoint page => hasHeader page
  | .softReset ini page => decide (ini ≤ 6) && hasHeader page
  | .softResetDone page => hasHeader page
  | .flush ini page => decide (ini ≤ 6) && hasHeader page
  | .flushDone page => hasHeader page
  | .lockWrite ini page _ => decide (ini ≤ 6) && hasHeader page
  | .unlockExpire page => hasHeader page
  | .blockWatchdogExpire page => hasHeader page
  | .sysRstCmd ini => decide (ini ≤ 6)
  | .moduleReset => true
  | .coldReset => true
  | .debugResetRequest => true
  | .rtWatchdogExpire => true
  | .supervisorReset cause => decide (cause < 16)
  | .tickEdge _ _ cur => decide (cur.length ≤ 12)
  | .ownCut => true
  | .hatchRunStart => true
  | .hatchRunDone us => decide (us ≤ 65535)
  | .hatchWindowEnd us => decide (us ≤ 65535)
  | .composeStart => true
  | .composeDone us => decide (us ≤ 65535)
  | .tickComposeMiss nodes => decide (nodes ≤ 4096)
  | .tickImpLate _ => true
  | .impCopyComplete => true
  | .guardBand => true
  | .graphOpen ini => decide (ini ≤ 6)
  | .graphCommit ini => decide (ini ≤ 6)
  | .graphAbort ini => decide (ini ≤ 6)
  | .graphRecordStore ini w _ => decide (ini ≤ 6) && decide (w < 4)
  | .graphValidationDone => true
  | .graphPersistDone => true
  | .plateWinRead ini => decide (ini ≤ 6)
  | .brokenClear ini k _ => decide (ini ≤ 6) && decide (k < 16)
  | .latchClr ini _ => decide (ini ≤ 6)
  | .coCmdWrite ini _ => decide (ini ≤ 6)
  | .coPulseStart j => decide (j < 8)
  | .coPulseEnd j => decide (j < 8)
  | .coFeedbackRead j => decide (j < 8)
  | .coRetryPulse j => decide (j < 8)
  | .coExternal j _ => decide (j < 8)
  | .evalHoldExpire j => decide (j < 8)
  | .fbFrameStart b _ => decide (b < 16)
  | .fbTagResponse b => decide (b < 16)
  | .fbTagTimeout b => decide (b < 16)
  | .fbWindowClose b w => decide (b < 16) && decide (w < 8)
  | .fbFrameSent b us sof tec rec_ => decide (b < 16) && decide (sof ≤ us * 1000) && decide (tec < 256) && decide (rec_ < 256)
  | .fbFrameReceived b f => decide (b < 16) && decide (f.sof ≤ f.us * 1000) && decide (f.data.length ≤ 64)
  | .fbError b code _ _ _ tec rec_ => decide (b < 16) && decide (code < 8) && decide (tec < 512) && decide (rec_ < 256)
  | .fbRecovered b => decide (b < 16)
  | .fbStormEnd b => decide (b < 16)
  | .fbRateDetected b arb data => decide (b < 16) && decide (arb < 16) && decide (data < 16)
  | .fbRateNone b => decide (b < 16)
  | .moTxRequest ini b i _ => decide (ini ≤ 6) && decide (b < 16) && decide (i < 128)
  | .moRxArm ini b i _ => decide (ini ≤ 6) && decide (b < 16) && decide (i < 128)
  | .pollResponseTimeout b => decide (b < 16)
  | .faultEventHoldExpire i code => decide (i < 4096) && decide (code < 16)
  | .nodePlan ini index => decide (ini ≤ 6) && decide (index < 4096)
  | .nodeUnplan ini index => decide (ini ≤ 6) && decide (index < 4096)
  | .nodeDecommission ini index => decide (ini ≤ 6) && decide (index < 4096)
  | .nodeQuarantine ini index => decide (ini ≤ 6) && decide (index < 4096)
  | .nodeUnquarantine ini index => decide (ini ≤ 6) && decide (index < 4096)
  | .nodeRecommission ini index => decide (ini ≤ 6) && decide (index < 4096)
  | .nodeIdent ini index => decide (ini ≤ 6) && decide (index < 4096)
  | .nodeMove ini index arg => decide (ini ≤ 6) && decide (index < 4096) && decide (arg < 256)
  | .nodeWink ini index arg => decide (ini ≤ 6) && decide (index < 4096) && decide (arg < 256)
  | .nodeCmdResend b a op => decide (b < 16) && decide (a < 256) && decide (op < 256)
  | .probeOutcome b _ => decide (b < 16)
  | .keyInstallTimeout i => decide (i < 4096)
  | .recomRelease i => decide (i < 4096)
  | .nodeRecomFail i => decide (i < 4096)
  | .keyRolloutSwitch b => decide (b < 16)
  | .satWindowEnd i => decide (i < 4096)
  | .nodeEntRead ini k => decide (ini ≤ 6) && decide (k < 32)
  | .nodeEntWrite ini k _ => decide (ini ≤ 6) && decide (k < 32)
  | .diConfirm i => decide (i < 8)
  | .diStuck i => decide (i < 8)
  | .metWindowEnd n _ => decide (n < 4)
  | .metWinCntRead ini n => decide (ini ≤ 6) && decide (n < 4)
  | .metEnergySave => true
  | .traceStart ini node => decide (ini ≤ 6) && decide (node < 4096)
  | .traceDecision k => decide (k < 64)
  | .calChSel ini _ => decide (ini ≤ 6)
  | .calCommit ini => decide (ini ≤ 6)
  | .rtcSecond _ => true
  | .rtcStageWrite ini w _ => decide (ini ≤ 6) && decide (w < 4)
  | .rtcStageCancel ini => decide (ini ≤ 6)
  | .rtcSecLoRead ini => decide (ini ≤ 6)
  | .rtcCrystalStop => true
  | .rtcCrystalStart => true
  | .wakeTimerExpire => true
  | .wakeCfgWrite ini _ => decide (ini ≤ 6)
  | .ptpSyncReceived h _ _ _ _ ns _ _ => decide (h.dom < 256) && decide (ns < 1000000000)
  | .ptpAnnounceReceived h _ _ => decide (h.dom < 256)
  | .ptpDelayRespReceived h _ _ _ ns _ => decide (h.dom < 256) && decide (ns < 1000000000)
  | .ptpDelayReqSend k _ _ => decide (k < 2)
  | .ptpTimeout k => decide (k < 2)
  | .gnssSentenceReceived kind _ _ => decide (kind < 3)
  | .ppsInEdge _ => true
  | .gnssLost reason => decide (reason < 4)
  | .srcRevert k => decide (k < 3)
  | .timeRtcFallback => true
  | .stepWaitEnd => true
  | .timeLeap => true
  | .rtcDiscipline _ _ => true
  | .ppsOutPulse => true
  | .timeNowRead ini => decide (ini ≤ 6)
  | .schedEntStage ini w _ => decide (ini ≤ 6) && decide (w < 3)
  | .schedEntCommit ini _ => decide (ini ≤ 6)
  | .schedEntRead ini => decide (ini ≤ 6)
  | .schedFbSave ini lvl => decide (ini ≤ 6) && decide (lvl < 65536)
  | .schedFbSaved => true
  | .swFrameForward p _ => decide (p < 5)
  | .macAge vid _ => decide (vid < 4096)
  | .ringSf n => decide (n < 2)
  | .ringSignalRestore n => decide (n < 2)
  | .rapsReceived _ => true
  | .wtrExpire => true
  | .holdoffExpire n => decide (n < 2)
  | .guardExpire => true
  | .erpsForcedSwitch ini port => decide (ini ≤ 6) && decide (port < 2)
  | .erpsManualSwitch ini port => decide (ini ≤ 6) && decide (port < 2)
  | .erpsClear ini => decide (ini ≤ 6)
  | .erpsCfgWrite ini _ => decide (ini ≤ 6)
  | .ringSfp n _ _ => decide (n < 2)
  | .portLinkUp n _ => decide (n < 4)
  | .portLinkDown n => decide (n < 4)
  | .dtlsHandshake _ => true
  | .lspRegBatch k _ core m => decide (k < 4) && decide (core < 4) && decide (m.length ≤ 1200)
  | .eventAck k m => decide (k < 4) && decide (m.length ≤ 1200)
  | .lspEventResend k _ => decide (k < 4)
  | .keepalive k => decide (k < 4)
  | .keepaliveReceived k m => decide (k < 7) && decide (m.length ≤ 1200)
  | .lspSessionDown k _ => decide (k < 7)
  | .iuDelivery c => decide (c < 4)
  | .iuEoi c src => decide (c < 4) && decide (src < 256)
  | .iuDoorbellSet ini _ => decide (ini ≤ 6)
  | .iuDoorbellClear ini _ => decide (ini ≤ 6)
  | .coalOpen g => decide (1 ≤ g ∧ g < 16)
  | .queueStageWrite ini q w _ => decide (ini ≤ 6) && decide (q < 64) && decide (w < 7)
  | .queuePush ini q _ => decide (ini ≤ 6) && decide (q < 64)
  | .queuePop ini q => decide (ini ≤ 6) && decide (q < 64)
  | .queueLatchRead ini q w => decide (ini ≤ 6) && decide (q < 64) && decide (1 ≤ w ∧ w < 8)
  | .queueEnable ini _ => decide (ini ≤ 6)
  | .queueFlush ini => decide (ini ≤ 6)
  | .qmStall q => decide (q < 64)
  | .hostAccess a _ _ _ => decide (a < 0x80000)
  | .hdbSet _ => true
  | .hdbClear ini _ => decide (ini ≤ 6)
  | .cplCmd ini _ => decide (ini ≤ 6)
  | .cqEntryWrite k => decide (k < 8)
  | .cqHeadWrite _ => true
  | .modTimerExpire k => decide (k < 8)
  | .msixSend k => decide (k < 8)
  | .hostWake _ => true
  | .pcieReset cause => decide (cause < 4)
  | .pcieLink _ speed width => decide (speed < 16) && decide (width < 16)
  | .byellUp lanes => decide (lanes < 4)
  | .byellDown => true
  | .byellLane lane => decide (lane < 2)
  | .cutReceived m _ => decide (m.rxSeq.length = 16) && decide (m.sensed.length = 8)
  | .mirrorReceived _ _ _ => true
  | .impDataReceived _ _ => true
  | .impEndReceived m => decide (m.kb ≤ 384) && decide (m.fv.length = 16)
  | .statusReceived _ _ => true
  | .statusTimeout => true
  | .yieldReceived _ _ => true
  | .syncDataReceived _ _ => true
  | .formationTimeout => true
  | .joinClaimTimeout => true
  | .witHeartbeat => true
  | .witReplyReceived _ => true
  | .witReplyTimeout => true
  | .leaseLost => true
  | .pairSwap ini => decide (ini ≤ 6)
  | .pairFence ini => decide (ini ≤ 6)
  | .pairUnfence ini => decide (ini ≤ 6)
  | .swapPeriodExpire => true
  | .groundPortRequest port _ _ => decide (port < 20)
  | .mbxInWrite ini _ => decide (ini ≤ 6)
  | .mbxOutRead ini => decide (ini ≤ 6)
  | .groundKeyUpdate => true
  | .groundPubkey slot => decide (slot < 128)
  | .groundSign slot _ => decide (slot < 128)
  | .groundCmac slot _ => decide (slot < 128)
  | .groundAeadEnc slot _ _ => decide (slot < 128)
  | .groundAeadDec slot _ _ => decide (slot < 128)
  | .groundRandom n => decide (n ≤ 1024)
  | .groundGenerate slot => decide (slot < 128)
  | .groundCommandDone => true
  | .tamper src _ _ => decide (src < 6)
  | .tampLatchClear ini _ => decide (ini ≤ 6)
  | .dbgNewChal ini => decide (ini ≤ 6)
  | .dbgRequest ini level => decide (ini ≤ 6) && decide (level < 4)
  | .dbgEnd ini => decide (ini ≤ 6)
  | .dbgChalExpire => true
  | .dbgLockoutEnd => true
  | .rtHalt => true
  | .rtResume => true
  | .bulkOpen src m => decide (1 ≤ src ∧ src ≤ 6) && decide (m.length ≤ 1200)
  | .bulkData src m => decide (1 ≤ src ∧ src ≤ 6) && decide (m.length ≤ 1200)
  | .bulkAck k m => decide (5 ≤ k ∧ k ≤ 6) && decide (m.length ≤ 1200)
  | .bulkAckSend => true
  | .bulkChunkResend k _ => decide (5 ≤ k ∧ k ≤ 6)
  | .bulkOpenResend k => decide (5 ≤ k ∧ k ≤ 6)
  | .bulkStreamTimeout => true
  | .bulkCloseDone src m => decide (1 ≤ src ∧ src ≤ 6) && decide (m.length ≤ 1200)
  | .bulkCloseAbort src m => decide (1 ≤ src ∧ src ≤ 6) && decide (m.length ≤ 1200)
  | .bulkCloseActivate src m => decide (1 ≤ src ∧ src ≤ 6) && decide (m.length ≤ 1200)
  | .bulkCloseRevert src m => decide (1 ≤ src ∧ src ≤ 6) && decide (m.length ≤ 1200)
  | .updVerifyDone => true
  | .updDeadline => true
  | .updCmdActivate ini => decide (ini ≤ 6)
  | .updCmdAbort ini => decide (ini ≤ 6)
  | .updCmdConfirm ini => decide (ini ≤ 6)
  | .updCmdRevert ini => decide (ini ≤ 6)
  | .updArmTimeout => true
  | .updPartnerTimeout => true
  | .loaderUnitDone => true
  | .loaderExchangeDone => true
  | .updStableConfirm => true
  | .updNodeConfirmTimeout => true
  | .updContainerRelease => true
  | .recWriteDone => true
  | .logDegraded cause => decide (cause < 4)
  | .recTrialWrite _ => true
  | .logRestored => true
  | .recRdSelWrite ini _ => decide (ini ≤ 6)
  | .recRdWin0Read ini => decide (ini ≤ 6)
  | .recRdWin15Read ini => decide (ini ≤ 6)
  | .recQuotaWrite ini _ => decide (ini ≤ 6)
  | .recAppPost ini _ => decide (ini ≤ 6)
  | .ageMeasure k _ => decide (k < 64)
  | .nandScanDone _ => true
  | .scapTestStart => true
  | .ageScapTest c esr => decide (c < 65536) && decide (esr < 65536)
  | .samplePointReplan b => decide (b < 16)
  | .driveCapReplan => true
  | .ageCmdMeasure ini => decide (ini ≤ 6)
  | .ageCmdScapTest ini => decide (ini ≤ 6)
  | .powerGoodRise _ => true
  | .powerGoodFall _ _ => true
  | .vholdReady _ => true
  | .rideThroughEnd => true
  | .powerDownDone _ => true
  | .pwrVinReturn _ => true
  | .pwrCmdRun ini => decide (ini ≤ 6)
  | .pwrCmdLow ini => decide (ini ≤ 6)
  | .pwrCmdStandby ini => decide (ini ≤ 6)
  | .domainRstApp ini => decide (ini ≤ 6)
  | .domainRstNet ini => decide (ini ≤ 6)
  | .netWatchdogExpire => true
  | .coreWatchdogExpire n => decide (n < 4)
  | .wdogKick ini _ => decide (ini ≤ 6)
  | .pwrWake => true
  | .vinLostStandby _ => true
  | .bootStageDone _ _ => true
  | .bootStageDeadline _ => true
  | .romExecReset => true
  | .bootRetryAll ini => decide (ini ≤ 6)
  | .bootRetrySel ini stage => decide (ini ≤ 6) && decide (stage < 32)
  | .nodeHistoryRecord => true
  | .feederHistoryRecord => true
  | .rcRegisterRead ini a _ => decide (ini ≤ 6) && otherRc a
  | .ageMarginRead ini => decide (ini ≤ 6)
  | .harmWinRead ini n => decide (ini ≤ 6) && decide (n < 4)
  | .byellLaneRestored => true
  | .pcieHostSleep _ _ => true
  | .msixVectorUnmask v => decide (v < 8)
  | .ptpFollowUpReceived h _ _ _ ns _ => decide (h.dom < 256) && decide (ns < 1000000000)
  | .diChatterWindowEnd i => decide (i < 8)
  | .diLevelChange i _ _ => decide (i < 8)
  | .fbIntegrated b => decide (b < 16)
  | .calCommitDone => true

end Sys2Proof
end

