-- ==== Sys2Proof/Tests/Slice0.lean ====
section
/-! SUPPORT. Tests: worked examples of the spec, ill-formed commands, and a state that meets the hypotheses of each statement. -/

namespace Sys2Proof.Tests
open Sys2Proof.Machine

/-- A module in operation: initiator 1 holds every unlock, the light path ticks, Ground and the time sources run, the module
is paired and ACTIVE. -/
def up : State :=
  { State.reset with
    acc := { lock := (List.range 128).map fun p => (p, some 1) }, tick := { booted := true, winOpen := true },
    pwr := { light := true }, ground := { ready := true }, time := { on := true }, pair := { paired := true }, rtc := { stopped := none } }.put
    Fd.PAIR_ROLE_ROLE 1

/-- Bus 15 in a state of its own. -/
def onBus (f : FbSt) : State := { up with fb := [(15, f)] }

/-- Bus 15 may start frames. -/
def sender (f : FbSt) : State :=
  { (((up.put (Fd.run (Pg.fb 15)) 1).put (Fd.en (Pg.fb 15)) 1).put (Fd.FB_STAT_BUS_STATE 15) 3).put (Fd.FB_SLOT_LEN_N 15) 8 with fb := [(15, { f with joined := true })] }

/-- A frame. -/
def aFrame : TxFrame := { kind := .sync, id := 0, data := [], fv := none, oneshot := false }

/-- A session whose EVENT 1 waits. -/
def aSession : Session := { lastRx := 0, lastTx := 0, nextSeq := 2, cursor := 0, msgs := [⟨1, [], 0, []⟩], suite := 0x1301 }

/-- The header of a PTP message of master 9. -/
def aPtp : PtpHdr := ⟨State.reset.domNum 1, 0, false, 0, 0, 9⟩

/-- What a compose set aside. -/
def aCompose : ComposeWork :=
  { back := [], nodes := [], grp := [], chips := [], capCnt := 0, capLow := 0, raises := [] }

/-- Head-end 3 holds a session, and a peer at address 9 may open one. -/
def linked : State :=
  { up with net := { ip := { peers := [9] }, sess := [(3, some aSession)] }, pwr := { results := [(20, 1)] } }

/-- The partner holds a session, and a container is relayed to it. -/
def streaming : State :=
  { up.put Fd.UPD_CFG_RELAY_EN 1 with
    net := { sess := [(6, some aSession)] }
    upd := { relay := [(6, { stream := some 0, sent := 1 })] }
    nv := { upd := { held := [(0, [1])], contLen := 4096, man := [⟨0, 0, 0, 0, 0, []⟩] } } }

/-- A record of severity v. -/
def aRec (v : Nat) : Rec :=
  { code := 1, sev := v, fallback := false, copied := false, unsync := false, source := 0, index := 0, opsec := 0, pwrcyc := 0,
    tick := 0, role := 0, params := [], utc := 0 }

/-- Doorbell 31 requests at core 3. -/
def selecting : State :=
  ((((State.reset.put (Fd.en Pg.iu) 1).put (Fd.en (Pg.iuc 3)) 1).put (inBank Fd.IU_SRC_CFG_EN 255) 1).put
    (inBank Fd.IU_SRC_CFG_TARGET 255) 3).put ⟨Rg.IU_DOORBELL, 31, 1⟩ 1

/-- A heartbeat awaits its answer, and the WIT slot is VALID. -/
def witnessed : State :=
  { up.put (Fd.en Pg.wit) 1 with pair := { paired := true, hbWait := true }, nv := { keys := { lc := 2, slots := [(6, { state := 1 })] } } }

/-- The answer, without its tag. -/
def witBlank : WitMsg := { typ := 2, flags := 0, unit := 0, pairId := 0, seq := 0, remain := 0, tag := [] }

/-- The answer, with the tag that the WIT key makes. -/
def witReply : WitMsg := { witBlank with tag := witnessed.witTag witBlank.body }

/-- Its tag verifies. -/
theorem wit_tag : witnessed.witTagOk witReply = true := by
  have h : witnessed.slotRefusal 6 2 = 0 := by decide
  have b : witReply.body = witBlank.body := rfl
  simp only [State.witTagOk, h, b, beq_self_eq_true, Bool.true_and]
  unfold witReply
  simp only [beq_self_eq_true]

/-! ### Worked examples of the spec -/

/-- The streets of chapter 4's worked example: V1 to V4 are vertices 0 to 3; E_a 0, E_b 1, E_c 2, E_r 3, and the edges from
V3 and V4 into V2. -/
def cassel : Graph :=
  { nVtx := 4, nEdge := 6, nAtt := 5, nSens := 1,
    vtx := [(0, 0x00004000), (1, 0x0000C001), (2, 0x00004004), (3, 0x00004005)],
    edge := [(0, ⟨0x00010000, 0x60001770, 0x0000027F⟩), (1, ⟨0x00020001, 0xA0001F40, 0x0002027F⟩),
      (2, ⟨0x00030001, 0x40401388, 0x0004017F⟩), (3, ⟨0x00000001, 0x20801770, 0x0000007F⟩),
      (4, ⟨0x00010002, 0x60801F40, 0x0000007F⟩), (5, ⟨0x00010003, 0x60C01388, 0x0000007F⟩)],
    att := [(0, 0x0FA00344), (1, 0x157C0345), (2, 0x05DC0346), (3, 0x11940347), (4, 0x07D00412)],
    sens := [(0, ⟨0x00000351, 0x7F101450⟩)] }

/-- The cyclist that the radar at FB3/0x51 reports. -/
def cyclist : Detection :=
  { typ := 1, flags := 0x19, node := 0x351, speed := 500, heading := 2, conf := 230, range := 0, rxSeq := 0, bus := 3,
    rsv := 0, sofSec := 0, sofNs := 0, rxTick := 0 }

/-- Hatch's run in tick T of that example. -/
def launched : HatchRun := hatchRun cassel State.reset.hatchCfg 1 [] [cyclist]

/-- Chapter 4: the hypothesis ends tick T at 5,210 cm with weight 29,514. -/
theorem test_hatch_launch :
    (Tab.get (fun _ => none) launched.pulses 0).map (·.hyps) = some [⟨0, 5210 * 256, 29514⟩] := by
  decide +kernel

/-- Chapter 4: the contributions of tick T. -/
theorem test_hatch_render :
    [0x344, 0x345, 0x346, 0x347, 0x412].map (Tab.get (fun _ => 0) launched.contrib) = [0, 47222, 15966, 0, 1888] := by
  decide +kernel

/-- Chapter 4: 79 steps on, the hypothesis has split at V2, the remainder of 1 with the larger share. -/
theorem test_hatch_crossing :
    ((hatchRun cassel State.reset.hatchCfg 79 launched.pulses []).pulses.map fun e => e.2.map (·.hyps)) =
      [some [⟨1, 0, 18768⟩, ⟨2, 0, 7507⟩]] := by
  decide +kernel

/-- Chapter 4: the contributions of tick T + 79. -/
theorem test_hatch_render_crossed :
    [0x344, 0x345, 0x346, 0x347, 0x412].map
      (Tab.get (fun _ => 0) (hatchRun cassel State.reset.hatchCfg 79 launched.pulses []).contrib) =
      [0, 30028, 30028, 0, 8008] := by
  decide +kernel

/-- The lantern of chapter 5's worked example. -/
def harrow : Node :=
  { ident := { state := 4, kind := 1, ntype := 0, group := 37, driveCap := 60000 },
    dyn := { l := 19661, burnH := 30000, temp := 40, link := 2 } }

/-- Chapter 5: the lumen factor is 27,427. -/
theorem test_lumen : State.reset.lumen harrow = 27427 := by decide +kernel

/-- Chapter 5: drives and entries of the ramp. -/
theorem test_drive :
    [19661, 20972, 47192, 47222].map (driveOf · 27427) = [23490, 25056, 56382, 56418] ∧
    [23490, 25056, 56382, 56418].map (quantise · 10) = [23488, 25088, 56384, 56448] := by decide

/-- Chapter 5: the steps upward and downward, and the last step of the ramp. -/
theorem test_ramp :
    rampStep 4096 20 = 1311 ∧ rampStep 512 20 = 164 ∧ rampTo 47192 47222 1311 164 = 47222 ∧
    rampTo 19670 19661 1311 164 = 19661 := by decide

/-- Chapter 2: FB11.CTRL lies at offset 0x1B008 and IUC2.ID at 0x4B000 of the register window. -/
theorem test_pages : Rg.ctrl (Pg.fb 11) = 0x1B008 ∧ Rg.reg (Pg.iuc 2) 0 = 0x4B000 := by decide

/-- R65: an edge counts one tick; the elapsed time is what the command carries. -/
theorem test_tick_edge_time :
    (match exec (.tickEdge 20000000 0 []) up with
     | .next t => (t.ns, t.tick.num)
     | _ => (0, 0)) = (20000000, 1) := by decide +kernel

/-- Chapter 18: the totals of the map. -/
theorem test_land_totals :
    ([.vin, .vhold, .vioA, .vioB, .vioC, .vbat, .gnd, .agnd, .witIgnd, .dnc] : List Land).map (lands.count ·) =
      [16, 4, 2, 2, 2, 1, 260, 8, 2, 5] ∧
    (lands.filter fun l => !l.supply).length = 182 := by
  decide +kernel

/-! ### Commands -/

/-- R45, R48: a read of the reserved page 0x7F answers an error, and SYS holds its address and UNMAPPED. -/
theorem test_unmapped :
    (match exec (.registerWrite 1 0x7F040 4 5) up with
     | .next t => (t.acc.rsp.err, (t.rd Rg.SYS_BUSERR_ADDR).toNat, t.get ⟨Rg.SYS_BUSERR_INFO, 31, 1⟩)
     | _ => (false, 0, 0)) = (true, 0x4007F040, 1) := by decide +kernel

/-- R46: a write without the unlock has no effect and is captured as LOCKED (0x03). -/
theorem test_locked :
    (match exec (.registerWrite 1 Rg.SYS_RST_CMD 4 1) State.reset with
     | .next t => (t.pwr.resetHold.isNone, t.get ⟨Rg.errCap Pg.sys, 12, 8⟩)
     | _ => (false, 0)) = (true, 3) := by decide +kernel

/-- R45: a write of 16 bits is captured as SIZE (0x02). -/
theorem test_size :
    (match exec (.registerWrite 1 Rg.HATCH_HORIZON 2 1) up with
     | .next t => (t.acc.rsp.err, t.get ⟨Rg.errCap Pg.hatch, 12, 8⟩)
     | _ => (false, 0)) = (true, 2) := by decide +kernel

/-- R41: the second error sets OVF and leaves the capture. -/
theorem test_err_ovf :
    ((up.capture 1 Pg.hatch 0x40 true 2).capture 2 Pg.hatch 0x44 false 1).rd (Rg.errCap Pg.hatch) = 0xC1802040 := by
  decide +kernel

/-- R284, R285: an item staged and pushed is the one popped; words not staged read 0. -/
theorem test_queue :
    (match exec (.queueStageWrite 1 63 2 9) (up.put (inBank Fd.QM_Q_CFG_EN 63) 1) with
     | .next s => match exec (.queuePush 1 63 7) s with
       | .next t => t.qItems 63
       | _ => []
     | _ => []) = [[0, 0, 9, 0, 0, 0, 0, 7]] := by decide +kernel

/-- R295: a doorbell of the host asserts source 192 + k. -/
theorem test_doorbell :
    (match exec (.hdbSet 0x80) up with
     | .next t => (t.srcReq 199, t.srcReq 192)
     | _ => (false, false)) = (true, false) := by decide +kernel

/-- R408: a module that starts no stop lets the power fall: without READY the domain goes off at once. -/
theorem test_power_fall :
    (match exec (.powerGoodFall 0 true) up with
     | .next t => t.pwr.state == .vbatOnly
     | _ => false) = true := by decide +kernel

/-- R348: nothing leaves SCRAPPED: a lifecycle operation on a scrapped device changes nothing. -/
theorem test_scrapped :
    let s : State := { up with nv := { keys := { lc := 4 } } }
    s.enterLc 0 = s := by decide +kernel

/-- R383: a full log gives up its oldest record of a severity above its reserve. -/
theorem test_place :
    (placeLog (fun _ => 0) [aRec 2, aRec 0, aRec 1] (aRec 1) 3) = some [aRec 2, aRec 1, aRec 1] := by decide

/-! ### Well-formed commands -/

/-- Each term breaks one check of Instr.wf, which refuses it. -/
theorem test_wf_refuses_0 :
    ([
     .registerWrite 7 0 0 0, .registerWrite 0 524288 0 0, .accessTimeout 7 0 false, .accessTimeout 0 524288 false,
     .splitLoRead 7 Rg.RTC_SEC_LO, .splitLoRead 0 Rg.RTC_SEC_HI, .splitHiWrite 7 Rg.RTC_SEC_HI 0,
     .splitHiWrite 0 Rg.RTC_SEC_LO 0, .splitLoWrite 7 Rg.RTC_SEC_LO 0, .splitLoWrite 0 Rg.RTC_SEC_HI 0,
     .errCapRead 7 Pg.sys, .errCapRead 0 0x7F, .buserrRead 7 false, .rstCauseRead 7, .irqStatClear 7 Pg.sys 0,
     .irqStatClear 0 0x7F 0, .blockEnable 7 Pg.sys, .blockEnable 0 0x7F, .blockDisable 7 Pg.sys,
     .blockDisable 0 0x7F, .blockStopPoint 0x7F, .softReset 7 Pg.sys, .softReset 0 0x7F, .softResetDone 0x7F] : List Instr).all (fun c => !c.wf) = true := by
  decide

/-- Each term breaks one check of Instr.wf, which refuses it. -/
theorem test_wf_refuses_1 :
    ([
     .flush 7 Pg.sys, .flush 0 0x7F, .flushDone 0x7F, .lockWrite 7 Pg.sys 0, .lockWrite 0 0x7F 0, .unlockExpire 0x7F,
     .blockWatchdogExpire 0x7F, .sysRstCmd 7, .supervisorReset 16, .tickEdge 0 0 (List.replicate 13 0),
     .hatchRunDone 65536, .hatchWindowEnd 65536, .composeDone 65536, .tickComposeMiss 4097, .graphOpen 7,
     .graphCommit 7, .graphAbort 7, .graphRecordStore 7 0 0, .graphRecordStore 0 4 0, .plateWinRead 7,
     .brokenClear 7 0 0, .brokenClear 0 16 0, .latchClr 7 0, .coCmdWrite 7 0] : List Instr).all (fun c => !c.wf) = true := by
  decide

/-- Each term breaks one check of Instr.wf, which refuses it. -/
theorem test_wf_refuses_2 :
    ([
     .coPulseStart 8, .coPulseEnd 8, .coFeedbackRead 8, .coRetryPulse 8, .coExternal 8 false, .evalHoldExpire 8,
     .fbFrameStart 16 0, .fbTagResponse 16, .fbTagTimeout 16, .fbWindowClose 16 0, .fbWindowClose 0 8,
     .fbFrameSent 16 0 0 0 0, .fbFrameSent 0 0 1 0 0, .fbFrameSent 0 0 0 256 0, .fbFrameSent 0 0 0 0 256,
     .fbFrameReceived 16 ⟨0, true, false, true, false, [], 0, 0, 0, 0⟩, .fbFrameReceived 0 ⟨0, true, false, true, false, [], 1, 0, 0, 0⟩,
     .fbFrameReceived 0 ⟨0, true, false, true, false, List.replicate 65 0, 0, 0, 0, 0⟩,
     .fbError 16 0 false 0 false 0 0, .fbError 0 8 false 0 false 0 0, .fbError 0 0 false 0 false 512 0,
     .fbError 0 0 false 0 false 0 256, .fbRecovered 16, .fbStormEnd 16, .fbRateDetected 16 0 0,
     .fbRateDetected 0 16 0] : List Instr).all (fun c => !c.wf) = true := by
  decide

/-- Each term breaks one check of Instr.wf, which refuses it. -/
theorem test_wf_refuses_3 :
    ([
     .fbRateDetected 0 0 16, .fbRateNone 16, .moTxRequest 7 0 0 0, .moTxRequest 0 16 0 0, .moTxRequest 0 0 128 0,
     .moRxArm 7 0 0 0, .moRxArm 0 16 0 0, .moRxArm 0 0 128 0, .pollResponseTimeout 16, .faultEventHoldExpire 4096 0,
     .faultEventHoldExpire 0 16, .nodePlan 7 0, .nodePlan 0 4096, .nodeUnplan 7 0, .nodeUnplan 0 4096,
     .nodeDecommission 7 0, .nodeDecommission 0 4096, .nodeQuarantine 7 0, .nodeQuarantine 0 4096,
     .nodeUnquarantine 7 0, .nodeUnquarantine 0 4096, .nodeRecommission 7 0, .nodeRecommission 0 4096, .nodeIdent 7 0] : List Instr).all (fun c => !c.wf) = true := by
  decide

/-- Each term breaks one check of Instr.wf, which refuses it. -/
theorem test_wf_refuses_4 :
    ([
     .nodeIdent 0 4096, .nodeMove 7 0 0, .nodeMove 0 4096 0, .nodeMove 0 0 256, .nodeWink 7 0 0, .nodeWink 0 4096 0,
     .nodeWink 0 0 256, .nodeCmdResend 16 0 0, .nodeCmdResend 0 256 0, .nodeCmdResend 0 0 256, .probeOutcome 16 false,
     .keyInstallTimeout 4096, .recomRelease 4096, .nodeRecomFail 4096, .keyRolloutSwitch 16, .satWindowEnd 4096,
     .nodeEntRead 7 0, .nodeEntRead 0 32, .nodeEntWrite 7 0 0, .nodeEntWrite 0 32 0, .diConfirm 8, .diStuck 8,
     .metWindowEnd 4 ⟨[], []⟩, .metWinCntRead 7 0] : List Instr).all (fun c => !c.wf) = true := by
  decide

/-- Each term breaks one check of Instr.wf, which refuses it. -/
theorem test_wf_refuses_5 :
    ([
     .metWinCntRead 0 4, .traceStart 7 0, .traceStart 0 4096, .traceDecision 64, .calChSel 7 0, .calCommit 7,
     .rtcStageWrite 7 0 0, .rtcStageWrite 0 4 0, .rtcStageCancel 7, .rtcSecLoRead 7, .wakeCfgWrite 7 0,
     .ptpSyncReceived ⟨256, 0, false, 0, 0, 9⟩ 0 0 false 0 0 0 0, .ptpSyncReceived ⟨0, 0, false, 0, 0, 9⟩ 0 0 false 0 1000000000 0 0,
     .ptpAnnounceReceived ⟨256, 0, false, 0, 0, 9⟩ 0 ⟨true, 0, 0, true, false, false⟩, .ptpDelayRespReceived ⟨256, 0, false, 0, 0, 9⟩ 0 0 0 0 0,
     .ptpDelayRespReceived ⟨0, 0, false, 0, 0, 9⟩ 0 0 0 1000000000 0, .ptpDelayReqSend 2 0 0, .ptpTimeout 2,
     .gnssSentenceReceived 3 0 false, .gnssLost 4, .srcRevert 3, .timeNowRead 7, .schedEntStage 7 0 0,
     .schedEntStage 0 3 0] : List Instr).all (fun c => !c.wf) = true := by
  decide

/-- Each term breaks one check of Instr.wf, which refuses it. -/
theorem test_wf_refuses_6 :
    ([
     .schedEntCommit 7 0, .schedEntRead 7, .schedFbSave 7 0, .schedFbSave 0 65536,
     .swFrameForward 5 ⟨none, 0, 0, 0, true, false, 0, 0, 0⟩, .macAge 4096 0, .ringSf 2, .ringSignalRestore 2,
     .holdoffExpire 2, .erpsForcedSwitch 7 0, .erpsForcedSwitch 0 2, .erpsManualSwitch 7 0, .erpsManualSwitch 0 2,
     .erpsClear 7, .erpsCfgWrite 7 0, .ringSfp 2 false false, .portLinkUp 4 0, .portLinkDown 4,
 .lspRegBatch 4 0 0 [], .lspRegBatch 0 0 4 [], .lspRegBatch 0 0 0 (List.replicate 1201 0), .eventAck 4 [],
     .eventAck 0 (List.replicate 1201 0), .lspEventResend 4 0, .keepalive 4, .keepaliveReceived 7 [],
     .keepaliveReceived 0 (List.replicate 1201 0)] : List Instr).all (fun c => !c.wf) = true := by
  decide +kernel

/-- Each term breaks one check of Instr.wf, which refuses it. -/
theorem test_wf_refuses_7 :
    ([
     .lspSessionDown 7 false, .iuDelivery 4, .iuEoi 4 0, .iuEoi 0 256, .iuDoorbellSet 7 0, .iuDoorbellClear 7 0,
     .coalOpen 0, .coalOpen 16, .queueStageWrite 7 0 0 0, .queueStageWrite 0 64 0 0, .queueStageWrite 0 0 7 0,
     .queuePush 7 0 0, .queuePush 0 64 0, .queuePop 7 0, .queuePop 0 64, .queueLatchRead 7 0 1,
     .queueLatchRead 0 64 1, .queueLatchRead 0 0 0, .queueLatchRead 0 0 8, .queueEnable 7 0, .queueFlush 7,
     .qmStall 64, .hostAccess 524288 4 false 0, .hdbClear 7 0] : List Instr).all (fun c => !c.wf) = true := by
  decide

/-- Each term breaks one check of Instr.wf, which refuses it. -/
theorem test_wf_refuses_8 :
    ([
     .cplCmd 7 0, .cqEntryWrite 8, .modTimerExpire 8, .msixSend 8, .pcieReset 4, .pcieLink false 16 0,
     .pcieLink false 0 16, .byellUp 4, .byellLane 2, .cutReceived ⟨0, [], 0, 0, List.replicate 8 false, 0⟩ true,
     .cutReceived ⟨0, List.replicate 16 0, 0, 0, [], 0⟩ true, .impEndReceived ⟨0, 0, 0, List.replicate 16 0, 385, true, 0⟩,
     .impEndReceived ⟨0, 0, 0, [], 0, true, 0⟩, .pairSwap 7, .pairFence 7, .pairUnfence 7,
     .groundPortRequest 20 [] [], .mbxInWrite 7 0, .mbxOutRead 7, .groundPubkey 128, .groundSign 128 [],
     .groundCmac 128 [], .groundAeadEnc 128 [] [], .groundAeadDec 128 [] [], .groundRandom 1025, .groundGenerate 128,
     .tamper 6 false false, .tampLatchClear 7 0] : List Instr).all (fun c => !c.wf) = true := by
  decide

/-- Each term breaks one check of Instr.wf, which refuses it. -/
theorem test_wf_refuses_9 :
    ([
     .dbgNewChal 7, .dbgRequest 7 0, .dbgRequest 0 4, .dbgEnd 7, .bulkOpen 0 [], .bulkOpen 7 [], .bulkOpen 1 (List.replicate 1201 0), .bulkData 0 [], .bulkData 7 [], .bulkData 1 (List.replicate 1201 0),
     .bulkCloseDone 0 [],
     .bulkCloseDone 7 [],
     .bulkCloseDone 1 (List.replicate 1201 0),
     .bulkCloseAbort 0 [],
     .bulkCloseAbort 7 [],
     .bulkCloseAbort 1 (List.replicate 1201 0),
     .bulkCloseActivate 0 [],
     .bulkCloseActivate 7 [],
     .bulkCloseActivate 1 (List.replicate 1201 0),
     .bulkCloseRevert 0 [],
     .bulkCloseRevert 7 [],
     .bulkCloseRevert 1 (List.replicate 1201 0),
     .bulkAck 4 [], .bulkAck 7 [], .bulkAck 5 (List.replicate 1201 0), .bulkChunkResend 4 0, .bulkOpenResend 7,
     .updCmdActivate 7, .updCmdAbort 7, .updCmdConfirm 7, .updCmdRevert 7, .logDegraded 4, .recRdSelWrite 7 0,
     .recRdWin0Read 7, .recRdWin15Read 7, .recQuotaWrite 7 0, .recAppPost 7 0, .ageMeasure 64 0,
     .ageScapTest 65536 0, .ageScapTest 0 65536, .samplePointReplan 16, .ageCmdMeasure 7, .ageCmdScapTest 7,
     .pwrCmdRun 7, .pwrCmdLow 7] : List Instr).all (fun c => !c.wf) = true := by
  decide +kernel

/-- Each term breaks one check of Instr.wf, which refuses it. -/
theorem test_wf_refuses_10 :
    ([
     .pwrCmdStandby 7, .domainRstApp 7, .domainRstNet 7, .coreWatchdogExpire 4, .wdogKick 7 0, .bootRetryAll 7,
     .bootRetrySel 7 0, .bootRetrySel 0 32, .rcRegisterRead 7 0x7205C 4, .rcRegisterRead 0 Rg.SYS_RST_CAUSE 4,
     .ageMarginRead 7, .harmWinRead 7 0, .harmWinRead 0 4, .msixVectorUnmask 8, .ptpFollowUpReceived ⟨256, 0, false, 0, 0, 9⟩ 0 0 0 0 0,
     .ptpFollowUpReceived ⟨0, 0, false, 0, 0, 9⟩ 0 0 0 1000000000 0, .diChatterWindowEnd 8, .diLevelChange 8 false false, .fbIntegrated 16] : List Instr).all (fun c => !c.wf) = true := by
  decide

/-- The same commands with that operand in its range. -/
theorem test_wf_accepts_0 :
    ([
     .registerWrite 0 0 0 0, .accessTimeout 0 0 false, .splitLoRead 0 Rg.RTC_SEC_LO, .splitHiWrite 0 Rg.RTC_SEC_HI 0,
     .splitLoWrite 0 Rg.RTC_SEC_LO 0, .errCapRead 0 Pg.sys, .buserrRead 0 false, .rstCauseRead 0,
     .irqStatClear 0 Pg.sys 0, .blockEnable 0 Pg.sys, .blockDisable 0 Pg.sys, .blockStopPoint Pg.sys,
     .softReset 0 Pg.sys, .softResetDone Pg.sys, .flush 0 Pg.sys, .flushDone Pg.sys, .lockWrite 0 Pg.sys 0,
     .unlockExpire Pg.sys, .blockWatchdogExpire Pg.sys, .sysRstCmd 0, .supervisorReset 0, .tickEdge 0 0 [],
     .hatchRunDone 0, .hatchWindowEnd 0, .composeDone 0, .tickComposeMiss 0, .graphOpen 0, .graphCommit 0,
     .graphAbort 0, .graphRecordStore 0 0 0, .plateWinRead 0, .brokenClear 0 0 0, .latchClr 0 0, .coCmdWrite 0 0,
     .coPulseStart 0, .coPulseEnd 0, .coFeedbackRead 0, .coRetryPulse 0, .coExternal 0 false, .evalHoldExpire 0] : List Instr).all (fun c => c.wf) = true := by
  decide

/-- The same commands with that operand in its range. -/
theorem test_wf_accepts_1 :
    ([
     .fbFrameStart 0 0, .fbTagResponse 0, .fbTagTimeout 0, .fbWindowClose 0 0, .fbFrameSent 0 0 0 0 0,
     .fbFrameReceived 0 ⟨0, true, false, true, false, List.replicate 64 0, 0, 0, 0, 0⟩, .fbError 0 0 false 0 false 0 0,
     .fbRecovered 0, .fbStormEnd 0, .fbRateDetected 0 0 0, .fbRateNone 0, .moTxRequest 0 0 0 0, .moRxArm 0 0 0 0,
     .pollResponseTimeout 0, .faultEventHoldExpire 0 0, .nodePlan 0 0, .nodeUnplan 0 0, .nodeDecommission 0 0,
     .nodeQuarantine 0 0, .nodeUnquarantine 0 0, .nodeRecommission 0 0, .nodeIdent 0 0, .nodeMove 0 0 0,
     .nodeWink 0 0 0, .nodeCmdResend 0 0 0, .probeOutcome 0 false, .keyInstallTimeout 0, .recomRelease 0,
     .nodeRecomFail 0, .keyRolloutSwitch 0, .satWindowEnd 0, .nodeEntRead 0 0, .nodeEntWrite 0 0 0, .diConfirm 0,
     .diStuck 0, .metWindowEnd 0 ⟨[], []⟩, .metWinCntRead 0 0, .traceStart 0 0,
     .traceDecision 0, .calChSel 0 0] : List Instr).all (fun c => c.wf) = true := by
  decide

/-- The same commands with that operand in its range. -/
theorem test_wf_accepts_2 :
    ([
     .calCommit 0, .rtcStageWrite 0 0 0, .rtcStageCancel 0, .rtcSecLoRead 0, .wakeCfgWrite 0 0,
     .ptpSyncReceived ⟨0, 0, false, 0, 0, 9⟩ 0 0 false 0 0 0 0, .ptpAnnounceReceived ⟨0, 0, false, 0, 0, 9⟩ 0 ⟨true, 0, 0, true, false, false⟩,
     .ptpDelayRespReceived ⟨0, 0, false, 0, 0, 9⟩ 0 0 0 0 0, .ptpDelayReqSend 0 0 0, .ptpTimeout 0, .gnssSentenceReceived 0 0 false,
     .gnssLost 0, .srcRevert 0, .timeNowRead 0, .schedEntStage 0 0 0, .schedEntCommit 0 0, .schedEntRead 0,
     .schedFbSave 0 0, .swFrameForward 0 ⟨none, 0, 0, 0, true, false, 0, 0, 0⟩, .macAge 0 0, .ringSf 0,
     .ringSignalRestore 0, .holdoffExpire 0, .erpsForcedSwitch 0 0, .erpsManualSwitch 0 0, .erpsClear 0,
     .erpsCfgWrite 0 0, .ringSfp 0 false false, .portLinkUp 0 0, .portLinkDown 0,
     .lspRegBatch 0 0 0 [], .eventAck 0 [], .lspEventResend 0 0, .keepalive 0, .keepaliveReceived 6 [],
     .lspSessionDown 6 true, .iuDelivery 0, .iuEoi 0 0, .iuDoorbellSet 0 0, .iuDoorbellClear 0 0] : List Instr).all (fun c => c.wf) = true := by
  decide

/-- The same commands with that operand in its range. -/
theorem test_wf_accepts_3 :
    ([
     .coalOpen 1, .queueStageWrite 0 0 0 0, .queuePush 0 0 0, .queuePop 0 0, .queueLatchRead 0 0 1, .queueEnable 0 0,
     .queueFlush 0, .qmStall 0, .hostAccess 0 4 false 0, .hdbClear 0 0, .cplCmd 0 0, .cqEntryWrite 0,
     .modTimerExpire 0, .msixSend 0, .pcieReset 0, .pcieLink false 0 0, .byellUp 0, .byellLane 0, .cutReceived ⟨0, List.replicate 16 0, 0, 0, List.replicate 8 false, 0⟩ true,
     .impEndReceived ⟨0, 0, 0, List.replicate 16 0, 384, true, 0⟩, .pairSwap 0,
     .pairFence 0, .pairUnfence 0, .groundPortRequest 0 [] [], .mbxInWrite 0 0, .mbxOutRead 0, .groundPubkey 0,
     .groundSign 0 [], .groundCmac 0 [], .groundAeadEnc 0 [] [], .groundAeadDec 0 [] [], .groundRandom 0,
     .groundGenerate 0, .tamper 0 false false, .tampLatchClear 0 0, .dbgNewChal 0, .dbgRequest 0 0, .dbgEnd 0,
     .bulkOpen 6 [], .bulkData 6 [], .bulkCloseDone 6 [], .bulkCloseAbort 6 [], .bulkCloseActivate 6 [],
     .bulkCloseRevert 6 [], .bulkAck 6 [], .bulkChunkResend 6 0, .bulkOpenResend 6, .updCmdActivate 0, .updCmdAbort 0] : List Instr).all (fun c => c.wf) = true := by
  decide

/-- The same commands with that operand in its range. -/
theorem test_wf_accepts_4 :
    ([
     .updCmdConfirm 0, .updCmdRevert 0, .logDegraded 0, .recRdSelWrite 0 0, .recRdWin0Read 0, .recRdWin15Read 0,
     .recQuotaWrite 0 0, .recAppPost 0 0, .ageMeasure 0 0, .ageScapTest 0 0, .samplePointReplan 0, .ageCmdMeasure 0,
     .ageCmdScapTest 0, .pwrCmdRun 0, .pwrCmdLow 0, .pwrCmdStandby 0, .domainRstApp 0, .domainRstNet 0,
     .coreWatchdogExpire 0, .wdogKick 0 0, .bootRetryAll 0, .bootRetrySel 0 0, .rcRegisterRead 0 0x7205C 4,
     .ageMarginRead 0, .harmWinRead 0 0, .msixVectorUnmask 0, .ptpFollowUpReceived ⟨0, 0, false, 0, 0, 9⟩ 0 0 0 0 0,
     .diChatterWindowEnd 0, .diLevelChange 0 false false, .fbIntegrated 0] : List Instr).all (fun c => c.wf) = true := by
  decide

/-! ### Hypotheses that can hold -/

/-- What `WritesStore` assumes can hold, clause by clause. -/
theorem wit_WritesStore :
    (∃ (s : State) (ini a : Nat) (v : Word) (r : RegRow), plainReg a = true ∧ rowAt a = some r ∧ s.takes ini a = true
      ∧ noReserved a v = true) ∧
    (∃ (s : State) (ini a : Nat) (v : Word), splitHi.contains a = true ∧ s.takes ini a = true ∧ noReserved a v = true) ∧
    (∃ (s : State) (ini : Nat) (v : Word), s.takes ini Rg.RTC_SEC_LO = true ∧ noReserved Rg.RTC_SEC_LO v = true) ∧
    (∃ (s : State) (ini : Nat) (v : Word), s.takes ini Rg.PCIE_CQ_BASE_LO = true ∧ noReserved Rg.PCIE_CQ_BASE_LO v =
      true) ∧
    (∃ (s : State) (ini : Nat) (v : Word), s.takes ini Rg.WIT_HE_MAC_LO = true ∧ noReserved Rg.WIT_HE_MAC_LO v = true) :=
  ⟨⟨up, 1, Rg.HATCH_HORIZON, 1, (rowAt Rg.HATCH_HORIZON).get (by decide), by decide, (Option.some_get _).symm,
     by decide, by decide⟩,
   ⟨up, 1, Rg.RTC_SEC_HI, 255, by decide⟩,
   ⟨up, 1, 0xFFFFFFFF, by decide⟩,
   ⟨up, 1, 0xFFFFFF00, by decide⟩,
   ⟨up, 1, 0xFFFFFFFF, by decide⟩⟩

/-- What `ReadsLatchAndClear` assumes can hold, clause by clause. -/
theorem wit_ReadsLatchAndClear :
    (∃ (s : State) (ini a : Nat), a < 0x80000 ∧ splitLo (a / 0x1000) (a % 0x1000) = true ∧ s.reaches ini a false =
      true) ∧
    (∃ (s : State) (ini p : Nat), hasHeader p = true ∧ s.reaches ini (Rg.errCap p) false = true) ∧
    (∃ (s : State) (ini : Nat), s.reaches ini Rg.SYS_BUSERR_ADDR false = true) ∧
    (∃ (s : State) (ini : Nat), s.reaches ini Rg.SYS_BUSERR_INFO false = true) ∧
    (∃ (s : State) (ini : Nat), s.reaches ini Rg.SYS_RST_CAUSE false = true) ∧
    (∃ (s : State) (ini a : Nat), otherRc a = true ∧ s.reaches ini a false = true) :=
  ⟨⟨up, 1, Rg.RTC_SEC_LO, by decide⟩,
   ⟨up, 1, Pg.dbg, by decide⟩,
   ⟨up, 1, by decide⟩,
   ⟨up, 1, by decide⟩,
   ⟨up, 1, by decide⟩,
   ⟨up, 1, 0x7205C, by decide⟩⟩

/-- What `BlockControl` assumes can hold, clause by clause. -/
theorem wit_BlockControl :
    (∃ (s : State) (ini p : Nat) (pi : PageInfo), p < 0x80 ∧ isFbmo p = false ∧ pageInfo p = some pi ∧ s.takes ini
      (Rg.ctrl p) = true ∧ noReserved (Rg.ctrl p) (s.ctrlKeep p ||| 1) = true) ∧
    (∃ (s : State) (ini p : Nat) (pi : PageInfo), p < 0x80 ∧ isFbmo p = false ∧ pageInfo p = some pi ∧ s.takes ini
      (Rg.ctrl p) = true ∧ noReserved (Rg.ctrl p) (s.ctrlKeep p) = true) ∧
    (∃ (s : State) (p : Nat) (pi : PageInfo), s.rtOn = true ∧ pageInfo p = some pi ∧ pi.always = false ∧ s.flag (Fd.en
      p) = false ∧ s.flag (Fd.run p) = true ∧ s.flag (Fd.flushBusy p) = false ∧ ¬(p = Pg.hatch ∧ s.hatch.run.isSome =
      true) ∧ isMet p = false) ∧
    (∃ (s : State) (ini p : Nat) (pi : PageInfo), p < 0x80 ∧ isFbmo p = false ∧ pageInfo p = some pi ∧ s.takes ini
      (Rg.ctrl p) = true ∧ noReserved (Rg.ctrl p) (s.ctrlKeep p ||| 2) = true) ∧
    (∃ (s : State) (p : Nat) (pi : PageInfo), s.rtOn = true ∧ pageInfo p = some pi) ∧
    (∃ (s : State) (ini p : Nat) (pi : PageInfo), p < 0x80 ∧ isFbmo p = false ∧ pageInfo p = some pi ∧ pi.flush = true
      ∧ s.takes ini (Rg.ctrl p) = true ∧ noReserved (Rg.ctrl p) (s.ctrlKeep p ||| ((s.rd (Rg.ctrl p) &&& 1) ||| 4)) =
      true) ∧
    (∃ (s : State) (p : Nat) (pi : PageInfo), s.rtOn = true ∧ pageInfo p = some pi ∧ s.flag (Fd.flushBusy p) = true) ∧
    (∃ (s : State) (ini p : Nat) (v : Word) (pi : PageInfo), p < 0x80 ∧ isFbmo p = false ∧ pageInfo p = some pi ∧
      s.takes ini (Rg.irqStat p) = true ∧ noReserved (Rg.irqStat p) v = true) ∧
    (∃ (s : State) (p : Nat) (pi : PageInfo), s.rtOn = true ∧ pageInfo p = some pi ∧ s.flag ⟨Rg.tmo p, 31, 1⟩ = true ∧
      s.flag (Fd.srstBusy p) = false) :=
  ⟨⟨up, 1, Pg.hatch, (pageInfo Pg.hatch).get (by decide), by decide, by decide, (Option.some_get _).symm,
     by decide, by decide⟩,
   ⟨up, 1, Pg.pcie, (pageInfo Pg.pcie).get (by decide), by decide, by decide, (Option.some_get _).symm, by decide,
     by decide⟩,
   ⟨up.put (Fd.run (Pg.fb 15)) 1, Pg.fb 15, (pageInfo (Pg.fb 15)).get (by decide), by decide,
     (Option.some_get _).symm, by decide, by decide, by decide, by decide, by decide, by decide⟩,
   ⟨up, 1, Pg.sys, (pageInfo Pg.sys).get (by decide), by decide, by decide, (Option.some_get _).symm, by decide,
     by decide⟩,
   ⟨up, Pg.dbg, (pageInfo Pg.dbg).get (by decide), by decide, (Option.some_get _).symm⟩,
   ⟨up, 1, Pg.rec, (pageInfo Pg.rec).get (by decide), by decide, by decide, (Option.some_get _).symm, by decide,
     by decide, by decide⟩,
   ⟨(up.put (Fd.flushBusy Pg.ground) 1), Pg.ground, (pageInfo Pg.ground).get (by decide), by decide,
     (Option.some_get _).symm, by decide⟩,
   ⟨up, 1, Pg.tick, 1, (pageInfo Pg.tick).get (by decide), by decide, by decide, (Option.some_get _).symm,
     by decide, by decide⟩,
   ⟨(up.put ⟨Rg.tmo Pg.hatch, 31, 1⟩ 1), Pg.hatch, (pageInfo Pg.hatch).get (by decide), by decide,
     (Option.some_get _).symm, by decide, by decide⟩⟩

/-- What `LockArms` assumes can hold, clause by clause. -/
theorem wit_LockArms :
    (∃ (s : State) (ini p : Nat), hasHeader p = true ∧ s.reaches ini (Rg.reg p 0x028) true = true) ∧
    (∃ (s : State) (ini a : Nat), a < 0x80000 ∧ s.reaches ini a true = true ∧ protectedReg (a / 0x1000) (a % 0x1000) =
      true ∧ s.unlock (a / 0x1000) ≠ some ini) :=
  ⟨⟨up, 5, Pg.sys, by decide⟩,
   ⟨State.reset, 1, Rg.SYS_RST_CMD, by decide⟩⟩

/-- What `ModuleResets` assumes can hold, clause by clause. -/
theorem wit_ModuleResets :
    (∃ (s : State) (ini : Nat), s.takes ini Rg.SYS_RST_CMD = true ∧ s.pwr.resetHold = none) ∧
    (∃ (s : State) (c : ResetCause), s.pwr.resetHold = some c) ∧
    (∃ (s : State), (s.pwr.state = .vbatOnly ∨ s.pwr.state = .off)) ∧
    (∃ (s : State), s.rtOn = true ∧ s.pwr.resetHold = none) ∧
    (∃ (s : State), s.rtOn = true ∧ s.pwr.resetHold = none ∧ s.pwr.halted = false ∧ s.unkicked 0 (s.get
      Fd.WDOG_RT_WD_PERIOD) = true) ∧
    (∃ (s : State), s.rtOn = true ∧ s.pwr.resetHold = none ∧ s.pwr.halted = false) ∧
    (∃ (s : State), s.netUp = true ∧ s.flag (Fd.en Pg.sw) = true) ∧
    (∃ (s : State) (n : Nat), s.appUp = true ∧ n < 4 ∧ s.flag (Fd.WDOG_CORE_WD_EN n) = true ∧ s.unkicked (n + 1)
      (s.get (Fd.WDOG_CORE_WD_PERIOD n)) = true) :=
  ⟨⟨up, 1, by decide⟩,
   ⟨{ up with pwr := { resetHold := some .wdog } }, .wdog, by decide⟩,
   ⟨{ up with pwr := { state := .off } }, by decide⟩,
   ⟨up, by decide⟩,
   ⟨{ up with ns := 100000000000 }, by decide⟩,
   ⟨up, by decide⟩,
   ⟨(up.put (Fd.en Pg.sw) 1), by decide⟩,
   ⟨{ up.put (Fd.WDOG_CORE_WD_EN 3) 1 with ns := 100000000000 }, 3, by decide⟩⟩

/-- What `PowerStates` assumes can hold, clause by clause. -/
theorem wit_PowerStates :
    (∃ (s : State), s.pwr.state = .vbatOnly) ∧
    (∃ (s : State), s.pwr.state = .off) ∧
    (∃ (s : State), (s.pwr.state = .run ∨ s.pwr.state = .low) ∧ s.pwr.pgood = true) ∧
    (∃ (s : State) (mv : Nat), s.rtOn = true ∧ s.pwr.pgood = true ∧ s.pwr.ready = false ∧ 4500 ≤ mv) ∧
    (∃ (s : State), s.pwr.state = .holdup ∧ s.pwr.irrev = false) ∧
    (∃ (s : State), s.pwr.state = .holdup ∧ s.pwr.irrev = true) ∧
    (∃ (s : State), s.pwr.state = .holdup ∧ s.pwr.irrev = false) ∧
    (∃ (s : State), s.wakeSrc ≠ 0 ∧ s.pwr.state = .standby) ∧
    (∃ (s : State), s.wakeSrc ≠ 0 ∧ s.pwr.state = .low) ∧
    (∃ (s : State), s.pwr.state = .standby) :=
  ⟨⟨{ up with pwr := { state := .vbatOnly } }, rfl⟩,
   ⟨{ up with pwr := { state := .off } }, rfl⟩,
   ⟨up, by decide⟩,
   ⟨up, 4500, by decide⟩,
   ⟨{ up with pwr := { state := .holdup } }, by decide⟩,
   ⟨{ up with pwr := { state := .holdup, irrev := true } }, by decide⟩,
   ⟨{ up with pwr := { state := .holdup } }, by decide⟩,
   ⟨{ up.put Fd.PWR_WAKE_EN_TIMER 1 with pwr := { state := .standby, wakeReq := 1 } }, by decide⟩,
   ⟨{ up.put Fd.PWR_WAKE_EN_DI 128 with pwr := { state := .low, wakeReq := 32768 } }, by decide⟩,
   ⟨{ up with pwr := { state := .standby } }, by decide⟩⟩

/-- What `PowerCommands` assumes can hold, clause by clause. -/
theorem wit_PowerCommands :
    (∃ (s : State) (ini : Nat), s.takes ini Rg.PWR_CMD = true ∧ s.pwr.state = .low) ∧
    (∃ (s : State) (ini : Nat), s.takes ini Rg.PWR_CMD = true ∧ s.pwr.state = .run) ∧
    (∃ (s : State) (ini : Nat), s.takes ini Rg.PWR_CMD = true ∧ (s.pwr.state = .run ∨ s.pwr.state = .low)) ∧
    (∃ (s : State) (ini : Nat), s.takes ini Rg.PWR_CMD = true ∧ (s.pwr.state = .run ∨ s.pwr.state = .low)) ∧
    (∃ (s : State) (ini : Nat), s.takes ini Rg.PWR_CMD = true ∧ (s.pwr.state = .run ∨ s.pwr.state = .low)) ∧
    (∃ (s : State) (ini : Nat), s.takes ini Rg.BOOT_CMD = true) ∧
    (∃ (s : State) (ini stage : Nat), stage < 32 ∧ s.takes ini Rg.BOOT_CMD = true) ∧
    (∃ (s : State) (ini : Nat) (v : Word), ini ≤ 4 ∧ s.takes ini Rg.WDOG_KICK = true ∧ noReserved Rg.WDOG_KICK v =
      true) :=
  ⟨⟨{ up with pwr := { state := .low } }, 1, by decide⟩,
   ⟨up, 1, by decide⟩,
   ⟨up, 1, by decide⟩,
   ⟨up, 1, by decide⟩,
   ⟨up, 1, by decide⟩,
   ⟨up, 1, by decide⟩,
   ⟨up, 1, 31, by decide⟩,
   ⟨up, 4, 0x5A, by decide⟩⟩

/-- What `BootStages` assumes can hold, clause by clause. -/
theorem wit_BootStages :
    (∃ (s : State), s.rtOn = true ∧ s.pwr.stage ≠ 0) ∧
    (∃ (s : State), s.rtOn = true ∧ s.pwr.stage ≠ 0 ∧ stageSure s.pwr.stage = false) ∧
    (∃ (s : State), s.rtOn = true ∧ s.pwr.romExec = true ∧ s.pwr.resetHold = none) :=
  ⟨⟨{ up with pwr := { stage := 24 } }, by decide⟩,
   ⟨{ up with pwr := { stage := 21 } }, by decide⟩,
   ⟨{ up with pwr := { romExec := true } }, by decide⟩⟩

/-- What `TickEdge` assumes can hold, clause by clause. -/
theorem wit_TickEdge :
    (∃ (s : State), s.rtOn = true ∧ s.pwr.light = true ∧ s.pwr.irrev = false) ∧
    (∃ (s : State), s.rtOn = true ∧ s.ticking = true ∧ s.role = 2 ∧ s.tick.cutGot = false ∧ s.tick.ownCut = false) :=
  ⟨⟨up, by decide⟩,
   ⟨(up.put Fd.PAIR_ROLE_ROLE 2), by decide⟩⟩

/-- What `HatchTick` assumes can hold, clause by clause. -/
theorem wit_HatchTick :
    (∃ (s : State), s.rtOn = true ∧ s.mode ≠ 0 ∧ s.ticking = true ∧ s.tick.winOpen = true ∧ s.tick.started = false ∧
      s.tick.flushed = false ∧ s.hatch.run = none ∧ (s.role = 2 → s.tick.cutGot = true ∨ s.tick.ownCut = true) ∧
      s.hatchReady = true ∧ s.tick.k ≤ 8) ∧
    (∃ (s : State), s.rtOn = true ∧ s.ticking = true ∧ s.tick.winOpen = true) ∧
    (∃ (s : State), s.rtOn = true ∧ s.ticking = true ∧ s.tick.winOpen = true ∧ s.mode ≠ 0) ∧
    (∃ (s : State), s.rtOn = true ∧ s.ticking = true) ∧
    (∃ (s : State), s.rtOn = true ∧ s.pwr.halted = false ∧ s.get Fd.DBG_LEVEL_CUR = 2) ∧
    (∃ (s : State), s.rtOn = true ∧ s.pwr.halted = true) :=
  ⟨⟨up.put Fd.TICK_MODE_STATE 1 |>.put (Fd.en Pg.hatch) 1, by decide⟩,
   ⟨up, by decide⟩,
   ⟨up.put Fd.TICK_MODE_STATE 2, by decide⟩,
   ⟨up, by decide⟩,
   ⟨up.put Fd.DBG_LEVEL_CUR 2, by decide⟩,
   ⟨{ up with pwr := { halted := true } }, by decide⟩⟩

/-- What `ComposeAndImport` assumes can hold, clause by clause. -/
theorem wit_ComposeAndImport :
    (∃ (s : State), s.rtOn = true ∧ s.ticking = true ∧ s.tick.winOpen = false ∧ s.tick.composeDone = false ∧
      s.plate.work = none ∧ s.flag (Fd.srstBusy Pg.plate) = false ∧ (s.mode = 1 → s.tick.overrun = false)) ∧
    (∃ (s : State) (w : ComposeWork), s.rtOn = true ∧ s.ticking = true ∧ s.plate.work = some w) ∧
    (∃ (s : State), s.rtOn = true ∧ s.ticking = true ∧ s.plate.work.isSome = true) ∧
    (∃ (s : State), s.rtOn = true ∧ s.ticking = true ∧ s.tick.impBusy = true) ∧
    (∃ (s : State), s.rtOn = true ∧ s.ticking = true ∧ s.tick.impBusy = true) ∧
    (∃ (s : State) (ini : Nat), s.reaches ini Rg.PLATE_WIN false = true) :=
  ⟨⟨{ up with tick := { booted := true } }, by decide⟩,
   ⟨{ up with plate := { work := some aCompose } }, aCompose, by decide⟩,
   ⟨{ up with plate := { work := some { back := [], nodes := [], grp := [], chips := [], capCnt := 0, capLow := 0, raises := [] } } },
     by decide⟩,
   ⟨{ up with tick := { booted := true, impBusy := true } }, by decide⟩,
   ⟨{ up with tick := { booted := true, impBusy := true } }, by decide⟩,
   ⟨up, 1, by decide⟩⟩

/-- What `StreetGraph` assumes can hold, clause by clause. -/
theorem wit_StreetGraph :
    (∃ (s : State) (ini : Nat), s.takes ini Rg.HATCHG_GRAPH_CTRL = true ∧ s.graphState ≠ 4) ∧
    (∃ (s : State) (ini : Nat), s.takes ini Rg.HATCHG_GRAPH_CTRL = true ∧ s.graphState = 1) ∧
    (∃ (s : State) (ini : Nat), s.takes ini Rg.HATCHG_GRAPH_CTRL = true ∧ s.graphState ≠ 4 ∧ s.graphState ≠ 0) ∧
    (∃ (s : State) (ini k : Nat) (v : Word), k < 4 ∧ s.takes ini (Rg.HATCHG_LOAD_WIN k) = true ∧ noReserved
      (Rg.HATCHG_LOAD_WIN k) v = true ∧ s.graphState = 1 ∧ s.get Fd.HATCHG_LOAD_SEL_INDEX < s.loadCount (s.get
      Fd.HATCHG_LOAD_SEL_TABLE)) ∧
    (∃ (s : State) (g : Graph), s.rtOn = true ∧ s.graphState = 2 ∧ s.hatch.valid = some g ∧ (s.tick.winOpen = false ∨
      s.tick.ofs < 500000)) ∧
    (∃ (s : State), s.rtOn = true ∧ s.graphState = 4) :=
  ⟨⟨up, 1, by decide⟩,
   ⟨up.put Fd.HATCHG_GRAPH_STAT_STATE 1, 1, by decide⟩,
   ⟨up.put Fd.HATCHG_GRAPH_STAT_STATE 3, 1, by decide⟩,
   ⟨(up.put Fd.HATCHG_GRAPH_STAT_STATE 1).put ⟨Rg.HATCHG_VTX_CNT, 0, 13⟩ 1, 1, 3, 0, by decide⟩,
   ⟨{ up.put Fd.HATCHG_GRAPH_STAT_STATE 2 with hatch := { valid := some .empty }, tick := { booted := true } },
     .empty, by decide⟩,
   ⟨up.put Fd.HATCHG_GRAPH_STAT_STATE 4, by decide⟩⟩

/-- What `Contactors` assumes can hold, clause by clause. -/
theorem wit_Contactors :
    (∃ (s : State) (ini k : Nat) (v : Word), k < 16 ∧ s.takes ini (Rg.GROUP_BROKEN k) = true ∧ noReserved
      (Rg.GROUP_BROKEN k) v = true) ∧
    (∃ (s : State) (ini : Nat) (v : Word), s.takes ini Rg.GROUP_LATCH_CLR = true ∧ noReserved Rg.GROUP_LATCH_CLR v =
      true) ∧
    (∃ (s : State) (ini : Nat) (v : Word), s.takes ini Rg.IO_CO_CMD = true ∧ noReserved Rg.IO_CO_CMD v = true) ∧
    (∃ (s : State) (j : Nat), s.rtOn = true ∧ j < 8 ∧ s.coPulsing.length < 2 ∧ (s.co j).phase = .queued ∧ s.coMayPulse
      j = true ∧ ((List.range 8).find? fun i => ((s.co i).phase == .queued) && s.coMayPulse i) = some j) ∧
    (∃ (s : State) (j : Nat), s.rtOn = true ∧ j < 8 ∧ (s.co j).phase = .pulse) ∧
    (∃ (s : State) (j : Nat), s.rtOn = true ∧ j < 8 ∧ (s.co j).phase = .await) ∧
    (∃ (s : State) (j : Nat), s.rtOn = true ∧ j < 8 ∧ (s.co j).phase = .retry ∧ s.coMayPulse j = true ∧
      s.coPulsing.length < 2) ∧
    (∃ (j : Nat), j < 8) ∧
    (∃ (s : State) (j : Nat), s.rtOn = true ∧ j < 8 ∧ (s.co j).hold = 1 ∧ 800000 * s.pms ≤ s.tick.ofs) :=
  ⟨⟨up, 1, 15, 1, by decide⟩,
   ⟨up, 1, 1, by decide⟩,
   ⟨up, 1, 1, by decide⟩,
   ⟨{ up.put Fd.IO_CO_CFG_EN 255 with io := { co := [(7, { phase := .queued })] } }, 7, by decide⟩,
   ⟨{ up.put Fd.IO_CO_CFG_EN 255 with io := { co := [(7, { phase := .pulse })] } }, 7, by decide⟩,
   ⟨{ up.put Fd.IO_CO_CFG_EN 255 with io := { co := [(7, { phase := .await })] } }, 7, by decide⟩,
   ⟨{ up.put Fd.IO_CO_CFG_EN 255 with io := { co := [(7, { phase := .retry })] } }, 7, by decide⟩,
   ⟨7, by decide⟩,
   ⟨{ up with io := { co := [(7, { hold := 1 })] }, tick := { booted := true, ofs := 16000000 } }, 7, by decide⟩⟩

/-- What `FeederFrames` assumes can hold, clause by clause. -/
theorem wit_FeederFrames :
    (∃ (s : State) (b : Nat), s.rtOn = true ∧ b < 16 ∧ s.maySend b = true ∧ (s.fbs b).tx = none ∧ (s.fbs b).req =
      none) ∧
    (∃ (s : State) (b : Nat) (t : TxFrame) (a : TagAnswer), s.rtOn = true ∧ b < 16 ∧ (s.fbs b).req = some (t, a)) ∧
    (∃ (s : State) (b : Nat) (t : TxFrame) (a : TagAnswer), s.rtOn = true ∧ b < 16 ∧ (s.fbs b).req = some (t, a)) ∧
    (∃ (s : State) (b : Nat) (t : TxFrame), s.rtOn = true ∧ b < 16 ∧ (s.fbs b).tx = some t) ∧
    (∃ (s : State) (b : Nat), s.rtOn = true ∧ b < 16) :=
  ⟨⟨sender { again := [aFrame] }, 15, by decide⟩,
   ⟨onBus { req := some (aFrame, .refused 1) }, 15, aFrame, .refused 1, by decide⟩,
   ⟨onBus { req := some (aFrame, .refused 1) }, 15, aFrame, .refused 1, by decide⟩,
   ⟨onBus { tx := some aFrame }, 15, aFrame, by decide⟩,
   ⟨up, 15, by decide⟩⟩

/-- What `MessageObjects` assumes can hold, clause by clause. -/
theorem wit_MessageObjects :
    (∃ (s : State) (ini b i : Nat) (v : Word), b < 16 ∧ i < 128 ∧ s.takes ini (Rg.reg (Pg.fbmo b) (32 * i)) = true ∧
      (s.heads b).contains i = true ∧ (v ||| 0xC0000080) &&& ~~~(0xFB0000FF#32) = 0) ∧
    (∃ (s : State) (ini b i : Nat) (v : Word), b < 16 ∧ i < 128 ∧ s.takes ini (Rg.reg (Pg.fbmo b) (32 * i)) = true ∧
      (s.heads b).contains i = true ∧ ((v ||| 0x80000080) &&& 0xBFFFFFFF) &&& ~~~(0xFB0000FF#32) = 0) :=
  ⟨⟨up, 1, 15, 127, 0, by decide⟩,
   ⟨up, 1, 15, 127, 0, by decide⟩⟩

/-- What `FeederReceive` assumes can hold, clause by clause. -/
theorem wit_FeederReceive :
    (∃ (s : State) (b : Nat), s.rtOn = true ∧ b < 16 ∧ s.busState b ≠ 2 ∧ s.onLine b = true) ∧
    (∃ (s : State) (b code : Nat), s.rtOn = true ∧ b < 16 ∧ (s.busState b = 2 ∨ s.onLine b = true) ∧ code ≠ 0) ∧
    (∃ (s : State) (b : Nat), s.rtOn = true ∧ b < 16 ∧ s.busState b = 5) ∧
    (∃ (s : State) (b : Nat), s.rtOn = true ∧ b < 16 ∧ s.busState b = 6) ∧
    (∃ (s : State) (b arb data : Nat), s.rtOn = true ∧ b < 16 ∧ s.busState b = 2 ∧ arb ≤ 2 ∧ data ≤ 2 ∧ s.get
      (Fd.FB_DET_CFG_FRAMES b) ≤ (s.fbs b).clean) ∧
    (∃ (s : State) (b : Nat), s.rtOn = true ∧ b < 16 ∧ s.busState b = 2) ∧
    (∃ (s : State) (b : Nat), s.rtOn = true ∧ b < 16 ∧ s.busState b = 1) :=
  ⟨⟨up.put (Fd.FB_STAT_BUS_STATE 15) 4, 15, by decide⟩,
   ⟨up.put (Fd.FB_STAT_BUS_STATE 15) 2, 15, 7, by decide⟩,
   ⟨up.put (Fd.FB_STAT_BUS_STATE 15) 5, 15, by decide⟩,
   ⟨up.put (Fd.FB_STAT_BUS_STATE 15) 6, 15, by decide⟩,
   ⟨{ up.put (Fd.FB_STAT_BUS_STATE 15) 2 with fb := [(15, { clean := 255 })] }, 15, 2, 2, by decide⟩,
   ⟨up.put (Fd.FB_STAT_BUS_STATE 15) 2, 15, by decide⟩,
   ⟨up.put (Fd.FB_STAT_BUS_STATE 15) 1, 15, by decide⟩⟩

/-- What `NodeCommands` assumes can hold, clause by clause. -/
theorem wit_NodeCommands :
    (∃ (s : State) (ini i : Nat), i < 4096 ∧ s.takes ini Rg.NODE_CMD = true ∧ s.flag Fd.NODE_CMD_STAT_BUSY = false ∧
      s.transmits = true) ∧
    (∃ (s : State) (ini i : Nat), i < 4096 ∧ s.takes ini Rg.NODE_CMD = true ∧ s.flag Fd.NODE_CMD_STAT_BUSY = false ∧
      s.transmits = true) ∧
    (∃ (s : State) (ini i : Nat), i < 4096 ∧ s.takes ini Rg.NODE_CMD = true ∧ s.flag Fd.NODE_CMD_STAT_BUSY = false ∧
      s.transmits = true) ∧
    (∃ (s : State) (ini i : Nat), i < 4096 ∧ s.takes ini Rg.NODE_CMD = true ∧ s.flag Fd.NODE_CMD_STAT_BUSY = false ∧
      s.transmits = true) ∧
    (∃ (s : State) (ini i : Nat), i < 4096 ∧ s.takes ini Rg.NODE_CMD = true ∧ s.flag Fd.NODE_CMD_STAT_BUSY = false ∧
      s.transmits = true) ∧
    (∃ (s : State) (ini i : Nat), i < 4096 ∧ s.takes ini Rg.NODE_CMD = true ∧ s.flag Fd.NODE_CMD_STAT_BUSY = false ∧
      s.transmits = true) ∧
    (∃ (s : State) (ini i : Nat), i < 4096 ∧ s.takes ini Rg.NODE_CMD = true ∧ s.flag Fd.NODE_CMD_STAT_BUSY = false) ∧
    (∃ (s : State) (ini i arg : Nat), i < 4096 ∧ arg < 256 ∧ s.takes ini Rg.NODE_CMD = true ∧ s.flag
      Fd.NODE_CMD_STAT_BUSY = false ∧ s.transmits = true) ∧
    (∃ (s : State) (ini i arg : Nat), i < 4096 ∧ arg < 256 ∧ s.takes ini Rg.NODE_CMD = true ∧ s.flag
      Fd.NODE_CMD_STAT_BUSY = false ∧ s.transmits = true) ∧
    (∃ (s : State) (ini i : Nat), i < 4096 ∧ s.takes ini Rg.NODE_CMD = true ∧ s.flag Fd.NODE_CMD_STAT_BUSY = true) :=
  ⟨⟨up, 1, 4095, by decide⟩,
   ⟨up, 1, 4095, by decide⟩,
   ⟨up, 1, 4095, by decide⟩,
   ⟨up, 1, 4095, by decide⟩,
   ⟨up, 1, 4095, by decide⟩,
   ⟨up, 1, 4095, by decide⟩,
   ⟨up, 1, 4095, by decide⟩,
   ⟨up, 1, 0, 0, by decide⟩,
   ⟨up, 1, 0, 0, by decide⟩,
   ⟨up.put Fd.NODE_CMD_STAT_BUSY 1, 1, 4095, by decide⟩⟩

/-- What `NodeCommandsAct` assumes can hold. -/
theorem wit_NodeCommandsAct :
    ∃ (i : Nat), i % 256 ≠ 0 ∧ i % 256 ≠ 255 :=
  ⟨1, by decide⟩

/-- What `NodeFaults` assumes can hold, clause by clause. -/
theorem wit_NodeFaults :
    (∃ (s : State) (b : Nat), s.rtOn = true ∧ b < 16) ∧
    (∃ (s : State) (i code : Nat), s.rtOn = true ∧ i < 4096 ∧ (s.fault i code).running = true ∧ (s.fault i
      code).until_ ≤ s.ns) ∧
    (∃ (s : State) (b a op : Nat) (j : NodeJob), s.rtOn = true ∧ b < 16 ∧ a < 256 ∧ (s.fbs b).jobs.find? (fun j =>
      j.waiting && j.addr == a && j.op == op) = some j ∧ j.sentAt + 50 ≤ s.tick.num ∧ j.tries < 3) ∧
    (∃ (s : State) (b : Nat) (p : Probe), s.rtOn = true ∧ b < 16 ∧ (s.fbs b).probe = some p) ∧
    (∃ (s : State) (i : Nat), s.rtOn = true ∧ i < 4096 ∧ (s.nodeAt i).ident.state = 3 ∧ (s.prog i).keyTick + 500 ≤
      s.tick.num) ∧
    (∃ (s : State) (i : Nat), s.rtOn = true ∧ i < 4096 ∧ (s.prog i).recom = true ∧ (s.prog i).releases < 3 ∧ ((s.prog
      i).releases = 0 ∨ (s.prog i).relAt + 50 ≤ s.tick.num) ∧ s.transmits = true) ∧
    (∃ (s : State) (i : Nat), s.rtOn = true ∧ i < 4096 ∧ (s.prog i).recom = true ∧ (s.nodeAt i).ident.state = 5 ∧
      (s.prog i).recStart + 15000 ≤ s.tick.num) ∧
    (∃ (s : State) (b : Nat), s.rtOn = true ∧ b < 16 ∧ (s.ground.oldKey.any fun e => e.1 == b) = true ∧ (((s.fbs
      b).jobs.any fun j => j.kind == .rollout) = false ∨ (s.fbs b).keyAt + 3000 ≤ s.tick.num)) ∧
    (∃ (s : State) (i : Nat), s.rtOn = true ∧ i < 4096 ∧ s.tick.num % (1000 / s.pms) = 0 ∧ (s.nodeAt i).ident.state =
      4 ∧ (s.nodeAt i).isSensor = true ∧ (s.prog i).satAt ≠ s.tick.num) ∧
    (∃ (s : State), s.appUp = true ∧ s.nv.hist.nodeAt < s.utc / 900) :=
  ⟨⟨up, 15, by decide⟩,
   ⟨{ up with node := { holds := [(4095 * 16 + 15, { running := true })] } }, 4095, 16, by decide⟩,
   ⟨{ onBus { jobs := [{ kind := .wink, op := 1, addr := 254, waiting := true, tries := 2 }] } with tick := { num := 50 } },
     15, 254, 1, { kind := .wink, op := 1, addr := 254, waiting := true, tries := 2 }, by decide⟩,
   ⟨onBus { probe := some { m := 0, pfx := 0, tag := 0, till := 0, seen := .nothing } }, 15,
     { m := 0, pfx := 0, tag := 0, till := 0, seen := .nothing }, by decide⟩,
   ⟨{ up with node := { table := [(4094, { ident := { state := 3, kind := 2 } })], prog := [(4094, { keyTick := 14500 })] }, tick := { booted := true, num := 15000 } },
     4094, by decide⟩,
   ⟨{ up with node := { table := [(4094, { ident := { state := 4, kind := 2 } })], prog := [(4094, { recom := true, releases := 2, relAt := 14950 })] }, tick := { booted := true, num := 15000 } },
     4094, by decide⟩,
   ⟨{ up with node := { table := [(4094, { ident := { state := 5, kind := 2 } })], prog := [(4094, { recom := true })] }, tick := { booted := true, num := 15000 } },
     4094, by decide⟩,
   ⟨{ up with ground := { ready := true, oldKey := [(15, 1)] } }, 15, by decide⟩,
   ⟨{ up with node := { table := [(4094, { ident := { state := 4, kind := 2 } })], prog := [(4094, { })] }, tick := { booted := true, num := 15000 } },
     4094, by decide⟩,
   ⟨{ up with tai := 2000000000000 }, by decide⟩⟩

/-- What `TableWindowAndInputs` assumes can hold, clause by clause. -/
theorem wit_TableWindowAndInputs :
    (∃ (s : State) (ini k : Nat), k < 32 ∧ s.reaches ini (Rg.NODE_ENT k) false = true) ∧
    (∃ (s : State) (ini k : Nat) (v : Word), (k = 3 ∨ k = 4) ∧ s.takes ini (Rg.NODE_ENT k) = true ∧ noReserved
      (Rg.NODE_ENT k) v = true ∧ (s.nodeAt (s.get Fd.NODE_ENT_SEL_INDEX)).ident.state ≠ 0 ∧ s.get
      Fd.NODE_ENT_SEL_INDEX % 256 ≠ 0 ∧ s.get Fd.NODE_ENT_SEL_INDEX % 256 ≠ 255) ∧
    (∃ (s : State) (i : Nat), s.rtOn = true ∧ i < 8 ∧ s.diOn i = true ∧ (s.di i).raw ≠ (s.di i).lvl) ∧
    (∃ (s : State) (i : Nat), s.rtOn = true ∧ i < 8 ∧ s.diOn i = true ∧ s.get ⟨Rg.IO_DI_STUCK_T, 0, 16⟩ ≠ 0 ∧ s.flag
      (diDeb i) = true ∧ s.flag (diStuck i) = false ∧ (s.di i).lastChange + 1000 * s.get ⟨Rg.IO_DI_STUCK_T, 0, 16⟩ <
      s.ms) ∧
    (∃ (s : State) (i : Nat), s.rtOn = true ∧ i < 8 ∧ s.flag (diChat i) = true ∧ (s.di i).lastChange + 100 * s.get
      Fd.IO_DI_CHATTER_N_WIN ≤ s.ms) ∧
    (∃ (i : Nat), i < 8) :=
  ⟨⟨up, 1, 31, by decide⟩,
   ⟨{ up.put Fd.NODE_ENT_SEL_INDEX 4094 with node := { table := [(4094, { ident := { state := 4, kind := 2 } })], prog := [(4094, { })] }, tick := { booted := true, num := 15000 } },
     1, 4, 0, by decide⟩,
   ⟨{ up.put Fd.IO_DI_CFG_EN 255 with io := { di := [(7, { raw := true })] } }, 7, by decide⟩,
   ⟨{ ((up.put Fd.IO_DI_CFG_EN 255).put ⟨Rg.IO_DI_STUCK_T, 0, 16⟩ 1).put (diDeb 7) 1 with io := { di := [(7, { raw := true })] }, ns := 2000000000000 },
     7, by decide⟩,
   ⟨{ (up.put Fd.IO_DI_CFG_EN 255).put (diChat 7) 1 with io := { di := [(7, { raw := true })] }, ns := 2000000000000 },
     7, by decide⟩,
   ⟨7, by decide⟩⟩

/-- What `Metering` assumes can hold, clause by clause. -/
theorem wit_Metering :
    (∃ (s : State) (n : Nat) (w : MetWin), s.rtOn = true ∧ n < 4 ∧ s.flag (Fd.run (Pg.met n)) = true ∧ s.metFits n
      w.raw.length = true) ∧
    (∃ (s : State) (ini n : Nat), n < 4 ∧ s.reaches ini (Rg.MET_WIN_CNT n) false = true) ∧
    (∃ (s : State) (ini n : Nat), n < 4 ∧ s.reaches ini (Rg.MET_HARM_WIN n) false = true) ∧
    (∃ (s : State), s.rtOn = true) ∧
    (∃ (s : State), s.appUp = true ∧ s.nv.hist.feederAt < s.utc / 60) :=
  ⟨⟨(up.put (Fd.run (Pg.met 3)) 1).put (Fd.statBit (Pg.met 3) 9) 1, 3, ⟨List.replicate 1600 [], []⟩,
     by decide +kernel⟩,
   ⟨up, 1, 3, by decide⟩,
   ⟨up, 1, 3, by decide⟩,
   ⟨up, by decide⟩,
   ⟨{ up with tai := 2000000000000 }, by decide⟩⟩

/-- What `TraceAndCalibration` assumes can hold, clause by clause. -/
theorem wit_TraceAndCalibration :
    (∃ (s : State) (ini node : Nat), node < 4096 ∧ s.takes ini Rg.TRACE_NODE_SEL = true ∧ (s.slot (s.get
      ⟨Rg.TRACE_CODE_SEL, 0, 6⟩)).state ≠ 1) ∧
    (∃ (s : State) (k : Nat), s.rtOn = true ∧ k < 64 ∧ (s.slot k).state = 1 ∧ (s.slot k).start + 128 ≤ s.tick.num) ∧
    (∃ (s : State) (ini : Nat) (v : Word), s.takes ini Rg.CAL_CH_SEL = true ∧ noReserved Rg.CAL_CH_SEL v = true ∧ getF
      v 0 5 ≤ 27) ∧
    (∃ (s : State) (ini : Nat), s.takes ini Rg.CAL_CAL_CMD = true ∧ s.flag Fd.CAL_CAL_STAT_BUSY = false ∧ s.get
      ⟨Rg.CAL_GAIN, 0, 24⟩ ≠ 0) ∧
    (∃ (s : State) (c : Nat) (r : CalRec), s.rtOn = true ∧ s.met.calWr = some (c, r)) :=
  ⟨⟨up, 1, 4095, by decide⟩,
   ⟨{ up with met := { slot := [(63, { state := 1 })] }, tick := { num := 128 } }, 63, by decide⟩,
   ⟨up, 1, 27, by decide⟩,
   ⟨up.put ⟨Rg.CAL_GAIN, 0, 24⟩ 1, 1, by decide⟩,
   ⟨{ up with met := { calWr := some (27, { }) } }, 27, { }, by decide⟩⟩

/-- What `RealTimeClock` assumes can hold, clause by clause. -/
theorem wit_RealTimeClock :
    (∃ (s : State), s.rtc.stopped = none) ∧
    (∃ (s : State) (ini : Nat) (v : Word), s.rtcHeld = false ∧ s.takes ini Rg.RTC_CAL_DATE = true ∧ noReserved
      Rg.RTC_CAL_DATE v = true) ∧
    (∃ (s : State) (ini : Nat) (v : Word), s.rtcHeld = false ∧ s.takes ini Rg.RTC_CAL_TIME = true ∧ noReserved
      Rg.RTC_CAL_TIME v = true) ∧
    (∃ (s : State) (ini : Nat) (v : Word), s.rtcHeld = false ∧ s.takes ini Rg.RTC_WEEKDAY = true ∧ noReserved
      Rg.RTC_WEEKDAY v = true ∧ getF v 0 3 ≠ 7) ∧
    (∃ (s : State) (ini : Nat) (v : Word), s.rtcHeld = false ∧ s.takes ini Rg.RTC_SEC_LO = true ∧ noReserved
      Rg.RTC_SEC_LO v = true) ∧
    (∃ (s : State) (ini : Nat), s.takes ini Rg.RTC_STAGE = true) ∧
    (∃ (s : State) (ini : Nat), s.reaches ini Rg.RTC_SEC_LO false = true) ∧
    (∃ (s : State), s.rtc.stopped = none) ∧
    (∃ (s : State) (c : Nat), s.rtc.stopped = some c) ∧
    (∃ (s : State), s.wakeOn = true ∧ s.rtc.stopped = none ∧ (s.pwr.light = false ∨ s.rtc.wakeAt + s.get
      Fd.RTC_WAKE_CFG_COUNT * 3906250 ≤ s.rtcNow + 1000000 * s.pms)) ∧
    (∃ (s : State) (ini : Nat) (v : Word), s.takes ini Rg.RTC_WAKE_CFG = true ∧ noReserved Rg.RTC_WAKE_CFG v = true) ∧
    (∃ (s : State), s.rtOn = true ∧ s.timeCur ≤ 2 ∧ s.get Fd.TIME_SRC_STAT_STATE = 3 ∧ s.rtc.stopped = none) :=
  ⟨⟨up, by decide⟩,
   ⟨up.put Fd.TIME_SRC_STAT_CUR 5, 1, 0, by decide⟩,
   ⟨up.put Fd.TIME_SRC_STAT_CUR 5, 1, 0, by decide⟩,
   ⟨up.put Fd.TIME_SRC_STAT_CUR 5, 1, 0, by decide⟩,
   ⟨up.put Fd.TIME_SRC_STAT_CUR 5, 1, 0, by decide⟩,
   ⟨up, 1, by decide⟩,
   ⟨up, 1, by decide⟩,
   ⟨up, by decide⟩,
   ⟨{ up with rtc := { stopped := some 255 } }, 255, by decide⟩,
   ⟨{ up.put Fd.RTC_WAKE_CFG_MODE 2 with pwr := { state := .standby, light := false } }, by decide⟩,
   ⟨up, 1, 0, by decide⟩,
   ⟨(up.put Fd.TIME_SRC_STAT_CUR 2).put Fd.TIME_SRC_STAT_STATE 3, by decide⟩⟩

/-- What `TimeSources` assumes can hold, clause by clause. -/
theorem wit_TimeSources :
    (∃ (s : State), s.netUp = true) ∧
    (∃ (s : State), s.netUp = true) ∧
    (∃ (s : State), s.netUp = true) ∧
    (∃ (s : State), s.netUp = true) ∧
    (∃ (s : State) (k port : Nat) (h : PtpHdr), s.ptpHears k port h = true) ∧
    (∃ (s : State) (k port q : Nat) (h : PtpHdr) (rx c : Int), s.ptpHears k port h = true ∧ (s.ptp k).master = some
      h.src ∧ (s.ptp k).sync = some (q, rx, c)) ∧
    (∃ (s : State) (k port q : Nat) (h : PtpHdr) (t3 ms : Int), s.ptpHears k port h = true ∧ (s.ptp k).master = some
      h.src ∧ (s.ptp k).req = some (q, t3) ∧ (s.ptp k).toSlave = some ms) ∧
    (∃ (s : State) (k port : Nat) (h : PtpHdr), s.ptpHears k port h = true) ∧
    (∃ (s : State) (k port : Nat) (h : PtpHdr), s.ptpHears k port h = false) ∧
    (∃ (s : State) (k : Nat), s.netUp = true ∧ k ≤ 1 ∧ s.time.on = true ∧ (s.ptp k).master.isSome = true) ∧
    (∃ (s : State) (k : Nat), s.rtOn = true ∧ k ≤ 1 ∧ s.time.on = true ∧ s.srcState k ≠ 0 ∧ s.srcState k ≠ 5) ∧
    (∃ (s : State) (kind : Nat), s.rtOn = true ∧ s.gnssOn = true ∧ (kind = 0 ∨ kind = 2)) ∧
    (∃ (s : State), s.rtOn = true ∧ s.gnssOn = true) ∧
    (∃ (s : State), s.rtOn = true ∧ 2 ≤ s.srcState 2) ∧
    (∃ (s : State) (k : Nat), s.rtOn = true ∧ s.flag Fd.TIME_SRC_SEL_FORCE = false ∧ s.timeCur ≤ 2 ∧ s.srcOk k = true
      ∧ k ≠ s.timeCur ∧ k ∈ s.srcOrder ∧ s.srcOrder.idxOf k < s.srcOrder.idxOf s.timeCur) ∧
    (∃ (s : State), s.rtOn = true ∧ s.timeCur = 3 ∧ s.get Fd.TIME_HOLD_CFG_HOLD_MAX ≤ s.holdMin) ∧
    (∃ (s : State) (w : StepWait), s.rtOn = true ∧ s.time.wait = some w) ∧
    (∃ (s : State), s.rtOn = true ∧ (s.leapPending = 1 ∨ s.leapPending = 2)) ∧
    (∃ (s : State), s.rtOn = true ∧ s.flag Fd.TIME_PPS_CFG_EN = true ∧ (s.flag Fd.TIME_PPS_CFG_LOCKED_ONLY = false ∨
      s.get Fd.TIME_SRC_STAT_STATE = 3) ∧ (∀ t, s.time.ppsAt = some t → t + 500000000 ≤ s.ns)) ∧
    (∃ (s : State) (ini : Nat), s.reaches ini Rg.TIME_NOW_NS false = true) :=
  ⟨⟨up, by decide⟩,
   ⟨up, by decide⟩,
   ⟨up, by decide⟩,
   ⟨up, by decide⟩,
   ⟨{ ((up.put Fd.TIME_DOM_B_CFG_EN 1).put Fd.TIME_DOM_B_CFG_PORTS 15).put (srcField 1) 2 with time := { on := true, dom := [(1, { master := some 9 })] } },
     1, 3, aPtp, by decide⟩,
   ⟨{ ((up.put Fd.TIME_DOM_B_CFG_EN 1).put Fd.TIME_DOM_B_CFG_PORTS 15).put (srcField 1) 2 with time := { on := true, dom := [(1, { master := some 9, sync := some (5, 0, 0) })] } },
     1, 3, 5, aPtp, 0, 0, by decide⟩,
   ⟨{ ((up.put Fd.TIME_DOM_B_CFG_EN 1).put Fd.TIME_DOM_B_CFG_PORTS 15).put (srcField 1) 2 with time := { on := true, dom := [(1, { master := some 9, req := some (7, 0), toSlave := some 0 })] } },
     1, 3, 7, aPtp, 0, 0, by decide⟩,
   ⟨{ ((up.put Fd.TIME_DOM_B_CFG_EN 1).put Fd.TIME_DOM_B_CFG_PORTS 15).put (srcField 1) 2 with time := { on := true, dom := [(1, {  })] } },
     1, 3, aPtp, by decide⟩,
   ⟨up, 0, 0, aPtp, by decide⟩,
   ⟨{ ((up.put Fd.TIME_DOM_B_CFG_EN 1).put Fd.TIME_DOM_B_CFG_PORTS 15).put (srcField 1) 2 with time := { on := true, dom := [(1, { master := some 9 })] } },
     1, by decide⟩,
   ⟨{ ((up.put Fd.TIME_DOM_B_CFG_EN 1).put Fd.TIME_DOM_B_CFG_PORTS 15).put (srcField 1) 2 with time := { on := true, dom := [(1, { })] } },
     1, by decide⟩,
   ⟨{ up.put Fd.TIME_GNSS_CFG_EN 1 with time := { on := true } }, 2, by decide⟩,
   ⟨{ up.put Fd.TIME_GNSS_CFG_EN 1 with time := { on := true } }, by decide⟩,
   ⟨up.put (srcField 2) 4, by decide⟩,
   ⟨((up.put Fd.TIME_SRC_STAT_CUR 2).put (srcField 0) 3), 0, by decide⟩,
   ⟨{ up.put Fd.TIME_SRC_STAT_CUR 3 with ns := 3932100000000000 }, by decide⟩,
   ⟨{ up with time := { wait := some { first := 0, latest := 0, ok := true } } },
     { first := 0, latest := 0, ok := true }, by decide⟩,
   ⟨(up.put Fd.TIME_SRC_STAT_CUR 5).put Fd.TIME_LEAP_PEND 2, by decide⟩,
   ⟨(up.put Fd.TIME_PPS_CFG_EN 1).put Fd.TIME_SRC_STAT_STATE 3, by decide, by decide, by decide,
     fun _ h => by cases h⟩,
   ⟨up, 1, by decide⟩⟩

/-- What `Schedules` assumes can hold, clause by clause. -/
theorem wit_Schedules :
    (∃ (s : State) (ini k : Nat) (v : Word), k < 3 ∧ s.takes ini (Rg.SCHED_ENT_WIN k) = true ∧ noReserved
      (Rg.SCHED_ENT_WIN k) v = true) ∧
    (∃ (s : State) (ini : Nat) (v : Word), s.takes ini (Rg.SCHED_ENT_WIN 3) = true ∧ noReserved (Rg.SCHED_ENT_WIN 3) v
      = true) ∧
    (∃ (s : State) (ini : Nat), s.reaches ini (Rg.SCHED_ENT_WIN 0) false = true) ∧
    (∃ (s : State) (ini lvl : Nat), lvl < 65536 ∧ s.takes ini Rg.SCHED_FB_CFG = true) ∧
    (∃ (s : State) (f : FbSched), s.rtOn = true ∧ s.sched.saving = some f) :=
  ⟨⟨up, 1, 2, 0, by decide⟩,
   ⟨up, 1, 0, by decide⟩,
   ⟨up, 1, by decide⟩,
   ⟨up, 1, 65535, by decide⟩,
   ⟨{ up with sched := { saving := some { seq := 0, ents := [], hol := [], tz := 0, dst0 := 0, dst1 := 0, catchup := 0, defLvl := 255, day0 := 0, solar := [], saved := 0, left := 0 } } },
     { seq := 0, ents := [], hol := [], tz := 0, dst0 := 0, dst1 := 0, catchup := 0, defLvl := 255, day0 := 0, solar := [], saved := 0, left := 0 },
     by decide⟩⟩

/-- What `RingProtection` assumes can hold, clause by clause. -/
theorem wit_RingProtection :
    (∃ (s : State) (p v : Nat) (f : NetFrame), s.rtOn = true ∧ s.pwr.netOn = true ∧ s.flag (Fd.en Pg.sw) = true ∧ p ≤
      4 ∧ (if p = 4 then s.pwr.appOn else s.portUp p) = true ∧ f.fcsOk = true ∧ f.raps = false ∧ f.vid = some v ∧ (p <
      2 → bitN (s.get Fd.SW_ERPS_STAT_BLOCKED) p = false)) ∧
    (∃ (s : State) (vid mac : Nat) (e : Nat × Nat), s.netUp = true ∧ Tab.get (fun _ => none) s.net.mac (macKey vid
      mac) = some e ∧ (s.pwr.light = false ∨ e.2 + 300000 ≤ s.ms + s.pms)) ∧
    (∃ (s : State) (n : Nat), s.netUp = true ∧ n < 2 ∧ bitN s.net.erps.present n = false) ∧
    (∃ (s : State) (n : Nat), s.netUp = true ∧ n < 2 ∧ bitN s.net.erps.present n = true ∧ s.erpsOn = true ∧ bitN
      s.net.erps.acted n = true ∧ s.get Fd.SW_ERPS_STAT_STATE = 2) ∧
    (∃ (s : State) (m : RapsMsg), s.netUp = true ∧ s.erpsOn = true ∧ s.net.erps.guard = false ∧ m.ringId = s.get
      Fd.SW_ERPS_CFG_RING_ID ∧ m.mel = s.get Fd.SW_ERPS_CFG_MEL) ∧
    (∃ (s : State) (t : Nat), s.netUp = true ∧ s.erpsOn = true ∧ s.net.erps.wtr = some t ∧ s.rplOwner = true ∧ s.get
      Fd.SW_ERPS_STAT_STATE = 5) ∧
    (∃ (s : State) (n : Nat), s.netUp = true ∧ s.erpsOn = true ∧ bitN s.net.erps.hold n = true) ∧
    (∃ (s : State), s.netUp = true ∧ s.net.erps.guard = true) ∧
    (∃ (s : State) (ini n : Nat), n < 2 ∧ s.takes ini Rg.SW_ERPS_CMD = true ∧ s.erpsOn = true) ∧
    (∃ (s : State) (ini n : Nat), n < 2 ∧ s.takes ini Rg.SW_ERPS_CMD = true ∧ s.erpsOn = true) ∧
    (∃ (s : State) (ini : Nat), s.takes ini Rg.SW_ERPS_CMD = true ∧ s.erpsOn = true) ∧
    (∃ (s : State) (ini : Nat) (v : Word), s.takes ini Rg.SW_ERPS_CFG = true ∧ noReserved Rg.SW_ERPS_CFG v = true) ∧
    (∃ (s : State) (n : Nat), s.netUp = true ∧ n < 2 ∧ s.portOn n = true) ∧
    (∃ (s : State) (n mbps : Nat), s.netUp = true ∧ s.portOn n = true ∧ s.flag (Fd.PORT_LINK_UP n) = false ∧ (n < 2 ∨
      mbps = 1000)) ∧
    (∃ (s : State) (n : Nat), s.netUp = true ∧ n < 4 ∧ s.flag (Fd.PORT_LINK_UP n) = true) :=
  ⟨⟨up.put (Fd.en Pg.sw) 1, 4, 1,
     { vid := some 1, pcp := 7, dst := 0, src := 0, fcsOk := true, raps := false, ptp := 0, carrier := 3, res := 0 }, by decide⟩,
   ⟨{ up with net := { mac := [(macKey 1 5, some (0, 0))] }, ns := 300000000000 }, 1, 5, (0, 0), by decide⟩,
   ⟨up, 1, by decide⟩,
   ⟨{ (up.put Fd.SW_ERPS_CFG_EN 1).put Fd.SW_ERPS_STAT_STATE 2 with net := { erps := { present := 2, acted := 2 } } },
     1, by decide⟩,
   ⟨{ (up.put Fd.SW_ERPS_CFG_EN 1) with net := { erps := { } } },
     { kind := .nrRb, nodeId := 1, ringId := State.reset.get Fd.SW_ERPS_CFG_RING_ID, mel := State.reset.get Fd.SW_ERPS_CFG_MEL },
     by decide⟩,
   ⟨{ (up.put Fd.SW_ERPS_CFG_EN 1).put Fd.SW_ERPS_STAT_STATE 5 |>.put Fd.SW_ERPS_CFG_ROLE 1 with net := { erps := { wtr := some 0 } } },
     0, by decide⟩,
   ⟨{ (up.put Fd.SW_ERPS_CFG_EN 1) with net := { erps := { hold := 2 } } }, 1, by decide⟩,
   ⟨{ (up.put Fd.SW_ERPS_CFG_EN 1) with net := { erps := { guard := true } } }, by decide⟩,
   ⟨{ (up.put Fd.SW_ERPS_CFG_EN 1) with net := { erps := { } } }, 1, 1, by decide⟩,
   ⟨{ (up.put Fd.SW_ERPS_CFG_EN 1) with net := { erps := { } } }, 1, 1, by decide⟩,
   ⟨{ (up.put Fd.SW_ERPS_CFG_EN 1) with net := { erps := { } } }, 1, by decide⟩,
   ⟨up, 1, 0, by decide⟩,
   ⟨up.put (Fd.en (Pg.port 1)) 1, 1, by decide⟩,
   ⟨up.put (Fd.en (Pg.port 1)) 1, 1, 100, by decide⟩,
   ⟨up.put (Fd.PORT_LINK_UP 3) 1, 3, by decide⟩⟩

/-- What `HeadEndLink` assumes can hold, clause by clause. -/
theorem wit_HeadEndLink :
    (∃ (s : State) (h : DtlsHello) (k : Nat), s.lspUp = true ∧ s.pwr.appOn = true ∧ s.pwr.netOn = true ∧ s.peerOf
      h.addr = some k ∧ h.v13 = true ∧ h.psk = false ∧ (0x1301 ∈ h.suites ∨ 0x1302 ∈ h.suites)) ∧
    (∃ (s : State) (k queued : Nat) (x : Session) (m : List Nat) (p : LspMsg), s.appUp = true ∧ k < 4 ∧ s.sess k =
      some x ∧ lspParse m = some p ∧ p.ver = 1 ∧ p.typ = 1 ∧ p.len = p.body.length ∧ p.len % 12 = 0 ∧ 12 ≤ p.len ∧
      p.len ≤ 1176 ∧ queued < 4 ∧ ((Tab.get (fun _ => []) (s.heardPeer k).net.store k).find? fun e => e.1 == p.reqId)
      = none) ∧
    (∃ (s : State) (k : Nat) (x : Session) (m : List Nat) (p : LspMsg), s.appUp = true ∧ k < 4 ∧ s.sess k = some x ∧
      lspParse m = some p ∧ p.ver = 1 ∧ p.typ = 0x11 ∧ p.len = 0 ∧ p.body = []) ∧
    (∃ (s : State) (k seq : Nat) (x : Session), s.sess k = some x ∧ seq < x.nextSeq) ∧
    (∃ (s : State) (k seq : Nat) (x : Session) (e : EvMsg), s.appUp = true ∧ s.sess k = some x ∧ x.msgs.find? (fun m
      => m.seq == seq) = some e) ∧
    (∃ (s : State) (k : Nat) (x : Session), s.appUp = true ∧ s.sess k = some x) ∧
    (∃ (s : State) (k : Nat) (x : Session) (m : List Nat), s.appUp = true ∧ s.sess k = some x ∧ (4 ≤ k ∨ (∃ p,
      lspParse m = some p ∧ p.ver = 1 ∧ p.typ = 0x30 ∧ p.len = 0 ∧ p.body = []))) ∧
    (∃ (s : State) (k : Nat) (x : Session) (m : List Nat) (p : LspMsg), s.appUp = true ∧ k < 4 ∧ s.sess k = some x ∧
      lspParse m = some p ∧ p.ver ≠ 1) ∧
    (∃ (s : State) (k : Nat) (x : Session), s.appUp = true ∧ s.sess k = some x) :=
  ⟨⟨linked, ⟨9, true, [0x1301], false, true⟩, 0, by decide⟩,
   ⟨linked, 3, 3, aSession, (lspBytes 1 0 1 (List.replicate 12 0)), ⟨1, 1, 0, 0, 1, 12, (List.replicate 12 0)⟩,
     by decide⟩,
   ⟨linked, 3, aSession, (lspBytes 0x11 0 1 []), ⟨1, 0x11, 0, 0, 1, 0, []⟩, by decide⟩,
   ⟨linked, 3, 1, aSession, by decide⟩,
   ⟨linked, 3, 1, aSession, ⟨1, [], 0, []⟩, by decide⟩,
   ⟨{ up with net := { ip := { peers := [9] }, sess := [(3, some aSession)] }, pwr := { results := [(20, 1)] } },
     3, aSession, by decide⟩,
   ⟨linked, 3, aSession, (lspBytes 0x30 0 1 []), by decide, by decide, .inr ⟨⟨1, 0x30, 0, 0, 1, 0, []⟩, by decide⟩⟩,
   ⟨linked, 3, aSession, (2 :: (lspBytes 1 0 1 []).drop 1), ⟨2, 1, 0, 0, 1, 0, []⟩, by decide⟩,
   ⟨{ up with net := { ip := { peers := [9] }, sess := [(3, some aSession)] }, pwr := { results := [(20, 1)] } },
     3, aSession, by decide⟩⟩

/-- What `InterruptUnit` assumes can hold, clause by clause. -/
theorem wit_InterruptUnit :
    (∃ (s : State) (c i : Nat), s.appUp = true ∧ c < 4 ∧ s.iuEntry c = some i) ∧
    (∃ (s : State) (c src : Nat), c < 4 ∧ src < 256 ∧ s.takes (c + 1) (Rg.IUC_EOI c) = true) ∧
    (∃ (s : State) (ini : Nat), s.takes ini (Rg.reg Pg.iu 0x1C) = true) ∧
    (∃ (s : State) (ini : Nat) (v : Word), s.takes ini Rg.IU_DOORBELL = true ∧ noReserved Rg.IU_DOORBELL v = true) ∧
    (∃ (s : State) (g : Nat), s.appUp = true ∧ 1 ≤ g ∧ g < 16 ∧ (s.coal g).timer = true ∧ (s.coal g).opened = false) :=
  ⟨⟨{ up with iu := { entry := [(3, some 255)] } }, 3, 255, by decide⟩,
   ⟨{ up with acc := { lock := [] } }, 3, 255, by decide⟩,
   ⟨up, 1, by decide⟩,
   ⟨up, 1, 0xFFFFFFFF, by decide⟩,
   ⟨{ up with iu := { coal := [(15, { timer := true })] } }, 15, by decide⟩⟩

/-- What `Queues` assumes can hold, clause by clause. -/
theorem wit_Queues :
    (∃ (s : State) (ini q w : Nat) (v : Word), q < 64 ∧ w < 7 ∧ s.takes ini (itemReg q w) = true ∧ noReserved (itemReg
      q w) v = true) ∧
    (∃ (s : State) (ini q : Nat) (v : Word), q < 64 ∧ s.takes ini (itemReg q 7) = true ∧ noReserved (itemReg q 7) v =
      true) ∧
    (∃ (s : State) (ini q : Nat), q < 64 ∧ s.reaches ini (itemReg q 0) false = true) ∧
    (∃ (s : State) (ini q w : Nat), q < 64 ∧ 1 ≤ w ∧ w < 8 ∧ s.reaches ini (itemReg q w) false = true ∧ (s.latched ini
      Pg.qmq (0x800 + 32 * q + 4 * w)) = none) ∧
    (∃ (s : State) (ini : Nat) (v : Word), s.takes ini Rg.QM_Q_CFG = true ∧ noReserved Rg.QM_Q_CFG (v ||| 0x80000000)
      = true) ∧
    (∃ (s : State) (ini : Nat), s.takes ini Rg.QM_Q_CFG = true ∧ noReserved Rg.QM_Q_CFG (s.qCfgWord (s.get
      ⟨Rg.QM_Q_SEL, 0, 6⟩) ||| 0x20000000) = true) ∧
    (∃ (q : Nat) (v : Word), 8 ≤ q ∧ q < 64 ∧ bitW v 31 = true) ∧
    (∃ (s : State) (q : Nat), s.appUp = true ∧ q < 64 ∧ s.get (inBank Fd.QM_Q_CFG2_STALL q) ≠ 0 ∧ (s.qItems q).length
      ≠ 0 ∧ s.qOn q = true ∧ Tab.get (fun _ => false) s.qm.stalled q = false) :=
  ⟨⟨up, 1, 63, 6, 1, by decide⟩,
   ⟨up, 1, 63, 1, by decide⟩,
   ⟨up, 1, 63, by decide⟩,
   ⟨up, 1, 63, 7, by decide⟩,
   ⟨up, 1, 0, by decide⟩,
   ⟨up, 1, by decide⟩,
   ⟨63, 0x80000000, by decide⟩,
   ⟨{ ((up.put (inBank Fd.QM_Q_CFG2_STALL 63) 1).put (inBank Fd.QM_Q_CFG_EN 63) 1) with qm := { items := [(63, [[1]])] } },
     63, by decide⟩⟩

/-- What `HostLink` assumes can hold, clause by clause. -/
theorem wit_HostLink :
    (∃ (s : State) (v : Word), s.takes 5 Rg.PCIE_HDB_SET = true ∧ noReserved Rg.PCIE_HDB_SET v = true) ∧
    (∃ (s : State) (ini : Nat) (v : Word), s.takes ini Rg.PCIE_HDB = true ∧ noReserved Rg.PCIE_HDB v = true) ∧
    (∃ (s : State) (ini : Nat) (v : Word), s.takes ini Rg.PCIE_CPL_CMD = true ∧ noReserved Rg.PCIE_CPL_CMD v = true) ∧
    (∃ (s : State) (k : Nat) (e : List Word) (l : List (List Word)), s.appUp = true ∧ k < 8 ∧ (s.cq k).held = e :: l ∧
      s.hostUp = true ∧ s.cqOn k = true ∧ s.cqFull k = false) ∧
    (∃ (s : State) (v : Word), s.takes 5 Rg.PCIE_CQ_HEAD = true ∧ noReserved Rg.PCIE_CQ_HEAD v = true) ∧
    (∃ (s : State) (k : Nat), s.appUp = true ∧ k < 8 ∧ (s.cq k).timer = true) ∧
    (∃ (s : State) (k : Nat), s.appUp = true ∧ k < 8 ∧ (s.cq k).due = true ∧ (s.cq k).held = [] ∧ s.hostUp = true) ∧
    (∃ (s : State), s.appUp = true) ∧
    (∃ (s : State), s.appUp = true ∧ s.flag (Fd.en Pg.pcie) = true) ∧
    (∃ (s : State) (up : Bool), s.appUp = true ∧ (up = false ∨ s.flag (Fd.en Pg.pcie) = true)) ∧
    (∃ (s : State), s.appUp = true) ∧
    (∃ (s : State) (v : Nat), s.appUp = true ∧ v < 8) :=
  ⟨⟨up, 255, by decide⟩,
   ⟨up, 1, 255, by decide⟩,
   ⟨up, 1, 7, by decide⟩,
   ⟨{ ((up.put Fd.PCIE_LINK_UP 1).put (inBank Fd.PCIE_CQ_CFG_EN 7) 1).put (inBank Fd.PCIE_CQ_CFG_SIZE 7) 16 with pcie := { cq := [(7, { held := [[1, 2, 3, 4]] })] } },
     7, [1, 2, 3, 4], [], by decide⟩,
   ⟨up, 7, by decide⟩,
   ⟨{ ((up.put Fd.PCIE_LINK_UP 1).put (inBank Fd.PCIE_CQ_CFG_EN 7) 1).put (inBank Fd.PCIE_CQ_CFG_SIZE 7) 16 with pcie := { cq := [(7, { timer := true })] } },
     7, by decide⟩,
   ⟨{ ((up.put Fd.PCIE_LINK_UP 1).put (inBank Fd.PCIE_CQ_CFG_EN 7) 1).put (inBank Fd.PCIE_CQ_CFG_SIZE 7) 16 with pcie := { cq := [(7, { due := true })] } },
     7, by decide⟩,
   ⟨up, by decide⟩,
   ⟨up.put (Fd.en Pg.pcie) 1, by decide⟩,
   ⟨up, false, by decide⟩,
   ⟨up, by decide⟩,
   ⟨up, 7, by decide⟩⟩

/-- What `PairLink` assumes can hold, clause by clause. -/
theorem wit_PairLink :
    (∃ (s : State) (lanes : Nat), s.rtOn = true ∧ s.flag (Fd.en Pg.byell) = true ∧ lanes % 4 ≠ 0 ∧ s.linkUp = false) ∧
    (∃ (s : State), s.rtOn = true ∧ s.linkUp = true) ∧
    (∃ (s : State) (lane : Nat), s.rtOn = true ∧ s.linkUp = true ∧ s.get Fd.BYELL_LANE_STAT_LOCK = 3 ∧ lane < 2) ∧
    (∃ (s : State), s.rtOn = true ∧ s.linkUp = true) ∧
    (∃ (s : State), s.rtOn = true ∧ s.linkUp = true) ∧
    (∃ (s : State), s.rtOn = true ∧ s.linkUp = true) ∧
    (∃ (s : State), s.rtOn = true ∧ s.linkUp = true) ∧
    (∃ (s : State) (m : ImpEndMsg), s.rtOn = true ∧ s.linkUp = true ∧ m.ok = true) ∧
    (∃ (s : State), s.rtOn = true ∧ s.linkUp = true) ∧
    (∃ (s : State), s.rtOn = true) ∧
    (∃ (s : State), s.rtOn = true ∧ s.linkUp = true) ∧
    (∃ (s : State), s.rtOn = true ∧ s.linkUp = true ∧ s.role = 0) ∧
    (∃ (s : State) (t : Nat), s.rtOn = true ∧ s.pair.syncAt = some t ∧ s.role = 0 ∧ t + 250 ≤ s.tick.num) ∧
    (∃ (s : State), s.rtOn = true ∧ s.role = 0 ∧ s.get Fd.PAIR_CFG_UNIT = 1 ∧ s.peerRole = 0) ∧
    (∃ (s : State) (m : ImpEndMsg), s.rtOn = true ∧ s.linkUp = true ∧ m.ok = false) :=
  ⟨⟨up.put (Fd.en Pg.byell) 1, 3, by decide⟩,
   ⟨up.put Fd.BYELL_LANE_STAT_UP 1, by decide⟩,
   ⟨(up.put Fd.BYELL_LANE_STAT_UP 1).put Fd.BYELL_LANE_STAT_LOCK 3, 1, by decide⟩,
   ⟨up.put Fd.BYELL_LANE_STAT_UP 1, by decide⟩,
   ⟨up.put Fd.BYELL_LANE_STAT_UP 1, by decide⟩,
   ⟨up.put Fd.BYELL_LANE_STAT_UP 1, by decide⟩,
   ⟨up.put Fd.BYELL_LANE_STAT_UP 1, by decide⟩,
   ⟨up.put Fd.BYELL_LANE_STAT_UP 1, { num := 1, csum := 0, digest := 0, fv := [], kb := 0, ok := true, us := 0 },
     by decide⟩,
   ⟨up.put Fd.BYELL_LANE_STAT_UP 1, by decide⟩,
   ⟨up, by decide⟩,
   ⟨up.put Fd.BYELL_LANE_STAT_UP 1, by decide⟩,
   ⟨(up.put Fd.BYELL_LANE_STAT_UP 1).put Fd.PAIR_ROLE_ROLE 0, by decide⟩,
   ⟨{ up.put Fd.PAIR_ROLE_ROLE 0 with pair := { syncAt := some 0 }, tick := { num := 250 } }, 0, by decide⟩,
   ⟨(up.put Fd.PAIR_ROLE_ROLE 0).put Fd.PAIR_CFG_UNIT 1, by decide⟩,
   ⟨up.put Fd.BYELL_LANE_STAT_UP 1, { num := 1, csum := 0, digest := 0, fv := [], kb := 0, ok := false, us := 0 },
     by decide⟩⟩

/-- What `WitnessAndSwaps` assumes can hold, clause by clause. -/
theorem wit_WitnessAndSwaps :
    (∃ (s : State), s.rtOn = true ∧ s.pair.paired = true ∧ s.flag (Fd.en Pg.wit) = true ∧ s.pwr.halted = false) ∧
    (∃ (s : State) (m : WitMsg), s.rtOn = true ∧ s.pair.paired = true ∧ s.flag (Fd.en Pg.wit) = true ∧ s.witTagOk m =
      true ∧ m.typ = 2 ∧ m.unit = s.get Fd.PAIR_CFG_UNIT ∧ m.pairId = (s.rd Rg.PAIR_PAIR_ID).toNat ∧ m.seq =
      s.pair.hbSeq ∧ s.pair.hbWait = true) ∧
    (∃ (s : State) (m : WitMsg), s.rtOn = true ∧ s.pair.paired = true ∧ s.flag (Fd.en Pg.wit) = true ∧ (s.witTagOk m =
      false ∨ (m.typ = 2 ∧ m.unit = s.get Fd.PAIR_CFG_UNIT ∧ m.pairId = (s.rd Rg.PAIR_PAIR_ID).toNat ∧ m.seq ≠
      s.pair.hbSeq))) ∧
    (∃ (s : State), s.rtOn = true ∧ s.pair.hbWait = true) ∧
    (∃ (s : State), s.rtOn = true ∧ s.role = 1 ∧ (∀ t, s.pair.leaseEnd = some t → t ≤ s.ns + 1000000 * s.pms)) ∧
    (∃ (s : State) (ini : Nat), s.takes ini Rg.PAIR_CMD = true ∧ s.pair.paired = true) ∧
    (∃ (s : State) (ini : Nat), s.takes ini Rg.PAIR_CMD = true ∧ s.pair.paired = true) ∧
    (∃ (s : State) (ini : Nat), s.takes ini Rg.PAIR_CMD = true ∧ s.pair.paired = true) ∧
    (∃ (s : State), s.rtOn = true ∧ s.get ⟨Rg.PAIR_SWAP_PERIOD, 0, 16⟩ ≠ 0 ∧ s.pair.swapAt + 3600 * s.get
      ⟨Rg.PAIR_SWAP_PERIOD, 0, 16⟩ ≤ s.sec + 1) :=
  ⟨⟨up.put (Fd.en Pg.wit) 1, by decide⟩,
   ⟨witnessed, witReply, by decide, by decide, by decide, wit_tag, by decide, by decide, by decide, by decide,
     by decide⟩,
   ⟨up.put (Fd.en Pg.wit) 1, { typ := 1, flags := 0, unit := 0, pairId := 0, seq := 0, remain := 0, tag := [] },
     by decide⟩,
   ⟨{ up with pair := { hbWait := true } }, by decide⟩,
   ⟨up, by decide, by decide, fun _ h => by cases h⟩,
   ⟨up, 1, by decide⟩,
   ⟨up, 1, by decide⟩,
   ⟨up, 1, by decide⟩,
   ⟨{ up.put ⟨Rg.PAIR_SWAP_PERIOD, 0, 16⟩ 1 with ns := 3600000000000 }, by decide⟩⟩

/-- What `GroundServices` assumes can hold, clause by clause. -/
theorem wit_GroundServices :
    (∃ (s : State) (port : Nat), s.rtOn = true ∧ port < 16 ∧ s.ground.ready = true ∧ s.slotRefusal (16 + port) 0 = 0) ∧
    (∃ (s : State), s.rtOn = true ∧ s.ground.ready = true ∧ s.slotRefusal 5 1 = 0) ∧
    (∃ (s : State), s.rtOn = true ∧ s.ground.ready = true ∧ s.slotRefusal 6 2 = 0) ∧
    (∃ (s : State), s.rtOn = true ∧ s.ground.ready = true ∧ s.slotRefusal 12 5 = 0) ∧
    (∃ (s : State), s.rtOn = true ∧ s.ground.ready = true ∧ s.slotRefusal 13 6 = 0) ∧
    (∃ (s : State) (port c : Nat), s.rtOn = true ∧ port < 20 ∧ s.ground.ready = true ∧ s.slotRefusal (portSlot port).1
      (portSlot port).2 = c ∧ c ≠ 0) ∧
    (∃ (s : State) (ini : Nat), s.takes ini Rg.GROUND_MBX_IN = true) ∧
    (∃ (s : State) (ini : Nat), s.reaches ini Rg.GROUND_MBX_OUT false = true) ∧
    (∃ (s : State), s.rtOn = true ∧ s.mbxReady 1 = true) ∧
    (∃ (s : State) (slot : Nat), s.rtOn = true ∧ s.mbxReady 2 = true ∧ (s.ground.locked = false ∨ slotClass slot ≠ 2)
      ∧ (s.key slot).state = 1 ∧ (s.key slot).own = true) ∧
    (∃ (s : State) (slot : Nat), s.rtOn = true ∧ s.mbxReady 3 = true ∧ s.slotRefusal slot (if slot = 7 then 3 else 9)
      = 0 ∧ (s.key slot).typ = 3) ∧
    (∃ (s : State) (slot : Nat), s.rtOn = true ∧ s.mbxReady 4 = true ∧ s.slotRefusal slot 7 = 0 ∧ ((s.key slot).typ =
      1 ∨ (s.key slot).typ = 2)) ∧
    (∃ (s : State) (slot : Nat), s.rtOn = true ∧ s.mbxReady 5 = true ∧ s.slotRefusal slot 8 = 0 ∧ ((s.key slot).typ =
      1 ∨ (s.key slot).typ = 2)) ∧
    (∃ (s : State) (slot : Nat), s.rtOn = true ∧ s.mbxReady 6 = true ∧ s.slotRefusal slot 8 = 0 ∧ ((s.key slot).typ =
      1 ∨ (s.key slot).typ = 2)) ∧
    (∃ (s : State) (slot c : Nat), s.rtOn = true ∧ c ≠ 0 ∧ s.mbxReady 3 = true ∧ s.slotRefusal slot (if slot = 7 then
      3 else 9) = c) ∧
    (∃ (s : State) (slot c : Nat), s.rtOn = true ∧ c ≠ 0 ∧ s.mbxReady 4 = true ∧ s.slotRefusal slot 7 = c) ∧
    (∃ (s : State) (slot c : Nat), s.rtOn = true ∧ c ≠ 0 ∧ s.mbxReady 5 = true ∧ s.slotRefusal slot 8 = c) ∧
    (∃ (s : State) (slot c : Nat), s.rtOn = true ∧ c ≠ 0 ∧ s.mbxReady 6 = true ∧ s.slotRefusal slot 8 = c) ∧
    (∃ (s : State), s.rtOn = true ∧ s.mbxReady 7 = true) ∧
    (∃ (s : State) (slot : Nat), s.rtOn = true ∧ s.mbxReady 8 = true ∧ s.ground.locked = false ∧
      s.nv.keys.genAllow.contains slot = true ∧ (s.key slot).state = 0) ∧
    (∃ (s : State) (c r : Nat), s.rtOn = true ∧ s.ground.cmd = some c ∧ s.ground.result = some r) :=
  ⟨⟨{ up with ground := { ready := true, cmd := none }, nv := { keys := { lc := 2, slots := [(31, { state := 1 })] } } },
     15, by decide⟩,
   ⟨{ up with ground := { ready := true, cmd := none }, nv := { keys := { lc := 2, slots := [(5, { state := 1 })] } } },
     by decide⟩,
   ⟨{ up with ground := { ready := true, cmd := none }, nv := { keys := { lc := 2, slots := [(6, { state := 1 })] } } },
     by decide⟩,
   ⟨{ up with ground := { ready := true, cmd := none }, nv := { keys := { lc := 2, slots := [(12, { state := 1 })] } } },
     by decide⟩,
   ⟨{ up with ground := { ready := true, cmd := none }, nv := { keys := { lc := 2, slots := [(13, { state := 1 })] } } },
     by decide⟩,
   ⟨{ up with ground := { ready := true, cmd := none }, nv := { keys := { lc := 2, slots := [] } } }, 19, 15,
     by decide⟩,
   ⟨up, 1, by decide⟩,
   ⟨up, 1, by decide⟩,
   ⟨{ up with ground := { ready := true, cmd := some 1 } }, by decide⟩,
   ⟨{ up with ground := { ready := true, cmd := some 2 }, nv := { keys := { lc := 2, slots := [(7, { state := 1, typ := 3, own := true })] } } },
     7, by decide⟩,
   ⟨{ up with ground := { ready := true, cmd := some 3 }, nv := { keys := { lc := 2, slots := [(7, { state := 1, typ := 3, own := true })] } } },
     7, by decide⟩,
   ⟨{ up with ground := { ready := true, cmd := some 4 }, nv := { keys := { lc := 2, slots := [(127, { state := 1, typ := 2, usage := 128 })] } } },
     127, by decide⟩,
   ⟨{ up with ground := { ready := true, cmd := some 5 }, nv := { keys := { lc := 2, slots := [(127, { state := 1, typ := 2, usage := 256 })] } } },
     127, by decide⟩,
   ⟨{ up with ground := { ready := true, cmd := some 6 }, nv := { keys := { lc := 2, slots := [(127, { state := 1, typ := 2, usage := 256 })] } } },
     127, by decide⟩,
   ⟨{ up with ground := { ready := true, cmd := some 3 }, nv := { keys := { lc := 2, slots := [] } } }, 127, 15,
     by decide⟩,
   ⟨{ up with ground := { ready := true, cmd := some 4 }, nv := { keys := { lc := 2, slots := [] } } }, 127, 15,
     by decide⟩,
   ⟨{ up with ground := { ready := true, cmd := some 5 }, nv := { keys := { lc := 2, slots := [] } } }, 127, 15,
     by decide⟩,
   ⟨{ up with ground := { ready := true, cmd := some 6 }, nv := { keys := { lc := 2, slots := [] } } }, 127, 15,
     by decide⟩,
   ⟨{ up with ground := { ready := true, cmd := some 7 } }, by decide⟩,
   ⟨{ up with ground := { ready := true, cmd := some 8 }, nv := { keys := { genAllow := [127] } } }, 127,
     by decide⟩,
   ⟨{ up with ground := { cmd := some 1, result := some 0 } }, 1, 0, by decide⟩⟩

/-- What `TamperAndDebug` assumes can hold, clause by clause. -/
theorem wit_TamperAndDebug :
    (∃ (s : State) (src : Nat), src < 6 ∧ (src ≠ 1 ∨ watched s.pwr.state 1 false = false)) ∧
    (∃ (s : State), watched s.pwr.state 1 false = true) ∧
    (∃ (s : State) (ini : Nat) (v : Word), s.takes ini Rg.TAMP_LATCH = true ∧ noReserved Rg.TAMP_LATCH v = true) ∧
    (∃ (s : State) (ini : Nat), s.takes ini Rg.DBG_CMD = true ∧ s.flag Fd.DBG_LEVEL_LOCKOUT = false) ∧
    (∃ (s : State) (ini level : Nat), (level = 1 ∨ level = 2) ∧ s.takes ini Rg.DBG_CMD = true) ∧
    (∃ (s : State) (ini : Nat), s.takes ini Rg.DBG_CMD = true) ∧
    (∃ (s : State) (t : Nat), s.rtOn = true ∧ s.ground.chalAt = some t ∧ t + 60 ≤ s.sec) ∧
    (∃ (s : State) (t : Nat), s.rtOn = true ∧ s.ground.lockAt = some t ∧ t + 60 ≤ s.sec) :=
  ⟨⟨up, 5, by decide⟩,
   ⟨up, by decide⟩,
   ⟨up, 1, 63, by decide⟩,
   ⟨up, 1, by decide⟩,
   ⟨up, 1, 2, by decide⟩,
   ⟨up, 1, by decide⟩,
   ⟨{ up with ground := { chalAt := some 0 }, ns := 60000000000 }, 0, by decide⟩,
   ⟨{ up with ground := { lockAt := some 0 }, ns := 60000000000 }, 0, by decide⟩⟩

/-- What `UpdateStreams` assumes can hold, clause by clause. -/
theorem wit_UpdateStreams :
    (∃ (s : State) (src : Nat) (x : Session) (m : List Nat) (p : LspMsg), s.appUp = true ∧ s.updIdle = false ∧ 1 ≤ src
      ∧ src ≤ 6 ∧ s.sess (srcPeer src) = some x ∧ lspParse m = some p ∧ p.ver = 1 ∧ p.typ = 0x20 ∧ p.len =
      p.body.length ∧ 40 ≤ p.len ∧ p.len ≤ 1184) ∧
    (∃ (s : State) (src : Nat), s.mayOffer src = true) ∧
    (∃ (s : State) (src : Nat), s.mayOffer src = false) ∧
    (∃ (s : State) (src : Nat) (x : Session) (m : List Nat) (p : LspMsg), s.appUp = true ∧ s.updIdle = false ∧ 1 ≤ src
      ∧ src ≤ 6 ∧ s.sess (srcPeer src) = some x ∧ lspParse m = some p ∧ p.ver = 1 ∧ p.typ = 0x21 ∧ p.len =
      p.body.length ∧ 17 ≤ p.len ∧ p.len ≤ 1184) ∧
    (∃ (s : State) (src c : Nat) (b : List Nat), (s.upd.offers.find? fun o => o.src == src && o.stream == beAt b 0 4)
      = none ∧ s.upd.stream = some (src, beAt b 0 4) ∧ s.nv.upd.state = 2 ∧ beAt b 4 4 = c ∧ c < s.nv.upd.chunks ∧
      (s.nv.upd.man ≠ [] ∨ c < 8) ∧ s.nv.upd.has c = false ∧ ((b.drop 16).take (beAt b 8 2)).length = min 1024
      (s.nv.upd.contLen - 1024 * c)) ∧
    (∃ (s : State) (src : Nat) (b : List Nat) (o : UpdOffer), (s.upd.offers.find? fun o => o.src == src && o.stream ==
      beAt b 0 4) = some o ∧ beAt b 4 4 < 4 ∧ ((b.drop 16).take (beAt b 8 2)).length = 1024) ∧
    (∃ (s : State) (k : Nat) (x : Session) (m : List Nat) (p : LspMsg), s.appUp = true ∧ s.updIdle = false ∧ 5 ≤ k ∧ k
      ≤ 6 ∧ s.sess k = some x ∧ lspParse m = some p ∧ p.ver = 1 ∧ p.typ = 0x22 ∧ p.len = p.body.length ∧ 44 ≤ p.len ∧
      p.len ≤ 1184) ∧
    (∃ (s : State) (k : Nat) (b : List Nat), (s.relay k).stream = some (beAt b 0 4)) ∧
    (∃ (s : State) (src stream : Nat), s.appUp = true ∧ s.updIdle = false ∧ s.upd.stream = some (src, stream)) ∧
    (∃ (s : State) (k c : Nat) (x : Session), s.appUp = true ∧ s.updIdle = false ∧ 5 ≤ k ∧ k ≤ 6 ∧ c < (s.relay
      k).sent ∧ (s.relay k).holds c = false ∧ s.nv.upd.has c = true ∧ s.sess k = some x) ∧
    (∃ (s : State) (k : Nat) (x : Session), s.appUp = true ∧ s.updIdle = false ∧ (k = 5 ∨ k = 6) ∧ ((s.relay k).status
      < 3 ∨ 6 < (s.relay k).status) ∧ (if k = 5 then s.transmits else s.role == 1) = true ∧ s.flag Fd.UPD_CFG_RELAY_EN
      = true ∧ s.nv.upd.man ≠ [] ∧ s.sess k = some x) ∧
    (∃ (s : State), s.appUp = true ∧ s.updIdle = false) ∧
    (∃ (s : State) (src : Nat) (x : Session) (m : List Nat) (p : LspMsg), s.appUp = true ∧ s.updIdle = false ∧ 1 ≤ src
      ∧ src ≤ 6 ∧ s.sess (srcPeer src) = some x ∧ lspParse m = some p ∧ p.ver = 1 ∧ p.typ = 0x23 ∧ p.len =
      p.body.length ∧ 16 ≤ p.len ∧ p.len ≤ 1184 ∧ beAt p.body 4 1 = 0) ∧
    (∃ (s : State) (src : Nat) (x : Session) (m : List Nat) (p : LspMsg), s.appUp = true ∧ s.updIdle = false ∧ 1 ≤ src
      ∧ src ≤ 6 ∧ s.sess (srcPeer src) = some x ∧ lspParse m = some p ∧ p.ver = 1 ∧ p.typ = 0x23 ∧ p.len =
      p.body.length ∧ 16 ≤ p.len ∧ p.len ≤ 1184 ∧ beAt p.body 4 1 = 1) ∧
    (∃ (s : State) (src : Nat) (x : Session) (m : List Nat) (p : LspMsg), s.appUp = true ∧ s.updIdle = false ∧ 1 ≤ src
      ∧ src ≤ 6 ∧ s.sess (srcPeer src) = some x ∧ lspParse m = some p ∧ p.ver = 1 ∧ p.typ = 0x23 ∧ p.len =
      p.body.length ∧ 16 ≤ p.len ∧ p.len ≤ 1184 ∧ beAt p.body 4 1 = 2) ∧
    (∃ (s : State) (src : Nat) (x : Session) (m : List Nat) (p : LspMsg), s.appUp = true ∧ s.updIdle = false ∧ 1 ≤ src
      ∧ src ≤ 6 ∧ s.sess (srcPeer src) = some x ∧ lspParse m = some p ∧ p.ver = 1 ∧ p.typ = 0x23 ∧ p.len =
      p.body.length ∧ 16 ≤ p.len ∧ p.len ≤ 1184 ∧ beAt p.body 4 1 = 3) :=
  ⟨⟨streaming, 6, aSession, (lspBytes 0x20 0 1 (List.replicate 40 0)),
     ⟨1, 0x20, 0, 0, 1, 40, (List.replicate 40 0)⟩, by decide⟩,
   ⟨up, 5, by decide⟩,
   ⟨up, 6, by decide⟩,
   ⟨streaming, 6, aSession, (lspBytes 0x21 0 1 (List.replicate 17 0)),
     ⟨1, 0x21, 0, 0, 1, 17, (List.replicate 17 0)⟩, by decide⟩,
   ⟨{ up with upd := { stream := some (1, 0) }, nv := { upd := { state := 2, contLen := 4096 } } }, 1, 3,
     [0, 0, 0, 0, 0, 0, 0, 3, 4, 0, 0, 0, 0, 0, 0, 0] ++ List.replicate 1024 0, by decide +kernel⟩,
   ⟨{ up with upd := { offers := [⟨1, 0, 0, 0, 0, []⟩] } }, 1,
     [0, 0, 0, 0, 0, 0, 0, 3, 4, 0, 0, 0, 0, 0, 0, 0] ++ List.replicate 1024 0, ⟨1, 0, 0, 0, 0, []⟩,
     by decide +kernel⟩,
   ⟨streaming, 6, aSession, (lspBytes 0x22 0 1 (List.replicate 44 0)),
     ⟨1, 0x22, 0, 0, 1, 44, (List.replicate 44 0)⟩, by decide⟩,
   ⟨streaming, 6, List.replicate 44 0, by decide⟩,
   ⟨{ up with upd := { stream := some (1, 1) }, nv := { upd := { } }, tick := { booted := true, num := 3000 }, ns := 600000000000 },
     1, 1, by decide⟩,
   ⟨streaming, 6, 0, aSession, by decide⟩,
   ⟨streaming, 6, aSession, by decide⟩,
   ⟨up, by decide⟩,
   ⟨streaming, 6, aSession, (lspBytes 0x23 0 1 [0, 0, 0, 0, 0, 0, 0, 0, 0, 0, 0, 0, 0, 0, 0, 0]),
     ⟨1, 0x23, 0, 0, 1, 16, [0, 0, 0, 0, 0, 0, 0, 0, 0, 0, 0, 0, 0, 0, 0, 0]⟩, by decide⟩,
   ⟨streaming, 6, aSession, (lspBytes 0x23 0 1 [0, 0, 0, 0, 1, 0, 0, 0, 0, 0, 0, 0, 0, 0, 0, 0]),
     ⟨1, 0x23, 0, 0, 1, 16, [0, 0, 0, 0, 1, 0, 0, 0, 0, 0, 0, 0, 0, 0, 0, 0]⟩, by decide⟩,
   ⟨streaming, 6, aSession, (lspBytes 0x23 0 1 [0, 0, 0, 0, 2, 0, 0, 0, 0, 0, 0, 0, 0, 0, 0, 0]),
     ⟨1, 0x23, 0, 0, 1, 16, [0, 0, 0, 0, 2, 0, 0, 0, 0, 0, 0, 0, 0, 0, 0, 0]⟩, by decide⟩,
   ⟨streaming, 6, aSession, (lspBytes 0x23 0 1 [0, 0, 0, 0, 3, 0, 0, 0, 0, 0, 0, 0, 0, 0, 0, 0]),
     ⟨1, 0x23, 0, 0, 1, 16, [0, 0, 0, 0, 3, 0, 0, 0, 0, 0, 0, 0, 0, 0, 0, 0]⟩, by decide⟩⟩

/-- What `UpdateCampaign` assumes can hold, clause by clause. -/
theorem wit_UpdateCampaign :
    (∃ (s : State), s.rtOn = true ∧ s.updIdle = false ∧ s.nv.upd.state = 3) ∧
    (∃ (s : State), s.rtOn = true ∧ s.updIdle = false ∧ 2 ≤ s.nv.upd.state ∧ s.nv.upd.state ≤ 4 ∧ s.nv.upd.deadline ≤
      s.utc ∧ s.transmits = true) ∧
    (∃ (s : State) (ini : Nat), s.takes ini Rg.UPD_CMD = true ∧ s.updIdle = false ∧ s.nv.upd.state = 5 ∧
      s.nv.upd.actAt = 0 ∧ s.nv.upd.actTick = none) ∧
    (∃ (s : State) (ini : Nat), s.takes ini Rg.UPD_CMD = true ∧ s.updIdle = false ∧ 1 ≤ s.nv.upd.state ∧
      s.nv.upd.state ≤ 5) ∧
    (∃ (s : State) (ini : Nat), s.takes ini Rg.UPD_CMD = true ∧ s.updIdle = false ∧ s.nv.upd.state = 7 ∧
      s.nv.upd.confirmed = false ∧ 600 ≤ s.stable ∧ s.nv.upd.manual = true) ∧
    (∃ (s : State) (ini : Nat), s.takes ini Rg.UPD_CMD = true ∧ s.updIdle = false ∧ s.nv.upd.state = 7) ∧
    (∃ (s : State) (t : Nat), s.rtOn = true ∧ s.updIdle = false ∧ s.nv.upd.actTick = some t ∧ s.nv.upd.state = 5 ∧
      s.transmits = true ∧ t ≤ s.tick.num + s.ticksFor 60000 ∧ (s.nv.upd.targets.any (fun t => !t.armed) ||
      (s.updPaired && s.nv.upd.partner != 4)) = true) ∧
    (∃ (s : State), s.rtOn = true ∧ s.updIdle = false ∧ s.nv.upd.state = 6 ∧ s.role = 1 ∧ s.nv.upd.partner ≠ 5 ∧
      s.nv.upd.partner ≠ 6 ∧ s.nv.upd.actSec + 600 ≤ s.sec ∧ s.nv.upd.running = false) ∧
    (∃ (s : State), s.rtOn = true ∧ s.nv.upd.running = true ∧ s.nv.upd.done < s.nv.upd.total ∧ (s.pwr.state ≠ .holdup
      ∨ s.upd.lastUnit = false)) ∧
    (∃ (s : State), s.rtOn = true ∧ s.nv.upd.running = true ∧ s.nv.upd.done = s.nv.upd.total) ∧
    (∃ (s : State), s.rtOn = true ∧ s.updIdle = false ∧ s.nv.upd.state = 7 ∧ s.nv.upd.confirmed = false ∧ 600 ≤
      s.stable ∧ s.nv.upd.manual = false) ∧
    (∃ (s : State) (t : Nat), s.rtOn = true ∧ s.updIdle = false ∧ s.nv.upd.actTick = some t ∧ 6 ≤ s.nv.upd.state ∧
      s.nv.upd.state ≤ 7 ∧ t + 3000 ≤ s.tick.num) ∧
    (∃ (s : State) (t : Nat), s.rtOn = true ∧ s.updIdle = false ∧ s.nv.upd.keptAt = some t ∧ s.nv.upd.state = 0 ∧ t +
      86400 ≤ s.sec) :=
  ⟨⟨{ up with upd := {  }, nv := { upd := { state := 3 } }, tick := { booted := true, num := 3000 }, ns := 600000000000 },
     by decide⟩,
   ⟨{ up with upd := {  }, nv := { upd := { state := 4 } }, tick := { booted := true, num := 3000 }, ns := 600000000000 },
     by decide⟩,
   ⟨{ up with upd := { }, nv := { upd := { state := 5 } }, tick := { booted := true, num := 3000 }, ns := 600000000000 },
     1, by decide⟩,
   ⟨{ up with upd := { }, nv := { upd := { state := 5 } }, tick := { booted := true, num := 3000 }, ns := 600000000000 },
     1, by decide⟩,
   ⟨{ up with upd := { stableAt := some 0 }, nv := { upd := { state := 7, confirmed := false, manual := true } }, tick := { booted := true, num := 3000 }, ns := 600000000000 },
     1, by decide⟩,
   ⟨{ up with upd := { }, nv := { upd := { state := 7 } }, tick := { booted := true, num := 3000 }, ns := 600000000000 },
     1, by decide⟩,
   ⟨{ up with upd := {  }, nv := { upd := { state := 5, actTick := some 3000, targets := [{ index := 1, entry := 0 }] } }, tick := { booted := true, num := 3000 }, ns := 600000000000 },
     3000, by decide⟩,
   ⟨{ up with upd := {  }, nv := { upd := { state := 6 } }, tick := { booted := true, num := 3000 }, ns := 600000000000 },
     by decide⟩,
   ⟨{ up with upd := {  }, nv := { upd := { running := true, total := 1 } }, tick := { booted := true, num := 3000 }, ns := 600000000000 },
     by decide⟩,
   ⟨{ up with upd := { }, nv := { upd := { running := true } }, tick := { booted := true, num := 3000 }, ns := 600000000000 },
     by decide⟩,
   ⟨{ up with upd := { stableAt := some 0 }, nv := { upd := { state := 7, confirmed := false } }, tick := { booted := true, num := 3000 }, ns := 600000000000 },
     by decide⟩,
   ⟨{ up with upd := {  }, nv := { upd := { state := 7, actTick := some 0 } }, tick := { booted := true, num := 3000 }, ns := 600000000000 },
     0, by decide⟩,
   ⟨{ { up with upd := {  }, nv := { upd := { keptAt := some 0 } }, tick := { booted := true, num := 3000 }, ns := 600000000000 } with ns := 86400000000000 },
     0, by decide⟩⟩

/-- What `Recorder` assumes can hold, clause by clause. -/
theorem wit_Recorder :
    (∃ (s : State), s.rtOn = true) ∧
    (∃ (s : State), s.rtOn = true ∧ s.rcd.mounted = true ∧ s.flag Fd.logDegraded = false ∧ s.rcd.gasp = false) ∧
    (∃ (s : State), s.rtOn = true ∧ s.flag Fd.logDegraded = true ∧ s.rcd.copying = false ∧ s.rcd.gasp = false) ∧
    (∃ (s : State), s.rtOn = true ∧ s.rcd.copying = true) ∧
    (∃ (s : State) (ini : Nat) (v : Word), s.takes ini Rg.REC_RD_SEL = true ∧ noReserved Rg.REC_RD_SEL v = true) ∧
    (∃ (s : State) (ini : Nat), s.reaches ini (Rg.REC_RD_WIN 0) false = true) ∧
    (∃ (s : State) (ini : Nat), s.reaches ini (Rg.REC_RD_WIN 15) false = true) ∧
    (∃ (s : State) (ini : Nat) (v : Word), s.takes ini Rg.REC_QUOTA = true ∧ noReserved Rg.REC_QUOTA v = true) ∧
    (∃ (s : State) (ini : Nat) (v : Word), s.takes ini Rg.REC_APP_POST = true ∧ noReserved Rg.REC_APP_POST v = true ∧
      0x8000 ≤ getF v 0 16) :=
  ⟨⟨up, by decide⟩,
   ⟨{ up with rcd := { mounted := true } }, by decide⟩,
   ⟨up.put Fd.logDegraded 1, by decide⟩,
   ⟨{ up with rcd := { copying := true } }, by decide⟩,
   ⟨up, 1, 0, by decide⟩,
   ⟨up, 1, by decide⟩,
   ⟨up, 1, by decide⟩,
   ⟨up, 1, 0x00101010, by decide⟩,
   ⟨up, 1, 0xFFFF, by decide⟩⟩

/-- What `Burnish` assumes can hold, clause by clause. -/
theorem wit_Burnish :
    (∃ (s : State) (k : Nat), s.rtOn = true ∧ k ≤ 32 ∧ (k = 9 → s.get Fd.TIME_SRC_STAT_STATE = 3)) ∧
    (∃ (s : State), s.rtOn = true) ∧
    (∃ (s : State), s.rtOn = true ∧ s.age.scapRun = false ∧ s.age.scapAt ≠ some (s.utc / 3600) ∧ (s.age.scapDue = true
      ∨ (s.flag Fd.AGE_CFG_SCAP_EN = true ∧ s.get Fd.AGE_SCAP_CFG_HOUR = s.utc / 3600 % 24 ∧ (dateOfDay ((s.utc /
      86400 : Nat) - 10957)).2.2 = (s.get Fd.AGE_SCAP_CFG_DAY : Int)))) ∧
    (∃ (s : State), s.rtOn = true ∧ s.age.scapRun = true) ∧
    (∃ (s : State) (b : Nat), s.rtOn = true ∧ b < 16 ∧ s.transmits = true ∧ s.flag (Fd.FB_SAMPLE_PT_BURNISH_EN b) =
      true) ∧
    (∃ (s : State), s.rtOn = true ∧ s.utc / 3600 % 24 = 12 ∧ s.age.capDay ≠ some (s.utc / 86400)) ∧
    (∃ (s : State) (ini : Nat), s.takes ini Rg.AGE_CMD = true ∧ s.get ⟨Rg.AGE_ITEM_SEL, 0, 6⟩ ≤ 32 ∧ (s.get
      ⟨Rg.AGE_ITEM_SEL, 0, 6⟩ = 9 → s.get Fd.TIME_SRC_STAT_STATE = 3)) ∧
    (∃ (s : State) (ini : Nat), s.takes ini Rg.AGE_CMD = true) ∧
    (∃ (s : State) (ini : Nat), s.reaches ini Rg.AGE_MARGIN false = true) :=
  ⟨⟨up, 32, by decide⟩,
   ⟨up, by decide⟩,
   ⟨{ up.put Fd.AGE_CFG_SCAP_EN 0 with age := { scapDue := true } }, by decide⟩,
   ⟨{ up with age := { scapRun := true } }, by decide⟩,
   ⟨up.put (Fd.FB_SAMPLE_PT_BURNISH_EN 15) 1, 15, by decide⟩,
   ⟨{ up with tai := 43237000000000 }, by decide⟩,
   ⟨up.put ⟨Rg.AGE_ITEM_SEL, 0, 6⟩ 32, 1, by decide⟩,
   ⟨up, 1, by decide⟩,
   ⟨up, 1, by decide⟩⟩

/-- What `StepRunsFront` assumes can hold, clause by clause. -/
theorem wit_StepRunsFront :
    (∃ (s : State) (c : Instr) (rest : List Instr), s.pending = c :: rest) ∧
    (State.reset.pending = []) :=
  ⟨⟨{ State.reset with pending := [.tickEdge 20000000 0 [], .guardBand] }, _, _, rfl⟩,
   rfl⟩

/-- What `StepTakesOnlyTheFront` assumes can hold. -/
theorem wit_StepTakesOnlyTheFront :
    ∃ s t : State, s.pending ≠ [] ∧ step s = .next t :=
  ⟨{ State.reset with pending := [.guardBand] }, _, by decide, rfl⟩

/-- What `TimeGoesForward` assumes can hold. -/
theorem wit_TimeGoesForward :
    ∃ s t : State, s.pending ≠ [] ∧ step s = .next t :=
  ⟨{ State.reset with pending := [.guardBand] }, _, by decide, rfl⟩

/-- What `RegistersStayCanonical` assumes can hold. -/
theorem wit_RegistersStayCanonical :
    ∃ s t : State, s.pending ≠ [] ∧ s.regs ≠ [] ∧ s.regsOk = true ∧ step s = .next t :=
  ⟨{ State.reset.put Fd.PAIR_ROLE_ROLE 1 with pending := [.guardBand] }, _, by decide, by decide, by decide, rfl⟩

/-- What `ScrappedForever` assumes can hold. -/
theorem wit_ScrappedForever :
    ∃ s t : State, s.pending ≠ [] ∧ s.scrapped = true ∧ step s = .next t :=
  ⟨{ State.reset with pending := [.guardBand], nv := { keys := { lc := 4 } } }, _, by decide, by decide, rfl⟩

/-- What `AccessErrors` assumes can hold, clause by clause. -/
theorem wit_AccessErrors :
    (∃ (s : State) (ini a : Nat) (w : Bool), a < 0x80000 ∧ s.reaches ini a w = true) ∧
    (∃ (s : State) (ini a size : Nat) (e : Nat × Bool), a < 0x80000 ∧ s.mayAccess ini = true ∧ s.accessError ini a
      size true false = some e) ∧
    (∃ (s : State) (a size : Nat) (e : Nat × Bool), a < 0x80000 ∧ s.mayAccess 5 = true ∧ s.flag Fd.PCIE_LINK_L1 =
      false ∧ s.accessError 5 a size false false = some e) ∧
    (∃ (a : Nat), pageExists (a / 0x1000) = false) ∧
    (∃ (a : Nat) (w : Bool), pageExists (a / 0x1000) = true ∧ quietRead (a / 0x1000) (a % 0x1000) w = true) ∧
    (∃ (s : State) (a : Nat) (w : Bool), pageExists (a / 0x1000) = true ∧ quietRead (a / 0x1000) (a % 0x1000) w =
      false ∧ s.pageOn (a / 0x1000) = false) ∧
    (∃ (s : State) (ini a : Nat) (w : Bool), pageExists (a / 0x1000) = true ∧ quietRead (a / 0x1000) (a % 0x1000) w =
      false ∧ s.pageOn (a / 0x1000) = true ∧ s.denied ini (a / 0x1000) (a % 0x1000) w false = true) ∧
    (∃ (s : State) (ini a size : Nat) (w : Bool), pageExists (a / 0x1000) = true ∧ quietRead (a / 0x1000) (a % 0x1000)
      w = false ∧ s.pageOn (a / 0x1000) = true ∧ s.denied ini (a / 0x1000) (a % 0x1000) w false = false ∧ (size ≠ 4 ∨
      a % 4 ≠ 0)) ∧
    (∃ (s : State) (ini a size : Nat) (w : Bool), pageExists (a / 0x1000) = true ∧ quietRead (a / 0x1000) (a % 0x1000)
      w = false ∧ s.pageOn (a / 0x1000) = true ∧ s.denied ini (a / 0x1000) (a % 0x1000) w false = false ∧ size = 4 ∧ a
      % 4 = 0) :=
  ⟨⟨up, 1, (Rg.SYS_SCRATCH 3), true, by decide⟩,
   ⟨up, 1, Rg.HATCH_HORIZON, 2, (2, false), by decide⟩,
   ⟨up, Rg.HATCH_HORIZON, 4, (6, false), by decide⟩,
   ⟨0x7F000, by decide⟩,
   ⟨Rg.errCap Pg.sys, false, by decide⟩,
   ⟨{ up with pwr := { netOn := false } }, Pg.sw * 0x1000, true, by decide⟩,
   ⟨up, 5, Rg.HATCH_HORIZON, true, by decide⟩,
   ⟨up, 1, Rg.HATCH_HORIZON, 2, true, by decide⟩,
   ⟨up, 1, Rg.HATCH_HORIZON, 4, true, by decide⟩⟩

/-- What `ErrorCapture` assumes can hold, clause by clause. -/
theorem wit_ErrorCapture :
    (∃ (s : State) (ini p o code : Nat), ini < 16 ∧ o < 0x1000 ∧ code < 256 ∧ capPage p < 0x80 ∧ s.flag ⟨Rg.errCap
      (capPage p), 31, 1⟩ = false) ∧
    (∃ (s : State) (p : Nat), s.flag ⟨Rg.errCap (capPage p), 31, 1⟩ = true) :=
  ⟨⟨up, 15, 0x7F, 4095, 255, by decide⟩,
   ⟨up.put ⟨Rg.errCap Pg.sys, 31, 1⟩ 1, Pg.sys, by decide⟩⟩

/-- What `ReservedBits` assumes can hold. -/
theorem wit_ReservedBits :
    ∃ (s : State) (ini a : Nat) (v : Word) (r : RegRow), plainReg a = true ∧ rowAt a = some r ∧ s.takes ini a = true ∧
      noReserved a v = false :=
  ⟨up, 1, Rg.HATCH_HORIZON, 0xFFFFFFFF, (rowAt Rg.HATCH_HORIZON).get (by decide), by decide, (Option.some_get _).symm,
    by decide, by decide⟩

/-- What `RegisterWords` assumes can hold. -/
theorem wit_RegisterWords :
    (1 : Nat) ≠ 0 ∧ 0 + 8 ≤ 32 ∧ 24 + 8 ≤ 32 ∧ (0 + 8 ≤ 24 ∨ 24 + 8 ≤ 0) :=
  by decide

/-- What `InterruptRequests` assumes can hold. -/
theorem wit_InterruptRequests :
    127 < 128 ∧ 63 < 64 ∧ 7 < 8 ∧ 200 ≤ 223 ∧ 223 < 224 ∧ 31 < 32 :=
  by decide

/-- What `InterruptSelection` assumes can hold, clause by clause. -/
theorem wit_InterruptSelection :
    (selecting.iuBest 3 = some 255) ∧
    (State.reset.iuBest 3 = none) :=
  ⟨by decide +kernel,
   by decide⟩

/-- What `HostDoorbells` assumes can hold, clause by clause. -/
theorem wit_HostDoorbells :
    (∃ (s : State) (v : Word), s.takes 5 Rg.PCIE_HDB_SET = true ∧ noReserved Rg.PCIE_HDB_SET v = true) ∧
    (∃ (s : State) (ini : Nat) (v : Word), s.takes ini Rg.PCIE_HDB = true ∧ noReserved Rg.PCIE_HDB v = true) :=
  ⟨⟨up, 255, by decide⟩,
   ⟨up, 1, 255, by decide⟩⟩

/-- What `BatchReplay` assumes can hold, clause by clause. -/
theorem wit_BatchReplay :
    (∃ (s : State) (k : Nat) (x : Session) (m : List Nat) (p : LspMsg) (e : Nat × List BatchOp), s.appUp = true ∧ k <
      4 ∧ s.sess k = some x ∧ lspParse m = some p ∧ p.ver = 1 ∧ p.typ = 1 ∧ p.len = p.body.length ∧ p.len % 12 = 0 ∧
      12 ≤ p.len ∧ p.len ≤ 1176 ∧ ((Tab.get (fun _ => []) s.net.store k).find? fun e => e.1 == p.reqId) = some e) ∧
    (∃ (s : State) (k : Nat) (x : Session) (m : List Nat) (p : LspMsg), s.appUp = true ∧ k < 4 ∧ s.sess k = some x ∧
      lspParse m = some p ∧ p.ver = 1 ∧ p.typ = 1 ∧ p.len = p.body.length ∧ p.len % 12 = 0 ∧ 12 ≤ p.len ∧ p.len ≤ 1176
      ∧ ((Tab.get (fun _ => []) s.net.store k).find? fun e => e.1 == p.reqId) = none ∧ (Tab.get (fun _ => [])
      s.net.store k).length ≤ 16) :=
  ⟨⟨{ linked with net := { linked.net with store := [(3, [(0, [])])] } }, 3, aSession,
     (lspBytes 1 0 1 (List.replicate 12 0)), ⟨1, 1, 0, 0, 1, 12, (List.replicate 12 0)⟩, (0, []), by decide⟩,
   ⟨linked, 3, aSession, (lspBytes 1 0 1 (List.replicate 1176 0)), ⟨1, 1, 0, 0, 1, 1176, (List.replicate 1176 0)⟩,
     by decide +kernel⟩⟩

/-- What `HostMask` assumes can hold, clause by clause. -/
theorem wit_HostMask :
    (∃ (s : State), s.flag Fd.PCIE_LINK_L1 = false) ∧
    (∃ (s : State) (a : Nat) (w : Bool), a < 0x80000 ∧ s.mayAccess 5 = true ∧ pageExists (a / 0x1000) = true ∧
      s.pageOn (a / 0x1000) = true ∧ bitW (s.rd (Rg.PCIE_HOST_MASK (a / 0x1000 / 32))) (a / 0x1000 % 32) = false ∧
      quietRead (a / 0x1000) (a % 0x1000) w = false ∧ s.flag Fd.PCIE_LINK_L1 = false) ∧
    (∃ (p : Nat), p < 128) ∧
    (∃ (o : Nat), o ≠ 0x54 ∧ o ≠ 0x6C) ∧
    (∃ (o ini : Nat), 0x44 ≤ o ∧ o ≤ 0x50 ∧ (ini < 1 ∨ 4 < ini)) :=
  ⟨⟨up, by decide⟩,
   ⟨up, Rg.HATCH_HORIZON, true, by decide⟩,
   ⟨127, by decide⟩,
   ⟨0x44, by decide⟩,
   ⟨0x50, 5, by decide⟩⟩

/-- What `QueueStalls` assumes can hold, clause by clause. -/
theorem wit_QueueStalls :
    (∃ (q : Nat), q < 64) ∧
    (∃ (s : State) (q : Nat), s.appUp = true ∧ q < 64 ∧ s.get (inBank Fd.QM_Q_CFG2_STALL q) ≠ 0 ∧ (s.qItems q).length
      ≠ 0 ∧ s.qOn q = true ∧ Tab.get (fun _ => false) s.qm.stalled q = false) ∧
    (∃ (s : State) (ini q : Nat), q < 64 ∧ s.reaches ini (itemReg q 0) false = true) :=
  ⟨⟨63, by decide⟩,
   ⟨{ ((up.put (inBank Fd.QM_Q_CFG2_STALL 63) 1).put (inBank Fd.QM_Q_CFG_EN 63) 1) with qm := { items := [(63, [[1]])] } },
     63, by decide⟩,
   ⟨up, 1, 63, by decide⟩⟩

/-- What `RaisingFrames` assumes can hold, clause by clause. -/
theorem wit_RaisingFrames :
    (∃ (b : Nat), b < 32) ∧
    (∃ (s : State), s.rcd.used < 255) :=
  ⟨⟨31, by decide⟩,
   ⟨up, by decide⟩⟩

/-- What `HostMemory` assumes can hold. -/
theorem wit_HostMemory :
    ∃ (s : State) (k : Nat), k < 8 ∧ s.get (inBank Fd.PCIE_CQ_CFG_SIZE k) ≤ 4096 :=
  ⟨up, 7, by decide⟩

/-- What `RecordPlacement` assumes can hold, clause by clause. -/
theorem wit_RecordPlacement :
    (([] : List Rec).length < 1) ∧
    (1 ≤ [aRec 0].length ∧ (aRec 3).sev ≤ 3 ∧ (∀ x ∈ [aRec 0], x.sev ≤ 3) ∧ (∃ v, v ≤ 3 ∧ (decide (v ≤ (aRec 3).sev)
      && decide (0 < sevCount [aRec 0] v)) = true)) ∧
    ((∀ v, v ≤ 3 → (decide (v ≤ (aRec 0).sev) && decide (0 < sevCount [aRec 3] v)) = false) ∧ (∀ x ∈ [aRec 3], x.sev ≠
      (aRec 0).sev)) :=
  ⟨by decide,
   ⟨by decide, by decide, by decide, 0, by decide⟩,
   by decide⟩

end Sys2Proof.Tests
end

section
/-! The statements of the scope chapter: what a step does with the queue (R2), and what a register write stores and a
register read latches and clears (R12, R39, R41, R48). -/

namespace Sys2Proof.Machine

/-! ### Which registers a read does more to than answer them -/

/-- The LO registers: a read of one latches the other registers of its page's snapshot (R39). -/
def latchRegs : List (Nat × Nat) :=
  [(Pg.sys, 0x50), (Pg.tick, 0x44), (Pg.node, 0x80), (Pg.met 0, 0x54), (Pg.met 1, 0x54), (Pg.met 2, 0x54),
   (Pg.met 3, 0x54), (Pg.met 0, 0xB4), (Pg.met 1, 0xB4), (Pg.met 2, 0xB4), (Pg.met 3, 0xB4), (Pg.trace, 0x50),
   (Pg.rtc, 0x40), (Pg.time, 0x80), (Pg.sched, 0x44), (Pg.sw, 0x60), (Pg.pcie, 0x60), (Pg.wit, 0x50),
   (Pg.ground, 0x54), (Pg.upd, 0x48), (Pg.upd, 0x50), (Pg.upd, 0x68), (Pg.age, 0x48)]

/-- The registers outside page QMQ whose read pops or advances something, and TICK.OFFSET, whose read draws its instant. -/
def popRegs : List (Nat × Nat) :=
  [(Pg.tick, 0x4C), (Pg.plate, 0x4C), (Pg.node, 0xFC), (Pg.met 0, 0xC0), (Pg.met 1, 0xC0), (Pg.met 2, 0xC0),
   (Pg.met 3, 0xC0), (Pg.ground, 0x48), (Pg.rec, 0xC0), (Pg.rec, 0xFC)]

/-- The registers whose read may draw the instant within the RTC's second (log entry 26). -/
def drawRegs : List (Nat × Nat) := [(Pg.rtc, 0x40), (Pg.rtc, 0x48), (Pg.rtc, 0x68)]

theorem isMet_cases {p : Nat} (h : isMet p = true) : p = Pg.met 0 ∨ p = Pg.met 1 ∨ p = Pg.met 2 ∨ p = Pg.met 3 := by
  have h' : 0x30 ≤ p ∧ p ≤ 0x33 := by simpa only [isMet, decide_eq_true_eq] using h
  show p = 0x30 ∨ p = 0x31 ∨ p = 0x32 ∨ p = 0x33
  omega

section
variable {l : List (Nat × Nat)} {p o : Nat} (h : (p, o) ∉ l)
include h

/-- A register outside a list is none of the list's. -/
theorem not_at_of_not_mem (q k : Nat) (hm : (q, k) ∈ l) : ¬(p = q ∧ o = k) := by
  rintro ⟨rfl, rfl⟩
  exact h hm

/-- A register outside a list that holds offset `k` of every MET page is none of these. -/
theorem not_met_at_of_not_mem (k : Nat) (hm : ∀ n < 4, (Pg.met n, k) ∈ l) : ¬(isMet p = true ∧ o = k) := by
  rintro ⟨hp, rfl⟩
  rcases isMet_cases hp with rfl | rfl | rfl | rfl
  · exact h (hm 0 (by decide))
  · exact h (hm 1 (by decide))
  · exact h (hm 2 (by decide))
  · exact h (hm 3 (by decide))

end

theorem latchSet_eq_nil {p o : Nat} (h : (p, o) ∉ latchRegs) : latchSet p o = [] := by
  unfold latchSet
  simp (disch := decide) only [and_or_left, not_at_of_not_mem h, not_met_at_of_not_mem h, or_self, if_false]

theorem mem_latchRegs_of_splitLo {p o : Nat} (h : splitLo p o = true) : (p, o) ∈ latchRegs := by
  refine Decidable.byContradiction fun hn => ?_
  have ht : ¬(p = Pg.time ∧ o = 0x80) := not_at_of_not_mem hn _ _ (by decide)
  simp [splitLo, latchSet_eq_nil hn, ht] at h

theorem popRead_eq_none (s : State) (ini : Nat) {p o : Nat} (hq : p = Pg.qmq → o < 0x100) (h : (p, o) ∉ popRegs) :
    s.popRead ini p o = none := by
  have hq1 : ¬(p = Pg.qmq ∧ 0x800 ≤ o ∧ o / 4 % 8 = 0) := fun ⟨e, k, _⟩ => by have := hq e; omega
  have hq2 : ¬(p = Pg.qmq ∧ 0x100 ≤ o ∧ o < 0x200) := fun ⟨e, k, _⟩ => by have := hq e; omega
  have ht : ¬(p = Pg.tick ∧ o = 0x4C ∧ (s.latched ini p o).isNone = true) := fun ⟨e, k, _⟩ =>
    not_at_of_not_mem h Pg.tick 0x4C (by decide) ⟨e, k⟩
  unfold State.popRead
  simp (disch := decide) only [hq1, hq2, ht, not_at_of_not_mem h, not_met_at_of_not_mem h, if_false]

theorem entNext_eq_self (s : State) {p o : Nat} (h : (p, o) ∉ popRegs) : s.entNext p o = s :=
  if_neg fun ⟨e, k, _⟩ => not_at_of_not_mem h Pg.node 0xFC (by decide) ⟨e, k⟩

theorem takeSnapshot_eq_self (s : State) (ini : Nat) {p o : Nat} (hl : (p, o) ∉ latchRegs) (hd : (p, o) ∉ drawRegs) :
    s.takeSnapshot ini p o = s := by
  have hr : ¬(p = Pg.rtc ∧ (o = 0x40 ∨ (o = 0x48 ∧ (s.latched ini p o).isNone = true) ∨ o = 0x68) ∧
      s.rtc.stopped = none) := by
    rintro ⟨e, k | ⟨k, -⟩ | k, -⟩ <;> exact not_at_of_not_mem hd _ _ (by decide) ⟨e, k⟩
  unfold State.takeSnapshot
  simp (disch := decide) only [hr, not_at_of_not_mem hl, latchSet_eq_nil hl, if_false, List.foldl_nil]

/-! ### Reads -/

/-- A read that pops nothing answers the latched word, or the live one after the snapshot. -/
theorem readReg_of_not_mem_popRegs (s : State) (ini a : Nat) (hq : a / 0x1000 = Pg.qmq → a % 0x1000 < 0x100)
    (h : (a / 0x1000, a % 0x1000) ∉ popRegs) :
    s.readReg ini a =
      (let t := s.takeSnapshot ini (a / 0x1000) (a % 0x1000)
       ((t.latched ini (a / 0x1000) (a % 0x1000)).getD (t.live ini (a / 0x1000) (a % 0x1000)),
         if clearedByRead (a / 0x1000) (a % 0x1000) then t.wr (s.regKey (a / 0x1000) (a % 0x1000)) 0 else t)) := by
  unfold State.readReg
  simp only [popRead_eq_none s ini hq h, entNext_eq_self _ h]

theorem readReg_splitLo (s : State) (ini a : Nat) (h : splitLo (a / 0x1000) (a % 0x1000) = true) :
    s.readReg ini a =
      (let t := s.takeSnapshot ini (a / 0x1000) (a % 0x1000)
       ((t.latched ini (a / 0x1000) (a % 0x1000)).getD (t.live ini (a / 0x1000) (a % 0x1000)), t)) := by
  have hm := mem_latchRegs_of_splitLo h
  have hfacts : ∀ x ∈ latchRegs, x.1 ≠ Pg.qmq ∧ x ∉ popRegs ∧ clearedByRead x.1 x.2 = false := by decide
  obtain ⟨hq, hp, hc⟩ := hfacts _ hm
  rw [readReg_of_not_mem_popRegs s ini a (fun e => absurd e hq) hp]
  simp only [hc, Bool.false_eq_true, if_false]

/-- No row of page QMQ is RC: a read there clears at most ERR_CAP. -/
theorem clearedByRead_qmq {o : Nat} (h : clearedByRead Pg.qmq o = true) : o < 0x100 := by
  refine Nat.lt_of_not_le fun ho => ?_
  have hrows : ∀ r ∈ rowsQMQ, r.rc = false := by decide
  have hp : pageInfo Pg.qmq = some ⟨rowsQMQ, Pg.qmq, true, 0, 0, .application, false⟩ := rfl
  have hf : isFbmo Pg.qmq = false := rfl
  simp only [clearedByRead, hf, Bool.false_eq_true, if_false, show ¬o < 0x40 by omega, hp] at h
  split at h
  · rename_i r hr
    rw [hrows r (findRow_mem hr)] at h
    exact Bool.false_ne_true h
  · exact Bool.false_ne_true h

/-- A read of an RC register answers it and leaves it zero; no RC register latches, pops or draws anything. -/
theorem readReg_clearedByRead (s : State) (ini a : Nat) (h : clearedByRead (a / 0x1000) (a % 0x1000) = true) :
    s.readReg ini a =
      ((s.latched ini (a / 0x1000) (a % 0x1000)).getD (s.live ini (a / 0x1000) (a % 0x1000)),
        s.wr (s.regKey (a / 0x1000) (a % 0x1000)) 0) := by
  have hfacts : ∀ x ∈ latchRegs ++ popRegs ++ drawRegs, clearedByRead x.1 x.2 = false := by decide
  have hn : (a / 0x1000, a % 0x1000) ∉ latchRegs ++ popRegs ++ drawRegs := fun hm => by
    rw [hfacts _ hm] at h
    exact Bool.false_ne_true h
  simp only [List.mem_append, not_or] at hn
  obtain ⟨⟨hl, hp⟩, hd⟩ := hn
  have hq : a / 0x1000 = Pg.qmq → a % 0x1000 < 0x100 := fun e => clearedByRead_qmq (e ▸ h)
  rw [readReg_of_not_mem_popRegs s ini a hq hp, takeSnapshot_eq_self s ini hl hd]
  simp only [h, if_true]

/-- A read of an RC register that meets no error, over the bus. -/
theorem busRead_clearedByRead (s : State) (ini a : Nat) (ha : a < 0x80000)
    (hc : clearedByRead (a / 0x1000) (a % 0x1000) = true) (h : s.reaches ini a false = true) :
    s.busRead ini a 4 =
      (s.wr (s.regKey (a / 0x1000) (a % 0x1000)) 0).respond
        ((s.latched ini (a / 0x1000) (a % 0x1000)).getD (s.live ini (a / 0x1000) (a % 0x1000))) false := by
  rw [busRead_reaches s ini a ha h, readReg_clearedByRead s ini a hc]

/-- Below 0x40 no register stands in a bank. -/
theorem regKey_header (s : State) {p o : Nat} (ho : o < 0x40) : s.regKey p o = Rg.reg p o := by
  unfold State.regKey
  rw [if_neg (by omega), if_neg (by omega), if_neg (by omega), if_neg (by omega)]

/-- ERR_CAP of a page with the common header. -/
theorem busRead_errCap (s : State) (ini p : Nat) (hp : hasHeader p = true)
    (h : s.reaches ini (Rg.errCap p) false = true) :
    s.busRead ini (Rg.errCap p) 4 =
      (s.wr (Rg.errCap p) 0).respond ((s.latched ini p 0x20).getD (s.live ini p 0x20)) false := by
  simp only [hasHeader, Bool.and_eq_true, decide_eq_true_eq, Bool.not_eq_true'] at hp
  obtain ⟨⟨hlt, hf⟩, -⟩ := hp
  have h1 : Rg.errCap p / 0x1000 = p := by unfold Rg.errCap key; omega
  have h2 : Rg.errCap p % 0x1000 = 0x20 := by unfold Rg.errCap key; omega
  have ha : Rg.errCap p < 0x80000 := by unfold Rg.errCap key; omega
  have hc : clearedByRead (Rg.errCap p / 0x1000) (Rg.errCap p % 0x1000) = true := by simp [h1, h2, clearedByRead, hf]
  rw [busRead_clearedByRead s ini _ ha hc h, h1, h2, regKey_header s (by decide)]

/-! ### Writes -/

theorem blockReg_of_plainReg {a : Nat} (h : plainReg a = true) : blockReg a = true := by
  simp only [plainReg, Bool.and_eq_true] at h
  obtain ⟨⟨⟨⟨⟨hb, -⟩, -⟩, -⟩, -⟩, -⟩ := h
  exact hb

/-- A register of a page whose block only stores: the write stores. -/
theorem blockWrite_plain (s : State) (ini a : Nat) (v : Word) (h : plainReg a = true) :
    s.blockWrite ini (a / 0x1000) (a % 0x1000) v = s.store (a / 0x1000) (a % 0x1000) v := by
  simp only [plainReg, Bool.and_eq_true, Bool.not_eq_true', ← Bool.not_eq_true] at h
  obtain ⟨⟨⟨⟨⟨-, hfb⟩, hport⟩, hiuc⟩, hpage⟩, hcmd⟩ := h
  have hother : ∀ q, List.contains _ q = true → a / 0x1000 ≠ q := fun q hq e => hpage (e ▸ hq)
  have hstore : ∀ q k, List.contains _ (key q k) = true → a / 0x1000 = q → a % 0x1000 ≠ k := fun q k hq e e' =>
    hcmd (by rwa [show a = key q k by unfold key; omega])
  unfold State.blockWrite
  simp (disch := decide) only [if_neg hfb, if_neg hport, if_neg hiuc, if_neg (hother _ _)]
  split
  next hsys => rw [if_neg (hstore _ _ (by decide) hsys)]
  split
  next hpwr => rw [if_neg (hstore _ _ (by decide) hpwr)]
  split
  next hboot => rw [if_neg (hstore _ _ (by decide) hboot)]
  split
  next hwdog => rw [if_neg (hstore _ _ (by decide) hwdog)]
  rfl

/-- The word that a stored write leaves, by the register's row (R12). -/
theorem store_of_rowAt (s : State) {a : Nat} {r : RegRow} (v : Word) (h : rowAt a = some r) :
    s.store (a / 0x1000) (a % 0x1000) v =
      (let old := s.word (a / 0x1000) (a % 0x1000)
       let rw := BitVec.ofNat 32 r.rw
       s.wr (s.regKey (a / 0x1000) (a % 0x1000))
         (((old &&& ~~~rw) ||| (clampReg (a / 0x1000) (a % 0x1000) old v &&& rw)) &&&
           ~~~(v &&& BitVec.ofNat 32 r.w1c))) := by
  obtain ⟨pi, hp, hr⟩ := Option.bind_eq_some_iff.mp h
  unfold State.store
  simp only [hp, hr]

theorem persist_eq_self (s : State) {p o : Nat} (h : persists p o = false) : s.persist p o = s := by
  simp [State.persist, h]

/-- A write that takes effect, to a register of a block outside the light path that the pair does not mirror. -/
theorem busWrite_block_local (s : State) (ini a : Nat) (v : Word) (hb : blockReg a = true) (h : s.takes ini a = true)
    (hv : noReserved a v = true) (hl : lightPage (a / 0x1000) = false)
    (hm : mirrored (a / 0x1000) (a % 0x1000) = false) :
    s.busWrite ini a 4 v = (s.begun ini a).blockWrite ini (a / 0x1000) (a % 0x1000) v := by
  rw [busWrite_block s ini a v hb h hv, toPartner_none _ a v hl hm]

/-- The HI registers of the writable pairs hold the word (R39). -/
theorem blockWrite_splitHi (s : State) (ini : Nat) {a : Nat} (v : Word) (h : splitHi.contains a = true) :
    s.blockWrite ini (a / 0x1000) (a % 0x1000) v = s.hold ini (a / 0x1000) (a % 0x1000) v := by
  simp only [splitHi, List.contains_iff_mem, List.mem_cons, List.not_mem_nil, or_false] at h
  rcases h with rfl | rfl | rfl <;> rfl

/-- The writable pairs lie outside the light path, and the pair does not mirror them. -/
theorem splitHi_local : ∀ a ∈ splitHi, ∀ x ∈ [a, a - 4], blockReg x = true ∧ lightPage (x / 0x1000) = false ∧
    mirrored (x / 0x1000) (x % 0x1000) = false := by decide

/-- A write that takes effect, to a LO or HI register of a writable pair. -/
theorem busWrite_split (s : State) (ini : Nat) {a x : Nat} (v : Word) (ha : splitHi.contains a = true)
    (hx : x ∈ [a, a - 4]) (h : s.takes ini x = true) (hv : noReserved x v = true) :
    s.busWrite ini x 4 v = (s.begun ini x).blockWrite ini (x / 0x1000) (x % 0x1000) v := by
  obtain ⟨hb, hl, hm⟩ := splitHi_local a (List.contains_iff_mem.mp ha) x hx
  exact busWrite_block_local s ini x v hb h hv hl hm

/-- The store of CQ_BASE: page PCIE keeps nothing in the configuration region (R33). -/
theorem storeWide_pcie (s : State) (ini : Nat) (v : Word) :
    s.storeWide ini Pg.pcie 0x60 0x64 v =
      (let u := match s.heldHi ini Pg.pcie 0x64 with
         | some h => s.store Pg.pcie 0x64 h
         | none => s
       (u.store Pg.pcie 0x60 v).unhold ini Pg.pcie 0x64) := by
  unfold State.storeWide
  cases s.heldHi ini Pg.pcie 0x64 <;>
    simp only [persist_eq_self _ (show persists Pg.pcie 0x60 = false from rfl),
      persist_eq_self _ (show persists Pg.pcie 0x64 = false from rfl)]

/-! ### The queue -/

/-- With nothing queued the module idles (log entry 1). -/
theorem step_of_pending_nil {s : State} (h : s.pending = []) : step s = .next s := by
  unfold step; rw [h]

theorem step_of_pending_cons {s : State} {c : Instr} {rest : List Instr} (h : s.pending = c :: rest) :
    step s = exec c { s with pending := rest } := by
  unfold step; rw [h]

/-! ### The obligations -/

/-- Settles O41: whatever the front command does is an update, which keeps the queue it is given, the queue's rest. -/
theorem stepTakesOnlyTheFront : Obligations.StepTakesOnlyTheFront := by
  unfold Obligations.StepTakesOnlyTheFront
  intro s t h
  cases hp : s.pending with
  | nil =>
    rw [step_of_pending_nil hp] at h
    cases h
    exact hp
  | cons c rest =>
    rw [step_of_pending_cons hp] at h
    exact (upd_exec c h).pending

/-- Settles O39, by the two cases of the queue. -/
theorem stepRunsFront : Obligations.StepRunsFront := by
  unfold Obligations.StepRunsFront
  exact ⟨fun _ _ => step_of_pending_cons rfl, fun _ _ _ => step_of_pending_cons, fun _ => step_of_pending_nil⟩

/-- Settles O1: a write that takes effect reaches its block, which stores the word by the register's row, holds it as a
HI word, or joins it with the HI word held. -/
theorem writesStore : Obligations.WritesStore := by
  unfold Obligations.WritesStore
  refine ⟨fun s ini a v r hp hr h hv => ?plain, fun s ini a v ha h hv => ?hi, fun s ini v =>
    ⟨fun h hv => ?rtc, fun h hv => ?pcie, fun h hv => ?wit⟩⟩
  case plain =>
    show Host.Outcome.next (s.busWrite ini a 4 v) = _
    rw [busWrite_block s ini a v (blockReg_of_plainReg hp) h hv, blockWrite_plain _ ini a v hp, store_of_rowAt _ v hr]
  case hi =>
    show Host.Outcome.next (s.ifOk (splitHi.contains a) (s.busWrite ini a 4 v)) = _
    rw [ifOk_true ha, busWrite_split s ini v ha (by simp) h hv, blockWrite_splitHi _ ini v ha]
  case rtc =>
    show Host.Outcome.next (s.busWrite ini Rg.RTC_SEC_LO 4 v) = _
    rw [busWrite_split s ini (a := Rg.RTC_SEC_HI) v (by decide) (by decide) h hv]
    rfl
  case pcie =>
    show Host.Outcome.next (s.busWrite ini Rg.PCIE_CQ_BASE_LO 4 v) = _
    rw [busWrite_split s ini (a := Rg.PCIE_CQ_BASE_HI) v (by decide) (by decide) h hv]
    exact congrArg Host.Outcome.next (storeWide_pcie _ ini v)
  case wit =>
    show Host.Outcome.next (s.busWrite ini Rg.WIT_HE_MAC_LO 4 v) = _
    rw [busWrite_split s ini (a := Rg.WIT_HE_MAC_HI) v (by decide) (by decide) h hv]
    rfl

/-- Settles O2: no LO register pops or is cleared, and no RC register pops, latches or draws, so that a read of either does
only its one thing. -/
theorem readsLatchAndClear : Obligations.ReadsLatchAndClear := by
  unfold Obligations.ReadsLatchAndClear
  refine ⟨fun s ini a ha hs h => ?lo, fun s ini p hp h => ?errCap, fun s ini => ⟨fun h => ?addr, fun h => ?info⟩,
    fun s ini h => ?cause, fun s ini a hr h => ?rc⟩
  case lo =>
    show Host.Outcome.next (s.ifOk (splitLo (a / 0x1000) (a % 0x1000)) (s.busRead ini a 4)) = _
    rw [ifOk_true hs, busRead_reaches s ini a ha h, readReg_splitLo s ini a hs]
  case errCap =>
    show Host.Outcome.next (s.ifOk (hasHeader p) (s.busRead ini (Rg.errCap p) 4)) = _
    rw [ifOk_true hp, busRead_errCap s ini p hp h]
  case addr =>
    exact congrArg Host.Outcome.next (busRead_clearedByRead s ini Rg.SYS_BUSERR_ADDR (by decide) (by decide) h)
  case info =>
    exact congrArg Host.Outcome.next (busRead_clearedByRead s ini Rg.SYS_BUSERR_INFO (by decide) (by decide) h)
  case cause =>
    exact congrArg Host.Outcome.next (busRead_clearedByRead s ini Rg.SYS_RST_CAUSE (by decide) (by decide) h)
  case rc =>
    show Host.Outcome.next (s.ifOk (otherRc a) (s.busRead ini a 4)) = _
    rw [ifOk_true hr]
    simp only [otherRc, Bool.and_eq_true, decide_eq_true_eq] at hr
    obtain ⟨⟨⟨ha, hc⟩, -⟩, -⟩ := hr
    rw [busRead_clearedByRead s ini a ha hc h]

end Sys2Proof.Machine
end

section
/-! The statements of the register pages chapter: the form of the register table (R39), the unlock (R46), the errors of an
access and their capture (R41, R45), what raising a bit or an event changes (R42, R379, R382), block control (R44, R415)
and the resets (R47, R48, R414). -/

namespace Sys2Proof.Machine

/-! ### The register table -/

theorem regsOk_iff (s : State) :
    s.regsOk = true ↔ Tab.wf regReset s.regs = true ∧ Tab.wf regReset s.snap = true := by
  unfold State.regsOk
  exact Bool.and_eq_true_iff

/-- An update keeps the canonical form of the register words and of the snapshot. -/
theorem Upd.regsOk {s t : State} (h : Upd s t) (hs : s.regsOk = true) : t.regsOk = true :=
  (regsOk_iff t).mpr (h.regs ((regsOk_iff s).mp hs))

/-- Settles O44: whatever the front command does is an update, which keeps the model's own form of the register table
(State.regsOk), and taking the command off the queue leaves the register words. -/
theorem registersStayCanonical : Obligations.RegistersStayCanonical := by
  unfold Obligations.RegistersStayCanonical
  intro s t hs h
  cases hp : s.pending with
  | nil =>
    rw [step_of_pending_nil hp] at h
    cases h
    exact hs
  | cons c rest =>
    rw [step_of_pending_cons hp] at h
    exact (upd_exec c h).regsOk hs

/-- Settles O43: at reset no word is listed. -/
theorem registersCanonicalAtReset : Obligations.RegistersCanonicalAtReset := by
  unfold Obligations.RegistersCanonicalAtReset
  exact (regsOk_iff _).mpr ⟨rfl, rfl⟩

/-- Settles O60: with no word listed every register reads its reset value, and the other fields hold their defaults. -/
theorem resetValues : Obligations.ResetValues := by
  unfold Obligations.ResetValues
  exact ⟨fun _ => rfl, rfl, rfl, fun _ _ => rfl, by decide, rfl, rfl, rfl⟩

/-- Settles O49, by the laws of register words and of their fields. -/
theorem registerWords : Obligations.RegisterWords := by
  unfold Obligations.RegisterWords
  exact fun s a b lo len v lo' len' w => ⟨rd_wr_same s a w, rd_wr_ne s w, get_put_same s ⟨a, lo, len⟩ v,
    rd_put_ne s ⟨a, lo, len⟩ v,
    fun h32 h => get_put_beside s ⟨a, lo, len⟩ ⟨a, lo', len'⟩ v rfl h h32, rfl⟩

/-! ### Commands -/

/-- Settles O40: each arm of exec calls one meaning, and each meaning answers a next state without a condition. -/
theorem everyCommandCompletes : Obligations.EveryCommandCompletes := by
  unfold Obligations.EveryCommandCompletes
  intro c s
  cases c <;> exact ⟨_, rfl⟩

/-! ### Addresses, and what a write that takes effect presupposes -/

section
variable {p o : Nat}

theorem reg_div (ho : o < 0x1000) : Rg.reg p o / 0x1000 = p := by unfold Rg.reg key; omega

theorem reg_mod (ho : o < 0x1000) : Rg.reg p o % 0x1000 = o := by unfold Rg.reg key; omega

theorem reg_lt_window (hp : p < 0x80) (ho : o < 0x1000) : Rg.reg p o < 0x80000 := by unfold Rg.reg key; omega

end

theorem hasHeader_iff (p : Nat) :
    hasHeader p = true ↔ p < 0x80 ∧ isFbmo p = false ∧ ∃ pi, pageInfo p = some pi := by
  unfold hasHeader
  rw [Bool.and_eq_true, Bool.and_eq_true, decide_eq_true_eq, Bool.not_eq_true', Option.isSome_iff_exists, and_assoc]

theorem reaches_iff (s : State) (ini a : Nat) (w : Bool) :
    s.reaches ini a w = true ↔ s.mayAccess ini = true ∧ s.accessError ini a 4 w false = none := by
  unfold State.reaches
  rw [Bool.and_eq_true, Option.isNone_iff_eq_none]

/-- No initiator accesses anything while the real-time domain is off. -/
theorem rtOn_of_mayAccess {s : State} {ini : Nat} (h : s.mayAccess ini = true) : s.rtOn = true := by
  simp only [State.mayAccess, Bool.and_eq_true] at h
  obtain ⟨⟨⟨hr, -⟩, -⟩, -⟩ := h
  exact hr

theorem reaches_of_takes {s : State} {ini a : Nat} (h : s.takes ini a = true) : s.reaches ini a true = true := by
  simp only [State.takes, Bool.and_eq_true] at h
  obtain ⟨⟨⟨hr, -⟩, -⟩, -⟩ := h
  exact hr

/-- A write of CTRL does not take effect while the page's soft reset runs (R44). -/
theorem srstBusy_of_takes_ctrl {s : State} {ini p : Nat} (h : s.takes ini (Rg.ctrl p) = true) :
    s.flag (Fd.srstBusy p) = false := by
  simp only [State.takes, reg_mod (p := p) (o := 0x008) (by decide), reg_div (p := p) (o := 0x008) (by decide), beq_self_eq_true,
    Bool.true_and, Bool.and_eq_true, Bool.not_eq_true'] at h
  obtain ⟨⟨⟨-, hb⟩, -⟩, -⟩ := h
  exact hb

/-- A write that meets no error of R45 comes to the checks of the write itself. -/
theorem busWrite_of_reaches {s : State} {ini a : Nat} (v : Word) (ha : a < 0x80000) (h : s.reaches ini a true = true) :
    s.busWrite ini a 4 v = s.writeReg ini a v := by
  obtain ⟨hm, he⟩ := (reaches_iff s ini a true).mp h
  unfold State.busWrite
  simp only [Nat.mod_eq_of_lt ha, hm, he, Bool.not_true, Bool.false_eq_true, if_false]

/-- A write that meets an error of R45 is answered with it. -/
theorem busWrite_of_error {s : State} {ini a size : Nat} {e : Nat × Bool} (v : Word) (ha : a < 0x80000)
    (hm : s.mayAccess ini = true) (he : s.accessError ini a size true false = some e) :
    s.busWrite ini a size v = s.errorRsp ini a true e := by
  unfold State.busWrite
  simp only [Nat.mod_eq_of_lt ha, hm, he, Bool.not_true, Bool.false_eq_true, if_false]

/-- A read that meets an error of R45 is answered with it. -/
theorem busRead_of_error {s : State} {ini a size : Nat} {e : Nat × Bool} (ha : a < 0x80000)
    (hm : s.mayAccess ini = true) (he : s.accessError ini a size false false = some e) :
    s.busRead ini a size = s.errorRsp ini a false e := by
  unfold State.busRead
  simp only [Nat.mod_eq_of_lt ha, hm, he, Bool.not_true, Bool.false_eq_true, if_false]

/-! ### The unlock (R46) -/

/-- A write of LOCK that meets no error arms or disarms the unlock. -/
theorem writeReg_lock (s : State) (ini p : Nat) (v : Word) (hf : isFbmo p = false) :
    s.writeReg ini (Rg.reg p 0x028) v = (s.respond 0 false).lockWrite ini p v := by
  unfold State.writeReg
  simp only [reg_div (p := p) (o := 0x028) (by decide), reg_mod (p := p) (o := 0x028) (by decide), hf, and_self, if_true]

/-- Protected registers lie above the header. -/
theorem le_offset_of_protectedReg {p o : Nat} (h : protectedReg p o = true) : 0x40 ≤ o := by
  unfold protectedReg at h
  split at h
  next => exact absurd h Bool.false_ne_true
  next =>
    split at h
    next => exact of_decide_eq_true (Bool.and_eq_true_iff.mp h).1
    next => exact absurd h Bool.false_ne_true

/-- A write of a protected register without the unlock is captured as LOCKED and answered OK. -/
theorem writeReg_locked (s : State) (ini a : Nat) (v : Word) (h : protectedReg (a / 0x1000) (a % 0x1000) = true)
    (hu : s.unlock (a / 0x1000) ≠ some ini) :
    s.writeReg ini a v = (s.respond 0 false).capture ini (a / 0x1000) (a % 0x1000) true 0x03 := by
  have ho := le_offset_of_protectedReg h
  have hu' : (s.respond 0 false).unlock (a / 0x1000) ≠ some ini := hu
  unfold State.writeReg
  dsimp only
  rw [if_neg (by omega), if_neg (by omega), if_pos ⟨h, hu'⟩]

/-- Settles O4: LOCK is told from the other registers by its offset, and a protected register lies above the header. -/
theorem lockArms : Obligations.LockArms := by
  unfold Obligations.LockArms
  refine ⟨fun s ini p v hh h => ?arms, fun _ _ => rfl, fun s ini a v ha h hprot hu => ?locked⟩
  case arms =>
    obtain ⟨hp, hf, -⟩ := (hasHeader_iff p).mp hh
    show Host.Outcome.next (s.ifOk (hasHeader p) (s.busWrite ini (Rg.reg p 0x028) 4 v)) = _
    rw [ifOk_true hh, busWrite_of_reaches v (reg_lt_window hp (by decide)) h, writeReg_lock s ini p v hf]
    rfl
  case locked =>
    show Host.Outcome.next (s.busWrite ini a 4 v) = _
    rw [busWrite_of_reaches v ha h, writeReg_locked s ini a v hprot hu]

/-! ### Errors of an access (R45) -/

section
variable (s : State) (ini a size : Nat) (w : Bool)

theorem accessError_unmapped (h : pageExists (a / 0x1000) = false) :
    s.accessError ini a size w false = some (0x07, true) := by
  unfold State.accessError
  simp only [h, Bool.not_false, if_true]

variable (hx : pageExists (a / 0x1000) = true)
include hx

theorem accessError_quietRead (h : quietRead (a / 0x1000) (a % 0x1000) w = true) :
    s.accessError ini a size w false = none := by
  unfold State.accessError
  simp only [hx, h, Bool.not_true, Bool.false_eq_true, if_false, if_true]

variable (hq : quietRead (a / 0x1000) (a % 0x1000) w = false)
include hq

theorem accessError_off (h : s.pageOn (a / 0x1000) = false) :
    s.accessError ini a size w false = some (0x08, true) := by
  unfold State.accessError
  simp only [hx, hq, h, Bool.not_true, Bool.not_false, Bool.false_eq_true, if_false, if_true]

variable (hon : s.pageOn (a / 0x1000) = true)
include hon

theorem accessError_denied (h : s.denied ini (a / 0x1000) (a % 0x1000) w false = true) :
    s.accessError ini a size w false = some (0x06, false) := by
  unfold State.accessError
  simp only [hx, hq, hon, h, Bool.not_true, Bool.false_eq_true, if_false, if_true]

variable (hd : s.denied ini (a / 0x1000) (a % 0x1000) w false = false)
include hd

theorem accessError_size (h : size ≠ 4 ∨ a % 4 ≠ 0) : s.accessError ini a size w false = some (0x02, false) := by
  unfold State.accessError
  simp only [hx, hq, hon, hd, h, Bool.not_true, Bool.false_eq_true, if_false, if_true]

theorem accessError_inReset (h4 : size = 4) (ha : a % 4 = 0) :
    s.accessError ini a size w false =
      if s.flag (Fd.srstBusy (capPage (a / 0x1000))) = true ∧ 0x40 ≤ a % 0x1000 ∧ isFbmo (a / 0x1000) = false then
        some (0x04, false) else none := by
  unfold State.accessError
  simp only [hx, hq, hon, hd, h4, ha, ne_eq, not_true_eq_false, or_self, Bool.not_true, Bool.false_eq_true, if_false]

end

/-- The error response to a write, with the use of its owner's unlock (R46, log entry 21). -/
theorem errorRsp_write (s : State) (ini a : Nat) (e : Nat × Bool) :
    s.errorRsp ini a true e =
      (let t := if e.2 then s.captureSys ini true e.1 a else s.capture ini (a / 0x1000) (a % 0x1000) true e.1
       (if a % 0x1000 = 0x28 then t else t.useLock ini (a / 0x1000)).respond 0 true) := by
  unfold State.errorRsp
  by_cases h : a % 0x1000 = 0x28 <;> simp [h]

theorem errorRsp_read (s : State) (ini a : Nat) (e : Nat × Bool) :
    s.errorRsp ini a false e =
      (if e.2 then s.captureSys ini false e.1 a else s.capture ini (a / 0x1000) (a % 0x1000) false e.1).respond 0 true := by
  unfold State.errorRsp
  simp

/-- An access that meets no earlier error and gets no answer within 64 µs. -/
theorem accessTimeout_of_reaches (s : State) (ini a : Nat) (w : Bool) (ha : a < 0x80000) (h : s.reaches ini a w = true) :
    s.accessTimeout ini a w =
      if quietRead (a / 0x1000) (a % 0x1000) w then s else s.errorRsp ini a w (0x05, false) := by
  obtain ⟨hm, he⟩ := (reaches_iff s ini a w).mp h
  unfold State.accessTimeout
  simp only [Nat.mod_eq_of_lt ha, hm, he, Bool.not_true, Bool.false_or]

/-- A host access while the PCIe link is not in L1 wakes nothing (R294). -/
theorem hostAccess_awake {s : State} {a : Nat} (size : Nat) (w : Bool) (v : Word) (h : s.flag Fd.PCIE_LINK_L1 = false) :
    s.hostAccess a size w v = if w then s.busWrite 5 a size v else s.busRead 5 a size := by
  unfold State.hostAccess
  simp only [h, Bool.false_eq_true, if_false]

/-- Settles O46: the checks of accessError in their order (log entry 16), and the response that each access makes of their
result; a write that meets an error uses its owner's unlock (R46, log entry 21). -/
theorem accessErrors : Obligations.AccessErrors := by
  unfold Obligations.AccessErrors
  refine ⟨fun s ini a w ha h => ?timeout, fun s ini a size v e ha hm he => ?write, fun s a size v e ha hm hl he => ?hostRead,
    fun s ini a size w => ⟨accessError_unmapped s ini a size w, accessError_quietRead s ini a size w,
      accessError_off s ini a size w, fun hx hq hon => ⟨accessError_denied s ini a size w hx hq hon, fun hd =>
        ⟨accessError_size s ini a size w hx hq hon hd, accessError_inReset s ini a size w hx hq hon hd⟩⟩⟩⟩
  case timeout =>
    show Host.Outcome.next (s.accessTimeout ini a w) = _
    rw [accessTimeout_of_reaches s ini a w ha h]
    rfl
  case write =>
    show Host.Outcome.next (s.busWrite ini a size v) = _
    rw [busWrite_of_error v ha hm he, errorRsp_write]
  case hostRead =>
    show Host.Outcome.next (s.hostAccess a size false v) = _
    rw [hostAccess_awake size false v hl, if_neg Bool.false_ne_true, busRead_of_error ha hm he, errorRsp_read]

/-! ### Interrupt bits (R42) -/

/-- An interrupt raised leaves every register but the page's IRQ_STAT. -/
theorem rd_irq_ne (s : State) {p k : Nat} (b : Nat) (h : k ≠ Rg.irqStat p) : (s.irq p b).rd k = s.rd k := by
  obtain ⟨x, e⟩ := irq_iu s p b
  rw [e]
  exact rd_put_ne s ⟨Rg.irqStat p, b, 1⟩ 1 h

/-- In IRQ_STAT an interrupt raised is one field put. -/
theorem get_irq (s : State) (p b lo len : Nat) :
    (s.irq p b).get ⟨Rg.irqStat p, lo, len⟩ = (s.put ⟨Rg.irqStat p, b, 1⟩ 1).get ⟨Rg.irqStat p, lo, len⟩ := by
  obtain ⟨x, e⟩ := irq_iu s p b
  rw [e]
  rfl

theorem get_irq_same (s : State) (p : Nat) {b : Nat} (hb : b < 32) : (s.irq p b).get ⟨Rg.irqStat p, b, 1⟩ = 1 :=
  (get_irq s p b b 1).trans (get_put_same s ⟨Rg.irqStat p, b, 1⟩ 1 hb)

theorem get_irq_ne (s : State) (p : Nat) {b j : Nat} (hj : j < 32) (h : j ≠ b) :
    (s.irq p b).get ⟨Rg.irqStat p, j, 1⟩ = s.get ⟨Rg.irqStat p, j, 1⟩ := by
  have hbeside : b + 1 ≤ j ∨ j + 1 ≤ b := by omega
  exact (get_irq s p b j 1).trans (get_put_beside s ⟨Rg.irqStat p, b, 1⟩ ⟨Rg.irqStat p, j, 1⟩ 1 rfl hbeside hj)

/-- Beyond the registers an interrupt raised moves the interrupt unit only. -/
theorem irq_eq (s : State) (p b : Nat) : s.irq p b = { s with regs := (s.irq p b).regs, iu := (s.irq p b).iu } := by
  obtain ⟨x, e⟩ := irq_iu s p b
  rw [e]
  rfl

/-! ### Error capture (R41, R45) -/

/-- The word that a first capture leaves in ERR_CAP (R41). -/
def errCapWord (ini o : Nat) (w : Bool) (code : Nat) : Word :=
  BitVec.ofNat 32 (2 ^ 31 + ini % 16 * 2 ^ 24 + b2n w * 2 ^ 23 + code * 4096 + o % 4096)

/-- The first error of a page is captured, and raises bit 31. -/
theorem capture_first {s : State} {p : Nat} (ini o : Nat) (w : Bool) (code : Nat)
    (h : s.flag ⟨Rg.errCap (capPage p), 31, 1⟩ = false) :
    s.capture ini p o w code = (s.wr (Rg.errCap (capPage p)) (errCapWord ini o w code)).irq (capPage p) 31 := by
  unfold State.capture
  simp only [h, Bool.false_eq_true, if_false]
  rfl

/-- A later error sets OVF only. -/
theorem capture_later {s : State} {p : Nat} (ini o : Nat) (w : Bool) (code : Nat)
    (h : s.flag ⟨Rg.errCap (capPage p), 31, 1⟩ = true) :
    s.capture ini p o w code = s.put ⟨Rg.errCap (capPage p), 30, 1⟩ 1 := by
  unfold State.capture
  simp only [h, if_true]

theorem errCap_ne_irqStat (q : Nat) : Rg.errCap q ≠ Rg.irqStat q := by unfold Rg.errCap Rg.irqStat key; omega

/-- Settles O47, by the two cases of a capture. -/
theorem errorCapture : Obligations.ErrorCapture := by
  unfold Obligations.ErrorCapture
  refine ⟨fun s ini p o w code hi ho hc hq h => ?first, fun s ini p o w code h => ?later⟩
  case first =>
    have hw : errCapWord ini o w code = BitVec.ofNat 32 (2 ^ 31 + ini * 2 ^ 24 + b2n w * 2 ^ 23 + code * 2 ^ 12 + o) := by
      unfold errCapWord
      rw [Nat.mod_eq_of_lt hi, Nat.mod_eq_of_lt ho, show code * 4096 = code * 2 ^ 12 from rfl]
    dsimp only
    rw [capture_first ini o w code h, ← hw]
    exact ⟨(rd_irq_ne _ 31 (errCap_ne_irqStat _)).trans (rd_wr_same s _ _), get_irq_same _ _ (by decide),
      fun k hk hk' => (rd_irq_ne _ 31 hk').trans (rd_wr_ne s _ hk)⟩
  case later =>
    dsimp only
    rw [capture_later ini o w code h]
    exact ⟨get_put_same s ⟨_, 30, 1⟩ 1 (by decide : 30 + 1 ≤ 32),
      fun lo len h32 hb => get_put_beside s ⟨_, 30, 1⟩ ⟨_, lo, len⟩ 1 rfl hb.symm h32, fun k hk => rd_put_ne s _ _ hk⟩

/-! ### Reserved bits (R12, R45) -/

/-- A write that sets a reserved bit is captured as RSV_WRITE, and the bits that exist go to the block. -/
theorem applyWrite_block_reserved (s : State) (ini a : Nat) (v : Word) (hb : blockReg a = true)
    (hv : noReserved a v = false) :
    s.applyWrite ini (a / 0x1000) (a % 0x1000) v =
      (s.capture ini (a / 0x1000) (a % 0x1000) true 0x01).blockWrite ini (a / 0x1000) (a % 0x1000)
        (v &&& BitVec.ofNat 32 (impBits (a / 0x1000) (a % 0x1000))) := by
  simp only [blockReg, Bool.and_eq_true, Bool.not_eq_true', decide_eq_true_eq, bne_iff_ne] at hb
  obtain ⟨⟨⟨⟨⟨-, hf⟩, hp⟩, ho⟩, -⟩, hpost⟩ := hb
  obtain ⟨pi, hp⟩ := Option.isSome_iff_exists.mp hp
  have hpost' : ¬(a / 0x1000 = Pg.rec ∧ a % 0x1000 = 0x88 ∧ getF v 0 16 < 0x8000) := by
    rintro ⟨e, f, -⟩
    have hdm := Nat.div_add_mod a 0x1000
    rw [e, f] at hdm
    exact hpost hdm.symm
  have hbad : (v &&& ~~~(BitVec.ofNat 32 (impBits (a / 0x1000) (a % 0x1000))) != 0) = true := by
    rw [bne, Bool.not_eq_true']
    exact hv
  unfold State.applyWrite
  simp only [hf, hp, hbad, hpost', show ¬a % 0x1000 < 0x40 by omega, Bool.false_eq_true, Bool.true_or, if_true, if_false]

/-- Settles O48: the capture first, then the store by the register's row of what is left of the word. -/
theorem reservedBits : Obligations.ReservedBits := by
  unfold Obligations.ReservedBits
  intro s ini a v r hp hr h hv
  have hb := blockReg_of_plainReg hp
  have hb' := hb
  simp only [blockReg, Bool.and_eq_true, Bool.not_eq_true', decide_eq_true_eq, bne_iff_ne] at hb'
  obtain ⟨⟨⟨⟨⟨ha, -⟩, -⟩, ho⟩, hmbx⟩, -⟩ := hb'
  show Host.Outcome.next (s.busWrite ini a 4 v) = _
  rw [busWrite_takes s ini a v ha h (by omega) hmbx, applyWrite_block_reserved _ ini a v hb hv,
    blockWrite_plain _ ini a _ hp, store_of_rowAt _ _ hr]

/-! ### Raising an interrupt bit and an event (R42, R379, R382) -/

/-- `t` differs from `s` in the recorder, REC.LOST and its interrupt bits, the interrupt unit and the next index only. -/
def RecorderOnly (s t : State) : Prop :=
  (∃ regs iu rcd idx, t = { s with
    regs := regs, iu := iu, rcd := rcd, nv := { s.nv with cnt := { s.nv.cnt with nextIdx := idx } } }) ∧
  ∀ k, k ≠ Rg.REC_LOST → k ≠ Rg.irqStat Pg.rec → t.rd k = s.rd k

theorem RecorderOnly.trans {s t u : State} (h : RecorderOnly s t) (h' : RecorderOnly t u) : RecorderOnly s u := by
  obtain ⟨⟨_, _, _, _, rfl⟩, hr⟩ := h
  obtain ⟨⟨_, _, _, _, rfl⟩, hr'⟩ := h'
  exact ⟨⟨_, _, _, _, rfl⟩, fun k hk hk' => (hr' k hk hk').trans (hr k hk hk')⟩

theorem recorderOnly_rcd (s : State) (r : RecSt) : RecorderOnly s { s with rcd := r } :=
  ⟨⟨_, _, _, _, rfl⟩, fun _ _ _ => rfl⟩

/-- A record put into the recorder with the next index taken. -/
theorem recorderOnly_takeIdx (s : State) (r : RecSt) : RecorderOnly s { s.takeIdx with rcd := r } :=
  ⟨⟨_, _, _, _, rfl⟩, fun _ _ _ => rfl⟩

/-- A count of REC.LOST moves. -/
theorem recorderOnly_addLost (s : State) (lo len n : Nat) : RecorderOnly s (s.add ⟨Rg.REC_LOST, lo, len⟩ n) :=
  ⟨⟨_, _, _, _, rfl⟩, fun _ hk _ => rd_put_ne s _ _ hk⟩

/-- An interrupt bit of page REC is raised. -/
theorem recorderOnly_irq (s : State) (b : Nat) : RecorderOnly s (s.irq Pg.rec b) :=
  ⟨⟨_, _, _, _, irq_eq s Pg.rec b⟩, fun _ _ hk => rd_irq_ne s b hk⟩

theorem recorderOnly_loseRec (s : State) (v : Nat) : RecorderOnly s (s.loseRec v) := by
  refine ((recorderOnly_addLost s (8 * v) 8 1).trans (recorderOnly_irq _ 0)).trans ?_
  unfold State.loseRec
  dsimp only
  split
  next => exact recorderOnly_rcd _ _
  next => exact recorderOnly_takeIdx _ _

theorem recorderOnly_raiseRec (s : State) (r : Rec) : RecorderOnly s (s.raiseRec r) := by
  unfold State.raiseRec
  split
  next => exact recorderOnly_takeIdx _ _
  next =>
    split
    next =>
      split
      next => exact (recorderOnly_takeIdx _ _).trans (recorderOnly_loseRec _ _)
      next => exact recorderOnly_loseRec _ _
    next => exact recorderOnly_loseRec _ _

/-- Settles O56: an interrupt bit is one field put, and an event that finds the ring full moves the recorder's side only. -/
theorem raisingFrames : Obligations.RaisingFrames := by
  unfold Obligations.RaisingFrames
  refine ⟨fun s p b hb => ?bit, fun s ev src ps hroom => ?room, fun s ev src ps => ?full⟩
  case bit => exact ⟨get_irq_same s p hb, fun k hk => rd_irq_ne s b hk, fun j hj hne => get_irq_ne s p hj hne, irq_eq s p b⟩
  case room =>
    unfold State.raise State.raiseRec
    rw [if_pos hroom]
    rfl
  case full =>
    obtain ⟨⟨regs, iu, rcd, idx, e⟩, hr⟩ := recorderOnly_raiseRec s (s.mkRec ev src ps)
    refine ⟨?_, hr⟩
    show s.raiseRec _ = _
    rw [State.raise, e]

end Sys2Proof.Machine
end

section
/-! Block control through the common header (R41, R42, R44, R415) and the resets (R47, R48, R413 to R415). -/

namespace Sys2Proof.Machine

/-! ### Writes of CTRL -/

/-- CTRL of page p after a write, before its bits act: the block control bits of the word are stored (R41). -/
def State.ctrlStored (s : State) (p : Nat) (pi : PageInfo) (v : Word) : State :=
  s.wr (Rg.ctrl p) ((s.rd (Rg.ctrl p) &&& ~~~(BitVec.ofNat 32 pi.ctrl)) ||| (v &&& BitVec.ofNat 32 pi.ctrl))

/-- A write of CTRL that takes effect. -/
theorem busWrite_ctrl (s : State) (ini p : Nat) (v : Word) (pi : PageInfo) (hp : p < 0x80) (hf : isFbmo p = false)
    (hi : pageInfo p = some pi) (h : s.takes ini (Rg.ctrl p) = true) (hv : noReserved (Rg.ctrl p) v = true) :
    s.busWrite ini (Rg.ctrl p) 4 v = ((s.begun ini (Rg.ctrl p)).ctrlWrite p pi v).toPartner (Rg.ctrl p) v :=
  busWrite_header s ini p 0x008 v pi hp hf hi (by decide) (by decide) h hv

/-- A write of IRQ_STAT clears the bits written 1 (R42). -/
theorem headerWrite_irqStat (s : State) (p : Nat) (pi : PageInfo) (v : Word) :
    s.headerWrite p pi 0x018 v = (s.wr (Rg.irqStat p) (s.rd (Rg.irqStat p) &&& ~~~v)).iuChanged := by
  unfold State.headerWrite
  rw [if_neg (by decide), if_neg (by decide), if_pos rfl]

section
variable {v : Word}

/-- SRST goes before the other bits (log entry 18). -/
theorem ctrlWrite_srst (s : State) (p : Nat) (pi : PageInfo) (h1 : bitW v 1 = true) :
    s.ctrlWrite p pi v = ((s.ctrlStored p pi v).blockReset p).persist p 0x08 := by
  unfold State.ctrlWrite
  simp only [h1, if_true]
  rfl

/-- With neither SRST nor FLUSH, EN starts or stops the block. -/
theorem ctrlWrite_en (s : State) (p : Nat) (pi : PageInfo) (h1 : bitW v 1 = false) (h2 : bitW v 2 = false) :
    s.ctrlWrite p pi v =
      (if bitW v 0 then (s.ctrlStored p pi v).blockStart p else (s.ctrlStored p pi v).blockStop p).persist p 0x08 := by
  unfold State.ctrlWrite
  simp only [h1, h2, Bool.false_eq_true, if_false]
  rfl

/-- FLUSH acts after EN. -/
theorem ctrlWrite_flush (s : State) (p : Nat) (pi : PageInfo) (h1 : bitW v 1 = false) (h2 : bitW v 2 = true) :
    s.ctrlWrite p pi v =
      ((if bitW v 0 then (s.ctrlStored p pi v).blockStart p else (s.ctrlStored p pi v).blockStop p).persist p
        0x08).blockFlush p := by
  unfold State.ctrlWrite
  simp only [h1, h2, Bool.false_eq_true, if_false, if_true]
  rfl

end

/-- BLOCK_DISABLE writes none of EN, SRST and FLUSH. -/
theorem bitW_ctrlKeep_self (s : State) (p k : Nat) (hk : k < 3) : bitW (s.ctrlKeep p) k = false := by
  have h := bitW_ctrlKeep s p k hk 0#32
  rw [BitVec.or_zero] at h
  rw [h]
  exact Nat.zero_testBit k

/-- FLUSH writes EN as it stands, and not SRST. -/
theorem bitW_flushBits (w : Word) : bitW ((w &&& 1) ||| 4) 1 = false ∧ bitW ((w &&& 1) ||| 4) 2 = true := by
  constructor
  · show ((w &&& 1) ||| 4).getLsbD 1 = false
    simp
  · show ((w &&& 1) ||| 4).getLsbD 2 = true
    simp

/-! ### The operations of a block, on a page of the index -/

section
variable {p : Nat} {pi : PageInfo} (hi : pageInfo p = some pi)
include hi

theorem alwaysOn_eq : alwaysOn p = pi.always := by
  unfold alwaysOn
  rw [hi]

theorem blockStart_eq (s : State) :
    s.blockStart p =
      if pi.always then s
      else if s.flag (Fd.run p) then (s.put (Fd.en p) 1).iuChanged
      else if isFb p then (s.put (Fd.en p) 1).fbEnable (p - 0x10)
      else ((s.put (Fd.en p) 1).put (Fd.run p) 1).iuChanged := by
  unfold State.blockStart
  simp only [hi, alwaysOn_eq hi, Option.isNone_some, Bool.false_or]

theorem blockStop_eq (s : State) :
    s.blockStop p =
      (let t := s.put (Fd.en p) 0
       if pi.always || !s.flag (Fd.en p) then s
       else if isPort p then t.portDisable (p - 0x41)
       else if p = Pg.byell then t.byellOff
       else if p = Pg.pcie then if t.flag Fd.PCIE_LINK_UP then t.pcieLink false 0 0 else t
       else t) := by
  unfold State.blockStop
  simp only [hi, alwaysOn_eq hi, Option.isNone_some, Bool.false_or]

/-- A block asked to stop, with no flush, no Hatch run and no metering window in the way, stops. -/
theorem blockStopped_eq (s : State) (ha : pi.always = false) (he : s.flag (Fd.en p) = false) (hr : s.flag (Fd.run p) = true)
    (hfl : s.flag (Fd.flushBusy p) = false) (hh : ¬(p = Pg.hatch ∧ s.hatch.run.isSome = true)) (hm : isMet p = false) :
    s.blockStopped p = if isFb p then s.fbStop (p - 0x10) else s.put (Fd.run p) 0 := by
  unfold State.blockStopped
  simp only [hi, alwaysOn_eq hi, ha, he, hr, hfl, hh, hm, Option.isNone_some, Bool.not_true, Bool.or_self, Bool.false_eq_true,
    or_self, if_false]

theorem blockReset_eq (s : State) (hb : s.flag (Fd.srstBusy p) = false) :
    s.blockReset p =
      (let t := (((s.softReset p).put (Fd.en p) 0).put (Fd.run p) 0).put (Fd.flushBusy p) 0
       let u := (((t.put (Fd.wdExp p) 0).wr (Rg.irqStat p) 0).wr (Rg.errCap p) 0).setUnlock p none
       ((u.put (Fd.srstBusy p) 1).qAbortPage p).iuChanged) := by
  unfold State.blockReset
  simp only [hi, hb, Option.isNone_some, Bool.or_self, Bool.false_eq_true, if_false]
  rfl

theorem blockFlush_eq (s : State) (hfl : pi.flush = true) :
    s.blockFlush p =
      (let t := if p = Pg.hatch then s.hatchFlush
         else if isFb p then s.fbFlush (p - 0x10)
         else if p = Pg.qmq then s.qFlushAll
         else if p = Pg.ground then s.groundFlush
         else if p = Pg.rec then s.recFlush
         else s
       if s.flag (Fd.srstBusy p) then s else t.put (Fd.flushBusy p) 1) := by
  unfold State.blockFlush
  simp only [hi, hfl, Bool.not_true, Bool.false_or]

theorem blockResetDone_eq (s : State) : s.blockResetDone p = (s.put (Fd.srstBusy p) 0).releaseHeld p := by
  unfold State.blockResetDone
  simp only [hi, Option.isNone_some, Bool.false_eq_true, if_false]

theorem blockFlushDone_eq (s : State) (hb : s.flag (Fd.flushBusy p) = true) :
    s.blockFlushDone p = (s.put (Fd.flushBusy p) 0).releaseHeld p := by
  unfold State.blockFlushDone
  simp only [hi, hb, Option.isNone_some, Bool.not_true, Bool.or_self, Bool.false_eq_true, if_false]

/-- A block watchdog that is on expires outside a soft reset (R415). -/
theorem blockWatchdog_eq (s : State) (ht : s.flag ⟨Rg.tmo p, 31, 1⟩ = true) (hb : s.flag (Fd.srstBusy p) = false) :
    s.blockWatchdog p =
      (let t := if p = Pg.hatch then s.hatchStop else s
       let u := if 2 ≤ s.get ⟨Rg.tmo p, 29, 2⟩ then t.blockReset p else t
       let w := u.put (Fd.wdExp p) 1
       if 1 ≤ s.get ⟨Rg.tmo p, 29, 2⟩ then w.irq p 30 else w) := by
  unfold State.blockWatchdog
  simp only [hi, ht, hb, Option.isNone_some, Bool.not_true, Bool.or_self, Bool.false_eq_true, if_false]

end

/-- Settles O3: a write of CTRL or IRQ_STAT that takes effect comes to the header, and each bit of CTRL acts through the
block's own operation; that WD_EXP and bit 30 outlive the watchdog's soft reset is the model's choice (log entry 188). -/
theorem blockControl : Obligations.BlockControl := by
  unfold Obligations.BlockControl
  refine ⟨fun s ini p pi hp hf hi h hv => ?enable, fun s ini p pi hp hf hi h hv => ?disable,
    fun s p pi hr hi ha he hrun hfl hh hm => ?stopPoint, fun s ini p pi hp hf hi h hv => ?softReset,
    fun s p pi hr hi => ?resetDone, fun s ini p pi hp hf hi hfl h hv => ?flush, fun s p pi hr hi hb => ?flushDone,
    fun s ini p v pi hp hf hi h hv => ?irqStat, fun s p pi hr hi ht hb => ?watchdog⟩
  case enable =>
    have hh := (hasHeader_iff p).mpr ⟨hp, hf, pi, hi⟩
    have hbit : ∀ k, k < 3 → bitW (s.ctrlKeep p ||| 1) k = bitW 1 k := fun k hk => bitW_ctrlKeep s p k hk 1
    show Host.Outcome.next (s.ifOk (hasHeader p) (s.busWrite ini (Rg.ctrl p) 4 (s.ctrlKeep p ||| 1))) = _
    rw [ifOk_true hh, busWrite_ctrl s ini p _ pi hp hf hi h hv, ctrlWrite_en _ p pi (hbit 1 (by decide)) (hbit 2 (by decide)),
      hbit 0 (by decide), if_pos (by decide), blockStart_eq hi]
    rfl
  case disable =>
    have hh := (hasHeader_iff p).mpr ⟨hp, hf, pi, hi⟩
    have hbit := bitW_ctrlKeep_self s p
    show Host.Outcome.next (s.ifOk (hasHeader p) (s.busWrite ini (Rg.ctrl p) 4 (s.ctrlKeep p))) = _
    rw [ifOk_true hh, busWrite_ctrl s ini p _ pi hp hf hi h hv, ctrlWrite_en _ p pi (hbit 1 (by decide)) (hbit 2 (by decide)),
      hbit 0 (by decide), if_neg Bool.false_ne_true, blockStop_eq hi]
    rfl
  case stopPoint =>
    show Host.Outcome.next (s.rt (s.blockStopped p)) = _
    rw [rt_on hr, blockStopped_eq hi s ha he hrun hfl hh hm]
  case softReset =>
    have hh := (hasHeader_iff p).mpr ⟨hp, hf, pi, hi⟩
    have hb : ((s.begun ini (Rg.ctrl p)).ctrlStored p pi (s.ctrlKeep p ||| 2)).flag (Fd.srstBusy p) = false := by
      unfold State.flag State.get State.ctrlStored
      rw [rd_wr_ne _ _ (show key p 0x00C ≠ Rg.ctrl p by unfold Rg.ctrl key; omega), begun_rd]
      exact srstBusy_of_takes_ctrl h
    show Host.Outcome.next (s.ifOk (hasHeader p) (s.busWrite ini (Rg.ctrl p) 4 (s.ctrlKeep p ||| 2))) = _
    rw [ifOk_true hh, busWrite_ctrl s ini p _ pi hp hf hi h hv, ctrlWrite_srst _ p pi (bitW_ctrlKeep s p 1 (by decide) 2),
      blockReset_eq hi _ hb]
    rfl
  case resetDone =>
    show Host.Outcome.next (s.rt (s.blockResetDone p)) = _
    rw [rt_on hr, blockResetDone_eq hi]
    rfl
  case flush =>
    have hh := (hasHeader_iff p).mpr ⟨hp, hf, pi, hi⟩
    obtain ⟨h1, h2⟩ := bitW_flushBits (s.rd (Rg.ctrl p))
    have hbit := fun k hk => bitW_ctrlKeep s p k hk ((s.rd (Rg.ctrl p) &&& 1) ||| 4)
    show Host.Outcome.next (s.ifOk (hasHeader p) (s.busWrite ini (Rg.ctrl p) 4 _)) = _
    rw [ifOk_true hh, busWrite_ctrl s ini p _ pi hp hf hi h hv,
      ctrlWrite_flush _ p pi ((hbit 1 (by decide)).trans h1) ((hbit 2 (by decide)).trans h2), hbit 0 (by decide),
      blockFlush_eq hi _ hfl]
    rfl
  case flushDone =>
    show Host.Outcome.next (s.rt (s.blockFlushDone p)) = _
    rw [rt_on hr, blockFlushDone_eq hi s hb]
    rfl
  case irqStat =>
    have hh := (hasHeader_iff p).mpr ⟨hp, hf, pi, hi⟩
    show Host.Outcome.next (s.ifOk (hasHeader p) (s.busWrite ini (Rg.irqStat p) 4 v)) = _
    rw [ifOk_true hh, busWrite_header s ini p 0x018 v pi hp hf hi (by decide) (by decide) h hv,
      headerWrite_irqStat]
  case watchdog =>
    show Host.Outcome.next (s.rt (s.blockWatchdog p)) = _
    rw [rt_on hr, blockWatchdog_eq hi s ht hb]

/-! ### Resets -/

/-- A reset that starts while none is held: it is held, and unless `bare` a standby yields and the records are saved (R414). -/
theorem startReset_eq (s : State) (c : ResetCause) (bare : Bool) (hr : s.rtOn = true) (hn : s.pwr.resetHold = none) :
    s.startReset c bare =
      (let t := s.modPwr ({ · with resetHold := some c, noHold := bare })
       if bare then t else t.yieldIfStandby.recGasp) := by
  unfold State.startReset
  simp only [hr, hn, Option.isSome_none, Bool.not_true, Bool.or_self, Bool.false_eq_true, if_false]

/-- SYS.RST_CMD with START: the register stores nothing. -/
theorem blockWrite_sysRstCmd (s : State) (ini : Nat) :
    s.blockWrite ini (Rg.SYS_RST_CMD / 0x1000) (Rg.SYS_RST_CMD % 0x1000) 1 = s.startReset .cmd false := rfl

theorem begun_rtOn (s : State) (ini a : Nat) : (s.begun ini a).rtOn = s.rtOn := by
  unfold State.rtOn
  rw [begun_pwr]

/-- Settles O5: each command's guard holds, so that its shared operation runs. -/
theorem moduleResets : Obligations.ModuleResets := by
  unfold Obligations.ModuleResets
  refine ⟨fun s ini h hn => ?cmd, fun s c hc => ?module, fun s hp => ?cold, fun s hr hn => ?debug,
    fun s hr hn hh hk => ?rtWatchdog, fun s cause hr hn hh => ?supervisor, fun s hn he => ?net, fun s n ha hlt he hk => ?core⟩
  case cmd =>
    have hr : s.rtOn = true := rtOn_of_mayAccess ((reaches_iff _ _ _ _).mp (reaches_of_takes h)).1
    show Host.Outcome.next (s.busWrite ini Rg.SYS_RST_CMD 4 1) = _
    rw [busWrite_block s ini _ 1 (by decide) h (by decide), toPartner_none _ _ _ (by decide) (by decide), blockWrite_sysRstCmd,
      startReset_eq _ _ _ ((begun_rtOn _ _ _).trans hr) ((congrArg _ (begun_pwr _ _ _)).trans hn)]
    rfl
  case module =>
    show Host.Outcome.next s.moduleReset = _
    unfold State.moduleReset
    simp only [hc]
  case cold =>
    show Host.Outcome.next s.coldReset = _
    unfold State.coldReset
    rw [if_pos hp]
  case debug =>
    show Host.Outcome.next (s.rt (s.startReset .dbg s.pwr.halted)) = _
    rw [rt_on hr, startReset_eq s _ _ hr hn]
  case rtWatchdog =>
    show Host.Outcome.next (s.rt s.rtWatchdog) = _
    unfold State.rtWatchdog
    rw [rt_on hr]
    simp only [hr, hn, hh, hk, Option.isSome_none, Bool.not_true, Bool.or_self, Bool.false_eq_true, if_false]
  case supervisor =>
    show Host.Outcome.next (s.rt (s.supvReset cause)) = _
    unfold State.supvReset
    rw [rt_on hr]
    simp only [hr, hn, hh, Option.isSome_none, Bool.not_true, Bool.false_and, Bool.or_self, Bool.false_eq_true, if_false]
  case net =>
    show Host.Outcome.next (s.nw s.netWatchdog) = _
    unfold State.netWatchdog
    rw [nw_on hn, if_pos he]
  case core =>
    show Host.Outcome.next (s.app (s.coreWatchdog n)) = _
    unfold State.coreWatchdog
    rw [app_on ha]
    simp only [ha, he, hk, Nat.not_le.mpr hlt, Bool.true_eq_false, or_self, if_false]

end Sys2Proof.Machine
end

section
/-! The statements of the plate-and-tick chapter: the tick edge and the standby's cut (R50, R53, R57, R416), the Hatch run
within its window (R55, R58 to R61, R72, R95, R97), compose, the Impression copy and the window on the Plate (R54, R61, R62,
R104, R108, R109, R119), and the time that no step turns back (R51). -/

namespace Sys2Proof.Machine

/-! ### Elapsed time -/

/-- A step is an update of the state without the queue's front: of the state itself where the queue is empty. -/
theorem upd_of_step {s t : State} (h : step s = .next t) : Upd { s with pending := s.pending.tail } t := by
  cases hp : s.pending with
  | nil =>
    rw [step_of_pending_nil hp] at h
    cases h
    exact ⟨hp, Nat.le_refl _, Nat.le_refl _, id, id⟩
  | cons c rest =>
    rw [step_of_pending_cons hp] at h
    exact upd_exec c h

/-- Settles O42: whatever the front command does is an update, which turns neither counter back. -/
theorem timeGoesForward : Obligations.TimeGoesForward := by
  unfold Obligations.TimeGoesForward
  intro s t h
  have hu := upd_of_step h
  exact ⟨hu.ns, hu.free⟩

/-! ### The tick edge and the standby's own cut -/

/-- Settles O9: the light path is on and ticks, so that no guard of the edge or of the cut turns the command away. -/
theorem tickEdge : Obligations.TickEdge := by
  unfold Obligations.TickEdge
  refine ⟨fun s dt err cur hr hl hi => ?edge, fun s hr ht hrole hgot hown => ?cut⟩
  case edge =>
    show Host.Outcome.next (s.rt (s.tickEdge dt err cur)) = _
    unfold State.tickEdge
    rw [rt_on hr, if_neg (by rw [hl]; decide), if_neg (by rw [hi]; decide)]
  case cut =>
    have hguard : ¬(!s.ticking || s.role ≠ 2 || s.tick.cutGot || s.tick.ownCut) = true := by
      simp only [ht, hrole, hgot, hown]; decide
    show Host.Outcome.next (s.rt s.ownCut) = _
    unfold State.ownCut
    rw [rt_on hr, if_neg hguard]

/-! ### The Hatch window -/

/-- A STANDBY is not without its frozen inputs when the active's cut or its own has come (R57). -/
theorem not_awaitsCut {s : State} (h : s.role = 2 → s.tick.cutGot = true ∨ s.tick.ownCut = true) :
    ¬(s.role == 2 && !s.tick.cutGot && !s.tick.ownCut) = true := by
  simp only [Bool.and_eq_true, beq_iff_eq, Bool.not_eq_true']
  rintro ⟨⟨hrole, hgot⟩, hown⟩
  rcases h hrole with e | e
  · exact Bool.false_ne_true (hgot.symm.trans e)
  · exact Bool.false_ne_true (hown.symm.trans e)

/-- A run that completes inside the window is committed (R95). -/
theorem hatchDone_eq_hatchCommit {s : State} (us : Nat) (ht : s.ticking = true) (hw : s.tick.winOpen = true) :
    s.hatchDone us = s.hatchCommit us := by
  unfold State.hatchDone
  rw [if_pos (by rw [ht, hw]; rfl)]

/-- Settles O10: the window is open and the module ticks, so that only the branches of R58 and R60 are left. -/
theorem hatchTick : Obligations.HatchTick := by
  unfold Obligations.HatchTick
  refine ⟨fun s hr hm ht hw hs hf hn hc hrdy hk => ?start, fun s us hr ht hw => ?done, fun s us hr ht hw hm => ?windowEnd,
    fun s hr ht => ?guard, fun s hr hh hd => ?halt, fun s hr hh => ?resume⟩
  case start =>
    have hguard : ¬(s.mode == 0 || !s.ticking || !s.tick.winOpen || s.tick.started || s.tick.flushed ||
        s.hatch.run.isSome) = true := by
      simp only [beq_eq_false_iff_ne.mpr hm, ht, hw, hs, hf, hn]; decide
    show Host.Outcome.next (s.rt s.hatchStart) = _
    unfold State.hatchStart
    rw [rt_on hr, if_neg hguard, if_neg (not_awaitsCut hc), if_neg (by rw [hrdy]; decide), if_neg (Nat.not_lt.mpr hk)]
  case done =>
    show Host.Outcome.next (s.rt (s.hatchDone us)) = _
    rw [rt_on hr, hatchDone_eq_hatchCommit us ht hw]
  case windowEnd =>
    show Host.Outcome.next (s.rt (s.windowEnd us)) = _
    unfold State.windowEnd
    rw [rt_on hr, if_neg (by rw [ht, hw]; decide), if_neg hm]
    simp only [decide_eq_true_eq]
  case guard =>
    show Host.Outcome.next (s.rt s.guardBand) = _
    unfold State.guardBand
    rw [rt_on hr, if_neg (by rw [ht]; decide)]
  case halt =>
    show Host.Outcome.next (s.rt s.rtHalt) = _
    unfold State.rtHalt
    rw [rt_on hr, if_neg (by rw [hh, hd]; decide)]
  case resume =>
    show Host.Outcome.next (s.rt s.rtResume) = _
    unfold State.rtResume
    rw [rt_on hr, if_pos hh]

/-! ### Compose, the Impression copy and the window on the Plate -/

/-- Compose may start in an overrun tick outside NORMAL mode only (R61). -/
theorem not_overrunInNormal {s : State} (h : s.mode = 1 → s.tick.overrun = false) :
    ¬(s.mode == 1 && s.tick.overrun) = true := by
  simp only [Bool.and_eq_true, beq_iff_eq]
  rintro ⟨hm, ho⟩
  exact Bool.false_ne_true ((h hm).symm.trans ho)

/-- After the window, outside a soft reset, the tick's compose starts unless one is in progress or done (R61, R104). -/
theorem composeBegin_eq_composeStart {s : State} (ht : s.ticking = true) (hw : s.tick.winOpen = false)
    (hd : s.tick.composeDone = false) (hn : s.plate.work = none) (hb : s.flag (Fd.srstBusy Pg.plate) = false)
    (ho : s.mode = 1 → s.tick.overrun = false) : s.composeBegin = s.composeStart := by
  have hguard : ¬(!s.ticking || s.tick.winOpen || s.tick.composeDone || s.plate.work.isSome ||
      s.flag (Fd.srstBusy Pg.plate)) = true := by
    simp only [ht, hw, hd, hn, hb]; decide
  unfold State.composeBegin
  rw [if_neg hguard, if_neg (not_overrunInNormal ho)]

/-- While the module ticks a compose in progress may complete. -/
theorem composeEnd_eq_composeDone {s : State} (us : Nat) (ht : s.ticking = true) : s.composeEnd us = s.composeDone us := by
  unfold State.composeEnd
  rw [if_pos ht]

/-- While the module ticks a compose in progress may miss its limit (R62). -/
theorem composeLate_eq_composeMiss {s : State} (nodes : Nat) (ht : s.ticking = true) (hw : s.plate.work.isSome = true) :
    s.composeLate nodes = s.composeMiss nodes := by
  unfold State.composeLate
  rw [if_pos (by rw [ht, hw]; rfl)]

/-- A read of PLATE.WIN that meets no error answers two levels and may advance the index (R119). -/
theorem busRead_plateWin {s : State} {ini : Nat} (h : s.reaches ini Rg.PLATE_WIN false = true) :
    s.busRead ini Rg.PLATE_WIN 4 = s.plateWin.2.respond s.plateWin.1 false := by
  rw [busRead_reaches s ini Rg.PLATE_WIN (by decide) h]
  rfl

/-- Settles O11: each command's guard holds, and a read of the window that meets no error reaches the Plate. -/
theorem composeAndImport : Obligations.ComposeAndImport := by
  unfold Obligations.ComposeAndImport
  refine ⟨fun s hr ht hw hd hn hb ho => ?start, fun s us w hr ht hw => ?done, fun s nodes hr ht hw => ?miss,
    fun s bytes hr ht hi => ?late, fun s hr ht hi => ?copied, fun s ini h => ?window⟩
  case start =>
    show Host.Outcome.next (s.rt s.composeBegin) = _
    rw [rt_on hr, composeBegin_eq_composeStart ht hw hd hn hb ho]
    rfl
  case done =>
    show Host.Outcome.next (s.rt (s.composeEnd us)) = _
    rw [rt_on hr, composeEnd_eq_composeDone us ht]
    unfold State.composeDone
    rw [hw]
  case miss =>
    show Host.Outcome.next (s.rt (s.composeLate nodes)) = _
    rw [rt_on hr, composeLate_eq_composeMiss nodes ht hw]
    rfl
  case late =>
    show Host.Outcome.next (s.rt (s.impLate bytes)) = _
    unfold State.impLate
    rw [rt_on hr, if_pos (by rw [ht, hi]; rfl)]
  case copied =>
    show Host.Outcome.next (s.rt s.impDone) = _
    unfold State.impDone
    rw [rt_on hr, if_pos (by rw [ht, hi]; rfl)]
  case window =>
    show Host.Outcome.next (s.busRead ini Rg.PLATE_WIN 4) = _
    rw [busRead_plateWin h]
    rfl

end Sys2Proof.Machine
end

section
/-! The street graph of the Hatch chapter: the commands of GRAPH_CTRL, the storing of records through the load window, and
the ends of validation and of the MRAM write (R75 to R78). -/

namespace Sys2Proof.Machine

/-! ### Writes of page HATCH_G -/

@[simp] theorem begun_graphState (s : State) (ini a : Nat) : (s.begun ini a).graphState = s.graphState := begun_get s ini a _

@[simp] theorem begun_loadCount (s : State) (ini a n : Nat) : (s.begun ini a).loadCount n = s.loadCount n := by
  unfold State.loadCount
  simp only [begun_rd]

/-- A write of GRAPH_CTRL that takes effect acts by its command code. -/
theorem busWrite_graphCtrl {s : State} {ini : Nat} (c : Word) (h : s.takes ini Rg.HATCHG_GRAPH_CTRL = true)
    (hc : noReserved Rg.HATCHG_GRAPH_CTRL c = true) :
    s.busWrite ini Rg.HATCHG_GRAPH_CTRL 4 c =
      ((s.begun ini Rg.HATCHG_GRAPH_CTRL).graphCtrl (getF c 0 2)).toPartner Rg.HATCHG_GRAPH_CTRL c :=
  busWrite_block s ini _ c (by decide) h hc

theorem blockReg_loadWin : ∀ k < 4, blockReg (Rg.HATCHG_LOAD_WIN k) = true := by decide

/-- The load window's registers stand on page HATCH_G from offset 0x80 up. -/
theorem blockWrite_loadWin (s : State) (ini : Nat) {k : Nat} (v : Word) (hk : k < 4) :
    s.blockWrite ini (Rg.HATCHG_LOAD_WIN k / 0x1000) (Rg.HATCHG_LOAD_WIN k % 0x1000) v = s.loadWin k v := by
  have hp : Rg.HATCHG_LOAD_WIN k / 0x1000 = Pg.hatchG := show (0x3080 + 4 * k) / 0x1000 = 0x03 by omega
  have ho : Rg.HATCHG_LOAD_WIN k % 0x1000 = 0x80 + 4 * k := show (0x3080 + 4 * k) % 0x1000 = 0x80 + 4 * k by omega
  have hw : (0x80 + 4 * k - 0x80) / 4 = k := by omega
  rw [hp, ho]
  show s.hatchgWrite (0x80 + 4 * k) v = _
  unfold State.hatchgWrite
  rw [if_neg (by omega), if_pos (by omega), hw]

/-- A write of the load window that takes effect. -/
theorem busWrite_loadWin {s : State} {ini k : Nat} (v : Word) (hk : k < 4) (h : s.takes ini (Rg.HATCHG_LOAD_WIN k) = true)
    (hv : noReserved (Rg.HATCHG_LOAD_WIN k) v = true) :
    s.busWrite ini (Rg.HATCHG_LOAD_WIN k) 4 v =
      ((s.begun ini (Rg.HATCHG_LOAD_WIN k)).loadWin k v).toPartner (Rg.HATCHG_LOAD_WIN k) v := by
  rw [busWrite_block s ini _ v (blockReg_loadWin k hk) h hv, blockWrite_loadWin _ ini v hk]

/-! ### Loading (R76 to R78) -/

theorem graphOpen_eq_graphClear {s : State} (h : s.graphState ≠ 4) : s.graphOpen = s.graphClear 1 := if_neg h

theorem graphAbort_eq_graphClear {s : State} (h : s.graphState ≠ 4) (h0 : s.graphState ≠ 0) :
    s.graphAbort = s.graphClear 0 := by
  unfold State.graphAbort
  rw [if_neg h, if_neg h0]

/-- The load bank with the counts and the CRC as they stand: what COMMIT hands to validation (R77). -/
def State.committedGraph (s : State) : Graph :=
  { s.hatch.load with
    nVtx := getF (s.rd Rg.HATCHG_VTX_CNT) 0 13, nEdge := getF (s.rd Rg.HATCHG_EDGE_CNT) 0 15
    nAtt := getF (s.rd Rg.HATCHG_ATT_CNT) 0 15, nSens := getF (s.rd Rg.HATCHG_SENS_CNT) 0 11
    crc := s.rd Rg.HATCHG_GRAPH_CRC, seq := 0 }

@[simp] theorem begun_committedGraph (s : State) (ini a : Nat) : (s.begun ini a).committedGraph = s.committedGraph := by
  unfold State.committedGraph
  simp only [begun_rd, begun_hatch]

theorem graphCommit_of_open {s : State} (h : s.graphState = 1) :
    s.graphCommit =
      { s with hatch := { s.hatch with valid := some s.committedGraph } }.put Fd.HATCHG_GRAPH_STAT_STATE 2 := by
  unfold State.graphCommit
  rw [if_neg (by omega), if_neg (by omega)]
  rfl

/-- Record `i` of a table of the graph, made of the words `w` of the load window (R76). -/
def Graph.setRecord (g : Graph) (table i : Nat) (w : Nat → Word) : Graph :=
  if table = 0 then { g with vtx := Tab.set (fun _ => 0) g.vtx i (w 0) }
  else if table = 1 then { g with edge := Tab.set (fun _ => ⟨0, 0, 0⟩) g.edge i ⟨w 0, w 1, w 2⟩ }
  else if table = 2 then { g with att := Tab.set (fun _ => 0) g.att i (w 0) }
  else { g with sens := Tab.set (fun _ => ⟨0, 0⟩) g.sens i ⟨w 0, w 1⟩ }

/-- While the load area is open and INDEX lies below the table's count, a word of the window is kept, and the last word of a
record stores the record and moves INDEX on, from 16,383 to 0 (log entry 195). -/
theorem loadWin_of_open {s : State} (k : Nat) (v : Word) (h : s.graphState = 1)
    (hi : s.get Fd.HATCHG_LOAD_SEL_INDEX < s.loadCount (s.get Fd.HATCHG_LOAD_SEL_TABLE)) :
    s.loadWin k v =
      (let n := s.get Fd.HATCHG_LOAD_SEL_TABLE
       let i := s.get Fd.HATCHG_LOAD_SEL_INDEX
       let u := s.wr (Rg.HATCHG_LOAD_WIN k) v
       if k ≠ lastWin n then u
       else
         { u with hatch := { u.hatch with
            load := s.hatch.load.setRecord n i fun j => u.rd (Rg.HATCHG_LOAD_WIN j) } }.addWrap
              Fd.HATCHG_LOAD_SEL_INDEX 1) := by
  unfold State.loadWin
  rw [if_neg (by omega)]
  rfl

/-! ### Validation and the MRAM write (R77, R78) -/

/-- A validation in progress may end outside the Hatch compute window. -/
theorem not_validationHeld {s : State} (h : s.graphState = 2) (hw : s.tick.winOpen = false ∨ s.tick.ofs < 500000) :
    ¬(s.graphState ≠ 2 ∨ (s.tick.winOpen = true ∧ 500000 ≤ s.tick.ofs)) := by
  rintro (hs | ⟨ho, ht⟩)
  · exact hs h
  · rcases hw with hf | hlt
    · exact Bool.false_ne_true (hf.symm.trans ho)
    · exact Nat.not_le.mpr hlt ht

section
variable {s : State} {g : Graph} (h : s.graphState = 2) (hg : s.hatch.valid = some g)
  (hw : s.tick.winOpen = false ∨ s.tick.ofs < 500000)
include h hg hw

theorem graphValidated_of_passes (hc : g.check = none) : s.graphValidated = s.put Fd.HATCHG_GRAPH_STAT_STATE 3 := by
  unfold State.graphValidated
  rw [if_neg (not_validationHeld h hw)]
  simp only [hg, hc]

theorem graphValidated_of_fails {e : GraphErr} (hc : g.check = some e) :
    s.graphValidated =
      ((({ s with hatch := { s.hatch with valid := none } }.graphErr e).put Fd.HATCHG_GRAPH_STAT_STATE 5).irq Pg.hatchG
        1).raise Ev.HATCH_GRAPH_REFUSED Pg.hatchG [e.err, e.table, e.index] := by
  unfold State.graphValidated
  rw [if_neg (not_validationHeld h hw)]
  simp only [hg, hc]

end

/-- Settles O12: a write that takes effect reaches the command or the load window with the load state as it stood, and each
command's guard holds; that INDEX wraps to 0 after the last record is the model's choice (log entry 195). -/
theorem streetGraph : Obligations.StreetGraph := by
  unfold Obligations.StreetGraph
  refine ⟨fun s ini h h4 => ?opened, fun s ini h h1 => ?committed, fun s ini h h4 h0 => ?aborted,
    fun s ini k v hk h hv h1 hi => ?stored, fun s g hr h2 hg hw => ?validated, fun s hr h4 => ?persisted⟩
  case opened =>
    show Host.Outcome.next (s.busWrite ini Rg.HATCHG_GRAPH_CTRL 4 1) = _
    rw [busWrite_graphCtrl 1 h (by decide), ← graphOpen_eq_graphClear (by rwa [begun_graphState])]
    rfl
  case committed =>
    show Host.Outcome.next (s.busWrite ini Rg.HATCHG_GRAPH_CTRL 4 2) = _
    rw [busWrite_graphCtrl 2 h (by decide)]
    show Host.Outcome.next ((s.begun ini _).graphCommit.toPartner _ _) = _
    rw [graphCommit_of_open (by rwa [begun_graphState]), begun_committedGraph]
    rfl
  case aborted =>
    show Host.Outcome.next (s.busWrite ini Rg.HATCHG_GRAPH_CTRL 4 3) = _
    rw [busWrite_graphCtrl 3 h (by decide),
      ← graphAbort_eq_graphClear (by rwa [begun_graphState]) (by rwa [begun_graphState])]
    rfl
  case stored =>
    show Host.Outcome.next (s.busWrite ini (Rg.HATCHG_LOAD_WIN (k % 4)) 4 v) = _
    rw [Nat.mod_eq_of_lt hk, busWrite_loadWin v hk h hv,
      loadWin_of_open k v (by rwa [begun_graphState]) (by rwa [begun_get, begun_get, begun_loadCount]),
      begun_get, begun_get, begun_hatch]
    rfl
  case validated =>
    show Host.Outcome.next (s.rt s.graphValidated) = _
    rw [rt_on hr]
    cases hc : g.check with
    | none => rw [graphValidated_of_passes h2 hg hw hc]
    | some e => rw [graphValidated_of_fails h2 hg hw hc]
  case persisted =>
    show Host.Outcome.next (s.rt s.graphPersisted) = _
    unfold State.graphPersisted
    rw [rt_on hr, if_neg (by rw [h4]; decide)]

end Sys2Proof.Machine
end

section
/-! The statements of the lamp-group and contactor chapter: the requests to clear a group's break or latch (R113), the
contactors' commands, pulses and feedback (R114 to R116, R441), and the evaluation hold (R117). -/

namespace Sys2Proof.Machine

/-! ### Writes of page GROUP -/

theorem blockReg_groupBroken : ∀ k < 16, blockReg (Rg.GROUP_BROKEN k) = true := by decide

/-- BROKEN0 to BROKEN15 stand on page GROUP from offset 0x80 up. -/
theorem blockWrite_groupBroken (s : State) (ini : Nat) {k : Nat} (v : Word) (hk : k < 16) :
    s.blockWrite ini (Rg.GROUP_BROKEN k / 0x1000) (Rg.GROUP_BROKEN k % 0x1000) v = s.brokenClear k v := by
  have hp : Rg.GROUP_BROKEN k / 0x1000 = Pg.group := show (0x5080 + 4 * k) / 0x1000 = 0x05 by omega
  have ho : Rg.GROUP_BROKEN k % 0x1000 = 0x80 + 4 * k := show (0x5080 + 4 * k) % 0x1000 = 0x80 + 4 * k by omega
  have hw : (0x80 + 4 * k - 0x80) / 4 = k := by omega
  rw [hp, ho]
  show s.groupWrite (0x80 + 4 * k) v = _
  unfold State.groupWrite
  rw [if_neg (by omega), if_pos (by omega), hw]

section
variable {s : State} {ini : Nat} (v : Word)

/-- A write of one of the BROKEN registers that takes effect queues the requests of its 1 bits. -/
theorem busWrite_groupBroken {k : Nat} (hk : k < 16) (h : s.takes ini (Rg.GROUP_BROKEN k) = true)
    (hv : noReserved (Rg.GROUP_BROKEN k) v = true) :
    s.busWrite ini (Rg.GROUP_BROKEN k) 4 v =
      ((s.begun ini (Rg.GROUP_BROKEN k)).brokenClear k v).toPartner (Rg.GROUP_BROKEN k) v := by
  rw [busWrite_block s ini _ v (blockReg_groupBroken k hk) h hv, blockWrite_groupBroken _ ini v hk]

/-- A write of LATCH_CLR that takes effect queues its request. -/
theorem busWrite_groupLatchClr (h : s.takes ini Rg.GROUP_LATCH_CLR = true)
    (hv : noReserved Rg.GROUP_LATCH_CLR v = true) :
    s.busWrite ini Rg.GROUP_LATCH_CLR 4 v =
      ((s.begun ini Rg.GROUP_LATCH_CLR).latchClr v).toPartner Rg.GROUP_LATCH_CLR v :=
  busWrite_block s ini _ v (by decide) h hv

/-- A write of CO_CMD that takes effect makes a request for each contactor selected. -/
theorem busWrite_coCmd (h : s.takes ini Rg.IO_CO_CMD = true) (hv : noReserved Rg.IO_CO_CMD v = true) :
    s.busWrite ini Rg.IO_CO_CMD 4 v = ((s.begun ini Rg.IO_CO_CMD).coCmdWrite v).toPartner Rg.IO_CO_CMD v :=
  busWrite_block s ini _ v (by decide) h hv

end

/-! ### The sequence of a contactor (R115) -/

section
variable {s : State} {j : Nat}

/-- The pulse of the first contactor whose turn it is starts while fewer than two coils are energised. -/
theorem coStart_of_first (hp : (s.co j).phase = .queued) (hm : s.coMayPulse j = true) (hn : s.coPulsing.length < 2)
    (hf : ((List.range 8).find? fun i => ((s.co i).phase == .queued) && s.coMayPulse i) = some j) :
    s.coStart j = s.setCo j { s.co j with phase := .pulse } := by
  unfold State.coStart
  exact if_pos ⟨beq_iff_eq.mpr hf, hn, hp, hm⟩

theorem coEnd_of_pulse (h : (s.co j).phase = .pulse) : s.coEnd j = s.setCo j { s.co j with phase := .await } := if_pos h

theorem coRetry_of_retry (hp : (s.co j).phase = .retry) (hm : s.coMayPulse j = true) (hn : s.coPulsing.length < 2) :
    s.coRetry j = s.setCo j { s.co j with phase := .pulse, second := true } := if_pos ⟨hp, hm, hn⟩

/-- The feedback read after a pulse ends the sequence when it shows the state asked for, fails it after the second pulse, and
asks for the one retry otherwise. -/
theorem coRead_of_await (h : (s.co j).phase = .await) :
    s.coRead j =
      (let c := s.co j
       let fb := s.coFeedback j
       if fb = c.target then
         (s.senseCo j ({ c with sensed := some fb } : Co).seqEnd).raise Ev.CO_SWITCHED Pg.group [j, b2n fb, c.src]
       else if c.second then
         ((s.senseCo j ({ c with sensed := none } : Co).seqEnd).irq Pg.group 3).raise Ev.CO_FAIL Pg.group
           [j, b2n c.cmd, b2n fb]
       else s.setCo j { c with phase := .retry }) := if_neg (not_not_intro h)

end

/-! ### The feedback outside a sequence (R116), and the evaluation hold (R117) -/

/-- The feedback taken as the sensed state, with the event of a driver that is enabled (R25, R116). -/
def State.coTaken (s : State) (j : Nat) : State :=
  let u := s.senseCo j { s.co j with sensed := some (s.coFeedback j) }
  if bitN (u.get Fd.IO_CO_CFG_EN) j then (u.irq Pg.group 4).raise Ev.CO_EXTERNAL Pg.group [j, b2n (s.coFeedback j)] else u

/-- After the first edge, and where neither a pulse nor the wait for its feedback is in progress, a feedback that differs from
the sensed state is taken (R116, R441, log entry 197). -/
theorem coSense_eq (s : State) (j : Nat) :
    s.coSense j =
      if s.tick.booted = true ∧ (s.co j).phase ≠ .pulse ∧ (s.co j).phase ≠ .await ∧
        (s.co j).sensed ≠ some (s.coFeedback j) then s.coTaken j else s := by
  have hguard : ¬(s.tick.booted = false ∨ (s.co j).phase = .pulse ∨ (s.co j).phase = .await ∨
      (s.co j).sensed = some (s.coFeedback j)) ↔ (s.tick.booted = true ∧ (s.co j).phase ≠ .pulse ∧
        (s.co j).phase ≠ .await ∧ (s.co j).sensed ≠ some (s.coFeedback j)) := by
    simp only [not_or, Bool.not_eq_false, ne_eq]
  show (if _ then s else s.coTaken j) = _
  simp only [← hguard, ite_not]

/-- An effect of the real-time complex under a condition takes the domain to be on as well. -/
theorem rt_ite (s t : State) (p : Prop) [Decidable p] :
    s.rt (if p then t else s) = if s.rtOn = true ∧ p then t else s := by
  unfold State.rt
  by_cases hr : s.rtOn = true
  · simp only [hr, if_true, true_and]
  · simp only [hr, Bool.false_eq_true, if_false, false_and]

/-- The held edges of R117 have run out once the guard band of the last one's tick has begun (log entry 48). -/
theorem coHoldEnd_of_last {s : State} {j : Nat} (h : (s.co j).hold = 1) (hg : 800000 * s.pms ≤ s.tick.ofs) :
    s.coHoldEnd j = s.setCo j { s.co j with hold := 0 } := if_pos ⟨h, hg⟩

/-- Settles O13: a write that takes effect reaches its block's request, each step of a sequence finds its guard met, and the
level of the feedback line is taken first, whatever follows from it (log entry 197). -/
theorem contactors : Obligations.Contactors := by
  unfold Obligations.Contactors
  refine ⟨fun s ini k v hk h hv => ?broken, fun s ini v h hv => ?latch, fun s ini v h hv => ?command,
    fun s j hr hj hn hp hm hf => ?start, fun s j hr hj hp => ?pulsed, fun s j hr hj hp => ?feedback,
    fun s j hr hj hp hm hn => ?retry, fun s j level hj => ?moved, fun s j hr hj hh hg => ?hold⟩
  case broken =>
    show Host.Outcome.next (s.busWrite ini (Rg.GROUP_BROKEN (k % 16)) 4 v) = _
    rw [Nat.mod_eq_of_lt hk, busWrite_groupBroken v hk h hv]
    rfl
  case latch =>
    show Host.Outcome.next (s.busWrite ini Rg.GROUP_LATCH_CLR 4 v) = _
    rw [busWrite_groupLatchClr v h hv, ← begun_get s ini Rg.GROUP_LATCH_CLR]
    rfl
  case command =>
    show Host.Outcome.next (s.busWrite ini Rg.IO_CO_CMD 4 v) = _
    rw [busWrite_coCmd v h hv]
    rfl
  case start =>
    show Host.Outcome.next (s.rt (s.ifOk (decide (j < 8)) (s.coStart j))) = _
    rw [rt_on hr, ifOk_true (decide_eq_true hj), coStart_of_first hp hm hn hf]
  case pulsed =>
    show Host.Outcome.next (s.rt (s.ifOk (decide (j < 8)) (s.coEnd j))) = _
    rw [rt_on hr, ifOk_true (decide_eq_true hj), coEnd_of_pulse hp]
  case feedback =>
    show Host.Outcome.next (s.rt (s.ifOk (decide (j < 8)) (s.coRead j))) = _
    rw [rt_on hr, ifOk_true (decide_eq_true hj), coRead_of_await hp]
  case retry =>
    show Host.Outcome.next (s.rt (s.ifOk (decide (j < 8)) (s.coRetry j))) = _
    rw [rt_on hr, ifOk_true (decide_eq_true hj), coRetry_of_retry hp hm hn]
  case moved =>
    show Host.Outcome.next (s.ifOk (decide (j < 8)) (s.coExternal j level)) = _
    rw [ifOk_true (decide_eq_true hj)]
    unfold State.coExternal
    dsimp only
    rw [coSense_eq, rt_ite]
    rfl
  case hold =>
    show Host.Outcome.next (s.rt (s.ifOk (decide (j < 8)) (s.coHoldEnd j))) = _
    rw [rt_on hr, ifOk_true (decide_eq_true hj), coHoldEnd_of_last hh hg]

end Sys2Proof.Machine
end

section
/-! The statements of the feeder-bus chapter about frames that the module sends: the start of a frame, its tag, its end, and
the close of a window (R133 to R142, R154). -/

namespace Sys2Proof.Machine

/-! ### What a bus's command presupposes -/

/-- A command of the real-time complex that names one of the 16 feeder buses takes effect. -/
theorem rt_bus {s : State} {b : Nat} (hr : s.rtOn = true) (hb : b < 16) (t : State) :
    s.rt (s.ifOk (decide (b < 16)) t) = t := by
  rw [rt_on hr, ifOk_true (decide_eq_true hb)]

/-- A bus that may send, with no frame on the wire and none waiting for its tag, has room for a frame (R139). -/
theorem not_frameBarred {s : State} {b : Nat} (hm : s.maySend b = true) (ht : (s.fbs b).tx = none)
    (hq : (s.fbs b).req = none) :
    ¬(s.maySend b = false ∨ (s.fbs b).tx.isSome = true ∨ (s.fbs b).req.isSome = true) := by
  simp only [hm, ht, hq]
  decide

/-! ### The answer to a tag request (R134, R136) -/

section
variable {s : State} {b : Nat} {t : TxFrame}

/-- The frame whose tag has come takes the next freshness value with it and goes on the wire (R134, R135). -/
theorem tagResponse_of_tag {bytes : List Nat} (h : (s.fbs b).req = some (t, .tag bytes)) :
    s.tagResponse b = ((s.fvNext b).modFb b ({ · with req := none, asked := true, tmoRun := 0 })).onWire b
      { t with data := t.data ++ leBytes 2 (t.fv.getD 0) ++ padTo 4 bytes } := by
  unfold State.tagResponse
  simp only [h]

/-- A refused request drops its frame: code 10 counts as a timeout, any other begins the hold (R136). -/
theorem tagResponse_of_refused {code : Nat} (h : (s.fbs b).req = some (t, .refused code)) :
    s.tagResponse b =
      if code = 10 then s.tagFail b
      else ((s.dropReq b).modFb b ({ · with asked := true })).enterHold b (holdCause code (!(s.fbs b).asked)) := by
  unfold State.tagResponse
  simp only [h]

variable {a : TagAnswer} (h : (s.fbs b).req = some (t, a))
include h

/-- A failed request drops its frame and keeps its identifier out of the window; the sixteenth in succession begins the
hold (R136). -/
theorem tagFail_of_req :
    s.tagFail b =
      (let n := (s.fbs b).tmoRun + 1
       let u := (s.dropReq b).modFb b fun f => { f with asked := true, tmoRun := n, stalled := t.id :: f.stalled }
       if 16 ≤ n then u.enterHold b 3 else u) := by
  unfold State.tagFail
  simp only [h]

theorem tagTimeout_eq_tagFail : s.tagTimeout b = s.tagFail b := by
  unfold State.tagTimeout
  simp only [h]

end

/-- Settles O14: the bus has room for a frame, the frame named waits for its tag or is on the wire, and the close of a window
has no guard; the choices it rests on are log entries 57, 59 to 62 and 200. -/
theorem feederFrames : Obligations.FeederFrames := by
  unfold Obligations.FeederFrames
  refine ⟨fun s b us hr hb hm ht hq => ?start, fun s b t a hr hb hq => ?answered, fun s b t a hr hb hq => ?timedOut,
    fun s b us sof tec rec_ t hr hb ht => ?sent, fun s b w hr hb => ?closed⟩
  case start =>
    show Host.Outcome.next (s.rt (s.ifOk (decide (b < 16)) (s.fbStart b us))) = _
    rw [rt_bus hr hb]
    exact congrArg Host.Outcome.next (if_neg (not_frameBarred hm ht hq))
  case answered =>
    show Host.Outcome.next (s.rt (s.ifOk (decide (b < 16)) (s.tagResponse b))) = _
    rw [rt_bus hr hb]
    cases a with
    | tag bytes => rw [tagResponse_of_tag hq]
    | refused code => rw [tagResponse_of_refused hq]
  case timedOut =>
    show Host.Outcome.next (s.rt (s.ifOk (decide (b < 16)) (s.tagTimeout b))) = _
    rw [rt_bus hr hb, tagTimeout_eq_tagFail hq, tagFail_of_req hq]
  case sent =>
    show Host.Outcome.next (s.rt (s.ifOk (decide (b < 16)) (s.fbSent b us sof tec rec_))) = _
    rw [rt_bus hr hb]
    unfold State.fbSent
    simp only [ht]
    rfl
  case closed =>
    show Host.Outcome.next (s.rt (s.ifOk (decide (b < 16)) (s.windowClose b w))) = _
    rw [rt_bus hr hb]
    rfl

end Sys2Proof.Machine
end

section
/-! Message objects: the write of a head object's control word that asks for its transmission or arms it (R154, R155). -/

namespace Sys2Proof.Machine

/-! ### The control word as written -/

theorem bitW_or (v w : Word) (k : Nat) : bitW (v ||| w) k = (bitW v k || bitW w k) := BitVec.getLsbD_or

theorem bitW_and (v w : Word) (k : Nat) : bitW (v &&& w) k = (bitW v k && bitW w k) := BitVec.getLsbD_and

/-- A transmit request is written with VALID (31), DIR (30) and REQ (7) set. -/
theorem bitW_txRequest (v : Word) :
    bitW (v ||| 0xC0000080) 31 = true ∧ bitW (v ||| 0xC0000080) 30 = true ∧ bitW (v ||| 0xC0000080) 7 = true := by
  simp only [bitW_or]
  exact ⟨Bool.or_true _, Bool.or_true _, Bool.or_true _⟩

/-- An arming is written with VALID (31) and REQ (7) set and DIR (30) clear. -/
theorem bitW_rxArm (v : Word) :
    bitW ((v ||| 0x80000080) &&& 0xBFFFFFFF) 31 = true ∧ bitW ((v ||| 0x80000080) &&& 0xBFFFFFFF) 30 = false ∧
      bitW ((v ||| 0x80000080) &&& 0xBFFFFFFF) 7 = true := by
  have h31 : bitW 0x80000080 31 = true := by decide
  have h7 : bitW 0x80000080 7 = true := by decide
  have m31 : bitW 0xBFFFFFFF 31 = true := by decide
  have m30 : bitW 0xBFFFFFFF 30 = false := by decide
  have m7 : bitW 0xBFFFFFFF 7 = true := by decide
  simp only [bitW_and, bitW_or, h31, h7, m31, m30, m7, Bool.or_true, Bool.and_true, Bool.and_false, and_self]

/-! ### The effect of the write -/

/-- What the checks make of an object that is asked for: FAILED with the cause of the check, or with BUSOFF for a safety one-shot
on a bus in BUS_OFF or STORM_HOLD, or else PENDING (R150, R154). -/
def State.moChecked (s : State) (b i : Nat) : State :=
  match s.moCheck b i with
  | 0 =>
    if (s.busState b = 5 ∨ s.busState b = 6) ∧ idClass (s.moId b i) = 0 ∧ s.moOneshot b i then s.moFail b i 3
    else s.moSet b i 1
  | c => s.moFail b i c

section
variable {v : Word} (s : State) (b i : Nat) (h31 : bitW v 31 = true) (h7 : bitW v 7 = true)
include h31 h7

/-- A request to transmit changes nothing while the object is PENDING or SENDING; otherwise it clears the attempts of STAT, and
the checks decide (R154, log entry 59). -/
theorem moCtlWrite_tx (h30 : bitW v 30 = true) :
    s.moCtlWrite b i v =
      if s.moState b i = 1 ∨ s.moState b i = 2 then s else (s.put (mo b i 12 0 16) 0).moChecked b i := by
  unfold State.moCtlWrite
  simp only [h31, h7, h30, Bool.true_eq_false, if_false, if_true]
  rfl

/-- An arming makes the object ARMED and clears OVR and TRUNC, or FAILED where its chain does not fit (R155). -/
theorem moCtlWrite_rx (h30 : bitW v 30 = false) :
    s.moCtlWrite b i v =
      if s.moChainOk b i then ((s.moSet b i 5).put (mo b i 12 23 1) 0).put (mo b i 12 22 1) 0 else s.moFail b i 10 := by
  unfold State.moCtlWrite
  simp only [h31, h7, h30, Bool.true_eq_false, Bool.false_eq_true, if_false]

end

/-- Settles O15: the word as written carries VALID and REQ, and DIR tells a request from an arming; the choices it rests on are
log entries 58, 59 and 60. -/
theorem messageObjects : Obligations.MessageObjects := by
  unfold Obligations.MessageObjects
  refine ⟨fun s ini b i v hb hi h hh hv => ?request, fun s ini b i v hb hi h hh hv => ?arm⟩
  case request =>
    obtain ⟨h31, h30, h7⟩ := bitW_txRequest v
    show Host.Outcome.next (s.ifOk (decide (b < 16 ∧ i < 128)) (s.busWrite ini _ 4 (v ||| 0xC0000080))) = _
    rw [ifOk_true (decide_eq_true ⟨hb, hi⟩), busWrite_mo s ini b i _ hb hi h hh hv, moCtlWrite_tx _ b i h31 h7 h30]
    rfl
  case arm =>
    obtain ⟨h31, h30, h7⟩ := bitW_rxArm v
    show Host.Outcome.next (s.ifOk (decide (b < 16 ∧ i < 128)) (s.busWrite ini _ 4 ((v ||| 0x80000080) &&& 0xBFFFFFFF))) = _
    rw [ifOk_true (decide_eq_true ⟨hb, hi⟩), busWrite_mo s ini b i _ hb hi h hh hv, moCtlWrite_rx _ b i h31 h7 h30]

end Sys2Proof.Machine
end

section
/-! What a bus's line does: a frame received, an error, and the ways back to the line (R142, R147 to R149, R157, R170,
R171). -/

namespace Sys2Proof.Machine

/-- A bus that detects rates or is on the line takes part in what happens there (R146, R147). -/
theorem not_offLine {s : State} {b : Nat} (h : s.busState b = 2 ∨ s.onLine b = true) :
    ¬(s.busState b ≠ 2 ∧ s.onLine b = false) := by
  rintro ⟨hd, ho⟩
  exact h.elim hd fun hl => Bool.false_ne_true (ho.symm.trans hl)

/-! ### A frame received (R134, R145, R170) -/

/-- A frame that ends on the line is shown to an open probe and ends the runs of errors. -/
def State.rxSeen (s : State) (b : Nat) (f : RxFrame) : State :=
  (s.probeSees b f).modFb b ({ · with lastErr := none, burstOpen := [] })

/-- The number that the frame takes (R145). -/
def State.rxSeq (s : State) (b : Nat) (f : RxFrame) : Nat := ((s.rxSeen b f).get ⟨Rg.FB_RX_SEQ b, 0, 16⟩ + 1) % 65536

/-- Whatever it is, the frame is numbered and counted. -/
def State.rxCounted (s : State) (b : Nat) (f : RxFrame) : State :=
  ((((s.rxSeen b f).put ⟨Rg.FB_RX_SEQ b, 0, 16⟩ (s.rxSeq b f)).add (Fd.FB_FRAME_CNT_RX b) 1).modFb b fun g => { g with
    frames := g.frames + 1 }).setErrCnt b f.tec f.rec_

/-- On a bus that is on the line and detects no rates, a frame in extended format that is not remote and bears an address goes,
where it passes, to the message objects and then to its receiver. -/
theorem fbReceive_of_onLine {s : State} {b : Nat} (f : RxFrame) (hd : s.busState b ≠ 2) (hl : s.onLine b = true) :
    s.fbReceive b f =
      if f.ext = false ∨ f.remote = true ∨ idAddr f.id = 0 then s.rxCounted b f
      else
        let q := (s.rxCounted b f).rxPass b f
        if q.1 = false then q.2
        else
          let w := q.2.moOffer b f (s.rxSeq b f) false
          if fromNode f.id = false then if w.transmits then w else w.heardModule b f else w.nodeRx b f (s.rxSeq b f) := by
  unfold State.fbReceive
  simp only [if_neg (not_offLine (.inr hl)), if_neg hd]
  rfl

/-- Only classes 0 and 2 are authenticated: a module's frame against the bus's own freshness value, a node's against the value
held for the node (R134, R135). -/
theorem rxPass_eq (s : State) (b : Nat) (f : RxFrame) :
    s.rxPass b f =
      if idClass f.id = 0 ∨ idClass f.id = 2 then
        if fromNode f.id = false then
          match s.rxAuth b f (s.get (Fd.FB_TX_FV_FV b)) with
          | (some c, w) => (true, (if w.transmits then w else w.put (Fd.FB_TX_FV_FV b) c).pairDiff b true)
          | (none, w) => (false, w.pairDiff b false)
        else match s.rxAuth b f (s.nodeAt (b * 256 + idAddr f.id)).dyn.rxFv with
          | (some c, w) =>
            (true, if (w.nodeAt (b * 256 + idAddr f.id)).ident.state = 0 then w
              else w.setDyn (b * 256 + idAddr f.id) { (w.nodeAt (b * 256 + idAddr f.id)).dyn with rxFv := c })
          | (none, w) => (false, w)
      else (true, s) := by
  by_cases hc : idClass f.id = 0 ∨ idClass f.id = 2
  · have hn : ¬(idClass f.id ≠ 0 ∧ idClass f.id ≠ 2) := fun ⟨h0, h2⟩ => hc.elim h0 h2
    exact (if_neg hn).trans (if_pos hc).symm
  · exact (if_pos (not_or.mp hc)).trans (if_neg hc).symm

/-- Settles O16: each command finds the bus in the state that it is for; that a bus without rate detection is ERROR_ACTIVE at once
after a storm hold, and that the data rate unheard is BITRATE's, are the model's choices (log entries 199 and 55). -/
theorem feederReceive : Obligations.FeederReceive := by
  unfold Obligations.FeederReceive
  refine ⟨fun s b f hr hb hd hl => ?received, fun s b code dataPhase id own tec rec_ hr hb hl hc => ?error,
    fun s b hr hb h5 => ?recovered, fun s b hr hb h6 => ?stormEnd, fun s b arb data hr hb h2 ha hd hf => ?rateFound,
    fun s b hr hb h2 => ?rateNone, fun s b hr hb h1 => ?integrated⟩
  case received =>
    show Host.Outcome.next (s.rt (s.ifOk (decide (b < 16)) (s.fbReceive b f))) = _
    rw [rt_bus hr hb, fbReceive_of_onLine f hd hl]
    simp only [rxPass_eq, beq_iff_eq]
    rfl
  case error =>
    show Host.Outcome.next (s.rt (s.ifOk (decide (b < 16)) (s.fbError b code dataPhase id own tec rec_))) = _
    unfold State.fbError
    rw [rt_bus hr hb, if_neg (not_offLine hl), if_neg hc]
  case recovered =>
    show Host.Outcome.next (s.rt (s.ifOk (decide (b < 16)) (s.fbRecovered b))) = _
    unfold State.fbRecovered
    rw [rt_bus hr hb, if_neg (not_not_intro h5)]
  case stormEnd =>
    show Host.Outcome.next (s.rt (s.ifOk (decide (b < 16)) (s.stormEnd b))) = _
    unfold State.stormEnd
    rw [rt_bus hr hb, if_neg (not_not_intro h6)]
  case rateFound =>
    have hguard : ¬(s.busState b ≠ 2 ∨ 2 < arb ∨ 2 < data ∨ (s.fbs b).clean < s.get (Fd.FB_DET_CFG_FRAMES b)) := by omega
    show Host.Outcome.next (s.rt (s.ifOk (decide (b < 16)) (s.rateDetected b arb data))) = _
    unfold State.rateDetected
    rw [rt_bus hr hb, if_neg hguard]
  case rateNone =>
    show Host.Outcome.next (s.rt (s.ifOk (decide (b < 16)) (s.rateNone b))) = _
    unfold State.rateNone
    rw [rt_bus hr hb, if_neg (not_not_intro h2)]
  case integrated =>
    show Host.Outcome.next (s.rt (s.ifOk (decide (b < 16)) (s.fbIntegrated b))) = _
    unfold State.fbIntegrated
    rw [rt_bus hr hb, if_pos h1]

end Sys2Proof.Machine
end

section
/-! The commands of the node table: their acceptance, and what each does to the entry at the edge (R168, R171, R176, R180,
R181, R186). -/

namespace Sys2Proof.Machine

/-! ### What a command does to an entry -/

/-- A guard asked for together with a further condition, and then alone, is the condition asked for within the guard. -/
theorem ite_of_stronger_guard {α : Type} {p q r : Prop} [Decidable p] [Decidable q] [Decidable r] (a b c : α) :
    (if p ∧ q ∧ r then a else if p ∧ q then b else c) = if p ∧ q then (if r then a else b) else c := by
  by_cases hpq : p ∧ q
  · have hr : p ∧ q ∧ r ↔ r := by rw [← and_assoc, and_iff_right hpq]
    simp only [hr, if_pos hpq]
  · have hn : ¬(p ∧ q ∧ r) := fun ⟨hp, hq, _⟩ => hpq ⟨hp, hq⟩
    rw [if_neg hn, if_neg hpq, if_neg hpq]

section
variable {s : State} {i : Nat} (h : ¬(i % 256 = 0 ∨ i % 256 = 255)) (arg uid : Nat)
include h

/-- Of the entries quarantined by command, UNQUARANTINE turns away those that would pass the limit of sensors (R180, log entry
206). -/
theorem nodeExec_unquarantine :
    s.nodeExec 5 i arg uid =
      if (s.nodeAt i).ident.state = 5 ∧ (s.nodeAt i).ident.qcause = 3 then
        if s.sensorsFull (s.nodeAt i).ident.kind then s.cmdDone 4
        else ((s.setIdent i { s.nodeAt i with ident := { (s.nodeAt i).ident with state := 4, qcause := 0 } }).setProg i
          { s.prog i with recom := false }).cmdDone 0
      else s.cmdDone 2 :=
  (if_neg h).trans (ite_of_stronger_guard _ _ _)

/-- MOVE is for a COMMISSIONED entry and an address with a FREE one (R186). -/
theorem nodeExec_move :
    s.nodeExec 8 i arg uid =
      if arg = 0 ∨ arg = 255 then s.cmdDone 8
      else if (s.nodeAt i).ident.state = 4 ∧ s.effState (i / 256 * 256 + arg) = 0
      then s.addJob (i / 256) { kind := .move arg, op := 1, addr := i % 256, args := [arg] } else s.cmdDone 2 := by
  have hguard : ((s.nodeAt i).ident.state = 4 ∧ s.effState (i / 256 * 256 + arg) = 0) ↔
      ¬((s.nodeAt i).ident.state ≠ 4 ∨ s.effState (i / 256 * 256 + arg) ≠ 0) := by omega
  simp only [hguard, ite_not]
  exact if_neg h

theorem nodeExec_wink :
    s.nodeExec 9 i arg uid =
      if arg = 0 ∨ 60 < arg then s.cmdDone 8
      else if (s.nodeAt i).ident.state = 4
      then s.addJob (i / 256) { kind := .wink, op := 3, addr := i % 256, args := [arg] } else s.cmdDone 2 := by
  rw [← ite_not (p := _ = 4)]
  exact if_neg h

end

/-- Settles O18: at a normal address each command comes to its own branch, and the guards of UNQUARANTINE, MOVE and WINK say the
same in another order than the model's. The states that allow a command, and FULL, are the model's choices (log entries 71, 204
and 206). -/
theorem nodeCommandsAct : Obligations.NodeCommandsAct := by
  unfold Obligations.NodeCommandsAct
  intro s i arg uid h0 h255
  have h : ¬(i % 256 = 0 ∨ i % 256 = 255) := not_or.mpr ⟨h0, h255⟩
  exact ⟨if_neg h, if_neg h, if_neg h, if_neg h, nodeExec_unquarantine h arg uid, if_neg h, if_neg h,
    nodeExec_move h arg uid, nodeExec_wink h arg uid⟩

/-! ### A command written to NODE.CMD -/

/-- A command written while one runs is turned away with RESULT 3 (R186, log entry 70). -/
theorem busWrite_nodeCmd_busy (s : State) (ini i arg op : Nat) (hi : i < 4096) (ha : arg < 256) (ho : op ≠ 0 ∧ op < 10)
    (h : s.takes ini Rg.NODE_CMD = true) (hb : s.flag Fd.NODE_CMD_STAT_BUSY = true) :
    s.busWrite ini Rg.NODE_CMD 4 (nodeWord i arg op) =
      ((s.begun ini Rg.NODE_CMD).put Fd.NODE_CMD_STAT_RESULT 3).toPartner Rg.NODE_CMD (nodeWord i arg op) := by
  obtain ⟨hop, -, -⟩ := nodeWord_fields i arg op hi ha (by omega)
  have hknown : ¬(op = 0 ∨ 9 < op) := by omega
  rw [busWrite_block s ini _ _ (by decide) h (nodeWord_noReserved i arg op hi ha (by omega))]
  refine congrArg (State.toPartner · _ _) ?_
  show (s.begun ini Rg.NODE_CMD).nodeCmdWrite (nodeWord i arg op) = _
  unfold State.nodeCmdWrite
  rw [hop, if_neg hknown, begun_flag, if_pos hb]

/-- Settles O17: the word written names the command, its entry and its argument, so that a transmitting module accepts it, and a
module of any role accepts IDENT; while a command runs any command is turned away, PLAN among them (log entries 70 and 71). -/
theorem nodeCommands : Obligations.NodeCommands := by
  unfold Obligations.NodeCommands
  have accepted (op arg : Nat) (ho : op ≠ 0 ∧ op < 10) (ha : arg < 256) (s : State) (ini i : Nat) (hi : i < 4096)
      (h : s.takes ini Rg.NODE_CMD = true) (hb : s.flag Fd.NODE_CMD_STAT_BUSY = false) (ht : s.transmits = true) :
      (.next (s.busWrite ini Rg.NODE_CMD 4 (nodeWord i arg op)) : Host.Outcome State Fault Refusal) =
        .next (((s.begun ini Rg.NODE_CMD).nodeAccept op i arg).toPartner Rg.NODE_CMD (nodeWord i arg op)) :=
    congrArg Host.Outcome.next (busWrite_nodeCmd s ini i arg op hi ha ho h hb (.inl ht))
  refine ⟨accepted 1 0 (by decide) (by decide), accepted 2 0 (by decide) (by decide), accepted 3 0 (by decide) (by decide),
    accepted 4 0 (by decide) (by decide), accepted 5 0 (by decide) (by decide), accepted 6 0 (by decide) (by decide),
    fun s ini i hi h hb => ?ident, fun s ini i arg hi ha => accepted 8 arg (by decide) ha s ini i hi,
    fun s ini i arg hi ha => accepted 9 arg (by decide) ha s ini i hi, fun s ini i hi h hb => ?busy⟩
  case ident =>
    show Host.Outcome.next (s.busWrite ini Rg.NODE_CMD 4 (nodeWord i 0 7)) = _
    rw [busWrite_nodeCmd s ini i 0 7 hi (by decide) (by decide) h hb (.inr rfl)]
  case busy =>
    show Host.Outcome.next (s.busWrite ini Rg.NODE_CMD 4 (nodeWord i 0 1)) = _
    rw [busWrite_nodeCmd_busy s ini i 0 1 hi (by decide) (by decide) h hb]

end Sys2Proof.Machine
end

section
/-! The timers of node management (R168 to R182, R343). -/

namespace Sys2Proof.Machine

/-- A command of the real-time complex that names one of the 4,096 entries of the node table takes effect. -/
theorem rt_node {s : State} {i : Nat} (hr : s.rtOn = true) (hi : i < 4096) (t : State) :
    s.rt (s.ifOk (decide (i < 4096)) t) = t := by
  rw [rt_on hr, ifOk_true (decide_eq_true hi)]

section
variable {s : State} {i : Nat}

theorem faultExpire_of_due {code : Nat} (h : (s.fault i code).running = true) (hu : (s.fault i code).until_ ≤ s.ns) :
    s.faultExpire i code =
      (let h := s.fault i code
       let on := (s.nodeAt i).dyn.fault.testBit (code - 1)
       let t := s.setFault i code { h with running := false }
       if on = h.shown then t.setFault i code FaultHold.init else t.faultEvent i code on h.chan h.detail h.alarm) :=
  if_neg (not_or.mpr ⟨ne_false_of_eq_true h, Nat.not_lt.mpr hu⟩)

/-- A command that waits for its acknowledgement is sent again 50 ticks after an attempt that was not the third (R168). -/
theorem cmdResend_of_due {b a op : Nat} {j : NodeJob}
    (hf : (s.fbs b).jobs.find? (fun j => j.waiting && j.addr == a && j.op == op) = some j)
    (hd : j.sentAt + 50 ≤ s.tick.num) (ht : j.tries < 3) :
    s.cmdResend b a op = s.modJob b op a j.tag fun j => { j with waiting := false } := by
  unfold State.cmdResend
  simp only [hf]
  rw [if_neg (Nat.not_lt.mpr hd), if_pos ht]

/-- The outcome of an open probe: a frame that has not ended fails it, else what it saw decides (R177, log entry 64). -/
def State.probeEnded (s : State) (b : Nat) (p : Probe) : ProbeSeen → State
  | .nothing => s
  | .found u => s.foundUid b u
  | .failed => s.modFb b fun f => { f with
      collided := min 65535 (f.collided + 1)
      stack := if p.m < 48 then (p.m + 1, p.pfx) :: (p.m + 1, p.pfx + 2 ^ (47 - p.m)) :: f.stack else f.stack }

theorem probeOutcome_of_open {b : Nat} (busy : Bool) {p : Probe} (h : (s.fbs b).probe = some p) :
    s.probeOutcome b busy =
      (s.modFb b ({ · with probe := none })).probeEnded b p (if busy then .failed else p.seen) := by
  unfold State.probeOutcome
  rw [h]
  rfl

theorem keyingTimeout_of_due (h : (s.nodeAt i).ident.state = 3) (hd : (s.prog i).keyTick + 500 ≤ s.tick.num) :
    s.keyingTimeout i = s.commFail i 4 := if_pos ⟨h, hd⟩

theorem recomRelease_of_due (h : (s.prog i).recom = true) (hn : (s.prog i).releases < 3)
    (hd : (s.prog i).releases = 0 ∨ (s.prog i).relAt + 50 ≤ s.tick.num) (ht : s.transmits = true) :
    s.recomRelease i =
      (s.setProg i { s.prog i with releases := (s.prog i).releases + 1, relAt := s.tick.num }).addJob (i / 256)
        { kind := .recom, op := 2, addr := i % 256 } := if_pos ⟨h, hn, hd, ht⟩

theorem recomFail_of_due (h : (s.prog i).recom = true) (hq : (s.nodeAt i).ident.state = 5)
    (hd : (s.prog i).recStart + 15000 ≤ s.tick.num) :
    s.recomFail i =
      (s.setProg i { s.prog i with recom := false }).nodeEv Ev.NODE_RECOM_FAIL i [(s.nodeAt i).ident.qcause] :=
  if_pos ⟨h, hq, hd⟩

theorem rolloutSwitch_of_due {b : Nat} (ho : (s.ground.oldKey.any fun e => e.1 == b) = true)
    (hd : ((s.fbs b).jobs.any fun j => j.kind == .rollout) = false ∨ (s.fbs b).keyAt + 3000 ≤ s.tick.num) :
    s.rolloutSwitch b = s.setFb b { s.fbs b with keySwitch := true } := if_pos ⟨ho, hd⟩

/-- The windows of saturation end once per second, for each COMMISSIONED sensor (R182). -/
theorem not_satWindowBarred (hw : s.tick.num % (1000 / s.pms) = 0) (hc : (s.nodeAt i).ident.state = 4)
    (hk : (s.nodeAt i).isSensor = true) (ha : (s.prog i).satAt ≠ s.tick.num) :
    ¬(s.tick.num % (1000 / s.pms) ≠ 0 ∨ (s.nodeAt i).ident.state ≠ 4 ∨ (s.nodeAt i).isSensor = false ∨
      (s.prog i).satAt = s.tick.num) := by
  simp only [hw, hc, hk, ha]
  decide

end

/-- The history is written at a quarter-hour later than the latest one recorded (R173). -/
theorem not_historyBarred {s : State} (hu : s.appUp = true) (hq : s.nv.hist.nodeAt < s.utc / 900) :
    ¬(s.pwr.appOn = false ∨ s.utc / 900 ≤ s.nv.hist.nodeAt) := by
  obtain ⟨-, ha⟩ := Bool.and_eq_true_iff.mp hu
  rintro (hoff | hle)
  · exact Bool.false_ne_true (hoff.symm.trans ha)
  · exact Nat.not_lt.mpr hle hq

/-- Settles O19: each timer has run out, so that no guard of its step turns the command away; the choices it rests on are log
entries 64, 65, 72, 73, 76, 77 and 82. -/
theorem nodeFaults : Obligations.NodeFaults := by
  unfold Obligations.NodeFaults
  refine ⟨fun s b hr hb => ?pollClosed, fun s i code hr hi h hu => ?faultHold, fun s b a op j hr hb ha hf hd ht => ?resend,
    fun s b busy p hr hb hp => ?probe, fun s i hr hi h hd => ?keyInstall, fun s i hr hi h hn hd ht => ?release,
    fun s i hr hi h hq hd => ?givenUp, fun s b hr hb ho hd => ?keySwitch, fun s i hr hi hw hc hk ha => ?satWindow,
    fun s hu hq => ?history⟩
  case pollClosed => exact congrArg Host.Outcome.next (rt_bus hr hb _)
  case faultHold =>
    show Host.Outcome.next (s.rt (s.ifOk (decide (i < 4096)) (s.faultExpire i code))) = _
    rw [rt_node hr hi, faultExpire_of_due h hu]
  case resend =>
    show Host.Outcome.next (s.rt (s.ifOk (decide (b < 16 ∧ a < 256)) (s.cmdResend b a op))) = _
    rw [rt_on hr, ifOk_true (decide_eq_true ⟨hb, ha⟩), cmdResend_of_due hf hd ht]
  case probe =>
    show Host.Outcome.next (s.rt (s.ifOk (decide (b < 16)) (s.probeOutcome b busy))) = _
    rw [rt_bus hr hb, probeOutcome_of_open busy hp]
    rfl
  case keyInstall =>
    show Host.Outcome.next (s.rt (s.ifOk (decide (i < 4096)) (s.keyingTimeout i))) = _
    rw [rt_node hr hi, keyingTimeout_of_due h hd]
  case release =>
    show Host.Outcome.next (s.rt (s.ifOk (decide (i < 4096)) (s.recomRelease i))) = _
    rw [rt_node hr hi, recomRelease_of_due h hn hd ht]
  case givenUp =>
    show Host.Outcome.next (s.rt (s.ifOk (decide (i < 4096)) (s.recomFail i))) = _
    rw [rt_node hr hi, recomFail_of_due h hq hd]
  case keySwitch =>
    show Host.Outcome.next (s.rt (s.ifOk (decide (b < 16)) (s.rolloutSwitch b))) = _
    rw [rt_bus hr hb, rolloutSwitch_of_due ho hd]
  case satWindow =>
    show Host.Outcome.next (s.rt (s.ifOk (decide (i < 4096)) (s.satWindow i))) = _
    rw [rt_node hr hi]
    exact congrArg Host.Outcome.next (if_neg (not_satWindowBarred hw hc hk ha))
  case history =>
    show Host.Outcome.next (s.app s.nodeHistory) = _
    rw [app_on hu]
    exact congrArg Host.Outcome.next (if_neg (not_historyBarred hu hq))

end Sys2Proof.Machine
end

section
/-! The window of the node table and the digital inputs (R183, R186, R407). -/

namespace Sys2Proof.Machine

/-! ### The window of the node table -/

/-- The registers of page NODE from 0x80 up show the selected entry (R186). -/
theorem block_nodeEnt (s : State) (ini k : Nat) : s.block ini Pg.node (0x80 + 4 * k) = s.entWord k := by
  have hk : (0x80 + 4 * k - 0x80) / 4 = k := by omega
  have hsys : ¬Pg.node = Pg.sys := by decide
  have htick : ¬Pg.node = Pg.tick := by decide
  have hplate : ¬Pg.node = Pg.plate := by decide
  have hgroup : ¬Pg.node = Pg.group := by decide
  have hcounts : ¬0x80 + 4 * k = 0x60 := by omega
  have hcounts2 : ¬0x80 + 4 * k = 0x64 := by omega
  have hent : 0x80 ≤ 0x80 + 4 * k := Nat.le_add_right _ _
  unfold State.block
  rw [if_neg hsys, if_neg htick, if_neg fun h => hplate h.1, if_neg fun h => hgroup h.1, if_neg fun h => hgroup h.1,
    if_neg fun h => hcounts h.2, if_neg fun h => hcounts2 h.2, if_pos ⟨rfl, hent⟩, hk]

theorem live_nodeEnt (s : State) (ini k : Nat) :
    s.live ini Pg.node (0x80 + 4 * k) = s.entWord k &&& BitVec.ofNat 32 (impBits Pg.node (0x80 + 4 * k)) := by
  have ho : ¬0x80 + 4 * k < 0x40 := by omega
  obtain ⟨pi, hp⟩ : ∃ pi, pageInfo Pg.node = some pi := ⟨_, rfl⟩
  have hf : ¬isFbmo Pg.node = true := by decide
  unfold State.live
  rw [if_neg hf, hp, ← block_nodeEnt s ini k]
  exact congrArg (· &&& BitVec.ofNat 32 (impBits Pg.node (0x80 + 4 * k))) (if_neg ho)

/-- What an initiator has latched does not bear on the selected entry as it stands. -/
theorem live_nodeEnt_acc (s : State) (x : AccSt) (ini k : Nat) :
    ({ s with acc := x } : State).live ini Pg.node (0x80 + 4 * k) = s.live ini Pg.node (0x80 + 4 * k) := by
  rw [live_nodeEnt, live_nodeEnt]
  rfl

/-- Registers latched with words that no latch bears on move the access side only. -/
theorem foldl_setLatch_acc (s : State) (ini p : Nat) (w : Nat → Word) (l : List Nat) :
    ∃ x, l.foldl (fun t k => t.setLatch ini p k (w k)) s = { s with acc := x } := by
  induction l generalizing s with
  | nil => exact ⟨s.acc, rfl⟩
  | cons k l ih =>
    obtain ⟨x, hx⟩ := ih (s.setLatch ini p k (w k))
    exact ⟨x, hx⟩

/-- A read of page NODE latches words and nothing else. -/
theorem takeSnapshot_node (s : State) (ini o : Nat) : ∃ x, s.takeSnapshot ini Pg.node o = { s with acc := x } :=
  foldl_setLatch_acc s ini Pg.node (s.live ini Pg.node) (latchSet Pg.node o)

/-- A read of a word of the window answers what is latched, or the entry as it stands, and moves the selection on after the
last word with AUTOINC (R186). -/
theorem busRead_nodeEnt {s : State} {ini k : Nat} (hk : k < 32) (h : s.reaches ini (Rg.NODE_ENT k) false = true) :
    s.busRead ini (Rg.NODE_ENT k) 4 =
      (let t := s.takeSnapshot ini Pg.node (0x80 + 4 * k)
       (t.entNext Pg.node (0x80 + 4 * k)).respond
         ((t.latched ini Pg.node (0x80 + 4 * k)).getD (s.live ini Pg.node (0x80 + 4 * k))) false) := by
  have hp : Rg.NODE_ENT k / 0x1000 = Pg.node := show (0x6080 + 4 * k) / 0x1000 = 0x06 by omega
  have ho : Rg.NODE_ENT k % 0x1000 = 0x80 + 4 * k := show (0x6080 + 4 * k) % 0x1000 = 0x80 + 4 * k by omega
  have hpop : s.popRead ini Pg.node (0x80 + 4 * k) = none := rfl
  have hkept : ∀ k < 32, clearedByRead Pg.node (0x80 + 4 * k) = false := by decide
  have hw : Rg.NODE_ENT k < 0x80000 := show 0x6080 + 4 * k < 0x80000 by omega
  obtain ⟨x, hx⟩ := takeSnapshot_node s ini (0x80 + 4 * k)
  rw [busRead_reaches s ini _ hw h]
  unfold State.readReg
  simp only [hp, ho, hpop, hkept k hk, hx, live_nodeEnt_acc, Bool.false_eq_true, if_false]

@[simp] theorem begun_nodeAt (s : State) (ini a i : Nat) : (s.begun ini a).nodeAt i = s.nodeAt i := by
  unfold State.nodeAt
  rw [begun_node]

/-- A write of ENT3 or ENT4 of an entry in use waits for the edge (R186). -/
theorem entWrite_of_inUse {s : State} {k : Nat} (v : Word) (hk : k = 3 ∨ k = 4)
    (hu : (s.nodeAt (s.get Fd.NODE_ENT_SEL_INDEX)).ident.state ≠ 0) (h0 : s.get Fd.NODE_ENT_SEL_INDEX % 256 ≠ 0)
    (h255 : s.get Fd.NODE_ENT_SEL_INDEX % 256 ≠ 255) :
    s.entWrite k v = s.nodeInput (.entWrite (s.get Fd.NODE_ENT_SEL_INDEX) k v) := if_pos ⟨hk, hu, h0, h255⟩

theorem busWrite_nodeEnt {s : State} {ini k : Nat} (v : Word) (hk : k = 3 ∨ k = 4)
    (h : s.takes ini (Rg.NODE_ENT k) = true) (hv : noReserved (Rg.NODE_ENT k) v = true) :
    s.busWrite ini (Rg.NODE_ENT k) 4 v =
      ((s.begun ini (Rg.NODE_ENT k)).entWrite k v).toPartner (Rg.NODE_ENT k) v := by
  rcases hk with rfl | rfl <;> exact busWrite_block s ini _ v (by decide) h hv

/-! ### The digital inputs -/

/-- `t` has the digital inputs' state and settings of `s`. -/
def SameInputs (s t : State) : Prop := t.io.di = s.io.di ∧ t.rd Rg.IO_DI_CFG = s.rd Rg.IO_DI_CFG

theorem SameInputs.refl (s : State) : SameInputs s s := ⟨rfl, rfl⟩

theorem SameInputs.trans {s t u : State} (h : SameInputs s t) (h' : SameInputs t u) : SameInputs s u :=
  ⟨h'.1.trans h.1, h'.2.trans h.2⟩

theorem sameInputs_put (s : State) {f : Fld} (v : Nat) (h : Rg.IO_DI_CFG ≠ f.addr) : SameInputs s (s.put f v) :=
  ⟨rfl, rd_put_ne s f v h⟩

theorem sameInputs_irq (s : State) (b : Nat) : SameInputs s (s.irq Pg.io b) := by
  refine ⟨?_, rd_irq_ne s b (by decide)⟩
  rw [irq_eq]

theorem sameInputs_raise (s : State) (ev : Ev) (src : Nat) (ps : List Nat) : SameInputs s (s.raise ev src ps) := by
  obtain ⟨⟨regs, iu, rcd, idx, e⟩, hrd⟩ := recorderOnly_raiseRec s (s.mkRec ev src ps)
  refine ⟨?_, hrd _ (by decide) (by decide)⟩
  rw [State.raise, e]

theorem sameInputs_ite {s t : State} (c : Prop) [Decidable c] (h : SameInputs s t) :
    SameInputs s (if c then t else s) := by
  split
  · exact h
  · exact SameInputs.refl s

/-- A bit of DI_STAT that changes with its interrupt and event leaves the inputs' levels and settings. -/
theorem sameInputs_flagged (s : State) {f : Fld} (v b : Nat) (ev : Ev) (ps : List Nat) (h : Rg.IO_DI_CFG ≠ f.addr) :
    SameInputs s (((s.put f v).irq Pg.io b).raise ev Pg.io ps) :=
  ((sameInputs_put s v h).trans (sameInputs_irq _ b)).trans (sameInputs_raise _ ev Pg.io ps)

/-- The level of an input against INVERT: what DEB takes while the input is enabled (R183). -/
def State.diActive (s : State) (i : Nat) : Bool := (s.di i).lvl != bitN (s.get Fd.IO_DI_CFG_INVERT) i

theorem SameInputs.diActive {s t : State} (h : SameInputs s t) (i : Nat) : t.diActive i = s.diActive i := by
  obtain ⟨hdi, hcfg⟩ := h
  have hget : t.get Fd.IO_DI_CFG_INVERT = s.get Fd.IO_DI_CFG_INVERT := congrArg (getF · 8 8) hcfg
  unfold State.diActive State.di
  rw [hdi, hget]

theorem diDebounced_eq (s : State) (i : Nat) :
    s.diDebounced i =
      if s.flag (diDeb i) = (s.diOn i && s.diActive i) then s.diEffect i
      else
        let y := s.put (diDeb i) (b2n (s.diOn i && s.diActive i))
        ((if s.diOn i && s.diActive i then y.diWake i else y).diEffect i).diDoor i := rfl

/-- The input with its raw level confirmed, as one more input of the tick (R183). -/
def State.diTaken (s : State) (i : Nat) : State :=
  (s.setDi i { s.di i with lvl := (s.di i).raw, changes := s.ms :: s.diRecent i, lastChange := s.ms }).countIn

theorem diActive_diTaken (s : State) (i : Nat) :
    (s.diTaken i).diActive i = ((s.di i).raw != bitN (s.get Fd.IO_DI_CFG_INVERT) i) := by
  have hdi : (s.diTaken i).di i =
      { s.di i with lvl := (s.di i).raw, changes := s.ms :: s.diRecent i, lastChange := s.ms } := Tab.get_set_same _ _ _ _
  unfold State.diActive
  rw [hdi]
  rfl

/-- STUCK clears with the change to inactive (R183). -/
def State.diUnstuck (s : State) (i : Nat) (act : Bool) : State :=
  if act = false ∧ s.flag (diStuck i) then ((s.put (diStuck i) 0).irq Pg.io 3).raise Ev.DI_CLEARED Pg.io [i, 1] else s

/-- CHATTER sets beyond the limit of confirmed changes within a window (R183). -/
def State.diChattered (s : State) (i n : Nat) : State :=
  if s.get Fd.IO_DI_CHATTER_N_N ≠ 0 ∧ s.get Fd.IO_DI_CHATTER_N_N < n ∧ s.flag (diChat i) = false then
    ((s.put (diChat i) 1).irq Pg.io 2).raise Ev.DI_CHATTER Pg.io [i, n]
  else s

theorem diCfg_ne_diStat : Rg.IO_DI_CFG ≠ Rg.IO_DI_STAT := by decide

theorem sameInputs_diUnstuck (s : State) (i : Nat) (act : Bool) : SameInputs s (s.diUnstuck i act) :=
  sameInputs_ite _ (sameInputs_flagged s 0 3 _ _ diCfg_ne_diStat)

theorem sameInputs_diChattered (s : State) (i n : Nat) : SameInputs s (s.diChattered i n) :=
  sameInputs_ite _ (sameInputs_flagged s 1 2 _ _ diCfg_ne_diStat)

/-- The flags and events of a confirmed change leave the level that DEB takes. -/
theorem diActive_confirmed (s : State) (i n : Nat) (act : Bool) :
    (((s.diTaken i).diUnstuck i act).diChattered i n).diActive i =
      ((s.di i).raw != bitN (s.get Fd.IO_DI_CFG_INVERT) i) := by
  have hsame : SameInputs (s.diTaken i) (((s.diTaken i).diUnstuck i act).diChattered i n) :=
    (sameInputs_diUnstuck _ i act).trans (sameInputs_diChattered _ i n)
  rw [hsame.diActive, diActive_diTaken]

/-- A confirmed change of an enabled input is taken, with what follows for STUCK, CHATTER and DEB in turn (R183). -/
theorem diConfirm_of_changed {s : State} {i : Nat} (hi : i < 8) (ho : s.diOn i = true) (hc : (s.di i).raw ≠ (s.di i).lvl) :
    s.diConfirm i =
      (((s.diTaken i).diUnstuck i ((s.di i).raw != bitN (s.get Fd.IO_DI_CFG_INVERT) i)).diChattered i
        (s.ms :: s.diRecent i).length).diDebounced i := by
  have hguard : ¬(8 ≤ i ∨ s.diOn i = false ∨ (s.di i).raw = (s.di i).lvl) :=
    not_or.mpr ⟨Nat.not_le.mpr hi, not_or.mpr ⟨ne_false_of_eq_true ho, hc⟩⟩
  exact if_neg hguard

theorem diStuckAt_of_due {s : State} {i : Nat} (ho : s.diOn i = true) (ht : s.get ⟨Rg.IO_DI_STUCK_T, 0, 16⟩ ≠ 0)
    (hd : s.flag (diDeb i) = true) (hs : s.flag (diStuck i) = false)
    (hl : (s.di i).lastChange + 1000 * s.get ⟨Rg.IO_DI_STUCK_T, 0, 16⟩ < s.ms) :
    s.diStuckAt i = (((s.put (diStuck i) 1).irq Pg.io 1).raise Ev.DI_STUCK Pg.io [i]).diEffect i :=
  if_pos ⟨ho, ht, hd, hs, hl⟩

theorem diChatterEnd_of_due {s : State} {i : Nat} (hc : s.flag (diChat i) = true)
    (hl : (s.di i).lastChange + 100 * s.get Fd.IO_DI_CHATTER_N_WIN ≤ s.ms) :
    s.diChatterEnd i = (((s.put (diChat i) 0).irq Pg.io 3).raise Ev.DI_CLEARED Pg.io [i, 2]).diEffect i :=
  if_neg (not_or.mpr ⟨ne_false_of_eq_true hc, Nat.not_lt.mpr hl⟩)

/-- A command of the real-time complex that names one of the 8 digital inputs takes effect. -/
theorem rt_di {s : State} {i : Nat} (hr : s.rtOn = true) (hi : i < 8) (t : State) :
    s.rt (s.ifOk (decide (i < 8)) t) = t := by
  rw [rt_on hr, ifOk_true (decide_eq_true hi)]

/-- Settles O20: an access that takes effect reaches the window, and each change of an input finds its guard met; neither STUCK nor
CHATTER bears on the level and INVERT from which DEB is taken. The choices it rests on are log entries 79 and 80. -/
theorem tableWindowAndInputs : Obligations.TableWindowAndInputs := by
  unfold Obligations.TableWindowAndInputs
  refine ⟨fun s ini k hk h => ?entRead, fun s ini k v hk h hv hu h0 h255 => ?entWrite, fun s i hr hi ho hc => ?confirmed,
    fun s i hr hi ho ht hd hs hl => ?stuck, fun s i hr hi hc hl => ?chatterEnd, fun s i level vioC hi => ?moved⟩
  case entRead =>
    show Host.Outcome.next (s.busRead ini (Rg.NODE_ENT (k % 32)) 4) = _
    rw [Nat.mod_eq_of_lt hk, busRead_nodeEnt hk h]
  case entWrite =>
    have hk32 : k % 32 = k := by omega
    show Host.Outcome.next (s.busWrite ini (Rg.NODE_ENT (k % 32)) 4 v) = _
    rw [hk32, busWrite_nodeEnt v hk h hv, entWrite_of_inUse v hk (by rwa [begun_nodeAt, begun_get]) (by rwa [begun_get])
      (by rwa [begun_get]), begun_get]
  case confirmed =>
    show Host.Outcome.next (s.rt (s.ifOk (decide (i < 8)) (s.diConfirm i))) = _
    rw [rt_di hr hi, diConfirm_of_changed hi ho hc, diDebounced_eq, diActive_confirmed]
    rfl
  case stuck =>
    show Host.Outcome.next (s.rt (s.ifOk (decide (i < 8)) (s.diStuckAt i))) = _
    rw [rt_di hr hi, diStuckAt_of_due ho ht hd hs hl]
  case chatterEnd =>
    show Host.Outcome.next (s.rt (s.ifOk (decide (i < 8)) (s.diChatterEnd i))) = _
    rw [rt_di hr hi, diChatterEnd_of_due hc hl]
  case moved => exact congrArg Host.Outcome.next (if_neg (Nat.not_le.mpr hi))

end Sys2Proof.Machine
end

section
/-! Feeder metering: the end of a window, the reads of its results and of a harmonic, the save of the energies and the feeder
history (R192, R196, R198, R208). -/

namespace Sys2Proof.Machine

/-! ### Reads of page MET -/

/-- Outside pages RTC, TICK and TIME a read latches its snapshot's registers as they stand, and draws nothing (R39). -/
theorem takeSnapshot_of_latchSet (s : State) (ini : Nat) {p o : Nat} (hr : p ≠ Pg.rtc) (hk : p ≠ Pg.tick)
    (ht : p ≠ Pg.time) : s.takeSnapshot ini p o = (latchSet p o).foldl (fun t k => t.setLatch ini p k (s.live ini p k)) s := by
  unfold State.takeSnapshot
  rw [if_neg fun h => hk h.1, if_neg fun h => ht h.1, if_neg fun h => hr h.1]

section
variable {s : State} {ini n : Nat} (hn : n < 4)
include hn

theorem isMet_met : isMet (Pg.met n) = true := decide_eq_true (show 0x30 ≤ 0x30 + n ∧ 0x30 + n ≤ 0x33 by omega)

/-- Each set's registers stand on its own page, in the order of set 0's. -/
theorem metReg_at {o : Nat} (ho : o < 0x1000) :
    0x30000 + o + n * 0x1000 < 0x80000 ∧ (0x30000 + o + n * 0x1000) / 0x1000 = Pg.met n ∧
      (0x30000 + o + n * 0x1000) % 0x1000 = o := by
  show _ ∧ _ = 0x30 + n ∧ _
  omega

/-- A read of WIN_CNT latches the window's results with it (R192, R208). -/
theorem busRead_winCnt (h : s.reaches ini (Rg.MET_WIN_CNT n) false = true) :
    s.busRead ini (Rg.MET_WIN_CNT n) 4 =
      (let t := (span 0x58 0xAC).foldl (fun t k => t.setLatch ini (Pg.met n) k (s.live ini (Pg.met n) k)) s
       t.respond ((t.latched ini (Pg.met n) 0x54).getD (t.live ini (Pg.met n) 0x54)) false) := by
  have hset : ∀ n < 4, latchSet (Pg.met n) 0x54 = span 0x58 0xAC ∧ splitLo (Pg.met n) 0x54 = true := by decide
  obtain ⟨hlatch, hlo⟩ := hset n hn
  obtain ⟨hw, hp, ho⟩ := metReg_at hn (show 0x54 < 0x1000 by decide)
  rw [busRead_reaches s ini _ hw h, readReg_splitLo s ini _ (by rwa [hp, ho]), hp, ho,
    takeSnapshot_of_latchSet s ini (show 0x30 + n ≠ 0x38 by omega) (show 0x30 + n ≠ 0x01 by omega)
      (show 0x30 + n ≠ 0x39 by omega), hlatch]

/-- A read of HARM_WIN takes the harmonic and advances the order (R208). -/
theorem popRead_harmWin : s.popRead ini (Pg.met n) 0xC0 = some (s.live ini (Pg.met n) 0xC0, s.metHarmNext n) := by
  have hother : ∀ q, 0x33 < q ∨ q < 0x30 → Pg.met n ≠ q := fun q hq => show 0x30 + n ≠ q by omega
  have hset : Pg.met n - 0x30 = n := Nat.add_sub_cancel_left 0x30 n
  unfold State.popRead
  rw [if_neg fun h => hother Pg.qmq (by decide) h.1, if_neg fun h => hother Pg.qmq (by decide) h.1,
    if_neg fun h => hother Pg.plate (by decide) h.1, if_neg fun h => hother Pg.ground (by decide) h.1,
    if_pos ⟨isMet_met hn, rfl⟩, hset]

theorem busRead_harmWin (h : s.reaches ini (Rg.MET_HARM_WIN n) false = true) :
    s.busRead ini (Rg.MET_HARM_WIN n) 4 = (s.metHarmNext n).respond (s.live ini (Pg.met n) 0xC0) false := by
  obtain ⟨hw, hp, ho⟩ := metReg_at hn (show 0xC0 < 0x1000 by decide)
  rw [busRead_reaches s ini _ hw h]
  unfold State.readReg
  simp only [hp, ho, popRead_harmWin hn]

/-- A window ends in a running set whose samples fit (R191, R192). -/
theorem not_windowBarred {w : MetWin} (hrun : s.flag (Fd.run (Pg.met n)) = true) (hfit : s.metFits n w.raw.length = true) :
    ¬(4 ≤ n || !s.flag (Fd.run (Pg.met n)) || !s.metFits n w.raw.length) = true := by
  have hset : decide (4 ≤ n) = false := decide_eq_false (Nat.not_le.mpr hn)
  rw [hset, hrun, hfit]
  decide

end

/-- The feeder history is written at a minute later than the latest one recorded (R198). -/
theorem not_feederHistoryBarred {s : State} (hu : s.appUp = true) (hq : s.nv.hist.feederAt < s.utc / 60) :
    ¬(s.pwr.appOn = false ∨ s.utc / 60 ≤ s.nv.hist.feederAt) := by
  obtain ⟨-, ha⟩ := Bool.and_eq_true_iff.mp hu
  exact not_or.mpr ⟨ne_false_of_eq_true ha, Nat.not_le.mpr hq⟩

/-- Settles O21: the window and the history find their guards met, and a read that meets no error reaches the set's snapshot or
its harmonic; the choices it rests on are log entries 82 and 85 to 88. -/
theorem metering : Obligations.Metering := by
  unfold Obligations.Metering
  refine ⟨fun s n w hr hn hrun hfit => ?window, fun s ini n hn h => ?winCnt, fun s ini n hn h => ?harmonic,
    fun s hr => ?energy, fun s hu hq => ?history⟩
  case window =>
    show Host.Outcome.next (s.rt (s.ifOk (decide (n < 4)) (s.metWindow n w))) = _
    rw [rt_on hr, ifOk_true (decide_eq_true hn)]
    exact congrArg Host.Outcome.next (if_neg (not_windowBarred hn hrun hfit))
  case winCnt =>
    show Host.Outcome.next (s.ifOk (decide (n < 4)) (s.busRead ini (Rg.MET_WIN_CNT n) 4)) = _
    rw [ifOk_true (decide_eq_true hn), busRead_winCnt hn h]
  case harmonic =>
    show Host.Outcome.next (s.ifOk (decide (n < 4)) (s.busRead ini (Rg.MET_HARM_WIN n) 4)) = _
    rw [ifOk_true (decide_eq_true hn), busRead_harmWin hn h]
    rfl
  case energy => exact congrArg Host.Outcome.next (rt_on hr _)
  case history =>
    show Host.Outcome.next (s.app s.feederHistory) = _
    rw [app_on hu]
    exact congrArg Host.Outcome.next (if_neg (not_feederHistoryBarred hu hq))

end Sys2Proof.Machine
end

section
/-! Trace and calibration: the start and the decision of a Trace, and the load and the commit of a calibration record (R202,
R203, R206). -/

namespace Sys2Proof.Machine

/-! ### Trace -/

/-- The word for TRACE.NODE_SEL that starts a Trace of a node. -/
def traceWord (node : Nat) : Word := BitVec.ofNat 32 (2 ^ 31 + node)

section
variable {node : Nat} (h : node < 4096)
include h

/-- It carries START (31) and the node (11:0). -/
theorem traceWord_fields : bitW (traceWord node) 31 = true ∧ getF (traceWord node) 0 12 = node := by
  have hv : (traceWord node).toNat = 2 ^ 31 + node := Nat.mod_eq_of_lt (by omega)
  refine ⟨?_, ?_⟩
  · show (traceWord node).toNat.testBit 31 = true
    rw [hv, Nat.testBit_two_pow_add_eq, Nat.testBit_lt_two_pow (by omega)]
    rfl
  · show (traceWord node).toNat >>> 0 % 2 ^ 12 = node
    rw [hv, Nat.shiftRight_zero]
    omega

theorem traceWord_noReserved : noReserved Rg.TRACE_NODE_SEL (traceWord node) = true := by
  have himp : ∀ k < 32, (~~~BitVec.ofNat 32 (impBits (Rg.TRACE_NODE_SEL / 0x1000) (Rg.TRACE_NODE_SEL % 0x1000))).getLsbD k =
      decide (12 ≤ k ∧ k < 31) := by decide
  refine beq_iff_eq.mpr (BitVec.eq_of_getLsbD_eq fun k hk => ?_)
  rw [BitVec.getLsbD_and, himp k hk]
  refine Eq.trans ?_ BitVec.getLsbD_zero.symm
  by_cases hres : 12 ≤ k ∧ k < 31
  · have hnode : node.testBit k = false :=
      Nat.testBit_lt_two_pow (Nat.lt_of_lt_of_le h (Nat.pow_le_pow_right Nat.two_pos hres.1))
    rw [traceWord, BitVec.getLsbD_ofNat, Nat.testBit_two_pow_add_gt hres.2, hnode, Bool.and_false, Bool.false_and]
  · rw [decide_eq_false hres, Bool.and_false]

end

@[simp] theorem begun_slot (s : State) (ini a k : Nat) : (s.begun ini a).slot k = s.slot k := by
  unfold State.slot
  rw [begun_met]

/-- START on a slot that does not run marks it wanted for its node (R202). -/
theorem traceSelWrite_start {s : State} {k node : Nat} (hn : node < 4096) (h : (s.slot k).state ≠ 1) :
    s.traceSelWrite k (traceWord node) = s.setSlot k { s.slot k with nodeSel := node, want := true, node := node } := by
  obtain ⟨hstart, hnode⟩ := traceWord_fields hn
  have hidle : ((s.slot k).state == 1) = false := beq_false_of_ne h
  unfold State.traceSelWrite
  simp only [hstart, hnode, hidle, Bool.and_false, Bool.true_or, Bool.false_eq_true, if_true, if_false]

theorem busWrite_traceStart {s : State} {ini node : Nat} (hn : node < 4096) (h : s.takes ini Rg.TRACE_NODE_SEL = true) :
    s.busWrite ini Rg.TRACE_NODE_SEL 4 (traceWord node) =
      ((s.begun ini Rg.TRACE_NODE_SEL).traceSelWrite (s.get ⟨Rg.TRACE_CODE_SEL, 0, 6⟩) (traceWord node)).toPartner
        Rg.TRACE_NODE_SEL (traceWord node) := by
  rw [busWrite_block s ini _ _ (by decide) h (traceWord_noReserved hn), ← begun_get s ini Rg.TRACE_NODE_SEL]
  rfl

/-- A slot is decided while it runs, at 128 ticks after its start or later (R203). -/
theorem not_decisionBarred {s : State} {k : Nat} (hrun : (s.slot k).state = 1) (hdue : (s.slot k).start + 128 ≤ s.tick.num) :
    ¬((s.slot k).state ≠ 1 ∨ s.tick.num < (s.slot k).start + 128) :=
  not_or.mpr ⟨not_not_intro hrun, Nat.not_lt.mpr hdue⟩

/-! ### Calibration -/

/-- The write of a channel that there is loads its record (R206). -/
theorem calSelWrite_of_channel (s : State) {v : Word} (h : getF v 0 5 ≤ 27) :
    s.calSelWrite v = (s.wr Rg.CAL_CH_SEL (BitVec.ofNat 32 (getF v 0 5))).calLoad := if_neg (Nat.not_lt.mpr h)

/-- The record that COMMIT takes from the staging registers for the channel selected (R206). -/
def State.calStaged (s : State) : CalRec where
  gain := s.get ⟨Rg.CAL_GAIN, 0, 24⟩
  phase := s.get ⟨Rg.CAL_PHASE, 0, 12⟩
  offset := s.get ⟨Rg.CAL_OFFSET, 0, 24⟩
  src := 2
  writes := min 65535 ((s.calRec (s.get ⟨Rg.CAL_CH_SEL, 0, 5⟩)).writes + 1)

@[simp] theorem begun_calStaged (s : State) (ini a : Nat) : (s.begun ini a).calStaged = s.calStaged := by
  unfold State.calStaged State.calRec
  simp only [begun_get, begun_nv]

/-- COMMIT of a gain other than 0, with no commit under way, stages the record and sets BUSY (R206). -/
theorem calCommit_of_idle {s : State} (hb : s.flag Fd.CAL_CAL_STAT_BUSY = false) (hg : s.get ⟨Rg.CAL_GAIN, 0, 24⟩ ≠ 0) :
    s.calCommit =
      (({ s with met := { s.met with calWr := some (s.get ⟨Rg.CAL_CH_SEL, 0, 5⟩, s.calStaged) } }.put
        Fd.CAL_CAL_STAT_BUSY 1).put Fd.CAL_CAL_STAT_RESULT 0).put Fd.CAL_CAL_STAT_CH (s.get ⟨Rg.CAL_CH_SEL, 0, 5⟩) := by
  unfold State.calCommit
  rw [hb, if_neg Bool.false_ne_true, if_neg hg]
  rfl

theorem busWrite_calCommit {s : State} {ini : Nat} (h : s.takes ini Rg.CAL_CAL_CMD = true) :
    s.busWrite ini Rg.CAL_CAL_CMD 4 1 = (s.begun ini Rg.CAL_CAL_CMD).calCommit.toPartner Rg.CAL_CAL_CMD 1 :=
  busWrite_block s ini _ 1 (by decide) h (by decide)

/-- Settles O22: a write that takes effect reaches the slot, the channel or the commit, and a decision that is due and a commit
under way find their guards met; the choices it rests on are log entries 89 to 91. -/
theorem traceAndCalibration : Obligations.TraceAndCalibration := by
  unfold Obligations.TraceAndCalibration
  refine ⟨fun s ini node hn h hidle => ?started, fun s k hr hk hrun hdue => ?decided, fun s ini v h hv hc => ?loaded,
    fun s ini h hb hg => ?staged, fun s c r hr hw => ?written⟩
  case started =>
    show Host.Outcome.next (s.busWrite ini Rg.TRACE_NODE_SEL 4 (traceWord (node % 4096))) = _
    rw [Nat.mod_eq_of_lt hn, busWrite_traceStart hn h, traceSelWrite_start hn (by rwa [begun_slot]), begun_slot]
    rfl
  case decided =>
    show Host.Outcome.next (s.rt (s.ifOk (decide (k < 64)) (s.traceDecide k))) = _
    rw [rt_on hr, ifOk_true (decide_eq_true hk)]
    exact congrArg Host.Outcome.next (if_neg (not_decisionBarred hrun hdue))
  case loaded =>
    show Host.Outcome.next (s.busWrite ini Rg.CAL_CH_SEL 4 v) = _
    rw [busWrite_block s ini _ v (by decide) h hv, ← calSelWrite_of_channel _ hc]
    rfl
  case staged =>
    show Host.Outcome.next (s.busWrite ini Rg.CAL_CAL_CMD 4 1) = _
    rw [busWrite_calCommit h, calCommit_of_idle (by rwa [begun_flag]) (by rwa [begun_get]), begun_get, begun_calStaged]
    rfl
  case written =>
    show Host.Outcome.next (s.rt s.calDone) = _
    rw [rt_on hr]
    unfold State.calDone
    simp only [hw]

end Sys2Proof.Machine
end

section
/-! The RTC: its second, the staged set, the read of its clock, the crystal, the wake timer and its discipline by a locked
source (R216 to R221). -/

namespace Sys2Proof.Machine

/-! ### Accesses of page RTC -/

/-- Page RTC lies outside the light path and the pair does not mirror it, so that a write that takes effect reaches the RTC
alone. -/
theorem busWrite_rtc {s : State} {ini a : Nat} (v : Word) (hb : blockReg a = true) (hp : a / 0x1000 = Pg.rtc)
    (h : s.takes ini a = true) (hv : noReserved a v = true) :
    s.busWrite ini a 4 v = (s.begun ini a).rtcWrite ini (a % 0x1000) v := by
  have hm : ∀ o, mirrored Pg.rtc o = false := fun _ => rfl
  rw [busWrite_block_local s ini a v hb h hv (by rw [hp]; decide) (by rw [hp, hm]), hp]
  rfl

/-- A read of SEC_LO takes the clock at an instant that no command carries, unless the crystal stands (log entry 26). -/
theorem takeSnapshot_rtcSecLo (s : State) (ini : Nat) :
    s.takeSnapshot ini Pg.rtc 0x40 =
      (let r := if s.rtc.stopped = none then s.rtcDraw else s
       (span 0x44 0x54).foldl (fun t k => t.setLatch ini Pg.rtc k (r.live ini Pg.rtc k)) r) := by
  have htick : ¬(Pg.rtc = Pg.tick ∧ 0x40 = 0x44) := by decide
  have htime : ¬(Pg.rtc = Pg.time ∧ 0x40 = 0x80) := by decide
  have hset : latchSet Pg.rtc 0x40 = span 0x44 0x54 := by decide
  unfold State.takeSnapshot
  by_cases hrun : s.rtc.stopped = none
  · rw [if_neg htick, if_neg htime, if_pos ⟨rfl, Or.inl rfl, hrun⟩, if_pos hrun, hset]
  · rw [if_neg htick, if_neg htime, if_neg fun hc => hrun hc.2.2, if_neg hrun, hset]

/-- A read of SEC_LO answers it as it stands at that instant, and latches the rest of the clock with it (R219). -/
theorem busRead_rtcSecLo {s : State} {ini : Nat} (h : s.reaches ini Rg.RTC_SEC_LO false = true) :
    s.busRead ini Rg.RTC_SEC_LO 4 =
      (let r := if s.rtc.stopped = none then s.rtcDraw else s
       let t := (span 0x44 0x54).foldl (fun t k => t.setLatch ini Pg.rtc k (r.live ini Pg.rtc k)) r
       t.respond ((t.latched ini Pg.rtc 0x40).getD (t.live ini Pg.rtc 0x40)) false) := by
  rw [busRead_reaches s ini _ (by decide) h, readReg_splitLo s ini _ (by decide)]
  exact congrArg (fun t : State => t.respond ((t.latched ini Pg.rtc 0x40).getD (t.live ini Pg.rtc 0x40)) false)
    (takeSnapshot_rtcSecLo s ini)

/-! ### The staged set (R220) -/

@[simp] theorem begun_rtcHeld (s : State) (ini a : Nat) : (s.begun ini a).rtcHeld = s.rtcHeld := by
  unfold State.rtcHeld State.timeCur
  rw [begun_get]

/-- The start of a write uses no HI word held. -/
@[simp] theorem begun_heldHi (s : State) (ini a i p o : Nat) : (s.begun ini a).heldHi i p o = s.heldHi i p o := by
  unfold State.begun State.useLock
  split <;> rfl

section
variable {s : State} (h : s.rtcHeld = false)
include h

theorem rtcStageSec_of_free (n : Nat) :
    s.rtcStageSec n = s.setStage { s.rtc.stage with sec := some (n % 2 ^ 40), date := none, time := none } :=
  if_neg (ne_true_of_eq_false h)

theorem rtcStageDate_of_free (v : Word) :
    s.rtcStageDate v = s.setStage { s.rtc.stage with sec := none, date := some (v &&& 0x0FFF0F1F) } :=
  if_neg (ne_true_of_eq_false h)

theorem rtcStageTime_of_free (v : Word) :
    s.rtcStageTime v = s.setStage { s.rtc.stage with sec := none, time := some (v &&& 0x001F3F3F) } :=
  if_neg (ne_true_of_eq_false h)

end

theorem rtcStageWday_of_day (s : State) {n : Nat} (h : n ≠ 7) :
    s.rtcStageWday n = s.setStage { s.rtc.stage with wday := some n } := if_neg h

/-! ### The crystal and the wake timer (R217, R221) -/

theorem crystalStart_of_stopped {s : State} {c : Nat} (h : s.rtc.stopped = some c) :
    s.crystalStart = { s with rtc := { s.rtc with
      stopped := none, secAt := s.rtcNow - c * 1000000000 / 32768
      wakeHeld := none, wakeAt := s.rtcNow - s.rtc.wakeHeld.getD 0 * 3906250 } } := by
  unfold State.crystalStart
  simp only [h]

/-- The timer expires while it and the crystal run, in the light path by the end of the running tick (R221). -/
theorem not_wakeBarred {s : State} (hon : s.wakeOn = true) (hrun : s.rtc.stopped = none)
    (hdue : s.pwr.light = false ∨ s.rtc.wakeAt + s.get Fd.RTC_WAKE_CFG_COUNT * 3906250 ≤ s.rtcNow + 1000000 * s.pms) :
    ¬(!s.wakeOn || s.rtc.stopped.isSome || (s.pwr.light &&
      decide (s.rtcNow + 1000000 * s.pms < s.rtc.wakeAt + s.get Fd.RTC_WAKE_CFG_COUNT * wakeStep))) = true := by
  have hnear : (s.pwr.light &&
      decide (s.rtcNow + 1000000 * s.pms < s.rtc.wakeAt + s.get Fd.RTC_WAKE_CFG_COUNT * wakeStep)) = false := by
    rcases hdue with hdark | hle
    · rw [hdark, Bool.false_and]
    · rw [decide_eq_false (Nat.not_lt.mpr hle), Bool.and_false]
  rw [hnear, hon, hrun]
  decide

/-! ### Discipline (R216) -/

/-- The boundary moved by at most two cycles, and a second that is not the disciplined one staged for the next boundary. -/
def State.rtcMoved (s : State) (cyc : Int) : State :=
  let t : State := { s with rtc := { s.rtc with
    secAt := ((s.rtc.secAt : Int) + max (-2) (min cyc 2) * 1000000000 / 32768).toNat } }
  let utc := (((t.tai + t.tick.ofs : Nat) - (t.rtcNow - t.rtc.secAt : Nat) + 500000000 : Int) / 1000000000 - t.utcOfs -
    946684800).toNat
  if t.rtcSec = utc then t else t.setStage { t.rtc.stage with engine := some ((utc + 1) % 2 ^ 40) }

/-- It leaves TRIM with its AUTO. -/
theorem flag_rtcMoved (s : State) (cyc : Int) : (s.rtcMoved cyc).flag Fd.RTC_TRIM_AUTO = s.flag Fd.RTC_TRIM_AUTO := by
  unfold State.rtcMoved
  extract_lets t utc
  split
  · rfl
  · exact flag_put_ne _ _ _ _ (by decide)

section
variable {s : State} (hcur : s.timeCur ≤ 2) (hlock : s.get Fd.TIME_SRC_STAT_STATE = 3) (hrun : s.rtc.stopped = none)
  (cyc : Int)
include hcur hrun

/-- The hour's measurement reaches Burnish with AUTO. -/
theorem rtcHour_some (x : Int) :
    s.rtcHour cyc (some x) =
      if s.flag Fd.RTC_TRIM_AUTO then (s.rtcDiscipline cyc (some x)).ageMeasure 9 (-x) else s.rtcDiscipline cyc (some x) := by
  have hguard : (2 < s.timeCur ∨ s.rtc.stopped.isSome = true ∨ s.flag Fd.RTC_TRIM_AUTO = false) ↔
      ¬s.flag Fd.RTC_TRIM_AUTO = true := by
    rw [hrun]
    simp [Nat.not_lt.mpr hcur]
  unfold State.rtcHour
  simp only [hguard, ite_not]

include hlock

theorem not_disciplineBarred :
    ¬(2 < s.timeCur ∨ s.get Fd.TIME_SRC_STAT_STATE ≠ 3 ∨ s.rtc.stopped.isSome = true) := by
  rintro (hgt | hne | hstop)
  · exact Nat.not_lt.mpr hcur hgt
  · exact hne hlock
  · exact Option.not_isSome_iff_eq_none.mpr hrun hstop

theorem rtcDiscipline_none : s.rtcDiscipline cyc none = s.rtcMoved cyc := if_neg (not_disciplineBarred hcur hlock hrun)

theorem rtcDiscipline_some (x : Int) :
    s.rtcDiscipline cyc (some x) =
      if s.flag Fd.RTC_TRIM_AUTO then (s.rtcMoved cyc).putInt Fd.RTC_TRIM_TRIM (trimClamp x) else s.rtcMoved cyc := by
  rw [← flag_rtcMoved s cyc]
  exact if_neg (not_disciplineBarred hcur hlock hrun)

end

/-- Settles O23: a write that takes effect reaches the RTC with the staged set as it stood, a read draws its instant first, and
the crystal, the timer and the discipline find their guards met. The choices it rests on are log entries 26 and 96 to 99. -/
theorem realTimeClock : Obligations.RealTimeClock := by
  unfold Obligations.RealTimeClock
  refine ⟨fun s dev hrun => ?second, fun s ini v hfree => ⟨fun h hv => ?date, fun h hv => ?time, fun h hv h7 => ?weekday,
    fun h hv => ?sec⟩, fun s ini h => ?cancelled, fun s ini h => ?read, fun s hrun => ?stopped, fun s c hc => ?started,
    fun s hon hrun hdue => ?expired, fun s ini v h hv => ?wakeCfg, fun s cyc trim hr hcur hlock hrun => ?disciplined⟩
  case second =>
    exact congrArg Host.Outcome.next (if_neg (Option.not_isSome_iff_eq_none.mpr hrun))
  case date =>
    show Host.Outcome.next (s.busWrite ini Rg.RTC_CAL_DATE 4 v) = _
    rw [busWrite_rtc v (by decide) (by decide) h hv, ← begun_rtc s ini Rg.RTC_CAL_DATE]
    exact congrArg Host.Outcome.next (rtcStageDate_of_free (by rwa [begun_rtcHeld]) v)
  case time =>
    show Host.Outcome.next (s.busWrite ini Rg.RTC_CAL_TIME 4 v) = _
    rw [busWrite_rtc v (by decide) (by decide) h hv, ← begun_rtc s ini Rg.RTC_CAL_TIME]
    exact congrArg Host.Outcome.next (rtcStageTime_of_free (by rwa [begun_rtcHeld]) v)
  case weekday =>
    show Host.Outcome.next (s.busWrite ini Rg.RTC_WEEKDAY 4 v) = _
    rw [busWrite_rtc v (by decide) (by decide) h hv, ← begun_rtc s ini Rg.RTC_WEEKDAY]
    exact congrArg Host.Outcome.next (rtcStageWday_of_day _ h7)
  case sec =>
    show Host.Outcome.next (s.busWrite ini Rg.RTC_SEC_LO 4 v) = _
    rw [busWrite_rtc v (by decide) (by decide) h hv, ← begun_rtc s ini Rg.RTC_SEC_LO, ← begun_heldHi s ini Rg.RTC_SEC_LO,
      ← begun_get s ini Rg.RTC_SEC_LO]
    exact congrArg (fun t : State => Host.Outcome.next (t.unhold ini Pg.rtc 0x44))
      (rtcStageSec_of_free (by rwa [begun_rtcHeld]) _)
  case cancelled =>
    exact congrArg Host.Outcome.next (busWrite_rtc 1 (by decide) (by decide) h (by decide))
  case read => exact congrArg Host.Outcome.next (busRead_rtcSecLo h)
  case stopped =>
    show Host.Outcome.next s.crystalStop = _
    unfold State.crystalStop
    rw [if_neg (Option.not_isSome_iff_eq_none.mpr hrun)]
  case started => exact congrArg Host.Outcome.next (crystalStart_of_stopped hc)
  case expired => exact congrArg Host.Outcome.next (if_neg (not_wakeBarred hon hrun hdue))
  case wakeCfg => exact congrArg Host.Outcome.next (busWrite_rtc v (by decide) (by decide) h hv)
  case disciplined =>
    show Host.Outcome.next (s.rt (s.rtcHour cyc trim)) = _
    rw [rt_on hr]
    cases trim with
    | none => exact congrArg Host.Outcome.next (rtcDiscipline_none hcur hlock hrun cyc)
    | some x =>
      rw [rtcHour_some hcur hrun, rtcDiscipline_some hcur hlock hrun]
      split <;> rfl

end Sys2Proof.Machine
end

section
/-! The time sources: PTP messages and domains, GNSS, the selection, steps, leap seconds, PPS_OUT and the read of NOW (R213, R222
to R226, R229, R232, R234). -/

namespace Sys2Proof.Machine

/-! ### What a domain hears (R222) -/

section
variable {s : State} {k port : Nat} {h : PtpHdr}

theorem ptpMaster_of_hears (hh : s.ptpHears k port h = true) :
    s.ptpMaster k port h = ((s.ptp k).master == some h.src) := by
  unfold State.ptpMaster
  rw [hh, Bool.true_and]

theorem ptpMaster_of_unheard (hh : s.ptpHears k port h = false) : s.ptpMaster k port h = false := by
  unfold State.ptpMaster
  rw [hh, Bool.false_and]

/-- The message of a heard master is not turned away. -/
theorem not_masterBarred (hh : s.ptpHears k port h = true) (hm : (s.ptp k).master = some h.src) :
    ¬(!s.ptpMaster k port h) = true := by
  rw [ptpMaster_of_hears hh, hm, beq_self_eq_true]
  decide

/-- A message that the domain does not take changes nothing. -/
theorem ptp_of_unheard (hh : s.ptpHears k port h = false) (seq sec ns : Nat) (two : Bool) (corr rx : Int) (m : AnnounceMsg) :
    s.ptpSync k port seq h two sec ns corr rx = s ∧ s.ptpFollowUp k port seq h sec ns corr = s ∧
      s.ptpDelayResp k port seq h sec ns corr = s ∧ s.ptpAnnounce k port h m = s := by
  have hm : (!s.ptpMaster k port h) = true := by rw [ptpMaster_of_unheard hh]; rfl
  exact ⟨if_pos (by rw [hm, Bool.true_or, Bool.true_or]), if_pos hm, if_pos hm, if_pos (by rw [hh]; rfl)⟩

end

/-! ### Measurements over PTP (R223) -/

@[simp] theorem ptp_setPtp_same (s : State) (k : Nat) (d : PtpDom) : (s.setPtp k d).ptp k = d := Tab.get_set_same _ _ _ _

section
variable {s : State} {k port : Nat} {h : PtpHdr} (hh : s.ptpHears k port h = true)
include hh

/-- A Sync counts from the selected master and with logSyncInterval within −7 to +1 (R222). -/
theorem ptpSync_of_hears (seq : Nat) (two : Bool) (sec ns : Nat) (corr rx : Int) :
    s.ptpSync k port seq h two sec ns corr rx =
      if (s.ptp k).master = some h.src ∧ -7 ≤ h.interval ∧ h.interval ≤ 1 then
        let t := s.setPtp k { s.ptp k with transport := h.carrier }
        if two then t.setPtp k { t.ptp k with sync := some (seq, rx, corr) } else t.ptpOffset k (s.ptpNs sec ns) corr rx
      else s := by
  have hguard : (!s.ptpMaster k port h || decide (h.interval < -7) || decide (1 < h.interval)) = true ↔
      ¬((s.ptp k).master = some h.src ∧ -7 ≤ h.interval ∧ h.interval ≤ 1) := by
    rw [ptpMaster_of_hears hh]
    simp only [Bool.or_eq_true, Bool.not_eq_true', beq_eq_false_iff_ne, decide_eq_true_eq, Decidable.not_and_iff_or_not,
      Int.not_le, or_assoc, ne_eq]
  unfold State.ptpSync
  simp only [hguard, ite_not]
  rfl

variable (hm : (s.ptp k).master = some h.src)
include hm

/-- The Follow_Up of the Sync that waits completes it. -/
theorem ptpFollowUp_of_sync {q : Nat} {rx c : Int} (hs : (s.ptp k).sync = some (q, rx, c)) (seq sec ns : Nat) (corr : Int) :
    s.ptpFollowUp k port seq h sec ns corr =
      if q = seq then s.ptpOffset k (s.ptpNs sec ns) (c + corr) rx else s := by
  unfold State.ptpFollowUp
  rw [if_neg (not_masterBarred hh hm), hs]

/-- The Delay_Resp to the request that waits, after a Sync, gives the mean path delay. -/
theorem ptpDelayResp_of_req {q : Nat} {t3 ms : Int} (hr : (s.ptp k).req = some (q, t3)) (ht : (s.ptp k).toSlave = some ms)
    (seq sec ns : Nat) (corr : Int) :
    s.ptpDelayResp k port seq h sec ns corr =
      if q = seq then s.setPtp k { s.ptp k with req := none, delay := (ms + (s.ptpNs sec ns - t3 - corr)) / 2 } else s := by
  unfold State.ptpDelayResp
  rw [if_neg (not_masterBarred hh hm)]
  simp only [hr, ht]

end

/-! ### Masters (R223, R232) -/

/-- An announced master is renewed or taken, and the selected one is lost when its class is no longer accepted (log entry
208). -/
theorem ptpAnnounce_of_hears {s : State} {k port : Nat} {h : PtpHdr} (hh : s.ptpHears k port h = true) (m : AnnounceMsg) :
    s.ptpAnnounce k port h m =
      if s.domMax k < m.cls then
        if (s.ptp k).master = some h.src then (s.ptpNoMaster k).timeReselect else s
      else if m.best = false then s
      else
        let mine := (s.ptp k).master == some h.src
        let d := if mine then s.ptp k else { PtpDom.init with out := (s.ptp k).out }
        let t := s.setPtp k { d with
          master := some h.src, dom := h.dom, utcOfs := m.utcOfs, utcValid := m.utcValid
          leap := if m.leap61 then 1 else if m.leap59 then 2 else 0 }
        let u := if k = 0 then (t.put Fd.TIME_DOM_A_STAT_CLASS m.cls).put Fd.TIME_DOM_A_STAT_PORT port
          else (t.put Fd.TIME_DOM_B_STAT_CLASS m.cls).put Fd.TIME_DOM_B_STAT_PORT port
        if mine then u.updUtc else (if u.srcState k = 5 then u else u.put (srcField k) 2).timeReselect := by
  unfold State.ptpAnnounce
  simp only [hh, Bool.not_true, Bool.false_eq_true, if_false, Bool.not_eq_true', beq_iff_eq]

/-- A Delay_Req leaves over the transport of its domain's master while the time engine and the network run. -/
theorem not_delayReqBarred {s : State} {k : Nat} (hn : s.netUp = true) (hk : k ≤ 1) (ho : s.time.on = true)
    (hm : (s.ptp k).master.isSome = true) :
    ¬(1 < k || !s.time.on || !s.pwr.netOn || (s.ptp k).master.isNone) = true := by
  obtain ⟨-, hnet⟩ := Bool.and_eq_true_iff.mp hn
  rw [decide_eq_false (Nat.not_lt.mpr hk), ho, hnet, Option.isNone_eq_false_iff.mpr hm]
  decide

/-- CLASS stands beside STATE in DOM_A_STAT and in DOM_B_STAT. -/
theorem srcState_put_class (s : State) {k : Nat} (hk : k ≤ 1) (v : Nat) :
    (s.put (if k = 0 then Fd.TIME_DOM_A_STAT_CLASS else Fd.TIME_DOM_B_STAT_CLASS) v).srcState k = s.srcState k := by
  rcases Nat.le_one_iff_eq_zero_or_eq_one.mp hk with rfl | rfl
  · exact get_put_beside s _ _ v rfl (by decide) (by decide)
  · exact get_put_beside s _ _ v rfl (by decide) (by decide)

/-- A domain that is neither off nor in FAULT goes to NO_MASTER. -/
theorem ptpNoMaster_of_running {s : State} {k : Nat} (hk : k ≤ 1) (h0 : s.srcState k ≠ 0) (h5 : s.srcState k ≠ 5) :
    s.ptpNoMaster k =
      ((s.setPtp k { PtpDom.init with transport := (s.ptp k).transport, out := (s.ptp k).out }).put
        (if k = 0 then Fd.TIME_DOM_A_STAT_CLASS else Fd.TIME_DOM_B_STAT_CLASS) 255).put (srcField k) 1 := by
  have hguard : ¬(s.srcState k = 0 ∨ s.srcState k = 5) := not_or.mpr ⟨h0, h5⟩
  unfold State.ptpNoMaster
  simp only [srcState_put_class _ hk]
  exact if_neg hguard

theorem ptpTimeout_of_running {s : State} {k : Nat} (hk : k ≤ 1) (ho : s.time.on = true) (h0 : s.srcState k ≠ 0)
    (h5 : s.srcState k ≠ 5) : s.ptpTimeout k = (s.ptpNoMaster k).timeReselect := by
  unfold State.ptpTimeout
  rw [decide_eq_false (Nat.not_lt.mpr hk), ho, beq_false_of_ne h0, beq_false_of_ne h5, if_neg (by decide)]

/-! ### GNSS (R224) -/

section
variable {s : State} (h : s.gnssOn = true)
include h

theorem not_gnssBarred : ¬(!s.gnssOn) = true := by rw [h]; decide

/-- A valid RMC with status A or ZDA is paired with the edge before it, or waits for the edge after it. -/
theorem gnssSentence_of_valid {kind : Nat} (hk : kind = 0 ∨ kind = 2) (sec : Nat) :
    s.gnssSentence kind sec true =
      if s.flag Fd.TIME_GNSS_CFG_PPS_REL then
        match s.time.gnss.edge with
        | some e => s.gnssPair sec e
        | none => s
      else s.setGnss { s.time.gnss with named := some sec } := by
  unfold State.gnssSentence
  rw [if_neg (not_gnssBarred h), if_neg (by decide), if_neg (by omega)]
  exact if_neg (by omega)

end

/-! ### Selection, PPS_OUT and NOW (R225, R226, R234, R237) -/

/-- A source of higher priority than the one followed takes over once it is eligible, outside FORCE (R225). -/
theorem srcRevert_of_preferred {s : State} {k : Nat} (hf : s.flag Fd.TIME_SRC_SEL_FORCE = false) (hc : s.timeCur ≤ 2)
    (hok : s.srcOk k = true) (hne : k ≠ s.timeCur) (hmem : k ∈ s.srcOrder)
    (hlt : s.srcOrder.idxOf k < s.srcOrder.idxOf s.timeCur) : s.srcRevert k = (s.timeSelect k).updUtc := by
  have hguard : ¬(s.flag Fd.TIME_SRC_SEL_FORCE = true ∨ 2 < s.timeCur ∨ s.srcOk k = false ∨ k = s.timeCur ∨
      k ∉ s.srcOrder) := by
    rintro (hforce | hgt | hbad | heq | hout)
    · exact ne_false_of_eq_true hforce hf
    · exact Nat.not_lt.mpr hc hgt
    · exact ne_false_of_eq_true hok hbad
    · exact hne heq
    · exact hout hmem
  unfold State.srcRevert
  rw [if_neg hguard, if_pos hlt]

/-- The pulse of a second goes out by PPS_CFG, half a second or more after the one before (R234, log entry 100). -/
theorem ppsOut_of_due {s : State} (hen : s.flag Fd.TIME_PPS_CFG_EN = true)
    (hl : s.flag Fd.TIME_PPS_CFG_LOCKED_ONLY = false ∨ s.get Fd.TIME_SRC_STAT_STATE = 3)
    (hfar : ∀ t, s.time.ppsAt = some t → t + 500000000 ≤ s.ns) :
    s.ppsOut = { s with time := { s.time with ppsAt := some s.ns, ppsCnt := s.time.ppsCnt + 1 } } := by
  have hlock : (!s.flag Fd.TIME_PPS_CFG_LOCKED_ONLY || s.get Fd.TIME_SRC_STAT_STATE == 3) = true := by
    rw [Bool.or_eq_true, Bool.not_eq_true', beq_iff_eq]
    exact hl
  unfold State.ppsOut
  rw [hen, hlock]
  cases hat : s.time.ppsAt with
  | none => rfl
  | some t => simp only [decide_eq_true (hfar t hat), Bool.and_self, if_true]

/-- A read of NOW latches its three words at one instant, for its initiator (R237, log entry 26). -/
theorem busRead_timeNow {s : State} {ini : Nat} (h : s.reaches ini Rg.TIME_NOW_NS false = true) :
    s.busRead ini Rg.TIME_NOW_NS 4 =
      (let t := s.takeSnapshot ini Pg.time 0x80
       t.respond ((t.latched ini Pg.time 0x80).getD (t.live ini Pg.time 0x80)) false) := by
  rw [busRead_reaches s ini _ (by decide) h, readReg_splitLo s ini _ (by decide)]
  rfl

/-- Settles O24: each message comes to both domains in turn, a domain acts on what it hears, and the other commands find their
guards met. The choices it rests on are log entries 26, 92 to 95, 100, 101 and 208. -/
theorem timeSources : Obligations.TimeSources := by
  unfold Obligations.TimeSources
  refine ⟨fun s h port seq two sec ns corr rx hn => ?sync, fun s h port seq sec ns corr hn => ?followUp,
    fun s h port m hn => ?announce, fun s h port seq sec ns corr hn => ?delayResp, fun s k port h => ?hears,
    fun s k port seq h two sec ns corr rx hh => ?synced, fun s k port seq q sec ns h corr rx c hh hm hs => ?followed,
    fun s k port seq q sec ns h corr t3 ms hh hm hr ht => ?delayed, fun s k port h m hh => ptpAnnounce_of_hears hh m,
    fun s k port seq sec ns h two corr rx m hh => ptp_of_unheard hh seq sec ns two corr rx m,
    fun s k seq t hn hk ho hm => ?requested, fun s k hr hk ho h0 h5 => ?timedOut, fun s kind sec hr hg hk => ?sentence,
    fun s t hr hg => ?edge, fun s reason hr h2 => ?gnssLost, fun s k hr hf hc hok hne hmem hlt => ?reverted,
    fun s hr hc hmax => ?fallback, fun s w hr hw => ?waited, fun s hr hp => ?leap, fun s hr hen hl hfar => ?pulse,
    fun s ini h => ?now⟩
  case sync => exact congrArg Host.Outcome.next (nw_on hn _)
  case followUp => exact congrArg Host.Outcome.next (nw_on hn _)
  case announce => exact congrArg Host.Outcome.next (nw_on hn _)
  case delayResp => exact congrArg Host.Outcome.next (nw_on hn _)
  case hears =>
    unfold State.ptpHears PtpHdr.taken
    simp only [Bool.and_assoc]
  case synced =>
    rw [ptpSync_of_hears hh]
    simp only [State.ptpOffset, ptp_setPtp_same]
    rfl
  case followed =>
    rw [ptpFollowUp_of_sync hh hm hs]
    rfl
  case delayed =>
    rw [ptpDelayResp_of_req hh hm hr ht]
    rfl
  case requested =>
    show Host.Outcome.next (s.nw (s.ptpDelayReq k seq t)) = _
    rw [nw_on hn]
    exact congrArg Host.Outcome.next (if_neg (not_delayReqBarred hn hk ho hm))
  case timedOut =>
    show Host.Outcome.next (s.rt (s.ptpTimeout k)) = _
    rw [rt_on hr, ptpTimeout_of_running hk ho h0 h5, ptpNoMaster_of_running hk h0 h5]
  case sentence =>
    show Host.Outcome.next (s.rt (s.gnssSentence kind sec true)) = _
    rw [rt_on hr]
    exact congrArg Host.Outcome.next (gnssSentence_of_valid hg hk sec)
  case edge =>
    show Host.Outcome.next (s.rt (s.ppsIn t)) = _
    rw [rt_on hr]
    exact congrArg Host.Outcome.next (if_neg (not_gnssBarred hg))
  case gnssLost =>
    show Host.Outcome.next (s.rt (s.gnssDrop reason)) = _
    rw [rt_on hr]
    exact congrArg Host.Outcome.next (if_neg (Nat.not_le.mpr h2))
  case reverted =>
    show Host.Outcome.next (s.rt (s.srcRevert k)) = _
    rw [rt_on hr, srcRevert_of_preferred hf hc hok hne hmem hlt]
  case fallback =>
    show Host.Outcome.next (s.rt s.holdExpire) = _
    rw [rt_on hr]
    exact congrArg Host.Outcome.next (if_pos ⟨hc, hmax⟩)
  case waited =>
    show Host.Outcome.next (s.rt s.stepWaitEnd) = _
    unfold State.stepWaitEnd
    rw [rt_on hr, hw]
  case leap =>
    show Host.Outcome.next (s.rt s.timeLeap) = _
    rw [rt_on hr]
    exact congrArg Host.Outcome.next (if_neg (by omega))
  case pulse =>
    show Host.Outcome.next (s.rt s.ppsOut) = _
    rw [rt_on hr, ppsOut_of_due hen hl hfar]
  case now => exact congrArg Host.Outcome.next (busRead_timeNow h)

end Sys2Proof.Machine
end

section
/-! The schedule engine: the staging, the commit and the read of an entry, and the save of the fallback schedule (R242, R253). -/

namespace Sys2Proof.Machine

/-! ### The entry window (R242) -/

theorem blockReg_schedEntWin : ∀ k < 4, blockReg (Rg.SCHED_ENT_WIN k) = true := by decide

/-- Words 0 to 2 of the window stand on page SCHED from offset 0x44 up, and a write of one is staged. -/
theorem blockWrite_schedEntWin (s : State) (ini : Nat) {k : Nat} (v : Word) (hk : k < 3) :
    s.blockWrite ini (Rg.SCHED_ENT_WIN k / 0x1000) (Rg.SCHED_ENT_WIN k % 0x1000) v = s.schedStage ini k v := by
  have hp : Rg.SCHED_ENT_WIN k / 0x1000 = Pg.sched := show (0x3A044 + 4 * k) / 0x1000 = 0x3A by omega
  have ho : Rg.SCHED_ENT_WIN k % 0x1000 = 0x44 + 4 * k := show (0x3A044 + 4 * k) % 0x1000 = 0x44 + 4 * k by omega
  have hw : (0x44 + 4 * k - 0x44) / 4 = k := by omega
  rw [hp, ho]
  show s.schedWrite ini (0x44 + 4 * k) v = _
  unfold State.schedWrite
  rw [if_pos (by omega), hw]

/-- A write of words 0 to 2 of the window that takes effect. -/
theorem busWrite_schedStage {s : State} {ini k : Nat} (v : Word) (hk : k < 3)
    (h : s.takes ini (Rg.SCHED_ENT_WIN k) = true) (hv : noReserved (Rg.SCHED_ENT_WIN k) v = true) :
    s.busWrite ini (Rg.SCHED_ENT_WIN k) 4 v =
      ((s.begun ini (Rg.SCHED_ENT_WIN k)).schedStage ini k v).toPartner (Rg.SCHED_ENT_WIN k) v := by
  rw [busWrite_block s ini _ v (blockReg_schedEntWin k (Nat.lt_succ_of_lt hk)) h hv, blockWrite_schedEntWin _ ini v hk]

/-- A write of word 3 of the window that takes effect commits the entry staged. -/
theorem busWrite_schedCommit {s : State} {ini : Nat} (v : Word) (h : s.takes ini (Rg.SCHED_ENT_WIN 3) = true)
    (hv : noReserved (Rg.SCHED_ENT_WIN 3) v = true) :
    s.busWrite ini (Rg.SCHED_ENT_WIN 3) 4 v =
      ((s.begun ini (Rg.SCHED_ENT_WIN 3)).schedCommit ini v).toPartner (Rg.SCHED_ENT_WIN 3) v :=
  busWrite_block s ini _ v (blockReg_schedEntWin 3 (by decide)) h hv

/-- A read of word 0 of the window latches the other words with it (R39, R242). -/
theorem busRead_schedEnt {s : State} {ini : Nat} (h : s.reaches ini (Rg.SCHED_ENT_WIN 0) false = true) :
    s.busRead ini (Rg.SCHED_ENT_WIN 0) 4 =
      (let t := (span 0x48 0x54).foldl (fun t k => t.setLatch ini Pg.sched k (s.live ini Pg.sched k)) s
       t.respond ((t.latched ini Pg.sched 0x44).getD (t.live ini Pg.sched 0x44)) false) := by
  have hsnap : s.takeSnapshot ini Pg.sched 0x44 =
      (span 0x48 0x54).foldl (fun t k => t.setLatch ini Pg.sched k (s.live ini Pg.sched k)) s :=
    takeSnapshot_of_latchSet s ini (by decide) (by decide) (by decide)
  rw [busRead_reaches s ini _ (by decide) h, readReg_splitLo s ini _ (by decide), ← hsnap]
  rfl

/-! ### The fallback schedule (R253) -/

/-- The word for SCHED.FB_CFG that starts a save with a default level. -/
def fbSaveWord (lvl : Nat) : Word := BitVec.ofNat 32 (2 ^ 31 + lvl)

section
variable {lvl : Nat} (h : lvl < 65536)
include h

/-- Above the level (15:0) it carries SAVE (31) alone. -/
theorem fbSaveWord_getLsbD {k : Nat} (hk : 16 ≤ k) : (fbSaveWord lvl).getLsbD k = decide (k = 31) := by
  have hword : fbSaveWord lvl = BitVec.ofNat 32 (2 ^ 16 * 2 ^ 15 + lvl) := rfl
  rw [hword, BitVec.getLsbD_ofNat, Nat.testBit_two_pow_mul_add _ h, if_neg (Nat.not_lt.mpr hk), Nat.testBit_two_pow,
    ← Bool.decide_and]
  exact decide_eq_decide.mpr (by omega)

theorem fbSaveWord_noReserved : noReserved Rg.SCHED_FB_CFG (fbSaveWord lvl) = true := by
  have himp : ∀ k < 32, (~~~BitVec.ofNat 32 (impBits (Rg.SCHED_FB_CFG / 0x1000) (Rg.SCHED_FB_CFG % 0x1000))).getLsbD k =
      decide (16 ≤ k ∧ k ≠ 31) := by decide
  refine beq_iff_eq.mpr (BitVec.eq_of_getLsbD_eq fun k hk => ?_)
  rw [BitVec.getLsbD_and, himp k hk]
  refine Eq.trans ?_ BitVec.getLsbD_zero.symm
  by_cases hres : 16 ≤ k ∧ k ≠ 31
  · rw [fbSaveWord_getLsbD h hres.1, decide_eq_false hres.2, Bool.false_and]
  · rw [decide_eq_false hres, Bool.and_false]

/-- SAVE stores FB_CFG, the default level with it, before the save starts (R253). -/
theorem schedWrite_fbSave (s : State) (ini : Nat) :
    s.schedWrite ini 0x94 (fbSaveWord lvl) = ((s.store Pg.sched 0x94 (fbSaveWord lvl)).persist Pg.sched 0x94).fbSave := by
  have hsave : bitW (fbSaveWord lvl) 31 = true := fbSaveWord_getLsbD h (by decide)
  unfold State.schedWrite
  rw [if_neg (by decide), if_neg (by decide), if_neg (by decide), if_neg (by decide), if_pos ⟨rfl, hsave⟩]

/-- A write of FB_CFG with SAVE that takes effect. -/
theorem busWrite_fbSave {s : State} {ini : Nat} (ht : s.takes ini Rg.SCHED_FB_CFG = true) :
    s.busWrite ini Rg.SCHED_FB_CFG 4 (fbSaveWord lvl) =
      ((((s.begun ini Rg.SCHED_FB_CFG).store Pg.sched 0x94 (fbSaveWord lvl)).persist Pg.sched 0x94).fbSave).toPartner
        Rg.SCHED_FB_CFG (fbSaveWord lvl) := by
  rw [busWrite_block s ini _ _ (by decide) ht (fbSaveWord_noReserved h), ← schedWrite_fbSave h _ ini]
  rfl

end

/-- Settles O25: an access that takes effect reaches the entry window or FB_CFG, and the end of a save finds the save under way;
it rests on log entry 109. -/
theorem schedules : Obligations.Schedules := by
  unfold Obligations.Schedules
  refine ⟨fun s ini k v hk h hv => ?staged, fun s ini v h hv => ?committed, fun s ini h => ?read,
    fun s ini lvl hl h => ?saving, fun s f hr hf => ?saved⟩
  case staged =>
    show Host.Outcome.next (s.busWrite ini (Rg.SCHED_ENT_WIN (k % 3)) 4 v) = _
    rw [Nat.mod_eq_of_lt hk]
    exact congrArg Host.Outcome.next (busWrite_schedStage v hk h hv)
  case committed => exact congrArg Host.Outcome.next (busWrite_schedCommit v h hv)
  case read => exact congrArg Host.Outcome.next (busRead_schedEnt h)
  case saving =>
    show Host.Outcome.next (s.busWrite ini Rg.SCHED_FB_CFG 4 (fbSaveWord (lvl % 65536))) = _
    rw [Nat.mod_eq_of_lt hl]
    exact congrArg Host.Outcome.next (busWrite_fbSave hl h)
  case saved =>
    show Host.Outcome.next (s.rt s.fbSaved) = _
    rw [rt_on hr]
    unfold State.fbSaved
    split
    next hnone => exact absurd (hnone.symm.trans hf) nofun
    next g hg =>
      obtain rfl : g = f := Option.some.inj (hg.symm.trans hf)
      rfl

end Sys2Proof.Machine
end

section
/-! The ring: frames through the switch, learned addresses, ring protection and its commands, and the ports (R257 to R262,
R270). -/

namespace Sys2Proof.Machine

/-! ### The domain of the ring, and registers that a port's update leaves alone -/

theorem netOn_of_netUp {s : State} (h : s.netUp = true) : s.pwr.netOn = true := (Bool.and_eq_true_iff.mp h).2

theorem erpsOn_put_ne (s : State) {f : Fld} (v : Nat) (h : Rg.SW_ERPS_CFG ≠ f.addr) : (s.put f v).erpsOn = s.erpsOn := by
  unfold State.erpsOn
  rw [flag_put_ne _ _ _ _ h, State.put_pwr]

@[simp] theorem begun_erpsOn (s : State) (ini a : Nat) : (s.begun ini a).erpsOn = s.erpsOn := by
  unfold State.erpsOn
  rw [begun_flag, begun_pwr]

theorem portOn_put_ne (s : State) {n : Nat} {f : Fld} (v : Nat) (h : (Fd.en (Pg.port n)).addr ≠ f.addr) :
    (s.put f v).portOn n = s.portOn n := by
  unfold State.portOn
  rw [flag_put_ne _ _ _ _ h, State.put_pwr]

/-! ### Frames (R233, R257) -/

/-- The state after a frame at port p is counted. -/
def State.portCounted (s : State) (p : Nat) : State := if p < 4 then s.add (whole (Rg.PORT_RX_FRAMES p)) 1 else s

theorem blocked_portCounted (s : State) (p : Nat) :
    (s.portCounted p).get Fd.SW_ERPS_STAT_BLOCKED = s.get Fd.SW_ERPS_STAT_BLOCKED := by
  have hne : Rg.SW_ERPS_STAT ≠ Rg.PORT_RX_FRAMES p := by show 0x40054 ≠ 0x4104c + p * 0x1000; omega
  unfold State.portCounted
  split
  · exact get_put_ne _ _ _ _ hne
  · rfl

/-- How a tagged frame is sent: PTP in the highest queue, and the transparent clock adds the residence time to what it is to
correct. -/
theorem swSend_of_tagged {s : State} {p v : Nat} {f : NetFrame} (hr : f.raps = false) (hv : f.vid = some v)
    (vid : Option Nat) (egress : List Nat) :
    s.swSend p f vid egress =
      if egress.isEmpty then s
      else
        let prio := if f.ptp == 1 || f.ptp == 2 then 7 else f.pcp % 8
        let tc := s.flag Fd.TIME_TC_CFG_EN && decide (p < 4) && (f.ptp == 1 || f.ptp == 2) && decide (f.carrier < 3) &&
          egress.any (· < 4)
        let x := egress.foldl (fun t q => if q < 4 then t.add (whole (Rg.PORT_TX_FRAMES q)) 1 else t) s
        { x with net := { x.net with
            out := some ⟨egress, prio, vid, if tc then f.res else 0, if tc then some (ptpFix f.carrier) else none⟩ } } := by
  unfold State.swSend
  simp only [hr, hv, Option.isNone_some, Bool.false_and, Bool.false_or, Bool.false_eq_true, if_false]

/-- A good tagged frame at a port that is up and not blocked is counted, routed, learned and sent, or counted as dropped. -/
theorem swFrame_of_tagged {s : State} {p v : Nat} {f : NetFrame} (hn : s.pwr.netOn = true)
    (hen : s.flag (Fd.en Pg.sw) = true) (hp : p ≤ 4) (hin : (if p = 4 then s.pwr.appOn else s.portUp p) = true)
    (hf : f.fcsOk = true) (hr : f.raps = false) (hv : f.vid = some v)
    (hb : p < 2 → bitN (s.get Fd.SW_ERPS_STAT_BLOCKED) p = false) :
    s.swFrame p f =
      (let t := s.portCounted p
       let r := t.frameRoute p f
       let dest := if t.ringTransit p f && !unicast f.dst then r.1 ++ (if r.1.contains 4 then [] else [4]) else r.1
       let u := match r.2 with
         | some w => t.macLearn w f.src p
         | none => t
       let egress := dest.filter u.egressOk
       let w := if egress.isEmpty || (dest.contains 4 && !u.pwr.appOn) then u.add (whole Rg.SW_DROP) 1 else u
       w.swSend p f r.2 egress) := by
  have hgate : ¬(!s.pwr.netOn || !s.flag (Fd.en Pg.sw) || !(if p = 4 then s.pwr.appOn else s.portUp p) ||
      decide (4 < p)) = true := by
    rw [hn, hen, hin, decide_eq_false (Nat.not_lt.mpr hp)]
    decide
  have hopen : (decide (p < 2) && bitN ((s.portCounted p).get Fd.SW_ERPS_STAT_BLOCKED) p) = false := by
    rw [blocked_portCounted]
    by_cases h : p < 2
    · rw [hb h, Bool.and_false]
    · rw [decide_eq_false h, Bool.false_and]
  unfold State.swFrame
  rw [if_neg hgate]
  extract_lets +onlyGivenNames t
  have ht : s.portCounted p = t := rfl
  rw [ht] at hopen ⊢
  clear_value t
  simp only [hf, hr, hv, hopen, Option.isNone_some, Bool.not_true, Bool.not_false, Bool.and_true, Bool.false_and,
    Bool.false_eq_true, if_false] <;> rfl

/-! ### Learned addresses (R257) -/

/-- An address leaves the database when no frame has refreshed it for 300 s. -/
theorem macAge_of_aged {s : State} {vid mac : Nat} {e : Nat × Nat}
    (he : Tab.get (fun _ => none) s.net.mac (macKey vid mac) = some e)
    (ha : s.pwr.light = false ∨ e.2 + 300000 ≤ s.ms + s.pms) :
    s.macAge vid mac =
      { s with net := { s.net with mac := Tab.set (fun _ => none) s.net.mac (macKey vid mac) none } } := by
  have hyoung : ¬(s.pwr.light && decide (s.ms + s.pms < e.2 + 300000)) = true := by
    rw [Bool.and_eq_true, decide_eq_true_eq]
    rintro ⟨hl, hlt⟩
    rcases ha with h | h
    · exact absurd (hl.symm.trans h) (by decide)
    · exact Nat.not_lt.mpr h hlt
  unfold State.macAge
  simp only [he, if_neg hyoung]

/-! ### Ring protection (R259) -/

section
variable {s : State} {n : Nat}

/-- A signal fail that is new is acted on at once, or waits for the hold-off. -/
theorem ringSf_of_new (hon : s.pwr.netOn = true) (hn : n < 2) (hp : bitN s.net.erps.present n = false) :
    s.ringSf n =
      (let t := (s.put (Fd.PORT_LINK_SIGNAL n) 0).setErps
         { s.net.erps with present := setBitN s.net.erps.present n true }
       if !t.erpsOn then t
       else if t.get Fd.SW_ERPS_TMR_HOLDOFF ≠ 0 then t.setErps { t.net.erps with hold := setBitN t.net.erps.hold n true }
       else t.erpsSf n) := by
  have hgate : ¬(!s.pwr.netOn || decide (2 ≤ n) || bitN s.net.erps.present n) = true := by
    rw [hon, decide_eq_false (Nat.not_le.mpr hn), hp]
    decide
  exact if_neg hgate

/-- In PROTECTION the end of a signal fail that was acted on leaves the ports of the others blocked, or starts the guard timer
and R-APS(NR). -/
theorem ringRestore_of_acted (hon : s.pwr.netOn = true) (hn : n < 2) (hp : bitN s.net.erps.present n = true)
    (ho : s.erpsOn = true) (ha : bitN s.net.erps.acted n = true) (hst : s.get Fd.SW_ERPS_STAT_STATE = 2) :
    s.ringRestore n =
      (let e := s.net.erps
       let t := (s.put (Fd.PORT_LINK_SIGNAL n) 1).setErps
         { e with present := setBitN e.present n false, hold := setBitN e.hold n false, acted := setBitN e.acted n false }
       if t.net.erps.acted ≠ 0 then t.erpsBlock t.net.erps.acted
       else (((t.setErps { t.net.erps with guard := true }).erpsTx (some .nr)).startWtr).erpsTo 5) := by
  have hgate : ¬(!s.pwr.netOn || decide (2 ≤ n) || !bitN s.net.erps.present n) = true := by
    rw [hon, decide_eq_false (Nat.not_le.mpr hn), hp]
    decide
  have hcfg : Rg.SW_ERPS_CFG ≠ Rg.PORT_LINK n := by show 0x40048 ≠ 0x41044 + n * 0x1000; omega
  have hstat : Rg.SW_ERPS_STAT ≠ Rg.PORT_LINK n := by show 0x40054 ≠ 0x41044 + n * 0x1000; omega
  have hgo : ¬(!(s.put (Fd.PORT_LINK_SIGNAL n) 1).erpsOn || !bitN s.net.erps.acted n ||
      (s.put (Fd.PORT_LINK_SIGNAL n) 1).get Fd.SW_ERPS_STAT_STATE != 2) = true := by
    rw [erpsOn_put_ne s 1 hcfg, get_put_ne s _ _ 1 hstat, ho, ha, hst]
    decide
  exact (if_neg hgate).trans (if_neg hgo)

/-- The hold-off of a port ends: a signal fail that is still present is acted on. -/
theorem holdoffExpire_of_held (ho : s.erpsOn = true) (hh : bitN s.net.erps.hold n = true) :
    s.holdoffExpire n =
      if bitN s.net.erps.present n then s.erpsSf n
      else s.setErps { s.net.erps with hold := setBitN s.net.erps.hold n false } := by
  have hgate : ¬(!s.erpsOn || !bitN s.net.erps.hold n) = true := by
    rw [ho, hh]
    decide
  exact if_neg hgate

end

/-- An R-APS message of the ring at its level is accepted while the guard timer does not run. -/
theorem rapsReceived_of_accepted {s : State} {m : RapsMsg} (ho : s.erpsOn = true) (hg : s.net.erps.guard = false)
    (hr : m.ringId = s.get Fd.SW_ERPS_CFG_RING_ID) (hm : m.mel = s.get Fd.SW_ERPS_CFG_MEL) :
    s.rapsReceived m = (if s.get Fd.SW_ERPS_STAT_STATE = 0 then s.erpsInitDone else s).rapsAct m := by
  have hgate : ¬(!s.erpsOn || s.net.erps.guard || m.ringId != s.get Fd.SW_ERPS_CFG_RING_ID ||
      m.mel != s.get Fd.SW_ERPS_CFG_MEL) = true := by
    rw [ho, hg, hr, hm, bne_self_eq_false, bne_self_eq_false]
    decide
  exact if_neg hgate

/-- At the RPL owner, in PENDING, the end of wait-to-restore reverts. -/
theorem wtrExpire_of_running {s : State} {t : Nat} (ho : s.erpsOn = true) (hw : s.net.erps.wtr = some t)
    (hr : s.rplOwner = true) (hst : s.get Fd.SW_ERPS_STAT_STATE = 5) : s.wtrExpire = s.erpsRevert := by
  have hgo : (s.erpsOn && s.net.erps.wtr.isSome && s.rplOwner && decide (s.get Fd.SW_ERPS_STAT_STATE = 5)) = true := by
    rw [ho, hw, Option.isSome_some, hr, hst]
    decide
  exact if_pos hgo

/-! ### The commands and the configuration of ERPS (R261) -/

/-- Page SW lies outside the light path and the pair does not mirror it, so that a write that takes effect reaches the switch
alone. -/
theorem busWrite_sw {s : State} {ini a : Nat} (v : Word) (hb : blockReg a = true) (hp : a / 0x1000 = Pg.sw)
    (h : s.takes ini a = true) (hv : noReserved a v = true) :
    s.busWrite ini a 4 v = (s.begun ini a).swWrite (a % 0x1000) v := by
  have hm : ∀ o, mirrored Pg.sw o = false := fun _ => rfl
  rw [busWrite_block_local s ini a v hb h hv (by rw [hp]; decide) (by rw [hp, hm]), hp]
  rfl

/-- The word for ERPS_CMD with command c at ring port n. -/
def erpsCmdWord (n c : Nat) : Word := BitVec.ofNat 32 (n * 256 + c)

theorem erpsCmdWord_fields : ∀ n < 2, ∀ c < 4, noReserved Rg.SW_ERPS_CMD (erpsCmdWord n c) = true ∧
    getF (erpsCmdWord n c) 0 2 = c ∧ getF (erpsCmdWord n c) 8 1 = n := by decide

section
variable {s : State} {n : Nat} (hn : n < 2)
include hn

theorem busWrite_erpsCmd {ini c : Nat} (hc : c < 4) (h : s.takes ini Rg.SW_ERPS_CMD = true) :
    s.busWrite ini Rg.SW_ERPS_CMD 4 (erpsCmdWord n c) = (s.begun ini Rg.SW_ERPS_CMD).erpsCmd (erpsCmdWord n c) :=
  busWrite_sw _ (by decide) (by decide) h (erpsCmdWord_fields n hn c hc).1

variable (ho : s.erpsOn = true)
include ho

theorem erpsCmd_forcedSwitch :
    s.erpsCmd (erpsCmdWord n 1) =
      (let e := s.net.erps
       let other := if bitN e.acted (1 - n) || bitN e.present (1 - n) then 2 ^ (1 - n) else 0
       (((s.stopWtr.erpsBlock (2 ^ n + other)).erpsTx (some .fs)).erpsTo 4).erpsCmdDone 1 false) := by
  obtain ⟨-, hcmd, hport⟩ := erpsCmdWord_fields n hn 1 (by decide)
  unfold State.erpsCmd
  rw [hcmd, hport, ho]
  rfl

theorem erpsCmd_manualSwitch :
    s.erpsCmd (erpsCmdWord n 2) =
      (let st := s.get Fd.SW_ERPS_STAT_STATE
       if s.net.erps.present ≠ 0 ∨ s.net.erps.acted ≠ 0 ∨ (st ≠ 1 ∧ st ≠ 5) then s.erpsCmdDone 2 true
       else (((s.stopWtr.erpsBlock (2 ^ n)).erpsTx (some .ms)).erpsTo 3).erpsCmdDone 2 false) := by
  obtain ⟨-, hcmd, hport⟩ := erpsCmdWord_fields n hn 2 (by decide)
  unfold State.erpsCmd
  rw [hcmd, hport, ho]
  rfl

theorem erpsCmd_clear :
    s.erpsCmd (erpsCmdWord n 3) =
      (let st := s.get Fd.SW_ERPS_STAT_STATE
       let e := s.net.erps
       let u :=
         if (st = 4 ∧ e.tx = some .fs) ∨ (st = 3 ∧ e.tx = some .ms) then
           if e.acted ≠ 0 then ((s.erpsBlock e.acted).erpsTx (some .sf)).erpsTo 2
           else (((s.setErps { e with guard := true }).erpsTx (some .nr)).startWtr).erpsTo 5
         else if st = 5 ∧ s.rplOwner then s.erpsRevert
         else s
       u.erpsCmdDone 3 false) := by
  obtain ⟨-, hcmd, hport⟩ := erpsCmdWord_fields n hn 3 (by decide)
  unfold State.erpsCmd
  rw [hcmd, hport, ho]
  rfl

end

/-! ### The ports (R261, R262, R270) -/

section
variable {s : State} {n : Nat}

/-- A change of the SFP+ module of a ring port that is enabled raises its event; a removal is a signal fail. -/
theorem ringSfp_of_portOn (hon : s.pwr.netOn = true) (hn : n < 2) (hp : s.portOn n = true) (inserted fault : Bool) :
    s.ringSfp n inserted fault =
      (let t := (s.put (Fd.PORT_LINK_SFP_PRESENT n) (b2n inserted)).put (Fd.PORT_LINK_TX_FAULT n) (b2n fault)
       let u := (t.irq (Pg.port n) 2).raise Ev.RING_SFP (Pg.port n) [n, b2n inserted]
       if inserted then u else u.ringSf n) := by
  have hgate : ¬(decide (2 ≤ n) || !s.pwr.netOn) = true := by
    rw [hon, decide_eq_false (Nat.not_le.mpr hn)]
    decide
  have hctrl : Rg.ctrl (Pg.port n) ≠ Rg.PORT_LINK n := by show (0x41 + n) * 0x1000 + 8 ≠ 0x41044 + n * 0x1000; omega
  have hgo : ¬(!((s.put (Fd.PORT_LINK_SFP_PRESENT n) (b2n inserted)).put (Fd.PORT_LINK_TX_FAULT n)
      (b2n fault)).portOn n) = true := by
    rw [portOn_put_ne _ _ hctrl, portOn_put_ne _ _ hctrl, hp]
    decide
  exact (if_neg hgate).trans (if_neg hgo)

/-- The link of an enabled port comes up; a local port takes 1 Gbit/s only. -/
theorem portLinkUp_of_down {mbps : Nat} (hp : s.portOn n = true) (hu : s.flag (Fd.PORT_LINK_UP n) = false)
    (hm : n < 2 ∨ mbps = 1000) :
    s.portLinkUp n mbps = (((s.put (Fd.PORT_LINK_UP n) 1).put (Fd.PORT_LINK_SIGNAL n) 1).irq (Pg.port n) 0).raise
      Ev.PORT_LINK_UP (Pg.port n) [n] := by
  have hgate : ¬(!s.portOn n || s.flag (Fd.PORT_LINK_UP n)) = true := by
    rw [hp, hu]
    decide
  have hspeed : ¬(decide (2 ≤ n) && s.flag (Fd.PORT_MODE_AUTONEG n) && decide (s.get (Fd.PORT_MODE_LINE n) = 0) &&
      mbps != 1000) = true := by
    simp only [Bool.and_eq_true, decide_eq_true_eq, bne_iff_ne]
    rintro ⟨⟨⟨hlan, -⟩, -⟩, hne⟩
    rcases hm with h | h
    · exact Nat.not_le.mpr h hlan
    · exact hne h
  exact (if_neg hgate).trans (if_neg hspeed)

theorem portLinkDown_of_up (hon : s.pwr.netOn = true) (hn : n < 4) (hu : s.flag (Fd.PORT_LINK_UP n) = true) :
    s.portLinkDown n =
      ((((s.put (Fd.PORT_LINK_UP n) 0).put (Fd.PORT_LINK_SIGNAL n) 0).add (whole (Rg.PORT_DOWN_CNT n)) 1).irq
        (Pg.port n) 1).raise Ev.PORT_LINK_DOWN (Pg.port n) [n] := by
  have hgo : (s.flag (Fd.PORT_LINK_UP n) && decide (n < 4) && s.pwr.netOn) = true := by
    rw [hon, hu, decide_eq_true hn]
    decide
  exact if_pos hgo

end

/-! ### The obligation -/

/-- Settles O26: no guard of a command turns it away, and a write of ERPS_CMD or ERPS_CFG that takes effect reaches the switch
with the state as it stood; the choices it rests on are log entries 110 to 116 and 180. -/
theorem ringProtection : Obligations.RingProtection := by
  unfold Obligations.RingProtection
  refine ⟨fun s p v f hr hn hen hp hin hf hraps hv hb => ?forward, fun s vid mac e hu he ha => ?age,
    fun s n hu hn hp => ?signalFail, fun s n hu hn hp ho ha hst => ?restore, fun s m hu ho hg hr hm => ?raps,
    fun s t hu ho hw hr hst => ?wtr, fun s n hu ho hh => ?holdoff, fun s hu hg => ?guard,
    fun s ini n hn h ho => ?forced, fun s ini n hn h ho => ?manual, fun s ini h ho => ?clear,
    fun s ini v h hv => ?config, fun s n inserted fault hu hn hp => ?sfp, fun s n mbps hu hp hd hm => ?linkUp,
    fun s n hu hn hl => ?linkDown⟩
  case forward =>
    show Host.Outcome.next (s.rt (s.swFrame p f)) = _
    rw [rt_on hr, swFrame_of_tagged hn hen hp hin hf hraps hv hb]
    exact congrArg Host.Outcome.next (swSend_of_tagged hraps hv _ _)
  case age =>
    show Host.Outcome.next (s.nw (s.macAge vid mac)) = _
    rw [nw_on hu, macAge_of_aged he ha]
  case signalFail =>
    show Host.Outcome.next (s.nw (s.ringSf n)) = _
    rw [nw_on hu, ringSf_of_new (netOn_of_netUp hu) hn hp]
  case restore =>
    show Host.Outcome.next (s.nw (s.ringRestore n)) = _
    rw [nw_on hu, ringRestore_of_acted (netOn_of_netUp hu) hn hp ho ha hst]
  case raps =>
    show Host.Outcome.next (s.nw (s.rapsReceived m)) = _
    rw [nw_on hu, rapsReceived_of_accepted ho hg hr hm]
  case wtr =>
    show Host.Outcome.next (s.nw s.wtrExpire) = _
    rw [nw_on hu, wtrExpire_of_running ho hw hr hst]
    rfl
  case holdoff =>
    show Host.Outcome.next (s.nw (s.holdoffExpire n)) = _
    rw [nw_on hu, holdoffExpire_of_held ho hh]
  case guard =>
    show Host.Outcome.next (s.nw s.guardExpire) = _
    rw [nw_on hu]
    exact congrArg Host.Outcome.next (if_pos hg)
  case forced =>
    show Host.Outcome.next (s.busWrite ini Rg.SW_ERPS_CMD 4 (erpsCmdWord (n % 2) 1)) = _
    rw [Nat.mod_eq_of_lt hn, busWrite_erpsCmd hn (by decide) h, erpsCmd_forcedSwitch hn (by rwa [begun_erpsOn]), begun_net]
  case manual =>
    show Host.Outcome.next (s.busWrite ini Rg.SW_ERPS_CMD 4 (erpsCmdWord (n % 2) 2)) = _
    rw [Nat.mod_eq_of_lt hn, busWrite_erpsCmd hn (by decide) h, erpsCmd_manualSwitch hn (by rwa [begun_erpsOn]), begun_net,
      begun_get]
  case clear =>
    show Host.Outcome.next (s.busWrite ini Rg.SW_ERPS_CMD 4 (erpsCmdWord 0 3)) = _
    rw [busWrite_erpsCmd (by decide) (by decide) h, erpsCmd_clear (by decide) (by rwa [begun_erpsOn]), begun_net, begun_get]
  case config => exact congrArg Host.Outcome.next (busWrite_sw v (by decide) (by decide) h hv)
  case sfp =>
    show Host.Outcome.next (s.nw (s.ringSfp n inserted fault)) = _
    rw [nw_on hu, ringSfp_of_portOn (netOn_of_netUp hu) hn hp]
  case linkUp =>
    show Host.Outcome.next (s.nw (s.portLinkUp n mbps)) = _
    rw [nw_on hu, portLinkUp_of_down hp hd hm]
  case linkDown =>
    show Host.Outcome.next (s.nw (s.portLinkDown n)) = _
    rw [nw_on hu, portLinkDown_of_up (netOn_of_netUp hu) hn hl]

end Sys2Proof.Machine
end

section
/-! The lamp service protocol: handshakes, the messages of a session, register batches and the responses kept, events and
keepalives (R264 to R269). -/

namespace Sys2Proof.Machine

/-! ### Handshakes (R264) -/

/-- Of the two suites the module has, it takes the first that the peer offers. -/
theorem suite_of_offered {h : DtlsHello} (hv : h.v13 = true) (hp : h.psk = false)
    (hs : 0x1301 ∈ h.suites ∨ 0x1302 ∈ h.suites) :
    h.suite = some (if 0x1301 ∈ h.suites then 0x1301 else 0x1302) := by
  unfold DtlsHello.suite
  rw [hv, hp, if_pos (by decide)]
  by_cases h1 : 0x1301 ∈ h.suites
  · rw [if_pos h1, List.find?_cons_of_pos (List.contains_iff_mem.mpr h1)]
  · rw [if_neg h1, List.find?_cons_of_neg (mt List.contains_iff_mem.mp h1),
      List.find?_cons_of_pos (List.contains_iff_mem.mpr (hs.resolve_left h1))]

/-- A handshake of a known peer, with a suite that both have, is decided by the peer's certificate. -/
theorem dtlsHandshake_of_known {s : State} {h : DtlsHello} {k suite : Nat} (ha : s.pwr.appOn = true)
    (hn : s.pwr.netOn = true) (hk : s.peerOf h.addr = some k) (hs : h.suite = some suite) :
    s.dtlsHandshake h =
      if h.certOk = false then s.raise Ev.LSP_AUTH_FAIL Pg.sw [k]
      else
        let t := match s.sess k with
          | some _ => s.raise Ev.LSP_SESSION_DOWN Pg.sw [k, 2]
          | none => s
        let u := t.setSess k (some ⟨suite, t.ms, t.ms, 1, t.lspStart k, [], []⟩)
        ((u.raise Ev.LSP_SESSION_UP Pg.sw [k]).lspResume k).lspSend k 8 := by
  have hup : ¬(!s.pwr.appOn || !s.pwr.netOn) = true := by rw [ha, hn]; decide
  unfold State.dtlsHandshake
  rw [if_neg hup, hk, hs]
  simp only [Bool.not_eq_true'] <;> rfl

/-! ### The messages of a session (R265) -/

@[simp] theorem sess_setSess (s : State) (k : Nat) (o : Option Session) : (s.setSess k o).sess k = o :=
  Tab.get_set_same _ _ _ _

section
variable {s : State} {k : Nat} {x : Session} (hx : s.sess k = some x)
include hx

theorem heardPeer_of_sess : s.heardPeer k = s.setSess k (some { x with lastRx := s.ms }) := by
  unfold State.heardPeer
  rw [hx]

theorem lspOut_of_sess (m : List Nat) : s.lspOut k m = s.setSess k (some { x with lastTx := s.ms, sent := m }) := by
  unfold State.lspOut
  rw [hx]

/-- On a relay session (peers 4 to 6) the message counts for R269 at most. -/
theorem lspReceive_of_relay (hk : 4 ≤ k) (queued core : Nat) (m : List Nat) :
    s.lspReceive k queued core m = s.heardPeer k := by
  unfold State.lspReceive
  simp only [hx, if_pos hk]

section
variable {m : List Nat} {p : LspMsg} (hk : k < 4) (hp : lspParse m = some p) (queued core : Nat)
include hk hp

theorem lspReceive_of_badVersion (hv : p.ver ≠ 1) :
    s.lspReceive k queued core m = (s.heardPeer k).lspOut k (lspError p.reqId 1) := by
  unfold State.lspReceive
  simp only [hx, if_neg (Nat.not_le.mpr hk), hp, if_pos hv]

/-- A well-formed message of a head-end acts by its type. -/
theorem lspReceive_of_wellFormed (hv : p.ver = 1) (ht : p.typOk = true) (hl : p.lenOk = true) :
    s.lspReceive k queued core m =
      (let t := s.heardPeer k
       if p.typ = 1 then t.regBatch k queued core p.reqId (p.flags.testBit 0) (batchOps (p.len / 12) p.body)
       else if p.typ = 0x11 then t.eventAck k p.seq
       else t) := by
  unfold State.lspReceive
  simp only [hx, if_neg (Nat.not_le.mpr hk), hp, if_neg (not_not_intro hv), ht, hl, Bool.not_true, Bool.false_eq_true,
    if_false]

end

end

/-- EVENT_ACK and KEEPALIVE are well formed without a payload. -/
theorem wellFormed_of_empty {p : LspMsg} (ht : p.typ = 0x11 ∨ p.typ = 0x30) (hl : p.len = 0) (hb : p.body = []) :
    p.typOk = true ∧ p.lenOk = true := by
  unfold LspMsg.typOk LspMsg.lenOk
  rw [hl, hb]
  rcases ht with ht | ht <;> rw [ht] <;> decide

/-! ### Register batches (R265 to R267) -/

/-- REG_BATCH is well formed with a payload of 1 to 98 operations. -/
theorem wellFormed_of_batch {p : LspMsg} (ht : p.typ = 1) (hl : p.len = p.body.length) (h12 : p.len % 12 = 0)
    (hlo : 12 ≤ p.len) (hhi : p.len ≤ 1176) : p.typOk = true ∧ p.lenOk = true := by
  have hmax : p.len ≤ 1184 := by omega
  unfold LspMsg.typOk LspMsg.lenOk
  rw [if_pos ht]
  simp [ht, ← hl, h12, hlo, hhi, hmax]

/-- The responses kept for a session's peer (R267). -/
def State.keptFor (s : State) (k : Nat) : List (Nat × List BatchOp) := Tab.get (fun _ => []) s.net.store k

/-- The responses kept once `e` is one of them: it stands behind the latest 15 of the earlier ones. -/
def keepResponse (kept : List (Nat × List BatchOp)) (e : Nat × List BatchOp) : List (Nat × List BatchOp) :=
  (kept ++ [e]).drop (kept.length - 15)

theorem keepResponse_eq (kept : List (Nat × List BatchOp)) (e : Nat × List BatchOp) :
    keepResponse kept e = kept.drop (kept.length - 15) ++ [e] :=
  List.drop_append_of_le_length (Nat.sub_le _ _)

theorem length_keepResponse_le (kept : List (Nat × List BatchOp)) (e : Nat × List BatchOp) :
    (keepResponse kept e).length ≤ 16 := by
  rw [keepResponse_eq, List.length_append, List.length_drop, List.length_singleton]
  omega

/-- The responses kept for peer k replaced. -/
def State.setKept (s : State) (k : Nat) (l : List (Nat × List BatchOp)) : State :=
  { s with net := { s.net with store := Tab.set (fun _ => []) s.net.store k l } }

@[simp] theorem keptFor_setKept (s : State) (k : Nat) (l : List (Nat × List BatchOp)) : (s.setKept k l).keptFor k = l :=
  Tab.get_set_same _ _ _ _

@[simp] theorem keptFor_lspOut (s : State) (k j : Nat) (m : List Nat) : (s.lspOut j m).keptFor k = s.keptFor k := by
  unfold State.lspOut
  cases s.sess j <;> rfl

@[simp] theorem keptFor_heardPeer (s : State) (k j : Nat) : (s.heardPeer j).keptFor k = s.keptFor k := by
  unfold State.heardPeer
  cases s.sess j <;> rfl

section
variable {s : State} {k reqId : Nat}

/-- A batch whose response is kept is answered with it. -/
theorem regBatch_of_kept {e : Nat × List BatchOp} (h : ((s.keptFor k).find? fun e => e.1 == reqId) = some e)
    (queued core : Nat) (stop : Bool) (ops : List BatchOp) :
    s.regBatch k queued core reqId stop ops = s.lspOut k (batchRsp reqId e.2) := by
  unfold State.keptFor at h
  unfold State.regBatch
  simp only [h]

/-- A batch whose response is not kept runs, unless four wait before it, and its response is kept. -/
theorem regBatch_of_new (h : ((s.keptFor k).find? fun e => e.1 == reqId) = none) {queued : Nat} (hq : queued < 4)
    (core : Nat) (stop : Bool) (ops : List BatchOp) :
    s.regBatch k queued core reqId stop ops =
      (let r := s.batchRun (core % 4 + 1) stop ops
       (r.2.setKept k (keepResponse (s.keptFor k) (reqId, r.1))).lspOut k (batchRsp reqId r.1)) := by
  unfold State.keptFor at h
  unfold State.regBatch
  simp only [h, if_neg (Nat.not_le.mpr hq)]
  rfl

theorem keptFor_regBatch_of_new (h : ((s.keptFor k).find? fun e => e.1 == reqId) = none) {queued : Nat} (hq : queued < 4)
    (core : Nat) (stop : Bool) (ops : List BatchOp) :
    (s.regBatch k queued core reqId stop ops).keptFor k =
      keepResponse (s.keptFor k) (reqId, (s.batchRun (core % 4 + 1) stop ops).1) := by
  rw [regBatch_of_new h hq]
  exact (keptFor_lspOut _ _ _ _).trans (keptFor_setKept _ _ _)

end

section
variable {s : State} {k : Nat} {x : Session} {m : List Nat} {p : LspMsg} (hx : s.sess k = some x) (hk : k < 4)
  (hp : lspParse m = some p) (hv : p.ver = 1) (ht : p.typ = 1) (hl : p.len = p.body.length) (h12 : p.len % 12 = 0)
  (hlo : 12 ≤ p.len) (hhi : p.len ≤ 1176)
include hx hk hp hv ht hl h12 hlo hhi

/-- A well-formed REG_BATCH of a head-end comes to the batches of its session. -/
theorem lspReceive_batch (queued core : Nat) :
    s.lspReceive k queued core m =
      (s.heardPeer k).regBatch k queued core p.reqId (p.flags.testBit 0) (batchOps (p.len / 12) p.body) := by
  obtain ⟨htyp, hlen⟩ := wellFormed_of_batch ht hl h12 hlo hhi
  rw [lspReceive_of_wellFormed hx hk hp queued core hv htyp hlen]
  exact if_pos ht

end

/-! ### The event stream (R268) -/

/-- An acknowledgement of a message sent takes the messages it covers away and moves the index acknowledged on. -/
theorem eventAck_of_sent {s : State} {k seq : Nat} {x : Session} (hx : s.sess k = some x) (hseq : seq < x.nextSeq) :
    s.eventAck k seq =
      (let done := x.msgs.filter fun m => decide (m.seq ≤ seq)
       let t := s.setSess k (some { x with lastRx := s.ms, msgs := x.msgs.filter fun m => decide (seq < m.seq) })
       let u := match done.getLast?.bind (fun m => m.recs.getLast?) with
         | none => t
         | some i => { t with net := { t.net with
             acked := Tab.set (fun _ => none) t.net.acked k (some ((i + 1) % 2 ^ 32)) } }
       u.lspSend k 8) := by
  unfold State.eventAck
  simp only [hx, if_neg (Nat.not_le.mpr hseq)] <;> rfl

/-- A message that waits for its acknowledgement goes out again with its number and its payload. -/
theorem eventResend_of_waiting {s : State} {k seq : Nat} {x : Session} {e : EvMsg} (hx : s.sess k = some x)
    (he : x.msgs.find? (fun m => m.seq == seq) = some e) :
    s.eventResend k seq =
      (let t := s.setSess k (some { x with
         msgs := x.msgs.map fun m => if m.seq = seq then { m with sentAt := s.ms } else m })
       (t.lspOut k (lspBytes 0x10 0 e.seq e.body)).lspSend k 8) := by
  unfold State.eventResend
  simp only [hx, he]

/-! ### The end of a session (R269) -/

theorem sessionDown_of_sess {s : State} {k : Nat} {x : Session} (hx : s.sess k = some x) (alert : Bool) :
    s.sessionDown k alert =
      (s.setSess k none).raise Ev.LSP_SESSION_DOWN Pg.sw [k, if alert then 3 else 1] := by
  unfold State.sessionDown
  rw [hx]

/-! ### The obligations -/

/-- Settles O53: a batch comes to the store of its session first, and what keeps its response drops all but the latest 15 of
the earlier ones. -/
theorem batchReplay : Obligations.BatchReplay := by
  unfold Obligations.BatchReplay
  refine ⟨fun s k queued core x m p e ha hk hx hp hv ht hl h12 hlo hhi he => ?repeated,
    fun s k core x m p ha hk hx hp hv ht hl h12 hlo hhi he _ => ?new⟩
  case repeated =>
    show Host.Outcome.next (s.app (s.lspReceive k queued core m)) = _
    rw [app_on ha, lspReceive_batch hx hk hp hv ht hl h12 hlo hhi, regBatch_of_kept (by rwa [keptFor_heardPeer])]
    rfl
  case new =>
    have hkept := keptFor_regBatch_of_new (s := s.heardPeer k) (by rwa [keptFor_heardPeer]) (queued := 0) (by decide)
      core (p.flags.testBit 0) (batchOps (p.len / 12) p.body)
    rw [← lspReceive_batch hx hk hp hv ht hl h12 hlo hhi, keptFor_heardPeer] at hkept
    refine ⟨s.lspReceive k 0 core m, _, congrArg Host.Outcome.next (app_on ha _), rfl, ?_, ?_⟩
    · exact (congrArg List.length hkept).trans_le (length_keepResponse_le _ _)
    · exact hkept.trans (keepResponse_eq _ _)

/-- Settles O27: the message on a session is well formed or of another version, so that it acts by its type or is answered
with ERROR, and the other commands find the peer, the session or the message they name; the choices it rests on are log entries
117 to 123 and 210. -/
theorem headEndLink : Obligations.HeadEndLink := by
  unfold Obligations.HeadEndLink
  refine ⟨fun s h k hup ha hn hk hv hpsk hs => ?handshake,
    fun s k queued core x m p ha hk hx hp hv ht hl h12 hlo hhi hq he => ?batch,
    fun s k x m p ha hk hx hp hv ht hl hb => ?ack, fun s k seq x hx hseq => eventAck_of_sent hx hseq,
    fun s k seq x e ha hx he => ?resend, fun s k x ha hx => ?keepalive, fun s k x m ha hx hm => ?heard,
    fun s k queued core x m p ha hk hx hp hv => ?version, fun s k alert x ha hx => ?down⟩
  case handshake =>
    show Host.Outcome.next (s.ifOk s.lspUp (s.dtlsHandshake h)) = _
    rw [ifOk_true hup]
    exact congrArg Host.Outcome.next (dtlsHandshake_of_known ha hn hk (suite_of_offered hv hpsk hs))
  case batch =>
    show Host.Outcome.next (s.app (s.lspReceive k queued core m)) = _
    rw [app_on ha, lspReceive_batch hx hk hp hv ht hl h12 hlo hhi, regBatch_of_new he hq]
    rfl
  case ack =>
    obtain ⟨htyp, hlen⟩ := wellFormed_of_empty (.inl ht) hl hb
    show Host.Outcome.next (s.app (s.lspReceive k 0 0 m)) = _
    rw [app_on ha, lspReceive_of_wellFormed hx hk hp 0 0 hv htyp hlen, ht]
    rfl
  case resend =>
    show Host.Outcome.next (s.app (s.eventResend k seq)) = _
    rw [app_on ha, eventResend_of_waiting hx he]
  case keepalive =>
    show Host.Outcome.next (s.app (s.keepalive k)) = _
    rw [app_on ha]
    exact congrArg Host.Outcome.next (lspOut_of_sess hx _)
  case heard =>
    show Host.Outcome.next (s.app (s.lspReceive k 0 0 m)) = _
    rw [app_on ha, ← heardPeer_of_sess hx]
    rcases Nat.lt_or_ge k 4 with hk | hk
    · obtain ⟨p, hp, hv, ht, hl, hb⟩ := hm.resolve_left (Nat.not_le.mpr hk)
      obtain ⟨htyp, hlen⟩ := wellFormed_of_empty (.inr ht) hl hb
      rw [lspReceive_of_wellFormed hx hk hp 0 0 hv htyp hlen, ht]
      rfl
    · rw [lspReceive_of_relay hx hk]
  case version =>
    show Host.Outcome.next (s.app (s.lspReceive k queued core m)) = _
    rw [app_on ha, lspReceive_of_badVersion hx hk hp queued core hv]
    rfl
  case down =>
    show Host.Outcome.next (s.app (s.sessionDown k alert)) = _
    rw [app_on ha, sessionDown_of_sess hx]

end Sys2Proof.Machine
end

section
/-! The life cycle's last state (R348). -/

namespace Sys2Proof.Machine

theorem scrapped_iff (s : State) : s.scrapped = true ↔ s.nv.keys.lc = 4 := by
  unfold State.scrapped
  exact beq_iff_eq

/-- An update leaves a SCRAPPED module SCRAPPED. -/
theorem Upd.scrapped {s t : State} (h : Upd s t) (hs : s.scrapped = true) : t.scrapped = true :=
  (scrapped_iff t).mpr (h.lc ((scrapped_iff s).mp hs))

/-- Settles O45: whatever the front command does is an update, which keeps life cycle 4, and taking the command off the queue
leaves the life cycle. -/
theorem scrappedForever : Obligations.ScrappedForever := by
  unfold Obligations.ScrappedForever
  intro s t hs h
  cases hp : s.pending with
  | nil =>
    rw [step_of_pending_nil hp] at h
    cases h
    exact hs
  | cons c rest =>
    rw [step_of_pending_cons hp] at h
    exact (upd_exec c h).scrapped hs

end Sys2Proof.Machine
end

section
/-! The interrupt unit: which sources request (R275), the selection (R277), delivery, end of interrupt, doorbells and the
coalescing timers (R278 to R282). -/

namespace Sys2Proof.Machine

/-! ### Requests (R275) -/

section
variable (s : State) {i : Nat}

theorem srcReq_of_engine (h : i < 128) : s.srcReq i = ((pageInfo i).isSome && s.irqReq i) := if_pos h

theorem srcReq_queue (h : i < 64) :
    s.srcReq (128 + i) = true ↔
      s.get (inBank Fd.QM_Q_CFG2_WMARK i) ≠ 0 ∧ s.get (inBank Fd.QM_Q_CFG2_WMARK i) ≤ (s.qItems i).length := by
  have hq : 128 + i - 128 = i := by omega
  unfold State.srcReq
  rw [if_neg (by omega), if_pos (by omega), hq]
  simp only [Bool.and_eq_true, bne_iff_ne, decide_eq_true_eq]

theorem srcReq_host (h : i < 8) : s.srcReq (192 + i) = s.flag ⟨Rg.PCIE_HDB, i, 1⟩ := by
  have hk : 192 + i - 192 = i := by omega
  unfold State.srcReq
  rw [if_neg (by omega), if_neg (by omega), if_pos (by omega), hk]

theorem srcReq_of_unused (h : 200 ≤ i) (h' : i < 224) : s.srcReq i = false := by
  unfold State.srcReq
  rw [if_neg (by omega), if_neg (by omega), if_neg (by omega), if_pos h']

theorem srcReq_software (h : i < 32) : s.srcReq (224 + i) = s.flag ⟨Rg.IU_DOORBELL, i, 1⟩ := by
  have hk : 224 + i - 224 = i := by omega
  unfold State.srcReq
  rw [if_neg (by omega), if_neg (by omega), if_neg (by omega), if_neg (by omega), if_pos (by omega), hk]

end

/-- Settles O50, class by class of the table of R275. -/
theorem interruptRequests : Obligations.InterruptRequests := by
  unfold Obligations.InterruptRequests
  exact fun s i => ⟨srcReq_of_engine s, srcReq_queue s, srcReq_host s, srcReq_of_unused s, srcReq_software s⟩

/-! ### Selection (R277) -/

/-- PRIO of source i. -/
abbrev State.srcPrio (s : State) (i : Nat) : Nat := s.get (inBank Fd.IU_SRC_CFG_PRIO i)

/-- Source i does not come before source j: a lower PRIO comes first, and a lower number on a tie. -/
def State.srcBefore (s : State) (i j : Nat) : Prop := s.srcPrio i < s.srcPrio j ∨ (s.srcPrio i = s.srcPrio j ∧ i ≤ j)

/-- The selection of core c once source i has been looked at. -/
def State.iuLookAt (s : State) (c : Nat) (b : Option Nat) (i : Nat) : Option Nat :=
  if !s.srcElig c i then b
  else match b with
    | none => some i
    | some j => if s.srcPrio i < s.srcPrio j then some i else b

theorem iuBest_eq (s : State) (c : Nat) :
    s.iuBest c =
      if !(s.flag (Fd.en Pg.iu) && s.flag (Fd.en (Pg.iuc c))) then none else (List.range 256).foldl (s.iuLookAt c) none :=
  rfl

/-- `b` is the selection of core c among the sources below n. -/
def State.BestBelow (s : State) (c n : Nat) : Option Nat → Prop
  | none => ∀ j < n, s.srcElig c j = false
  | some i => i < n ∧ s.srcElig c i = true ∧ ∀ j < n, s.srcElig c j = true → s.srcBefore i j

/-- The next source takes the selection's place only with a lower PRIO. -/
theorem bestBelow_iuLookAt {s : State} {c n : Nat} {b : Option Nat} (h : s.BestBelow c n b) :
    s.BestBelow c (n + 1) (s.iuLookAt c b n) := by
  unfold State.iuLookAt
  cases he : s.srcElig c n
  case false =>
    cases b with
    | none =>
      intro j hj
      rcases Nat.lt_succ_iff_lt_or_eq.mp hj with hj | rfl
      · exact h j hj
      · exact he
    | some i =>
      obtain ⟨hi, hei, hbest⟩ := h
      refine ⟨Nat.lt_succ_of_lt hi, hei, fun j hj hej => ?_⟩
      rcases Nat.lt_succ_iff_lt_or_eq.mp hj with hj | rfl
      · exact hbest j hj hej
      · rw [he] at hej
        cases hej
  case true =>
    cases b with
    | none =>
      refine ⟨Nat.lt_succ_self n, he, fun j hj hej => ?_⟩
      rcases Nat.lt_succ_iff_lt_or_eq.mp hj with hj | rfl
      · rw [h j hj] at hej
        cases hej
      · exact Or.inr ⟨rfl, Nat.le_refl j⟩
    | some i =>
      obtain ⟨hi, hei, hbest⟩ := h
      show s.BestBelow c (n + 1) (if s.srcPrio n < s.srcPrio i then some n else some i)
      by_cases hp : s.srcPrio n < s.srcPrio i
      · rw [if_pos hp]
        refine ⟨Nat.lt_succ_self n, he, fun j hj hej => ?_⟩
        rcases Nat.lt_succ_iff_lt_or_eq.mp hj with hj | rfl
        · rcases hbest j hj hej with hb | ⟨hb, -⟩
          · exact Or.inl (Nat.lt_trans hp hb)
          · exact Or.inl (Nat.lt_of_lt_of_eq hp hb)
        · exact Or.inr ⟨rfl, Nat.le_refl j⟩
      · rw [if_neg hp]
        refine ⟨Nat.lt_succ_of_lt hi, hei, fun j hj hej => ?_⟩
        rcases Nat.lt_succ_iff_lt_or_eq.mp hj with hj | rfl
        · exact hbest j hj hej
        · rcases Nat.lt_or_eq_of_le (Nat.not_lt.mp hp) with hb | hb
          · exact Or.inl hb
          · exact Or.inr ⟨hb, Nat.le_of_lt hi⟩

theorem bestBelow_foldl (s : State) (c n : Nat) : s.BestBelow c n ((List.range n).foldl (s.iuLookAt c) none) := by
  induction n with
  | zero => exact fun j hj => absurd hj (Nat.not_lt_zero j)
  | succ n ih =>
    rw [List.range_succ, List.foldl_append]
    exact bestBelow_iuLookAt ih

/-- With the unit or the core's unit disabled no source is eligible. -/
theorem srcElig_of_disabled {s : State} {c : Nat} (h : (s.flag (Fd.en Pg.iu) && s.flag (Fd.en (Pg.iuc c))) = false) (i : Nat) :
    s.srcElig c i = false := by
  unfold State.srcElig State.srcMay
  dsimp only
  rw [Bool.and_assoc (_ && _) (s.flag (Fd.en Pg.iu)), h]
  simp only [Bool.and_false, Bool.false_and]

theorem bestBelow_iuBest (s : State) (c : Nat) : s.BestBelow c 256 (s.iuBest c) := by
  rw [iuBest_eq]
  cases h : s.flag (Fd.en Pg.iu) && s.flag (Fd.en (Pg.iuc c))
  · rw [if_pos (by decide)]
    exact fun j _ => srcElig_of_disabled h j
  · rw [if_neg (by decide)]
    exact bestBelow_foldl s c 256

/-- Settles O51: each source looked at leaves the selection the best of those looked at so far. -/
theorem interruptSelection : Obligations.InterruptSelection := by
  unfold Obligations.InterruptSelection
  refine ⟨fun s c i h => ?some, fun s c j h => ?none⟩
  case some =>
    have hb := bestBelow_iuBest s c
    rw [h] at hb
    exact hb
  case none =>
    have hb := bestBelow_iuBest s c
    rw [h] at hb
    exact hb j

/-! ### Accesses of the pages that stand outside the light path and that the pair does not mirror -/

/-- The pages outside the light path that the pair does not mirror, whose blocks act on writes. -/
def localPages : List Nat :=
  [Pg.iu, Pg.iuc 0, Pg.iuc 1, Pg.iuc 2, Pg.iuc 3, Pg.qm, Pg.qmq, Pg.pcie, Pg.pair, Pg.byell, Pg.wit, Pg.ground, Pg.tamp,
    Pg.upd, Pg.rec, Pg.age, Pg.pwr, Pg.boot, Pg.wdog, Pg.dbg]

theorem lightPage_localPages : ∀ p ∈ localPages, lightPage p = false := by decide

theorem mirrored_localPages {p : Nat} (h : p ∈ localPages) (o : Nat) : mirrored p o = false := by
  have hp : ∀ p ∈ localPages, (p == Pg.hatch || p == Pg.hatchG || p == Pg.plate || p == Pg.group || p == Pg.node ||
      p == Pg.trace || p == Pg.sched) = false ∧ isFb p = false ∧ (p == Pg.io) = false := by decide
  obtain ⟨h1, h2, h3⟩ := hp p h
  unfold mirrored
  rw [h1, h2, h3]
  rfl

/-- A write that takes effect there reaches its block and nothing else. -/
theorem busWrite_localPage {s : State} {ini a : Nat} (v : Word) (hb : blockReg a = true) (hp : a / 0x1000 ∈ localPages)
    (h : s.takes ini a = true) (hv : noReserved a v = true) :
    s.busWrite ini a 4 v = (s.begun ini a).blockWrite ini (a / 0x1000) (a % 0x1000) v :=
  busWrite_block_local s ini a v hb h hv (lightPage_localPages _ hp) (mirrored_localPages hp _)

/-! ### The unit's registers (R279, R281) -/

/-- Of a word below 2 to the k, no bit stands outside the mask of its k low bits. -/
theorem ofNat_and_not_mask {n k : Nat} (h : n < 2 ^ k) : BitVec.ofNat 32 n &&& ~~~(BitVec.ofNat 32 (2 ^ k - 1)) = 0#32 := by
  refine BitVec.eq_of_getLsbD_eq fun i hi => ?_
  rw [BitVec.getLsbD_and, BitVec.getLsbD_not, BitVec.getLsbD_ofNat, BitVec.getLsbD_ofNat, Nat.testBit_two_pow_sub_one,
    BitVec.getLsbD_zero]
  by_cases hik : i < k
  · simp [hi, hik]
  · have hpow : n < 2 ^ i := Nat.lt_of_lt_of_le h (Nat.pow_le_pow_right (by decide) (Nat.not_lt.mp hik))
    simp [Nat.testBit_lt_two_pow hpow]

/-- The low field of a word below its bound. -/
theorem getF_ofNat_low {n k : Nat} (h : n < 2 ^ k) (hk : k ≤ 32) : getF (BitVec.ofNat 32 n) 0 k = n := by
  unfold getF
  rw [BitVec.toNat_ofNat, Nat.mod_eq_of_lt (Nat.lt_of_lt_of_le h (Nat.pow_le_pow_right (by decide) hk)), Nat.shiftRight_zero,
    Nat.mod_eq_of_lt h]

theorem iucEoi_facts : ∀ c < 4, blockReg (Rg.IUC_EOI c) = true ∧ Rg.IUC_EOI c / 0x1000 ∈ localPages ∧
    impBits (Rg.IUC_EOI c / 0x1000) (Rg.IUC_EOI c % 0x1000) = 2 ^ 8 - 1 := by decide

theorem blockWrite_iucEoi (s : State) (ini : Nat) {c : Nat} (v : Word) (hc : c < 4) :
    s.blockWrite ini (Rg.IUC_EOI c / 0x1000) (Rg.IUC_EOI c % 0x1000) v = s.iuEoi c (getF v 0 8) := by
  obtain rfl | rfl | rfl | rfl : c = 0 ∨ c = 1 ∨ c = 2 ∨ c = 3 := by omega
  all_goals rfl

/-- A write of EOI that takes effect ends the interrupt of its source. -/
theorem busWrite_iucEoi {s : State} {ini c src : Nat} (hc : c < 4) (hs : src < 256) (h : s.takes ini (Rg.IUC_EOI c) = true) :
    s.busWrite ini (Rg.IUC_EOI c) 4 (BitVec.ofNat 32 src) = (s.begun ini (Rg.IUC_EOI c)).iuEoi c src := by
  obtain ⟨hb, hp, hi⟩ := iucEoi_facts c hc
  have hv : noReserved (Rg.IUC_EOI c) (BitVec.ofNat 32 src) = true := by
    unfold noReserved
    rw [hi]
    exact beq_iff_eq.mpr (ofNat_and_not_mask (k := 8) hs)
  rw [busWrite_localPage _ hb hp h hv, blockWrite_iucEoi _ ini _ hc, getF_ofNat_low (k := 8) hs (by decide)]

/-- Every bit of IRQ_SET exists. -/
theorem noReserved_iuIrqSet (v : Word) : noReserved (Rg.reg Pg.iu 0x1C) v = true := by
  have hm : BitVec.ofNat 32 (impBits (Rg.reg Pg.iu 0x1C / 0x1000) (Rg.reg Pg.iu 0x1C % 0x1000)) = 0xFFFFFFFF#32 := by decide
  unfold noReserved
  rw [hm, show ~~~0xFFFFFFFF#32 = 0#32 by decide, BitVec.and_zero]
  rfl

/-- A write of IRQ_SET of page IU that takes effect sets doorbells (log entry 14). -/
theorem busWrite_iuIrqSet {s : State} {ini : Nat} (v : Word) (h : s.takes ini (Rg.reg Pg.iu 0x1C) = true) :
    s.busWrite ini (Rg.reg Pg.iu 0x1C) 4 v = (s.begun ini (Rg.reg Pg.iu 0x1C)).iuDoorbell v := by
  obtain ⟨pi, hpi⟩ : ∃ pi, pageInfo Pg.iu = some pi := ⟨_, rfl⟩
  rw [busWrite_header s ini Pg.iu 0x1C v pi (by decide) rfl hpi (by decide) (by decide) h (noReserved_iuIrqSet v)]
  exact toPartner_none _ _ v (by decide) (by decide)

/-- A register with W1C bits and no others that software writes: a write clears the bits it sets. -/
theorem store_of_w1c (s : State) {a : Nat} {r : RegRow} (v : Word) (h : rowAt a = some r) (hrw : r.rw = 0) :
    s.store (a / 0x1000) (a % 0x1000) v =
      s.wr (s.regKey (a / 0x1000) (a % 0x1000))
        (s.word (a / 0x1000) (a % 0x1000) &&& ~~~(v &&& BitVec.ofNat 32 r.w1c)) := by
  have h0 : BitVec.ofNat 32 0 = 0#32 := rfl
  rw [store_of_rowAt s v h, hrw]
  dsimp only
  rw [h0, BitVec.and_zero, BitVec.not_zero, BitVec.and_allOnes, BitVec.or_zero]

theorem store_iuDoorbell (s : State) (v : Word) :
    s.store Pg.iu 0x50 v = s.wr Rg.IU_DOORBELL (s.rd Rg.IU_DOORBELL &&& ~~~v) := by
  have hr : rowAt Rg.IU_DOORBELL = some ⟨"DOORBELL", 0x50, 1, 0, 0xffffffff, 0, 0, 0xffffffff, false, false, 0⟩ := by decide
  have hall : v &&& BitVec.ofNat 32 0xFFFFFFFF = v := BitVec.and_allOnes
  have h := store_of_w1c s v hr rfl
  rw [hall] at h
  exact h

theorem blockWrite_iu (s : State) (ini o : Nat) (v : Word) : s.blockWrite ini Pg.iu o v = s.iuWrite o v := by
  unfold State.blockWrite
  simp (disch := decide) only [if_neg, if_pos]

/-- A write of DOORBELL that takes effect clears the bits it sets. -/
theorem busWrite_iuDoorbell {s : State} {ini : Nat} (v : Word) (h : s.takes ini Rg.IU_DOORBELL = true)
    (hv : noReserved Rg.IU_DOORBELL v = true) :
    s.busWrite ini Rg.IU_DOORBELL 4 v =
      ((s.begun ini Rg.IU_DOORBELL).wr Rg.IU_DOORBELL ((s.begun ini Rg.IU_DOORBELL).rd Rg.IU_DOORBELL &&& ~~~v)).iuChanged := by
  rw [busWrite_localPage v (by decide) (by decide) h hv, ← store_iuDoorbell]
  exact blockWrite_iu _ ini 0x50 v

/-! ### Delivery and coalescing (R278, R282) -/

theorem iuDelivery_of_entry {s : State} {c i : Nat} (h : s.iuEntry c = some i) :
    s.iuDelivery c =
      (let t := s.setEntry c none
       match t.iuPick c i with
       | none => t
       | some j => (t.iuDeliver c j).iuLook c) := by
  unfold State.iuDelivery
  simp only [h] <;> rfl

theorem coalTimer_of_running {s : State} {g : Nat} (h1 : 1 ≤ g) (h16 : g < 16) (ht : (s.coal g).timer = true)
    (ho : (s.coal g).opened = false) :
    s.coalTimer g = ((s.setCoal g { s.coal g with opened := true }).coalSettle).iuLookAll :=
  if_pos ⟨h1, Nat.le_of_lt_succ h16, ht, ho⟩

/-- Settles O28: the entry sequence's end delivers the source picked; a write of EOI, IRQ_SET or DOORBELL reaches the unit; the
timer of an ARMED group opens it. -/
theorem interruptUnit : Obligations.InterruptUnit := by
  unfold Obligations.InterruptUnit
  refine ⟨fun s c i ha hc h => ?delivery, fun s c src hc hs h => ?eoi, fun s ini v h => ?set, fun s ini v h hv => ?clear,
    fun s g ha h1 h16 ht ho => ?timer⟩
  case delivery =>
    show Host.Outcome.next (s.app (s.ifOk (decide (c < 4)) (s.iuDelivery c))) = _
    rw [app_on ha, ifOk_true (decide_eq_true hc), iuDelivery_of_entry h]
    rfl
  case eoi =>
    show Host.Outcome.next (s.ifOk (decide (c < 4)) (s.busWrite (c + 1) (Rg.IUC_EOI c) 4 (BitVec.ofNat 32 src))) = _
    rw [ifOk_true (decide_eq_true hc), busWrite_iucEoi hc hs h]
    rfl
  case set =>
    show Host.Outcome.next (s.busWrite ini (Rg.reg Pg.iu 0x1C) 4 v) = _
    rw [busWrite_iuIrqSet v h]
    rfl
  case clear =>
    show Host.Outcome.next (s.busWrite ini Rg.IU_DOORBELL 4 v) = _
    rw [busWrite_iuDoorbell v h hv]
    rfl
  case timer =>
    show Host.Outcome.next (s.app (s.ifOk (decide (1 ≤ g ∧ g < 16)) (s.coalTimer g))) = _
    rw [app_on ha, ifOk_true (decide_eq_true ⟨h1, h16⟩), coalTimer_of_running h1 h16 ht ho]

end Sys2Proof.Machine
end

section
/-! The queue manager: items staged, pushed, popped and latched, queues enabled, flushed and stalled (R283, R285, R287, R289). -/

namespace Sys2Proof.Machine

/-- A one-bit field is a bit of its word. -/
theorem flag_eq_bitW (s : State) (a b : Nat) : s.flag ⟨a, b, 1⟩ = bitW (s.rd a) b := by
  have hb : (s.rd a).toNat / 2 ^ b % 2 < 2 := Nat.mod_lt _ (by decide)
  unfold State.flag State.get getF bitW
  rw [Nat.testBit_eq_decide_div_mod_eq, Nat.shiftRight_eq_div_pow]
  show (_ / 2 ^ b % 2 != 0) = decide (_ / 2 ^ b % 2 = 1)
  obtain h | h : (s.rd a).toNat / 2 ^ b % 2 = 0 ∨ (s.rd a).toNat / 2 ^ b % 2 = 1 := by omega
  all_goals rw [h]; rfl

theorem qmUp_of_appUp {s : State} (h : s.appUp = true) : s.qmUp = true := (Bool.and_eq_true_iff.mp h).2

/-! ### Writes of pages QMQ and QM -/

section
variable {s : State} {ini q : Nat} (v : Word) (hq : q < 64)
include hq

/-- A write of word w of queue q's item that takes effect comes to the queue manager. -/
theorem busWrite_itemReg {w : Nat} (hw : w < 8) (h : s.takes ini (itemReg q w) = true)
    (hv : noReserved (itemReg q w) v = true) :
    s.busWrite ini (itemReg q w) 4 v =
      if w = 7 then (s.begun ini (itemReg q w)).qCommit ini q v else (s.begun ini (itemReg q w)).qStage ini q w v := by
  obtain ⟨hb, hp, ho, hm⟩ := itemReg_facts q w hq hw
  have hqueue : (0x800 + 32 * q + 4 * w - 0x800) / 32 = q := by omega
  have hword : (0x800 + 32 * q + 4 * w - 0x800) / 4 % 8 = w := by omega
  rw [busWrite_block_local s ini _ v hb h hv (by rw [hp]; decide) hm, hp, ho]
  show State.qmqWrite _ ini (0x800 + 32 * q + 4 * w) v = _
  unfold State.qmqWrite
  rw [if_neg (by omega), hqueue, hword]

end

/-- A write of Q_CFG that takes effect is for the queue that Q_SEL names. -/
theorem busWrite_qCfg {s : State} {ini : Nat} (v : Word) (h : s.takes ini Rg.QM_Q_CFG = true)
    (hv : noReserved Rg.QM_Q_CFG v = true) :
    s.busWrite ini Rg.QM_Q_CFG 4 v = (s.begun ini Rg.QM_Q_CFG).qCfgWrite (s.get ⟨Rg.QM_Q_SEL, 0, 6⟩) v := by
  rw [busWrite_localPage v (by decide) (by decide) h hv, ← begun_get s ini Rg.QM_Q_CFG]
  rfl

/-- Q_CFG written with EN to a queue above the system queues: an enabled one keeps its range, another takes the one written if
it fits. -/
theorem qCfgWrite_enabling (s : State) {q : Nat} {v : Word} (h8 : 8 ≤ q) (hv : bitW v 31 = true) :
    s.qCfgWrite q v =
      if s.flag (inBank Fd.QM_Q_CFG_EN q) then
        let t := s.wr (bank q Rg.QM_Q_CFG) ((s.rd (bank q Rg.QM_Q_CFG) &&& 0x003F8FFF) ||| (v &&& 0x9FC00000))
        if bitW v 29 then t.qFlush q else t
      else
        let t := s.wr (bank q Rg.QM_Q_CFG) (v &&& 0x1FFF8FFF)
        if t.qFits q then
          let u := ((t.put (inBank Fd.QM_Q_CFG_EN q) 1).setItems q []).put (Fd.statBit Pg.qm 8) 0
          if bitW v 29 then u.qFlush q else u
        else t.put (Fd.statBit Pg.qm 8) 1 := by
  have hen : s.flag (inBank Fd.QM_Q_CFG_EN q) = bitW (s.rd (bank q Rg.QM_Q_CFG)) 31 := flag_eq_bitW s _ 31
  unfold State.qCfgWrite
  rw [hen, if_neg (Nat.not_lt.mpr h8)]
  simp only [hv, Bool.not_true, Bool.false_eq_true, if_true, if_false]

/-! ### Reads of page QMQ -/

/-- STALLED of queue q cleared. -/
def State.unstalled (s : State) (q : Nat) : State :=
  { s with qm := { s.qm with stalled := Tab.set (fun _ => false) s.qm.stalled q false } }

theorem stalled_unstalled (s : State) (q : Nat) : Tab.get (fun _ => false) (s.unstalled q).qm.stalled q = false :=
  Tab.get_set_same _ _ q false

section
variable {s : State} {q : Nat} (ini : Nat)

/-- The head of an enabled queue is popped and latched. -/
theorem qPop_of_item {it : List Word} {l : List (List Word)} (ho : (s.qCheck q).qOn q = true)
    (hi : (s.qCheck q).qItems q = it :: l) :
    s.qPop ini q = (it.headD 0, ((((s.qCheck q).setItems q l).qLatch ini q it).unstalled q).coalSettle) := by
  unfold State.qPop
  simp only [ho, hi]
  rfl

/-- Where no item waits the idle item is latched. -/
theorem qPop_of_idle (h : (s.qCheck q).qOn q = false ∨ (s.qCheck q).qItems q = []) :
    s.qPop ini q = (0xFF, ((s.qCheck q).unstalled q).qLatch ini q idleItem) := by
  unfold State.qPop
  rcases h with h | h
  · simp only [h]
    rfl
  · cases ho : (s.qCheck q).qOn q <;> simp only [h, ho] <;> rfl

/-- Either queue q has a head to pop or a pop finds it idle. -/
theorem qPop_cases (s : State) (q : Nat) :
    (s.qOn q = true ∧ ∃ it l, s.qItems q = it :: l) ∨ s.qOn q = false ∨ s.qItems q = [] := by
  cases ho : s.qOn q
  case false => exact Or.inr (Or.inl rfl)
  case true =>
    cases hi : s.qItems q with
    | nil => exact Or.inr (Or.inr rfl)
    | cons it l => exact Or.inl ⟨rfl, it, l, rfl⟩

theorem stalled_qPop : Tab.get (fun _ => false) (s.qPop ini q).2.qm.stalled q = false := by
  rcases qPop_cases (s.qCheck q) q with ⟨ho, it, l, hi⟩ | hidle
  · rw [qPop_of_item ini ho hi]
    obtain ⟨x, e⟩ := coalSettle_iu ((((s.qCheck q).setItems q l).qLatch ini q it).unstalled q)
    rw [e]
    exact stalled_unstalled _ q
  · rw [qPop_of_idle ini hidle]
    exact stalled_unstalled _ q

end

section
variable {s : State} {ini q : Nat} (hq : q < 64)
include hq

theorem itemReg_lt_window {w : Nat} (hw : w < 8) : itemReg q w < 0x80000 := by
  show 0x51000 + (0x800 + 32 * q + 4 * w) < 0x80000
  omega

/-- A read of word 0 pops. -/
theorem busRead_item0 (h : s.reaches ini (itemReg q 0) false = true) :
    s.busRead ini (itemReg q 0) 4 = (s.qPop ini q).2.respond (s.qPop ini q).1 false := by
  obtain ⟨-, hp, ho, -⟩ := itemReg_facts q 0 hq (by decide)
  have hqueue : (0x800 + 32 * q + 4 * 0 - 0x800) / 32 = q := by omega
  have hpop : s.popRead ini Pg.qmq (0x800 + 32 * q + 4 * 0) = some (s.qPop ini q) := by
    unfold State.popRead
    rw [if_pos ⟨rfl, by omega, by omega⟩, hqueue]
  rw [busRead_reaches s ini _ (itemReg_lt_window hq (by decide)) h]
  unfold State.readReg
  simp only [hp, ho, hpop]

/-- A read of words 1 to 7 answers what the pop latched. -/
theorem busRead_itemWord {w : Nat} (h1 : 1 ≤ w) (hw : w < 8) (h : s.reaches ini (itemReg q w) false = true)
    (hl : s.latched ini Pg.qmq (0x800 + 32 * q + 4 * w) = none) :
    s.busRead ini (itemReg q w) 4 = s.respond (s.live ini Pg.qmq (0x800 + 32 * q + 4 * w)) false := by
  obtain ⟨-, hp, ho, -⟩ := itemReg_facts q w hq hw
  have hother : ∀ p k, p ≠ Pg.qmq → ¬(Pg.qmq = p ∧ k) := fun p k hne hc => hne hc.1.symm
  have hpop : s.popRead ini Pg.qmq (0x800 + 32 * q + 4 * w) = none := by
    unfold State.popRead
    rw [if_neg (by omega), if_neg (by omega)]
    simp (disch := decide) only [hother, if_neg]
    rfl
  have hsnap : s.takeSnapshot ini Pg.qmq (0x800 + 32 * q + 4 * w) = s := by
    have hqmq : ∀ x ∈ latchRegs ++ drawRegs, x.1 ≠ Pg.qmq := by decide
    exact takeSnapshot_eq_self s ini (fun hm => hqmq _ (List.mem_append_left _ hm) rfl)
      (fun hm => hqmq _ (List.mem_append_right _ hm) rfl)
  have hclear : clearedByRead Pg.qmq (0x800 + 32 * q + 4 * w) = false :=
    Bool.eq_false_iff.mpr fun hc => by have := clearedByRead_qmq hc; omega
  have hent : s.entNext Pg.qmq (0x800 + 32 * q + 4 * w) = s := if_neg fun hc => absurd hc.1 (by decide)
  rw [busRead_reaches s ini _ (itemReg_lt_window hq hw) h]
  unfold State.readReg
  simp only [hp, ho, hpop, hsnap, hclear, hl, hent, Option.getD_none, Bool.false_eq_true, if_false]

end

/-! ### The stall (R289) -/

theorem qStall_of_due {s : State} {q : Nat} (ha : s.appUp = true) (hq : q < 64)
    (ht : s.get (inBank Fd.QM_Q_CFG2_STALL q) ≠ 0) (hn : (s.qItems q).length ≠ 0) (ho : s.qOn q = true)
    (hs : Tab.get (fun _ => false) s.qm.stalled q = false) :
    s.qStall q =
      (({ s with qm := { s.qm with stalled := Tab.set (fun _ => false) s.qm.stalled q true } }).irq Pg.qm 2).raise
        Ev.QM_STALL Pg.qm [q, (s.qItems q).length] :=
  if_pos ⟨ht, hn, ho, qmUp_of_appUp ha, hs, hq⟩

/-! ### The obligations -/

/-- Settles O29: each write of the item registers and of Q_CFG, and each read of the item registers, comes to the queue that it
names; a queue that holds items and shows no stall takes one. -/
theorem queues : Obligations.Queues := by
  unfold Obligations.Queues
  refine ⟨fun s ini q w v hq hw h hv => ?stage, fun s ini q v hq h hv => ?push, fun s ini q hq h => ?pop,
    fun s ini q w hq h1 hw h hl => ?latch, fun s ini v h hv => ?enable, fun s ini h hv => ?flush,
    fun s q v h8 _ hv => qCfgWrite_enabling s h8 hv, fun s q ha hq ht hn ho hs => ?stall⟩
  case stage =>
    show Host.Outcome.next (s.ifOk (decide (q < 64 ∧ w < 7)) (s.busWrite ini (itemReg q w) 4 v)) = _
    rw [ifOk_true (decide_eq_true ⟨hq, hw⟩), busWrite_itemReg v hq (by omega) h hv, if_neg (by omega)]
    rfl
  case push =>
    show Host.Outcome.next (s.ifOk (decide (q < 64)) (s.busWrite ini (itemReg q 7) 4 v)) = _
    rw [ifOk_true (decide_eq_true hq), busWrite_itemReg v hq (by decide) h hv]
    rfl
  case pop =>
    show Host.Outcome.next (s.ifOk (decide (q < 64)) (s.busRead ini (itemReg q 0) 4)) = _
    rw [ifOk_true (decide_eq_true hq), busRead_item0 hq h]
    dsimp only
    rcases qPop_cases (s.qCheck q) q with ⟨ho, it, l, hi⟩ | hidle
    · rw [qPop_of_item ini ho hi]
      simp only [ho, hi] <;> rfl
    · rw [qPop_of_idle ini hidle]
      rcases hidle with ho | hi
      · simp only [ho] <;> rfl
      · cases (s.qCheck q).qOn q <;> simp only [hi] <;> rfl
  case latch =>
    show Host.Outcome.next (s.ifOk (decide (q < 64 ∧ 1 ≤ w ∧ w < 8)) (s.busRead ini (itemReg q w) 4)) = _
    rw [ifOk_true (decide_eq_true ⟨hq, h1, hw⟩), busRead_itemWord hq h1 hw h hl]
  case enable => exact congrArg Host.Outcome.next (busWrite_qCfg _ h hv)
  case flush => exact congrArg Host.Outcome.next (busWrite_qCfg _ h hv)
  case stall =>
    show Host.Outcome.next (s.app (s.ifOk (decide (q < 64)) (s.qStall q))) = _
    rw [app_on ha, ifOk_true (decide_eq_true hq), qStall_of_due ha hq ht hn ho hs]

/-- Settles O55: the source of R275, the stall that the command stands for, and the pop that ends it. -/
theorem queueStalls : Obligations.QueueStalls := by
  unfold Obligations.QueueStalls
  refine ⟨fun s q hq => srcReq_queue s hq, fun s q ha hq ht hn ho hs => ?stall, fun s ini q hq h => ?pop⟩
  case stall =>
    refine ⟨({ s with qm := { s.qm with stalled := Tab.set (fun _ => false) s.qm.stalled q true } }).irq Pg.qm 2, ?_, ?_⟩
    · show Host.Outcome.next (s.app (s.ifOk (decide (q < 64)) (s.qStall q))) = _
      rw [app_on ha, ifOk_true (decide_eq_true hq), qStall_of_due ha hq ht hn ho hs]
    · rw [irq_eq]
      exact Tab.get_set_same _ _ q true
  case pop =>
    refine ⟨(s.qPop ini q).2.respond (s.qPop ini q).1 false, ?_, ?_⟩
    · show Host.Outcome.next (s.ifOk (decide (q < 64)) (s.busRead ini (itemReg q 0) 4)) = _
      rw [ifOk_true (decide_eq_true hq), busRead_item0 hq h]
    · exact stalled_qPop ini

end Sys2Proof.Machine
end

section
/-! The PCIe endpoint: what the host may reach (R294), its doorbells (R295), the completion queues and host memory (R296),
moderation and messages (R297), the sleeping host, resets and the link (R298 to R300). -/

namespace Sys2Proof.Machine

/-! ### What the host may reach (R294) -/

theorem hostDenied_of_mask {s : State} {p : Nat} (o : Nat) (w : Bool)
    (h : bitW (s.rd (Rg.PCIE_HOST_MASK (p / 32))) (p % 32) = false) : s.hostDenied p o w = true := by
  unfold State.hostDenied
  rw [h]
  rfl

theorem denied_of_hostDenied {s : State} {p o : Nat} {w : Bool} (h : s.hostDenied p o w = true) (shadow : Bool) :
    s.denied 5 p o w shadow = true := by
  unfold State.denied
  rw [h]
  rfl

/-- Of page PCIE the host writes HDB_SET and CQ_HEAD only. -/
theorem hostDenied_pcie (s : State) {o : Nat} (h : o ≠ 0x54) (h' : o ≠ 0x6C) : s.hostDenied Pg.pcie o true = true := by
  unfold State.hostDenied
  simp [h, h']

/-- Only the application cores write HOST_MASK. -/
theorem denied_hostMask (s : State) {ini o : Nat} (h : 0x44 ≤ o) (h' : o ≤ 0x50) (hi : ini < 1 ∨ 4 < ini) (shadow : Bool) :
    s.denied ini Pg.pcie o true shadow = true := by
  have hcore : ¬(1 ≤ ini ∧ ini ≤ 4) := by omega
  unfold State.denied
  simp [h, h', hcore]

/-- The pages that HOST_MASK names at reset. -/
theorem hostMask_regReset : ∀ p < 128,
    (bitW (regReset (Rg.PCIE_HOST_MASK (p / 32))) (p % 32) = true ↔ p = Pg.sys ∨ p = Pg.qmq ∨ p = Pg.pcie) := by
  decide

/-- Settles O54: a page out of the host's reach answers DENIED before any later error, and a write that is turned away has
used the host's unlock (R46, log entry 21). -/
theorem hostMask : Obligations.HostMask := by
  unfold Obligations.HostMask
  refine ⟨fun s a size w v hl => ?access, fun s a size w v ha hm hx hon hb hq hl => ?denied, fun p hp => ?reset,
    fun s o => ⟨fun h h' => denied_of_hostDenied (hostDenied_pcie s h h') false,
      fun ini h h' hi => denied_hostMask s h h' hi false⟩⟩
  case access => exact congrArg Host.Outcome.next (hostAccess_awake size w v hl)
  case denied =>
    have he : s.accessError 5 a size w false = some (0x06, false) :=
      accessError_denied s 5 a size w hx hq hon (denied_of_hostDenied (hostDenied_of_mask _ w hb) false)
    show Host.Outcome.next (s.hostAccess a size w v) = _
    rw [hostAccess_awake size w v hl]
    cases w
    case true =>
      rw [if_pos rfl, busWrite_of_error v ha hm he]
      rfl
    case false =>
      rw [if_neg Bool.false_ne_true, busRead_of_error ha hm he]
      rfl
  case reset => exact hostMask_regReset p hp

/-! ### Host doorbells (R295) -/

/-- Doorbell k set where the word's bit k is. -/
def State.hdbSetAt (s : State) (v : Word) (k : Nat) : State :=
  if bitW v k then s.withReq (192 + k) (·.put ⟨Rg.PCIE_HDB, k, 1⟩ 1) else s

theorem hdbSet_eq (s : State) (v : Word) : s.hdbSet v = (List.range 8).foldl (fun t k => t.hdbSetAt v k) s := rfl

/-- A change under which a source may come to request leaves the register words that the change makes. -/
theorem rd_withReq (s : State) (i : Nat) (f : State → State) (a : Nat) : (s.withReq i f).rd a = (f s).rd a := by
  obtain ⟨x, e⟩ := withReq_iu s i f
  rw [e]
  rfl

theorem flag_withReq (s : State) (i : Nat) (f : State → State) (g : Fld) : (s.withReq i f).flag g = (f s).flag g := by
  unfold State.flag State.get
  rw [rd_withReq]

/-- A one-bit field put to 1 reads 1, and the other bits of its word as before. -/
theorem flag_put_bit (s : State) {a j k : Nat} (hj : j < 32) (hk : k < 32) :
    (s.put ⟨a, k, 1⟩ 1).flag ⟨a, j, 1⟩ = (decide (j = k) || s.flag ⟨a, j, 1⟩) := by
  by_cases h : j = k
  · subst h
    unfold State.flag
    rw [get_put_same s ⟨a, j, 1⟩ 1 hj, decide_eq_true rfl]
    rfl
  · unfold State.flag
    have hbeside : k + 1 ≤ j ∨ j + 1 ≤ k := by omega
    rw [get_put_beside s ⟨a, k, 1⟩ ⟨a, j, 1⟩ 1 rfl hbeside hj, decide_eq_false h, Bool.false_or]

theorem flag_hdbSetAt (s : State) (v : Word) {j k : Nat} (hj : j < 32) (hk : k < 32) :
    (s.hdbSetAt v k).flag ⟨Rg.PCIE_HDB, j, 1⟩ = (decide (j = k) && bitW v k || s.flag ⟨Rg.PCIE_HDB, j, 1⟩) := by
  unfold State.hdbSetAt
  cases hb : bitW v k
  case false => rw [if_neg Bool.false_ne_true, Bool.and_false, Bool.false_or]
  case true => rw [if_pos rfl, flag_withReq, flag_put_bit s hj hk, Bool.and_true]

/-- After the first n doorbells have been looked at. -/
theorem flag_hdbSet_foldl (s : State) (v : Word) {n : Nat} (hn : n ≤ 32) {j : Nat} (hj : j < 32) :
    ((List.range n).foldl (fun t k => t.hdbSetAt v k) s).flag ⟨Rg.PCIE_HDB, j, 1⟩ =
      (decide (j < n) && bitW v j || s.flag ⟨Rg.PCIE_HDB, j, 1⟩) := by
  induction n with
  | zero => rfl
  | succ n ih =>
    rw [List.range_succ, List.foldl_append, List.foldl_cons, List.foldl_nil, flag_hdbSetAt _ v hj (by omega), ih (by omega)]
    by_cases h : j = n
    · subst h
      simp
    · have hlt : j < n + 1 ↔ j < n := by omega
      simp [h, hlt]

theorem flag_hdbSet (s : State) (v : Word) {k : Nat} (hk : k < 8) :
    (s.hdbSet v).flag ⟨Rg.PCIE_HDB, k, 1⟩ = (bitW v k || s.flag ⟨Rg.PCIE_HDB, k, 1⟩) := by
  rw [hdbSet_eq, flag_hdbSet_foldl s v (by decide) (by omega), decide_eq_true hk, Bool.true_and]

theorem blockWrite_pcie (s : State) (ini o : Nat) (v : Word) : s.blockWrite ini Pg.pcie o v = s.pcieWrite ini o v := rfl

section
variable (s : State) (ini : Nat) (v : Word)

theorem pcieWrite_hdbSet : s.pcieWrite ini 0x54 v = s.hdbSet v := by
  unfold State.pcieWrite
  simp (disch := decide) only [if_pos]

theorem pcieWrite_hdb : s.pcieWrite ini 0x58 v = (s.store Pg.pcie 0x58 v).iuChanged := by
  unfold State.pcieWrite
  simp (disch := decide) only [if_neg, if_pos]

theorem pcieWrite_cqHead : s.pcieWrite ini 0x6C v = (s.store Pg.pcie 0x6C v).cqDrain (s.get ⟨Rg.PCIE_CQ_SEL, 0, 3⟩) := by
  unfold State.pcieWrite
  simp (disch := decide) only [if_neg, if_pos]

theorem pcieWrite_cplCmd : s.pcieWrite ini 0x90 v = s.cplPost ini (getF v 0 3) := by
  unfold State.pcieWrite
  simp (disch := decide) only [if_neg, if_pos]

end

/-- A write of a register of page PCIE that takes effect reaches the endpoint. -/
theorem busWrite_pcie {s : State} {ini a : Nat} (v : Word) (hb : blockReg a = true) (hp : a / 0x1000 = Pg.pcie)
    (h : s.takes ini a = true) (hv : noReserved a v = true) :
    s.busWrite ini a 4 v = (s.begun ini a).pcieWrite ini (a % 0x1000) v := by
  rw [busWrite_localPage v hb (by rw [hp]; decide) h hv, hp, blockWrite_pcie]

theorem busWrite_hdbSet {s : State} (v : Word) (h : s.takes 5 Rg.PCIE_HDB_SET = true)
    (hv : noReserved Rg.PCIE_HDB_SET v = true) :
    s.busWrite 5 Rg.PCIE_HDB_SET 4 v = (s.begun 5 Rg.PCIE_HDB_SET).hdbSet v := by
  rw [busWrite_pcie v (by decide) (by decide) h hv]
  exact pcieWrite_hdbSet _ 5 v

theorem store_hdb (s : State) (v : Word) :
    s.store Pg.pcie 0x58 v = s.wr Rg.PCIE_HDB (s.rd Rg.PCIE_HDB &&& ~~~(v &&& 0xFF#32)) := by
  have hr : rowAt Rg.PCIE_HDB = some ⟨"HDB", 0x58, 1, 0, 0xff, 0, 0, 0xff, false, false, 0⟩ := by decide
  exact store_of_w1c s v hr rfl

theorem busWrite_hdb {s : State} {ini : Nat} (v : Word) (h : s.takes ini Rg.PCIE_HDB = true)
    (hv : noReserved Rg.PCIE_HDB v = true) :
    s.busWrite ini Rg.PCIE_HDB 4 v =
      ((s.begun ini Rg.PCIE_HDB).wr Rg.PCIE_HDB
        ((s.begun ini Rg.PCIE_HDB).rd Rg.PCIE_HDB &&& ~~~(v &&& 0xFF#32))).iuChanged := by
  rw [busWrite_pcie v (by decide) (by decide) h hv, ← store_hdb]
  exact pcieWrite_hdb _ ini v

/-- The unit's look after a change leaves the register words. -/
theorem rd_iuChanged (s : State) (a : Nat) : s.iuChanged.rd a = s.rd a := by
  unfold State.iuChanged
  obtain ⟨x, e⟩ := coalSettle_iu s
  obtain ⟨y, e'⟩ := iuLookAll_iu s.coalSettle
  rw [e', e]
  rfl

theorem bitW_not {w : Word} {k : Nat} (hk : k < 32) : bitW (~~~w) k = !bitW w k := by
  show (~~~w).getLsbD k = !w.getLsbD k
  rw [BitVec.getLsbD_not, decide_eq_true hk, Bool.true_and]

/-- Settles O52: each doorbell is set on its own, and the W1C write of HDB clears the bits it sets. -/
theorem hostDoorbells : Obligations.HostDoorbells := by
  unfold Obligations.HostDoorbells
  refine ⟨fun s v h hv => ?set, fun s ini v h hv => ?clear⟩
  case set =>
    refine ⟨_, congrArg Host.Outcome.next (busWrite_hdbSet v h hv), fun k hk => ⟨?_, srcReq_host _ hk⟩⟩
    rw [flag_hdbSet _ v hk, begun_flag]
  case clear =>
    refine ⟨_, congrArg Host.Outcome.next (busWrite_hdb v h hv), fun k hk => ?_⟩
    have hmask : ∀ k < 8, bitW 0xFF#32 k = true := by decide
    rw [flag_eq_bitW, rd_iuChanged, rd_wr_same, begun_rd, bitW_and, bitW_not (by omega), bitW_and, hmask k hk, Bool.and_true,
      flag_eq_bitW]

/-! ### Completion queues and host memory (R296) -/

@[simp] theorem getElem?_withPhase (ws : List Word) (ph : Bool) {i : Nat} (h : i < 4) :
    ((withPhase ws ph)[i]?).getD 0 = if i = 3 then setF ((ws[3]?).getD 0) 31 1 (b2n ph) else (ws[i]?).getD 0 := by
  obtain rfl | rfl | rfl | rfl : i = 0 ∨ i = 1 ∨ i = 2 ∨ i = 3 := by omega
  all_goals rfl

theorem hostMem_hostWrite_foldl (m : Tab Word) (a : Nat) (ws : List Word) {n j : Nat} :
    Tab.get (fun _ => 0) ((List.range n).foldl (fun m i => Tab.set (fun _ => 0) m (a + 4 * i) ((ws[i]?).getD 0)) m) j =
      if ∃ i, i < n ∧ j = a + 4 * i then (ws[(j - a) / 4]?).getD 0 else Tab.get (fun _ => 0) m j := by
  induction n with
  | zero =>
    rw [if_neg (by simp)]
    rfl
  | succ n ih =>
    rw [List.range_succ, List.foldl_append, List.foldl_cons, List.foldl_nil]
    by_cases h : j = a + 4 * n
    · have hn : (a + 4 * n - a) / 4 = n := by omega
      subst h
      rw [Tab.get_set_same, if_pos ⟨n, by omega, rfl⟩, hn]
    · have hiff : (∃ i, i < n + 1 ∧ j = a + 4 * i) ↔ ∃ i, i < n ∧ j = a + 4 * i := by
        constructor
        · rintro ⟨i, hi, rfl⟩
          exact ⟨i, by omega, rfl⟩
        · rintro ⟨i, hi, rfl⟩
          exact ⟨i, by omega, rfl⟩
      rw [Tab.get_set_ne _ _ _ h, ih]
      simp only [hiff]

/-- Four words go to host memory, and the rest of it stays. -/
theorem hostMem_hostWrite (s : State) (a : Nat) (ws : List Word) (j : Nat) :
    Tab.get (fun _ => 0) (s.hostWrite a ws).pcie.hostMem j =
      if ∃ i, i < 4 ∧ j = a + 4 * i then (ws[(j - a) / 4]?).getD 0 else Tab.get (fun _ => 0) s.pcie.hostMem j :=
  hostMem_hostWrite_foldl s.pcie.hostMem a ws

@[simp] theorem cq_setCq_same (s : State) (k : Nat) (x : CqSt) : (s.setCq k x).cq k = x := Tab.get_set_same _ _ _ _

/-- Byte address of the ring of completion queue k. -/
def State.cqBase (s : State) (k : Nat) : Nat :=
  (s.rd (bank k Rg.PCIE_CQ_BASE_HI)).toNat * 2 ^ 32 + (s.rd (bank k Rg.PCIE_CQ_BASE_LO)).toNat

/-- TAIL of completion queue k. -/
abbrev State.cqTail (s : State) (k : Nat) : Nat := s.get (inBank ⟨Rg.PCIE_CQ_TAIL, 0, 12⟩ k)

/-- SIZE of completion queue k. -/
abbrev State.cqSize (s : State) (k : Nat) : Nat := s.get (inBank Fd.PCIE_CQ_CFG_SIZE k)

/-- TAIL after an entry. -/
def State.cqNextTail (s : State) (k : Nat) : Nat := if s.cqSize k ≤ s.cqTail k + 1 then 0 else s.cqTail k + 1

section
variable (s : State) (k : Nat) (ws : List Word)

theorem hostMem_cqWrite :
    (s.cqWrite k ws).pcie.hostMem =
      (s.hostWrite (s.cqBase k + 16 * s.cqTail k) (withPhase ws (s.cq k).phase)).pcie.hostMem := rfl

theorem cqTail_cqWrite (h : s.cqSize k ≤ 4096) : (s.cqWrite k ws).cqTail k = s.cqNextTail k := by
  have hlt : s.cqNextTail k < 2 ^ 12 := by
    unfold State.cqNextTail
    split <;> omega
  show ((s.hostWrite _ _).put (inBank ⟨Rg.PCIE_CQ_TAIL, 0, 12⟩ k) (s.cqNextTail k)).get (inBank ⟨Rg.PCIE_CQ_TAIL, 0, 12⟩ k) = _
  rw [get_put_same _ _ _ (show 0 + 12 ≤ 32 by decide), Nat.mod_eq_of_lt hlt]

theorem phase_cqWrite :
    ((s.cqWrite k ws).cq k).phase = if s.cqNextTail k = 0 then !(s.cq k).phase else (s.cq k).phase :=
  congrArg CqSt.phase (cq_setCq_same _ k _)

theorem cqNextTail_eq_zero_iff : s.cqNextTail k = 0 ↔ s.cqSize k ≤ s.cqTail k + 1 := by
  unfold State.cqNextTail
  split
  next h => exact iff_of_true rfl h
  next h => exact iff_of_false (Nat.succ_ne_zero _) h

end

/-- Settles O57: an entry is four words at TAIL, and a TAIL of 0 after it is the wrap. -/
theorem hostMemory : Obligations.HostMemory := by
  unfold Obligations.HostMemory
  intro s k ws _ hsize
  dsimp only
  refine ⟨fun i hi => ?entry, fun a ha => ?rest, cqTail_cqWrite s k ws hsize, ?phase⟩
  case entry =>
    have hword : (s.cqBase k + 16 * s.cqTail k + 4 * i - (s.cqBase k + 16 * s.cqTail k)) / 4 = i := by omega
    refine (congrArg (fun m => Tab.get _ m _) (hostMem_cqWrite s k ws)).trans ?_
    refine (hostMem_hostWrite s _ _ (s.cqBase k + 16 * s.cqTail k + 4 * i)).trans ?_
    rw [if_pos ⟨i, hi, rfl⟩, hword, getElem?_withPhase ws _ hi]
  case rest =>
    refine (congrArg (fun m => Tab.get _ m _) (hostMem_cqWrite s k ws)).trans ?_
    refine (hostMem_hostWrite s _ _ a).trans ?_
    exact if_neg fun ⟨i, hi, e⟩ => ha i hi e
  case phase =>
    rw [phase_cqWrite]
    simp only [cqNextTail_eq_zero_iff]

/-! ### The host's link (R294 to R300) -/

section
variable {s : State} {k : Nat}

theorem cqEntryWrite_of_held {e : List Word} {l : List (List Word)} (hh : (s.cq k).held = e :: l) (hu : s.hostUp = true)
    (ho : s.cqOn k = true) (hf : s.cqFull k = false) :
    s.cqEntryWrite k = (s.setCq k { s.cq k with held := l }).cqWrite k e := by
  unfold State.cqEntryWrite
  simp only [hh, hu, ho, hf, Bool.not_false, Bool.and_true, if_true]

theorem modExpire_of_running (ht : (s.cq k).timer = true) :
    s.modExpire k =
      (let t := s.setCq k { s.cq k with timer := false, due := true }
       if t.hostAsleep && t.flag ⟨Rg.PCIE_WAKE_ON_CPL, 0, 1⟩ then { t with pcie := { t.pcie with wake := true } } else t) :=
  if_pos ht

theorem msixSend_of_due (hd : (s.cq k).due = true) (hh : (s.cq k).held = []) (hu : s.hostUp = true) :
    s.msixSend k =
      (s.setCq k { s.cq k with unsig := 0, timer := false, due := false }).msixFire
        (s.get (inBank Fd.PCIE_CQ_CFG_VECTOR k)) := by
  unfold State.msixSend
  simp only [hd, hh, hu, List.isEmpty_nil, Bool.and_true, if_true]

theorem pcieReset_of_enabled (he : s.flag (Fd.en Pg.pcie) = true) (cause : Nat) : s.pcieReset cause = s.pcieClear cause := by
  unfold State.pcieReset
  rw [he, if_neg (by decide)]

theorem msixUnmask_of_vector {v : Nat} (hv : v < 16) :
    s.msixUnmask v =
      (let t : State := { s with pcie := { s.pcie with unmasked := Tab.set (fun _ => false) s.pcie.unmasked v true } }
       if Tab.get (fun _ => false) t.pcie.pba v && t.hostUp then t.msixFire v else t) :=
  if_neg (Nat.not_le.mpr hv)

/-- A write of CQ_HEAD that takes effect is for the completion queue that CQ_SEL names. -/
theorem busWrite_cqHead {v : Word} (h : s.takes 5 Rg.PCIE_CQ_HEAD = true) (hv : noReserved Rg.PCIE_CQ_HEAD v = true) :
    s.busWrite 5 Rg.PCIE_CQ_HEAD 4 v =
      ((s.begun 5 Rg.PCIE_CQ_HEAD).store Pg.pcie 0x6C v).cqDrain (s.get ⟨Rg.PCIE_CQ_SEL, 0, 3⟩) := by
  rw [busWrite_pcie v (by decide) (by decide) h hv, ← begun_get s 5 Rg.PCIE_CQ_HEAD]
  exact pcieWrite_cqHead _ 5 v

theorem busWrite_cplCmd {ini : Nat} {v : Word} (h : s.takes ini Rg.PCIE_CPL_CMD = true)
    (hv : noReserved Rg.PCIE_CPL_CMD v = true) :
    s.busWrite ini Rg.PCIE_CPL_CMD 4 v = (s.begun ini Rg.PCIE_CPL_CMD).cplPost ini (getF v 0 3) := by
  rw [busWrite_pcie v (by decide) (by decide) h hv]
  exact pcieWrite_cplCmd _ ini v

/-- The link's end is shown also while the port is disabled; its coming up is not. -/
theorem pcieLink_of_shown {up : Bool} (h : up = false ∨ s.flag (Fd.en Pg.pcie) = true) (speed width : Nat) :
    s.pcieLink up speed width =
      (let t := s.put Fd.PCIE_LINK_UP (b2n up)
       let t := if up then ((t.put Fd.PCIE_LINK_SPEED speed).put Fd.PCIE_LINK_WIDTH width).put Fd.PCIE_LINK_PERST 0
         else ((t.put Fd.PCIE_LINK_SPEED 0).put Fd.PCIE_LINK_WIDTH 0).put Fd.PCIE_LINK_L1 0
       (t.irq Pg.pcie 0).raise Ev.PCIE_LINK Pg.pcie [b2n up, speed, width]) := by
  have hbar : ¬(up && !s.flag (Fd.en Pg.pcie)) = true := by
    rcases h with h | h
    · rw [h, Bool.false_and]
      decide
    · rw [h, Bool.not_true, Bool.and_false]
      decide
  unfold State.pcieLink
  rw [if_neg hbar]

end

/-- Settles O30: a write that takes effect reaches the endpoint, and each other command finds the queue, the link or the vector in
the case that its clause names. -/
theorem hostLink : Obligations.HostLink := by
  unfold Obligations.HostLink
  refine ⟨fun _ _ _ _ _ => rfl, fun s v h hv => congrArg Host.Outcome.next (busWrite_hdbSet v h hv),
    fun s ini v h hv => congrArg Host.Outcome.next (busWrite_hdb v h hv),
    fun s ini v h hv => congrArg Host.Outcome.next (busWrite_cplCmd h hv), fun s k e l ha hk hh hu ho hf => ?entry,
    fun s v h hv => congrArg Host.Outcome.next (busWrite_cqHead h hv), fun s k ha hk ht => ?timer,
    fun s k ha hk hd hh hu => ?send, fun s d0 ha => ?wake, fun s cause ha he => ?reset,
    fun s up speed width ha h => ?link, fun s l1 d3 ha => ?sleep, fun s v ha hv => ?unmask⟩
  case entry =>
    show Host.Outcome.next (s.app (s.ifOk (decide (k < 8)) (s.cqEntryWrite k))) = _
    rw [app_on ha, ifOk_true (decide_eq_true hk), cqEntryWrite_of_held hh hu ho hf]
  case timer =>
    show Host.Outcome.next (s.app (s.ifOk (decide (k < 8)) (s.modExpire k))) = _
    rw [app_on ha, ifOk_true (decide_eq_true hk), modExpire_of_running ht]
  case send =>
    show Host.Outcome.next (s.app (s.ifOk (decide (k < 8)) (s.msixSend k))) = _
    rw [app_on ha, ifOk_true (decide_eq_true hk), msixSend_of_due hd hh hu]
  case wake => exact congrArg Host.Outcome.next (app_on ha _)
  case reset =>
    show Host.Outcome.next (s.app (s.pcieReset cause)) = _
    rw [app_on ha, pcieReset_of_enabled he]
    rfl
  case link =>
    show Host.Outcome.next (s.app (s.pcieLink up speed width)) = _
    rw [app_on ha, pcieLink_of_shown h]
  case sleep => exact congrArg Host.Outcome.next (app_on ha _)
  case unmask =>
    show Host.Outcome.next (s.app (s.ifOk (decide (v < 16)) (s.msixUnmask v))) = _
    have hv16 : v < 16 := by omega
    rw [app_on ha, ifOk_true (decide_eq_true hv16), msixUnmask_of_vector hv16]

end Sys2Proof.Machine
end

section
/-! The redundant pair: the Byell link and the partner's messages (R308 to R311, R313, R319, R320), the witness, swaps and
fencing (R317, R322, R325, R331). -/

namespace Sys2Proof.Machine

/-! ### The link (R309) -/

section
variable {s : State}

theorem byellUp_of_down {lanes : Nat} (he : s.flag (Fd.en Pg.byell) = true) (hn : lanes % 4 ≠ 0) (hl : s.linkUp = false) :
    s.byellUp lanes =
      (let n := lanes % 2 + lanes / 2 % 2
       let t := ((s.put Fd.BYELL_LANE_STAT_UP 1).put Fd.BYELL_LANE_STAT_LOCK (lanes % 4)).put
         Fd.BYELL_LANE_STAT_DEGRADED (b2n (n == 1))
       let t := (t.irq Pg.byell 0).raise Ev.BYELL_UP Pg.byell [n]
       let t := if n = 1 then t.laneLost (2 - lanes % 4) else t
       let t := t.fresh.2.wr Rg.BYELL_LAT (BitVec.ofNat 32 (t.fresh.1.toNat % 65536))
       let t := if t.role = 3 ∨ (t.role = 5 ∧ t.get Fd.PAIR_ROLE_FENCE_CAUSE = 2) then t.roleTo 0 0 else t
       (t.modPair fun p => { p with peer := none, peerAge := 3 }).hbSoon) := by
  have hlanes : (lanes % 2 + lanes / 2 % 2 == 0) = false := beq_eq_false_iff_ne.mpr (by omega)
  unfold State.byellUp
  dsimp only
  rw [he, hl, hlanes, if_neg (by decide)]

variable (hl : s.linkUp = true)
include hl

theorem byellDown_of_up :
    s.byellDown =
      (let lock := s.get Fd.BYELL_LANE_STAT_LOCK
       let t := s.wr Rg.BYELL_LANE_STAT 0
       let t := ((t.add ⟨Rg.BYELL_DOWN_CNT, 0, 16⟩ 1).irq Pg.byell 1).raise Ev.BYELL_DOWN Pg.byell [lock % 2 + lock / 2]
       let t := t.modPair fun p => { p with aligned := false }
       (if t.role = 2 then (t.roleTo 3 0).modPair fun p => { p with kind := 3 } else t).hbSoon) := by
  unfold State.byellDown
  rw [hl, if_neg (by decide)]

theorem byellLane_of_both {lane : Nat} (hb : s.get Fd.BYELL_LANE_STAT_LOCK = 3) (hn : lane < 2) :
    s.byellLane lane =
      ((s.put Fd.BYELL_LANE_STAT_LOCK (2 - lane)).put Fd.BYELL_LANE_STAT_DEGRADED 1).laneLost lane := by
  unfold State.byellLane
  rw [hl, hb, decide_eq_false (Nat.not_le.mpr hn), if_neg (by decide)]

theorem byellLaneBack_of_up :
    s.byellLaneBack = (s.put Fd.BYELL_LANE_STAT_LOCK 3).put Fd.BYELL_LANE_STAT_DEGRADED 0 := by
  unfold State.byellLaneBack
  rw [hl, if_neg (by decide)]

/-! ### Messages of the partner (R308, R310, R330) -/

/-- A message that passes its check is counted and has its effect. -/
theorem byellGot_of_ok (f : State → State) : s.byellGot true f = f (s.add (whole Rg.BYELL_RX_MSG) 1) := by
  unfold State.byellGot
  rw [hl, if_neg (by decide), if_neg (by decide)]

/-- A message that fails its check is counted and has no effect. -/
theorem byellGot_of_bad (f : State → State) : s.byellGot false f = s.add ⟨Rg.BYELL_CRC_ERR, 0, 16⟩ 1 := by
  unfold State.byellGot
  rw [hl, if_neg (by decide), if_pos (by decide)]

end

/-- A message counted leaves the role. -/
theorem role_rxCounted (s : State) : (s.add (whole Rg.BYELL_RX_MSG) 1).role = s.role := get_put_ne _ _ _ _ (by decide)

theorem formationTimeout_of_due {s : State} {t : Nat} (hs : s.pair.syncAt = some t) (hr : s.role = 0)
    (hd : t + 250 ≤ s.tick.num) : s.formationTimeout = s.roleTo 5 5 := by
  unfold State.formationTimeout
  rw [hs]
  exact if_pos ⟨hr, hd⟩

theorem joinClaim_of_silent {s : State} (hr : s.role = 0) (hu : s.get Fd.PAIR_CFG_UNIT = 1) (hp : s.peerRole = 0) :
    s.joinClaim = (s.modPair fun p => { p with claim := true }).hbSoon := if_pos ⟨hr, hu, hp⟩

/-- Settles O31: each command of the link acts in the state of the link that its clause names; a message over a link that is up
is counted and has its effect, or fails its check and has none. -/
theorem pairLink : Obligations.PairLink := by
  unfold Obligations.PairLink
  refine ⟨fun s lanes hr he hn hl => ?up, fun s hr hl => ?down, fun s lane hr hl hb hn => ?lane, fun s hr hl => ?restored,
    fun s m hr hl => ?cut, fun s q x hr hl => ?mirror, fun s l hr hl => ?impData, fun s m hr hl hm => ?impEnd,
    fun s m hr hl => ?status, fun s hr => congrArg Host.Outcome.next (rt_on hr _), fun s e hr hl => ?yield,
    fun s x hr hl h0 => ?sync, fun s t hr hs h0 hd => ?formation, fun s hr h0 hu hp => ?claim,
    fun s c q e x l m u y hr hl hm => ?bad⟩
  case up =>
    show Host.Outcome.next (s.rt (s.byellUp lanes)) = _
    rw [rt_on hr, byellUp_of_down he hn hl]
    rfl
  case down =>
    show Host.Outcome.next (s.rt s.byellDown) = _
    rw [rt_on hr, byellDown_of_up hl]
  case lane =>
    show Host.Outcome.next (s.rt (s.byellLane lane)) = _
    rw [rt_on hr, byellLane_of_both hl hb hn]
    rfl
  case restored =>
    show Host.Outcome.next (s.rt s.byellLaneBack) = _
    rw [rt_on hr, byellLaneBack_of_up hl]
  case cut => exact congrArg Host.Outcome.next ((rt_on hr _).trans (byellGot_of_ok hl _))
  case mirror => exact congrArg Host.Outcome.next ((rt_on hr _).trans (byellGot_of_ok hl _))
  case impData => exact congrArg Host.Outcome.next ((rt_on hr _).trans (byellGot_of_ok hl _))
  case impEnd =>
    show Host.Outcome.next (s.rt (s.impEnd m)) = _
    unfold State.impEnd
    rw [rt_on hr, hm, byellGot_of_ok hl]
  case status => exact congrArg Host.Outcome.next ((rt_on hr _).trans (byellGot_of_ok hl _))
  case yield => exact congrArg Host.Outcome.next ((rt_on hr _).trans (byellGot_of_ok hl _))
  case sync =>
    refine congrArg Host.Outcome.next ((rt_on hr _).trans ((byellGot_of_ok hl _).trans ?_))
    refine (if_neg (not_not_intro ((role_rxCounted s).trans h0))).trans ?_
    cases x <;> rfl
  case formation =>
    show Host.Outcome.next (s.rt s.formationTimeout) = _
    rw [rt_on hr, formationTimeout_of_due hs h0 hd]
  case claim =>
    show Host.Outcome.next (s.rt s.joinClaim) = _
    rw [rt_on hr, joinClaim_of_silent h0 hu hp]
  case bad =>
    have hbad : ∀ f, Host.Outcome.next (s.rt (s.byellGot false f)) =
        (.next (s.add ⟨Rg.BYELL_CRC_ERR, 0, 16⟩ 1) : Host.Outcome State Fault Refusal) :=
      fun f => congrArg Host.Outcome.next ((rt_on hr _).trans (byellGot_of_bad hl f))
    refine ⟨hbad _, hbad _, hbad _, ?_, hbad _, hbad _, hbad _⟩
    show Host.Outcome.next (s.rt (s.impEnd m)) = _
    unfold State.impEnd
    rw [hm]
    exact hbad _

/-! ### The witness (R317, R322) -/

section
variable {s : State}

theorem heartbeat_of_running (hp : s.pair.paired = true) (he : s.flag (Fd.en Pg.wit) = true) (hh : s.pwr.halted = false) :
    s.heartbeat =
      (let m : WitMsg := { typ := 1, flags := s.hbNow, unit := s.get Fd.PAIR_CFG_UNIT
                           pairId := (s.rd Rg.PAIR_PAIR_ID).toNat, seq := (s.pair.hbSeq + 1) % 2 ^ 32, remain := 0, tag := [] }
       let out := if s.slotRefusal 6 2 = 0 then s.witWire (m.body ++ s.witTag m.body) else []
       s.modPair fun p => { p with hbSeq := m.seq, hbAt := s.ns, hbWait := true, hbFlags := m.flags, hbOut := out }) := by
  unfold State.heartbeat
  rw [hp, he, hh, if_neg (by decide)]

/-- A reply under the right tag to the latest heartbeat. -/
theorem witReply_of_good {m : WitMsg} (hp : s.pair.paired = true) (he : s.flag (Fd.en Pg.wit) = true)
    (ht : s.witTagOk m = true) (h2 : m.typ = 2) (hu : m.unit = s.get Fd.PAIR_CFG_UNIT)
    (hi : m.pairId = (s.rd Rg.PAIR_PAIR_ID).toNat) (hs : m.seq = s.pair.hbSeq) (hw : s.pair.hbWait = true) :
    s.witReply m =
      (let t := s.modPair fun p => { p with hbWait := false }
       let missed := t.get Fd.WIT_STAT_MISSED
       let t := (t.put Fd.WIT_STAT_MISSED 0).put Fd.WIT_STAT_REACHABLE 1
       let t := if t.pair.witLost then
           ((t.modPair fun p => { p with witLost := false }).irq Pg.wit 1).raise Ev.WIT_RESTORED Pg.wit [missed]
         else t
       if bitN m.flags 0 then (t.put Fd.WIT_LEASE_HOLDER 1).witGranted
       else if bitN m.flags 1 then (t.put Fd.WIT_LEASE_HOLDER 2).witOther
       else
         let t := t.put Fd.WIT_LEASE_HOLDER 0
         if t.role = 5 ∧ t.get Fd.PAIR_ROLE_FENCE_CAUSE = 2 then t.roleTo 0 0 else t) := by
  have hmine : ¬(m.typ ≠ 2 ∨ m.unit ≠ s.get Fd.PAIR_CFG_UNIT ∨ m.pairId ≠ (s.rd Rg.PAIR_PAIR_ID).toNat) := by
    simp only [h2, hu, hi, ne_eq, not_true_eq_false, or_self, not_false_eq_true]
  unfold State.witReply
  rw [hp, he, ht, hw, if_neg (by decide), if_neg (by decide), if_neg hmine, if_neg (not_not_intro hs), if_neg (by decide)]

/-- A reply under another tag, or to an older heartbeat, is counted only. -/
theorem witReply_of_bad {m : WitMsg} (hp : s.pair.paired = true) (he : s.flag (Fd.en Pg.wit) = true)
    (hb : s.witTagOk m = false ∨ (m.typ = 2 ∧ m.unit = s.get Fd.PAIR_CFG_UNIT ∧
      m.pairId = (s.rd Rg.PAIR_PAIR_ID).toNat ∧ m.seq ≠ s.pair.hbSeq)) :
    s.witReply m = s.add Fd.WIT_CNT_TAG_FAIL 1 := by
  unfold State.witReply
  rw [hp, he, if_neg (by decide)]
  cases ht : s.witTagOk m
  case false => rw [if_pos (by decide)]
  case true =>
    obtain ⟨h2, hu, hi, hs⟩ := hb.resolve_left (by rw [ht]; decide)
    have hmine : ¬(m.typ ≠ 2 ∨ m.unit ≠ s.get Fd.PAIR_CFG_UNIT ∨ m.pairId ≠ (s.rd Rg.PAIR_PAIR_ID).toNat) := by
      simp only [h2, hu, hi, ne_eq, not_true_eq_false, or_self, not_false_eq_true]
    rw [if_neg (by decide), if_neg hmine, if_pos hs]

theorem witTimeout_of_waiting (hw : s.pair.hbWait = true) :
    s.witTimeout =
      (let t := s.modPair fun p => { p with hbWait := false }
       let t := (t.add Fd.WIT_STAT_MISSED 1).add Fd.WIT_CNT_NO_REPLY 1
       if 3 ≤ t.get Fd.WIT_STAT_MISSED ∧ t.pair.witLost = false then
         (((t.modPair fun p => { p with witLost := true }).put Fd.WIT_STAT_REACHABLE 0).irq Pg.wit 0).raise
           Ev.WIT_UNREACHABLE Pg.wit [getF (t.rd Rg.WIT_CFG) 0 1]
       else t) := by
  unfold State.witTimeout
  rw [hw, if_neg (by decide)]

/-- The lease ends unrenewed in the running tick when none holds or the one that does ends by the tick's end. -/
theorem leaseLost_of_ended (hr : s.role = 1) (hl : ∀ t, s.pair.leaseEnd = some t → t ≤ s.ns + 1000000 * s.pms) :
    s.leaseLost =
      if s.linkUp ∧ s.get Fd.PAIR_PEER_WIT_OK = 0 then
        if s.pair.told then s
        else ((s.modPair fun p => { p with told := true }).irq Pg.wit 2).raise Ev.LEASE_LOST Pg.wit [1]
      else
        let case := if s.linkUp then 2 else 3
        let t := (s.irq Pg.wit 2).raise Ev.LEASE_LOST Pg.wit [case]
        if t.linkUp then t.yield 2 0 false
        else (t.modPair fun p => { p with quiet := true }).roleTo 5 2 := by
  have hbar : ¬(s.role ≠ 1 ∨ (s.pair.leaseEnd.any fun t => s.ns + 1000000 * s.pms < t) = true) := by
    rintro (h | h)
    · exact h hr
    · cases he : s.pair.leaseEnd with
      | none =>
        rw [he] at h
        exact absurd h Bool.false_ne_true
      | some t =>
        rw [he] at h
        exact absurd (of_decide_eq_true h) (Nat.not_lt.mpr (hl t he))
  unfold State.leaseLost
  rw [if_neg hbar]

/-! ### Swaps and fencing (R319, R325) -/

/-- A write of PAIR.CMD that takes effect, in a paired module. -/
theorem busWrite_pairCmd {ini : Nat} {v : Word} (h : s.takes ini Rg.PAIR_CMD = true) (hv : noReserved Rg.PAIR_CMD v = true) :
    s.busWrite ini Rg.PAIR_CMD 4 v = (s.begun ini Rg.PAIR_CMD).pairCmd (getF v 0 4) :=
  busWrite_localPage v (by decide) (by decide) h hv

theorem pairCmd_of_paired (hp : s.pair.paired = true) (op : Nat) :
    s.pairCmd op =
      if op = 1 then s.swapTry
      else if op = 2 then if s.role = 1 then s.yield 5 1 true else if s.role = 5 then s else s.roleTo 5 1
      else if op = 3 then if s.role = 5 then s.roleTo 0 0 else s
      else s := by
  unfold State.pairCmd
  rw [hp, if_neg (by decide)]

theorem swapDue_of_due (h0 : s.get ⟨Rg.PAIR_SWAP_PERIOD, 0, 16⟩ ≠ 0)
    (hd : s.pair.swapAt + 3600 * s.get ⟨Rg.PAIR_SWAP_PERIOD, 0, 16⟩ ≤ s.sec + 1) : s.swapDue = s.swapTry := by
  have hbar : ¬(s.get ⟨Rg.PAIR_SWAP_PERIOD, 0, 16⟩ = 0 ∨
      s.sec + 1 < s.pair.swapAt + 3600 * s.get ⟨Rg.PAIR_SWAP_PERIOD, 0, 16⟩) := by omega
  unfold State.swapDue
  rw [if_neg hbar]

end

/-- Settles O32: the conditions of each clause are those under which the witness's or the pair's command acts. -/
theorem witnessAndSwaps : Obligations.WitnessAndSwaps := by
  unfold Obligations.WitnessAndSwaps
  refine ⟨fun s hr hp he hh => ?heartbeat, fun s m hr hp he ht h2 hu hi hs hw => ?good, fun s m hr hp he hb => ?bad,
    fun s hr hw => ?timeout, fun s hr h1 hl => ?lease, fun s ini h hp => ?swap, fun s ini h hp => ?fence,
    fun s ini h hp => ?unfence, fun s hr h0 hd => ?period⟩
  case heartbeat =>
    show Host.Outcome.next (s.rt s.heartbeat) = _
    rw [rt_on hr, heartbeat_of_running hp he hh]
    rfl
  case good =>
    show Host.Outcome.next (s.rt (s.witReply m)) = _
    rw [rt_on hr, witReply_of_good hp he ht h2 hu hi hs hw]
  case bad =>
    show Host.Outcome.next (s.rt (s.witReply m)) = _
    rw [rt_on hr, witReply_of_bad hp he hb]
  case timeout =>
    show Host.Outcome.next (s.rt s.witTimeout) = _
    rw [rt_on hr, witTimeout_of_waiting hw]
  case lease =>
    show Host.Outcome.next (s.rt s.leaseLost) = _
    rw [rt_on hr, leaseLost_of_ended h1 hl]
  case swap =>
    show Host.Outcome.next (s.busWrite ini Rg.PAIR_CMD 4 1) = _
    rw [busWrite_pairCmd h (by decide), pairCmd_of_paired (by rwa [begun_pair])]
    rfl
  case fence =>
    show Host.Outcome.next (s.busWrite ini Rg.PAIR_CMD 4 2) = _
    rw [busWrite_pairCmd h (by decide), pairCmd_of_paired (by rwa [begun_pair])]
    rfl
  case unfence =>
    show Host.Outcome.next (s.busWrite ini Rg.PAIR_CMD 4 3) = _
    rw [busWrite_pairCmd h (by decide), pairCmd_of_paired (by rwa [begun_pair])]
    rfl
  case period =>
    show Host.Outcome.next (s.rt s.swapDue) = _
    rw [rt_on hr, swapDue_of_due h0 hd]

end Sys2Proof.Machine
end

section
/-! Ground: key-update messages (R340), the request ports and the command mailbox (R333 to R335, R339, R352), tamper (R347)
and debug access (R349). -/

namespace Sys2Proof.Machine

/-! ### Key-update messages (R340) -/

/-- No record is found that is not allowed when each one is. -/
theorem find?_refused_eq_none_iff (f : KeyOp → Bool) (ops : List KeyOp) :
    ((List.range ops.length).find? fun i => ((ops[i]?).map fun o => !f o).getD false) = none ↔ ∀ o ∈ ops, f o = true := by
  rw [List.find?_eq_none]
  constructor
  · intro h o ho
    obtain ⟨i, hi, rfl⟩ := List.getElem_of_mem ho
    have hf := h i (List.mem_range.mpr hi)
    rw [List.getElem?_eq_getElem hi] at hf
    simpa using hf
  · intro h i hi
    rw [List.getElem?_eq_getElem (List.mem_range.mp hi)]
    simp [h _ (List.getElem_mem _)]

/-- A check that does not turn its message away passes it on. -/
theorem ite_inl_eq_inr {α β : Type} {p : Prop} [Decidable p] {e : α} {x : α ⊕ β} {y : β}
    (h : (if p then Sum.inl e else x) = Sum.inr y) : ¬p ∧ x = Sum.inr y := by
  by_cases hp : p
  · rw [if_pos hp] at h
    cases h
  · rw [if_neg hp] at h
    exact ⟨hp, h⟩

/-- The anchor that a message's signatures are checked under. -/
def State.anchorOf (s : State) (m : KeyMsg) : Nat := if m.signer = 0 then Config.mfrAnchor else (s.key 2).mat

/-- The key that a message's body is sealed under. -/
def State.kekOf (s : State) (m : KeyMsg) : Nat := if m.kek = 0 then (s.key 1).mat else (s.key 3).mat

/-- The checks of R340 on a message that parses, up to its body's key. -/
structure State.MsgSigned (s : State) (m : KeyMsg) : Prop where
  uid : m.uid = ofLe uidBytes
  ctr : s.nv.keys.ctr < m.ctr
  signer : s.signerOk m = true
  ec : ecVerify (ecHalf (s.anchorOf m)) m.signed m.sigEc = true
  pq : dsaVerify (pqHalf (s.anchorOf m)) m.signed m.sigPq = true

/-- The checks of R340 on a message's records, once its body is open, and on the module's state. -/
structure State.MsgOpen (s : State) (m : KeyMsg) (ops : List KeyOp) (body : List Nat) : Prop where
  opens : gcmOpen (leBytes 32 (s.kekOf m)) m.iv m.head m.body = some body
  parses : parseOps m.ops body = some ops
  allowed : ∀ o ∈ ops, s.opOk (m.signer == 1) o = true
  power : s.pwr.state ≠ .holdup
  pend : s.nv.keys.pend = none

section
variable {s : State} {raw : List Nat} {m : KeyMsg} {ops : List KeyOp}

theorem checkMsg_of_passes {body : List Nat} (hp : parseMsg raw = some m) (hs : s.MsgSigned m)
    (ho : s.MsgOpen m ops body) : s.checkMsg raw = .inr (m, ops) := by
  obtain ⟨huid, hctr, hsigner, hec, hpq⟩ := hs
  obtain ⟨hopen, hparse, hallowed, hpower, hpend⟩ := ho
  unfold State.anchorOf at hec hpq
  unfold State.kekOf at hopen
  unfold State.checkMsg
  simp only [hp, huid, Nat.not_le.mpr hctr, hsigner, hec, hpq, hopen, hparse,
    (find?_refused_eq_none_iff (s.opOk (m.signer == 1)) ops).mpr hallowed, hpower, hpend, ne_eq, not_true_eq_false,
    Bool.true_eq_false, Option.isSome_none, Bool.false_eq_true, if_false]

theorem passes_of_checkMsg (h : s.checkMsg raw = .inr (m, ops)) :
    parseMsg raw = some m ∧ s.MsgSigned m ∧ ∃ body, s.MsgOpen m ops body := by
  unfold State.checkMsg at h
  cases hp : parseMsg raw with
  | none =>
    rw [hp] at h
    cases h
  | some m' =>
    rw [hp] at h
    obtain ⟨huid, h⟩ := ite_inl_eq_inr h
    obtain ⟨hctr, h⟩ := ite_inl_eq_inr h
    obtain ⟨hsigner, h⟩ := ite_inl_eq_inr h
    obtain ⟨hec, h⟩ := ite_inl_eq_inr h
    obtain ⟨hpq, h⟩ := ite_inl_eq_inr h
    have hsigned : s.MsgSigned m' := ⟨not_not.mp huid, Nat.not_le.mp hctr, eq_true_of_ne_false hsigner,
      eq_true_of_ne_false hec, eq_true_of_ne_false hpq⟩
    split at h
    next => cases h
    next body hopen =>
    split at h
    next => cases h
    next ops' hparse =>
    split at h
    next => cases h
    next hallowed =>
    obtain ⟨hpower, h⟩ := ite_inl_eq_inr h
    obtain ⟨hpend, h⟩ := ite_inl_eq_inr h
    cases h
    exact ⟨rfl, hsigned, body, hopen, hparse, (find?_refused_eq_none_iff _ _).mp hallowed, hpower,
      Option.not_isSome_iff_eq_none.mp hpend⟩

end

/-- An event raised leaves the keys. -/
theorem keys_raise (s : State) (ev : Ev) (src : Nat) (ps : List Nat) : (s.raise ev src ps).nv.keys = s.nv.keys := by
  obtain ⟨⟨_, _, _, _, e⟩, -⟩ := recorderOnly_raiseRec s (s.mkRec ev src ps)
  show (s.raiseRec (s.mkRec ev src ps)).nv.keys = _
  rw [e]

/-- A message applied leaves its COUNTER stored. -/
theorem ctr_applyMsg (s : State) (m : KeyMsg) (ops : List KeyOp) : (s.applyMsg m ops).nv.keys.ctr = m.ctr := by
  unfold State.applyMsg
  dsimp only
  split
  next => rw [keys_raise]
  next => rfl

/-- Settles O59: the checks in the order in which checkMsg makes them, each of which turns the message away by its own code. -/
theorem keyMessageChecks : Obligations.KeyMessageChecks := by
  unfold Obligations.KeyMessageChecks
  refine ⟨fun s raw m ops => ⟨fun h => ?passes, fun h => ?accepted⟩, ctr_applyMsg⟩
  case passes =>
    obtain ⟨hp, ⟨huid, hctr, hsigner, hec, hpq⟩, body, hopen, hparse, hallowed, hpower, hpend⟩ := passes_of_checkMsg h
    exact ⟨hp, huid, hctr, hsigner, hec, hpq, ⟨body, hopen, hparse⟩, hallowed, hpower, hpend⟩
  case accepted =>
    obtain ⟨hp, huid, hctr, hsigner, hec, hpq, ⟨body, hopen, hparse⟩, hallowed, hpower, hpend⟩ := h
    exact checkMsg_of_passes hp ⟨huid, hctr, hsigner, hec, hpq⟩ ⟨hopen, hparse, hallowed, hpower, hpend⟩

/-! ### Request ports (R335) -/

/-- What Ground answers a request port whose slot admits the request. -/
def State.portOut (s : State) (port : Nat) (data extra : List Nat) : List Nat :=
  let k := (s.key (portSlot port).1).mat
  if port < 16 then (aesCmac (leBytes 16 (s.busKey port)) data).take 4
  else if port = 16 then aesWrap (leBytes 16 (s.nodeKey (ofLe extra))) data
  else if port = 17 then aesCmac (leBytes 16 k) data
  else if port = 18 then [b2n (ecVerify (ecHalf k) data (extra.take 96) && dsaVerify (pqHalf k) data (extra.drop 96))]
  else [b2n (ecVerify (ecHalf k) data extra)]

/-- The answer of a request port. -/
def State.setAns (s : State) (port : Nat) (a : PortAns) : State :=
  { s with ground := { s.ground with ans := Tab.set (fun _ => PortAns.init) s.ground.ans port a } }

section
variable {s : State} {port : Nat} (data extra : List Nat) (hg : s.ground.ready = true)
include hg

theorem portRequest_of_admitted (h : s.slotRefusal (portSlot port).1 (portSlot port).2 = 0) :
    s.portRequest port data extra =
      (if port < 16 ∨ port = 17 then s.add ⟨Rg.GROUND_TAG_CNT, 0, 16⟩ 1 else s).setAns port
        ⟨0, s.portOut port data extra⟩ := by
  unfold State.portRequest
  rw [hg, if_neg (by decide)]
  simp only [h]
  rfl

theorem portRequest_of_refused {c : Nat} (h : s.slotRefusal (portSlot port).1 (portSlot port).2 = c) (hc : c ≠ 0) :
    s.portRequest port data extra =
      (if port < 16 ∨ port = 17 then s.add ⟨Rg.GROUND_TAG_CNT, 16, 16⟩ 1 else s).setAns port ⟨c, []⟩ := by
  have hne : (c == 0) = false := beq_eq_false_iff_ne.mpr hc
  unfold State.portRequest
  rw [hg, if_neg (by decide)]
  simp only [h, if_pos hc, hne]
  rfl

end

/-- A request of a port while the real-time domain is on. -/
theorem rt_port {s : State} {port : Nat} (hr : s.rtOn = true) (hp : port < 20) (t : State) :
    s.rt (s.ifOk (decide (port < 20)) t) = t := by rw [rt_on hr, ifOk_true (decide_eq_true hp)]

/-! ### The command mailbox (R352) -/

theorem mbxPush_of_taking {s : State} (v : Word) (h : s.ground.cmd.isSome = true ∧ 0 < s.ground.need) :
    s.mbxPush v = (true, { s with ground := { s.ground with
      taken := s.ground.taken ++ [v], need := s.ground.need - 1 } }) := if_pos h

theorem mbxPush_of_queued {s : State} (v : Word) (h : ¬(s.ground.cmd.isSome = true ∧ 0 < s.ground.need))
    (hf : s.ground.fifo.length < 256) :
    s.mbxPush v = (true, { s with ground := { s.ground with fifo := s.ground.fifo ++ [v] } }) := by
  unfold State.mbxPush
  rw [if_neg h, if_pos hf]

theorem mbxPush_of_full {s : State} (v : Word) (h : ¬(s.ground.cmd.isSome = true ∧ 0 < s.ground.need))
    (hf : ¬s.ground.fifo.length < 256) : s.mbxPush v = (false, s) := by
  unfold State.mbxPush
  rw [if_neg h, if_neg hf]

/-- Whether there is room for a word does not hang on the access. -/
theorem mbxPush_respond (s : State) (v : Word) : ((s.respond 0 false).mbxPush v).1 = (s.mbxPush v).1 := by
  by_cases ht : s.ground.cmd.isSome = true ∧ 0 < s.ground.need
  · rw [mbxPush_of_taking v ht, mbxPush_of_taking (s := s.respond 0 false) v ht]
  · by_cases hf : s.ground.fifo.length < 256
    · rw [mbxPush_of_queued v ht hf, mbxPush_of_queued (s := s.respond 0 false) v ht hf]
    · rw [mbxPush_of_full v ht hf, mbxPush_of_full (s := s.respond 0 false) v ht hf]

section
variable {s : State} {ini : Nat} (v : Word) (h : s.takes ini Rg.GROUND_MBX_IN = true)
include h

/-- A word of MBX_IN is turned away where there is no room, and taken or queued else. -/
theorem busWrite_mbxIn :
    s.busWrite ini Rg.GROUND_MBX_IN 4 v =
      if (s.mbxPush v).1 = false then ((s.respond 0 false).capture ini Pg.ground 0x44 true 0x05).respond 0 true
      else ((s.begun ini Rg.GROUND_MBX_IN).mbxPush v).2 := by
  have hholds : s.flushHolds (Rg.GROUND_MBX_IN / 0x1000) (Rg.GROUND_MBX_IN % 0x1000) = false := by
    simp only [State.takes, Bool.and_eq_true, Bool.not_eq_true'] at h
    exact h.2
  have hprot : ¬protectedReg (Rg.GROUND_MBX_IN / 0x1000) (Rg.GROUND_MBX_IN % 0x1000) = true := by decide
  rw [busWrite_of_reaches v (by decide) (reaches_of_takes h)]
  unfold State.writeReg
  dsimp only
  rw [if_neg (by decide), if_neg fun hc => absurd hc.1 (by decide), if_neg fun hc => hprot hc.1, mbxPush_respond]
  by_cases hfull : (s.mbxPush v).1 = false
  · rw [if_pos ⟨rfl, rfl, hfull⟩, if_pos hfull]
    rfl
  · rw [if_neg fun hc => hfull hc.2.2, if_neg hfull, flushHolds_useLock, hholds, if_neg Bool.false_ne_true]
    exact (toPartner_none _ _ v (by decide) (by decide)).trans (applyWrite_mbxIn _ ini v)

end

theorem busRead_mbxOut {s : State} {ini : Nat} (h : s.reaches ini Rg.GROUND_MBX_OUT false = true) :
    s.busRead ini Rg.GROUND_MBX_OUT 4 = s.mbxPop.2.respond s.mbxPop.1 false := by
  have hpop : s.popRead ini (Rg.GROUND_MBX_OUT / 0x1000) (Rg.GROUND_MBX_OUT % 0x1000) = some s.mbxPop := by
    unfold State.popRead
    simp (disch := decide) only [if_neg, if_pos]
  rw [busRead_reaches s ini _ (by decide) h]
  unfold State.readReg
  simp only [hpop]

section
variable {s : State}

theorem mbxKeyUpdate_of_ready (h : s.mbxReady 1 = true) :
    s.mbxKeyUpdate = match s.checkMsg (wordBytes s.ground.taken) with
      | .inl e =>
        let t := if e.clear then { s with ground := { s.ground with refusedClear := true } } else s
        (t.mbxResult e.code []).raise Ev.KEY_UPDATE_REJECT Pg.ground [e.code, e.ctr, e.idx]
      | .inr (m, ops) => (s.applyMsg m ops).mbxResult 0 [] := by
  have hready : ¬s.mbxReady 1 = false := by
    rw [h]
    decide
  exact if_neg hready

theorem mbxPubkey_of_own {slot : Nat} (h : s.mbxReady 2 = true) (hl : s.ground.locked = false ∨ slotClass slot ≠ 2)
    (h1 : (s.key slot).state = 1) (ho : (s.key slot).own = true) :
    s.mbxPubkey slot = s.mbxResult 0 (ecPub (ecPriv (s.key slot).mat)) := by
  have hlocked : ¬(s.ground.locked = true ∧ slotClass slot = 2) := by
    rintro ⟨hc, hc'⟩
    rcases hl with hl | hl
    · rw [hl] at hc
      cases hc
    · exact hl hc'
  have hown : ¬((s.key slot).state ≠ 1 ∨ (s.key slot).own = false) := by
    rw [h1, ho]
    decide
  unfold State.mbxPubkey
  rw [h, if_neg (by decide), if_neg hlocked, if_neg (by rw [h1]; decide), if_neg (by rw [h1]; decide), if_neg hown]

/-- What SIGN answers with a key, under the number drawn for it (log entry 161). -/
def State.signOf (s : State) (msg : List Nat) (k : KeySlot) : Option (List Nat) :=
  some (ecSign (ecPriv k.mat) (ecScalar (Config.freeScalar s.fresh.1.toNat)) msg)

theorem mbxSign_eq (s : State) (slot : Nat) (msg : List Nat) :
    s.mbxSign slot msg = s.fresh.2.mbxSlotOp 3 slot (if slot = 7 then 3 else 9) (s.signOf msg) := rfl

section
variable {cmd slot use : Nat} (f : KeySlot → Option (List Nat)) (h : s.mbxReady cmd = true)
include h

/-- An operation that its slot admits, on a key of the type that it takes. -/
theorem mbxSlotOp_of_admitted (ha : s.slotRefusal slot use = 0)
    (ht : ((s.key slot).typ == 3) = (cmd == 3) ∧ (s.key slot).typ ≤ 3) :
    s.mbxSlotOp cmd slot use f = match f (s.key slot) with
      | some out => s.mbxResult 0 out
      | none => s.mbxResult 7 [] := by
  obtain ⟨htyp, hle⟩ := ht
  have htaken : ¬(((s.key slot).typ == 3) != (cmd == 3) || decide (3 < (s.key slot).typ)) = true := by
    rw [htyp, bne_self_eq_false, decide_eq_false (Nat.not_lt.mpr hle)]
    decide
  unfold State.mbxSlotOp
  rw [h, if_neg (by decide), ha]
  exact if_neg htaken

theorem mbxSlotOp_of_refused {c : Nat} (ha : s.slotRefusal slot use = c) (hc : c ≠ 0) :
    s.mbxSlotOp cmd slot use f = s.mbxResult c [] := by
  unfold State.mbxSlotOp
  rw [h, if_neg (by decide), ha]
  cases c with
  | zero => exact absurd rfl hc
  | succ n => rfl

end

theorem mbxRandom_of_ready (h : s.mbxReady 7 = true) (n : Nat) :
    s.mbxRandom n =
      (let r := State.drawN ((min n 1024 + 3) / 4) s
       r.2.mbxResult 0 ((wordBytes r.1).take (min n 1024))) := by
  unfold State.mbxRandom
  rw [h, if_neg (by decide)]

theorem mbxGenerate_of_allowed {slot : Nat} (h : s.mbxReady 8 = true) (hl : s.ground.locked = false)
    (ha : s.nv.keys.genAllow.contains slot = true) (h0 : (s.key slot).state = 0) :
    s.mbxGenerate slot =
      (let r := s.fresh
       let t := r.2.setKey slot {
         state := 1, typ := 3, usage := if 32 ≤ slot then 512 else 0, own := true
         mat := ofLe (toBe 48 (ecScalar (Config.freeScalar r.1.toNat))) }
       let t := { t with nv := { t.nv with keys := { t.nv.keys with genAllow := t.nv.keys.genAllow.erase slot } } }
       t.mbxResult 0 []) := by
  have hempty : ¬(s.nv.keys.genAllow.contains slot = false ∨ (s.key slot).state ≠ 0) := by
    rw [ha, h0]
    decide
  unfold State.mbxGenerate
  rw [h, hl, if_neg (by decide), if_neg (by decide), if_neg hempty]

theorem mbxResult_zero (out : List Nat) :
    s.mbxResult 0 out = { s with ground := { s.ground with result := some 0, out := outWords out } }.put
      Fd.GROUND_MBX_STAT_OUT_CNT (min (outWords out).length 256) := rfl

theorem mbxResult_of_ne {c : Nat} (hc : c ≠ 0) (out : List Nat) :
    s.mbxResult c out = { s with ground := { s.ground with result := some c } } := if_neg hc

theorem mbxDone_of_result {c r : Nat} (hc : s.ground.cmd = some c) (hr : s.ground.result = some r) :
    s.mbxDone =
      (let t := { s with ground := { s.ground with cmd := none, need := 0, taken := [], result := none } }
       ((t.put Fd.GROUND_MBX_STAT_RESULT r).put Fd.GROUND_MBX_STAT_BUSY 0).irq Pg.ground 0) := by
  unfold State.mbxDone
  rw [hc, hr]

end

/-- A key of an AES type for a command that takes one. -/
theorem aesTyp_iff {typ cmd : Nat} (ht : typ = 1 ∨ typ = 2) (hc : cmd ≠ 3) : (typ == 3) = (cmd == 3) ∧ typ ≤ 3 := by
  rw [beq_eq_false_iff_ne.mpr hc]
  rcases ht with rfl | rfl <;> decide

/-- Settles O33: a port answers by its slot; the mailbox takes, queues or turns away a word; each command finds its slot in the
state that its clause names. -/
theorem groundServices : Obligations.GroundServices := by
  unfold Obligations.GroundServices
  refine ⟨fun s port data extra hr hp hg h => ?bus, fun s data extra hr hg h => ?node, fun s data extra hr hg h => ?witness,
    fun s data extra hr hg h => ?proof, fun s data extra hr hg h => ?debug, fun s port c data extra hr hp hg h hc => ?refused,
    fun s ini v h => ?mbxIn, fun s ini h => ?mbxOut, fun s hr h => ?keyUpdate, fun s slot hr h hl h1 ho => ?pubkey,
    fun s slot msg hr h ha ht => ?sign, fun s slot msg hr h ha ht => ?cmac, fun s slot head msg hr h ha ht => ?enc,
    fun s slot head msg hr h ha ht => ?dec, fun s slot c head msg hr hc => ⟨fun h ha => ?signRefused, fun h ha => ?cmacRefused,
      fun h ha => ?encRefused, fun h ha => ?decRefused⟩, fun s n hr h => ?random, fun s slot hr h hl ha h0 => ?generate,
    fun s out c => ⟨mbxResult_zero out, fun hc => mbxResult_of_ne hc out⟩, fun s c r hr hc hres => ?done⟩
  case bus =>
    have hslot : portSlot port = (16 + port, 0) := if_pos hp
    refine congrArg Host.Outcome.next ((rt_port hr (by omega) _).trans ?_)
    rw [portRequest_of_admitted data extra hg (by rwa [hslot]), if_pos (Or.inl hp)]
    unfold State.portOut
    rw [if_pos hp]
    rfl
  case node =>
    refine congrArg Host.Outcome.next ((rt_port hr (by decide) _).trans ?_)
    rw [portRequest_of_admitted (port := 16) data extra hg h]
    rfl
  case witness =>
    refine congrArg Host.Outcome.next ((rt_port hr (by decide) _).trans ?_)
    rw [portRequest_of_admitted (port := 17) data extra hg h]
    rfl
  case proof =>
    refine congrArg Host.Outcome.next ((rt_port hr (by decide) _).trans ?_)
    rw [portRequest_of_admitted (port := 18) data extra hg h]
    rfl
  case debug =>
    refine congrArg Host.Outcome.next ((rt_port hr (by decide) _).trans ?_)
    rw [portRequest_of_admitted (port := 19) data extra hg h]
    rfl
  case refused =>
    refine congrArg Host.Outcome.next ((rt_port hr hp _).trans ?_)
    rw [portRequest_of_refused data extra hg h hc]
    rfl
  case mbxIn =>
    show Host.Outcome.next (s.busWrite ini Rg.GROUND_MBX_IN 4 v) = _
    dsimp only
    have hbegun : (s.begun ini Rg.GROUND_MBX_IN).ground = s.ground := begun_ground s ini _
    by_cases ht : s.ground.cmd.isSome = true ∧ 0 < s.ground.need
    · rw [if_pos ht, busWrite_mbxIn v h, mbxPush_of_taking v ht, if_neg (show ¬true = false by decide), mbxPush_of_taking v (by rwa [hbegun]),
        hbegun]
    · rw [if_neg ht]
      by_cases hf : s.ground.fifo.length < 256
      · rw [if_pos hf, busWrite_mbxIn v h, mbxPush_of_queued v ht hf, if_neg (show ¬true = false by decide),
          mbxPush_of_queued v (by rwa [hbegun]) (by rwa [hbegun])]
      · rw [if_neg hf, busWrite_mbxIn v h, mbxPush_of_full v ht hf, if_pos rfl]
  case mbxOut =>
    show Host.Outcome.next (s.busRead ini Rg.GROUND_MBX_OUT 4) = _
    rw [busRead_mbxOut h]
    unfold State.mbxPop
    cases s.ground.out <;> rfl
  case keyUpdate =>
    refine congrArg Host.Outcome.next ((rt_on hr _).trans ?_)
    rw [mbxKeyUpdate_of_ready h]
    cases s.checkMsg (wordBytes s.ground.taken) <;> rfl
  case pubkey => exact congrArg Host.Outcome.next ((rt_on hr _).trans (mbxPubkey_of_own h hl h1 ho))
  case sign =>
    refine congrArg Host.Outcome.next ((rt_on hr _).trans ?_)
    rw [mbxSign_eq]
    exact mbxSlotOp_of_admitted (s := s.fresh.2) _ h ha ⟨beq_iff_eq.mpr ht, Nat.le_of_eq ht⟩
  case cmac =>
    refine congrArg Host.Outcome.next ((rt_on hr _).trans ?_)
    exact mbxSlotOp_of_admitted _ h ha (aesTyp_iff ht (by decide))
  case enc =>
    refine congrArg Host.Outcome.next ((rt_on hr _).trans ?_)
    exact mbxSlotOp_of_admitted _ h ha (aesTyp_iff ht (by decide))
  case dec =>
    refine congrArg Host.Outcome.next ((rt_on hr _).trans ?_)
    exact mbxSlotOp_of_admitted _ h ha (aesTyp_iff ht (by decide))
  case signRefused =>
    refine congrArg Host.Outcome.next ((rt_on hr _).trans ?_)
    rw [mbxSign_eq]
    exact mbxSlotOp_of_refused (s := s.fresh.2) _ h ha hc
  case cmacRefused => exact congrArg Host.Outcome.next ((rt_on hr _).trans (mbxSlotOp_of_refused _ h ha hc))
  case encRefused => exact congrArg Host.Outcome.next ((rt_on hr _).trans (mbxSlotOp_of_refused _ h ha hc))
  case decRefused => exact congrArg Host.Outcome.next ((rt_on hr _).trans (mbxSlotOp_of_refused _ h ha hc))
  case random => exact congrArg Host.Outcome.next ((rt_on hr _).trans (mbxRandom_of_ready h n))
  case generate => exact congrArg Host.Outcome.next ((rt_on hr _).trans (mbxGenerate_of_allowed h hl ha h0))
  case done => exact congrArg Host.Outcome.next ((rt_on hr _).trans (mbxDone_of_result hc hres))

end Sys2Proof.Machine
end

section
/-! Tamper sources and the latch (R345, R347), and debug access (R349). -/

namespace Sys2Proof.Machine

/-- A source other than a watched DOOR has the level that the command carries. -/
theorem tamperIn_of_level {s : State} {src : Nat} (h : src ≠ 1 ∨ watched s.pwr.state 1 false = false) (active vioC : Bool) :
    s.tamperIn src active vioC = s.tamper src active vioC := by
  refine if_neg fun ⟨h1, hw⟩ => ?_
  rcases h with h | h
  · exact h h1
  · rw [h] at hw
    cases hw

/-- A watched DOOR has the level of the input that DOOR_SEL names. -/
theorem tamperIn_door {s : State} (hw : watched s.pwr.state 1 false = true) (active vioC : Bool) :
    s.tamperIn 1 active vioC =
      (let i := s.get ⟨Rg.TAMP_DOOR_SEL, 0, 3⟩
       if bitN s.ground.live 1 = s.flag (diDeb i) then s else s.tamper 1 (s.flag (diDeb i)) true) := by
  unfold State.tamperIn State.diDoor
  rw [if_pos ⟨rfl, hw⟩]
  by_cases hl : bitN s.ground.live 1 = s.flag (diDeb (s.get ⟨Rg.TAMP_DOOR_SEL, 0, 3⟩))
  · rw [if_neg fun hc => hc.2 hl]
    exact (if_pos hl).symm
  · rw [if_pos ⟨rfl, hl⟩]
    exact (if_neg hl).symm

theorem busWrite_tampLatch {s : State} {ini : Nat} {v : Word} (h : s.takes ini Rg.TAMP_LATCH = true)
    (hv : noReserved Rg.TAMP_LATCH v = true) :
    s.busWrite ini Rg.TAMP_LATCH 4 v = (s.begun ini Rg.TAMP_LATCH).tampLatchClear v :=
  busWrite_localPage v (by decide) (by decide) h hv

/-! ### DBG.CMD (R349) -/

/-- A write of DBG.CMD that takes effect comes to the debug block's commands. -/
theorem busWrite_dbgCmd {s : State} {ini : Nat} {v : Word} (h : s.takes ini Rg.DBG_CMD = true)
    (hv : noReserved Rg.DBG_CMD v = true) :
    s.busWrite ini Rg.DBG_CMD 4 v = (s.begun ini Rg.DBG_CMD).dbgWrite 0x44 v :=
  busWrite_localPage v (by decide) (by decide) h hv

theorem dbgNewChal_of_unlocked {s : State} (h : s.flag Fd.DBG_LEVEL_LOCKOUT = false) :
    s.dbgNewChal =
      (let t := (List.range 8).foldl (fun s k => let r := s.fresh
         r.2.wr (Rg.DBG_CHAL k) r.1) s
       { t with ground := { t.ground with chalAt := some t.sec } }.put Fd.DBG_LEVEL_CHAL_VALID 1) := by
  unfold State.dbgNewChal
  rw [h, if_neg Bool.false_ne_true]

/-- The word for DBG.CMD that asks for a level. -/
theorem dbgRequestWord_facts : ∀ level, level = 1 ∨ level = 2 →
    noReserved Rg.DBG_CMD (BitVec.ofNat 32 (2 + level % 4 * 16)) = true ∧
      getF (BitVec.ofNat 32 (2 + level % 4 * 16)) 0 2 = 2 ∧ getF (BitVec.ofNat 32 (2 + level % 4 * 16)) 4 2 = level := by
  rintro level (rfl | rfl) <;> decide

theorem dbgWrite_request (s : State) {level : Nat} (h : level = 1 ∨ level = 2) :
    s.dbgWrite 0x44 (BitVec.ofNat 32 (2 + level % 4 * 16)) = s.dbgRequest level := by
  obtain ⟨-, hop, hlevel⟩ := dbgRequestWord_facts level h
  unfold State.dbgWrite
  rw [if_pos rfl, hop, hlevel]
  rfl

/-- Levels 1 and 2 can be asked for. -/
theorem dbgRequest_of_level (s : State) {level : Nat} (h : level = 1 ∨ level = 2) :
    s.dbgRequest level =
      if levelOk s.pwr.state level = false then s.put Fd.DBG_LEVEL_RESULT 3
      else if s.dbgAuth level then
        let t := s.dbgVoid
        let wipe := level == 2 && t.lc == 2
        let t := if wipe then t.zeroize operational 3 else t
        ((t.put Fd.DBG_LEVEL_RESULT 1).put Fd.DBG_LEVEL_FAILS 0).dbgLevel level wipe
      else
        let t := s.dbgVoid
        let n := t.get Fd.DBG_LEVEL_FAILS + 1
        let t := (t.put Fd.DBG_LEVEL_FAILS (min n 255)).put Fd.DBG_LEVEL_RESULT 2
        let t := if n % 4 = 0 then
            { t with ground := { t.ground with lockAt := some t.sec } }.put Fd.DBG_LEVEL_LOCKOUT 1
          else t
        t.raise Ev.DBG_AUTH_FAIL Pg.dbg [n] := by
  unfold State.dbgRequest
  rw [if_neg (by omega)]

theorem dbgChalExpire_of_due {s : State} {t : Nat} (hc : s.ground.chalAt = some t) (hd : t + 60 ≤ s.sec) :
    s.dbgChalExpire = s.dbgVoid := by
  unfold State.dbgChalExpire
  rw [hc]
  exact if_pos hd

theorem dbgLockEnd_of_due {s : State} {t : Nat} (hc : s.ground.lockAt = some t) (hd : t + 60 ≤ s.sec) :
    s.dbgLockEnd = { s with ground := { s.ground with lockAt := none } }.put Fd.DBG_LEVEL_LOCKOUT 0 := by
  unfold State.dbgLockEnd
  rw [hc]
  exact if_pos hd

/-- Settles O34: a source's level by what carries it, the commands of DBG.CMD by their codes, and the timers once due. -/
theorem tamperAndDebug : Obligations.TamperAndDebug := by
  unfold Obligations.TamperAndDebug
  refine ⟨fun s src active vioC hs h => ?source, fun s active vioC hw => ?door,
    fun s ini v h hv => congrArg Host.Outcome.next (busWrite_tampLatch h hv), fun s ini h hl => ?chal,
    fun s ini level hl h => ?request, fun s ini h => ?finish,
    fun s t hr hc hd => congrArg Host.Outcome.next ((rt_on hr _).trans (dbgChalExpire_of_due hc hd)),
    fun s t hr hc hd => congrArg Host.Outcome.next ((rt_on hr _).trans (dbgLockEnd_of_due hc hd))⟩
  case source =>
    show Host.Outcome.next (s.ifOk (decide (src < 6)) (s.tamperIn src active vioC)) = _
    rw [ifOk_true (decide_eq_true hs), tamperIn_of_level h]
    rfl
  case door => exact congrArg Host.Outcome.next (tamperIn_door hw active vioC)
  case chal =>
    show Host.Outcome.next (s.busWrite ini Rg.DBG_CMD 4 1) = _
    rw [busWrite_dbgCmd h (by decide)]
    exact congrArg Host.Outcome.next (dbgNewChal_of_unlocked (by rwa [begun_flag]))
  case request =>
    show Host.Outcome.next (s.busWrite ini Rg.DBG_CMD 4 (BitVec.ofNat 32 (2 + level % 4 * 16))) = _
    rw [busWrite_dbgCmd h (dbgRequestWord_facts level hl).1, dbgWrite_request _ hl, dbgRequest_of_level _ hl]
  case finish =>
    show Host.Outcome.next (s.busWrite ini Rg.DBG_CMD 4 3) = _
    rw [busWrite_dbgCmd h (by decide)]
    rfl

end Sys2Proof.Machine
end

section
/-! Where a record goes in the log (R383). -/

namespace Sys2Proof.Machine

/-- The first element that satisfies p is the one taken out. -/
theorem takeFirst_append_cons {p : Rec → Bool} {a : List Rec} {x : Rec} (ha : ∀ y ∈ a, p y = false) (hx : p x = true)
    (b : List Rec) : takeFirst p (a ++ x :: b) = some (a ++ b) := by
  induction a with
  | nil => exact if_pos hx
  | cons y a ih =>
    obtain ⟨hy, ha⟩ := List.forall_mem_cons.mp ha
    simp [takeFirst, hy, ih ha]

theorem takeFirst_eq_none {p : Rec → Bool} {l : List Rec} (h : ∀ x ∈ l, p x = false) : takeFirst p l = none := by
  induction l with
  | nil => rfl
  | cons y l ih =>
    obtain ⟨hy, hl⟩ := List.forall_mem_cons.mp h
    simp [takeFirst, hy, ih hl]

/-- A list in which something satisfies p, cut at the first that does. -/
theorem exists_first {p : Rec → Bool} {l : List Rec} (h : ∃ x ∈ l, p x = true) :
    ∃ a x b, l = a ++ x :: b ∧ p x = true ∧ ∀ y ∈ a, p y = false := by
  obtain ⟨x, hx⟩ := Option.isSome_iff_exists.mp (List.find?_isSome.mpr h)
  obtain ⟨hp, a, b, rfl, ha⟩ := List.find?_eq_some_iff_append.mp hx
  exact ⟨a, x, b, rfl, hp, fun y hy => by simpa using ha y hy⟩

/-- A severity that counts records has one. -/
theorem exists_of_sevCount_pos {l : List Rec} {v : Nat} (h : 0 < sevCount l v) : ∃ x ∈ l, x.sev = v := by
  obtain ⟨x, hx⟩ := List.exists_mem_of_length_pos h
  obtain ⟨hl, hs⟩ := List.mem_filter.mp hx
  exact ⟨x, hl, beq_iff_eq.mp hs⟩

/-- A severity that may lose a record to the new one: at most the new one's, and above its reserve. -/
def sevCand (res : Nat → Nat) (l : List Rec) (r : Rec) (v : Nat) : Bool :=
  decide (v ≤ r.sev) && decide (res v < sevCount l v)

section
variable {res : Nat → Nat} {l : List Rec} {r : Rec} {cap : Nat} (hfull : cap ≤ l.length)
include hfull

/-- A full log in which a severity may lose a record: the oldest record of such a severity goes. -/
theorem placeLog_of_cand {v : Nat} (hv : v ≤ 3) (hc : sevCand res l r v = true) :
    placeLog res l r cap = (takeFirst (fun x => sevCand res l r x.sev) l).map (· ++ [r]) := by
  refine (if_neg (Nat.not_lt.mpr hfull)).trans (congrArg (Option.map (· ++ [r])) (if_pos ?_))
  change (sevCand res l r 0 || sevCand res l r 1 || sevCand res l r 2 || sevCand res l r 3) = true
  have : v = 0 ∨ v = 1 ∨ v = 2 ∨ v = 3 := by omega
  rcases this with rfl | rfl | rfl | rfl <;> simp [hc]

/-- A full log in which no severity may lose a record: the oldest record of the new one's own severity goes. -/
theorem placeLog_of_no_cand (hc : ∀ v, v ≤ 3 → sevCand res l r v = false) :
    placeLog res l r cap = (takeFirst (fun x => x.sev == r.sev) l).map (· ++ [r]) := by
  refine (if_neg (Nat.not_lt.mpr hfull)).trans (congrArg (Option.map (· ++ [r])) (if_neg ?_))
  change ¬(sevCand res l r 0 || sevCand res l r 1 || sevCand res l r 2 || sevCand res l r 3) = true
  rw [hc 0 (by decide), hc 1 (by decide), hc 2 (by decide), hc 3 (by decide)]
  decide

end

/-- Settles O58: `placeLog` takes out the first record that its rule names. -/
theorem recordPlacement : Obligations.RecordPlacement := by
  unfold Obligations.RecordPlacement
  refine ⟨fun res l r cap h => if_pos h, fun res l r cap hfull hr hl => ⟨?cand, fun hnone => ⟨?own, fun hown => ?dropped⟩⟩⟩
  case cand =>
    rintro ⟨v, hv, hc⟩
    change sevCand res l r v = true at hc
    have hcount : res v < sevCount l v := of_decide_eq_true (Bool.and_eq_true_iff.mp hc).2
    obtain ⟨x, hx, hsev⟩ := exists_of_sevCount_pos (Nat.zero_lt_of_lt hcount)
    obtain ⟨a, x, b, hsplit, hx, ha⟩ := exists_first (p := fun x => sevCand res l r x.sev) ⟨x, hx, hsev ▸ hc⟩
    refine ⟨a, x, b, hsplit, hx, ha, (placeLog_of_cand hfull hv hc).trans ?_⟩
    have htake : takeFirst (fun x => sevCand res l r x.sev) l = some (a ++ b) :=
      (congrArg _ hsplit).trans (takeFirst_append_cons ha hx b)
    rw [htake]
    rfl
  case own =>
    intro a x b hsplit hx ha
    have htake : takeFirst (fun x => x.sev == r.sev) l = some (a ++ b) :=
      (congrArg _ hsplit).trans
        (takeFirst_append_cons (fun y hy => beq_eq_false_iff_ne.mpr (ha y hy)) (beq_iff_eq.mpr hx) b)
    rw [placeLog_of_no_cand hfull hnone, htake]
    rfl
  case dropped =>
    rw [placeLog_of_no_cand hfull hnone, takeFirst_eq_none fun x hx => beq_eq_false_iff_ne.mpr (hown x hx)]
    rfl

end Sys2Proof.Machine
end

section
/-! The recorder: its log, its page and its readout (R380 to R387). -/

namespace Sys2Proof.Machine

/-! ### The recorder's log (R384, R385) -/

section
variable {s : State}

theorem logFail_of_up (hm : s.rcd.mounted = true) (hd : s.flag Fd.logDegraded = false) (hg : s.rcd.gasp = false)
    (cause : Nat) :
    s.logFail cause =
      (let t := (s.put Fd.logDegraded 1).irq Pg.rec 1
       let r := t.mkRec Ev.LOG_DEGRADED Pg.rec [cause]
       if t.rcd.used < 255 then { t.takeIdx with rcd := { t.rcd with handed := r :: t.rcd.handed } } else t.raiseRec r) := by
  unfold State.logFail
  rw [hm, hd, hg, if_neg (by decide)]

theorem recTrial_of_degraded (hd : s.flag Fd.logDegraded = true) (hc : s.rcd.copying = false) (hg : s.rcd.gasp = false) :
    s.recTrial true = { s with rcd := { s.rcd with copying := true } } := by
  unfold State.recTrial
  rw [hd, hc, hg, if_pos (by decide)]

/-- The body of `recRestored` while a copy runs. -/
theorem recRestored_of_copying (hc : s.rcd.copying = true) :
    s.recRestored =
      (let n := s.nv.fb.length
       let t := s.nv.fb.foldl (fun t r =>
         if t.nv.log.any (fun x => x.index == r.index) then t
         else match placeLog t.quotaRes t.nv.log { r with copied := true } logSlots with
           | none => t.recDrop r.sev
           | some l => { t with nv := { t.nv with log := l } }) s
       let t := { t with nv := { t.nv with fb := [], fbBad := 0 }, rcd := { t.rcd with copying := false } }
       ((t.put Fd.logDegraded 0).irq Pg.rec 2).raise Ev.LOG_RESTORED Pg.rec [n]) := by
  have hcopying : ¬(!s.rcd.copying) = true := by
    rw [hc]
    decide
  exact if_neg hcopying

end

/-! ### The recorder's page (R380, R383, R387) -/

section
variable {s : State} {ini : Nat}

/-- A read that pops answers what the pop answers. -/
theorem readReg_of_popRead {a : Nat} {r : Word × State} (h : s.popRead ini (a / 0x1000) (a % 0x1000) = some r) :
    s.readReg ini a = r := by
  unfold State.readReg
  simp only [h]

/-- A read of RD_WIN0 answers the record latched with it. -/
theorem busRead_recWin0 (h : s.reaches ini (Rg.REC_RD_WIN 0) false = true) :
    s.busRead ini (Rg.REC_RD_WIN 0) 4 = (s.recLatch ini).respond ((s.recLatch ini).live ini Pg.rec 0xC0) false := by
  have hpop : s.popRead ini Pg.rec 0xC0 = some ((s.recLatch ini).live ini Pg.rec 0xC0, s.recLatch ini) := rfl
  rw [busRead_reaches s ini _ (by decide) h, readReg_of_popRead hpop]

/-- A read of RD_WIN15 answers the window's last word and moves RD_SEL on. -/
theorem busRead_recWin15 (h : s.reaches ini (Rg.REC_RD_WIN 15) false = true) :
    s.busRead ini (Rg.REC_RD_WIN 15) 4 = (s.recAdvance ini).respond (s.live ini Pg.rec 0xFC) false := by
  have hpop : s.popRead ini Pg.rec 0xFC = some (s.live ini Pg.rec 0xFC, s.recAdvance ini) := rfl
  rw [busRead_reaches s ini _ (by decide) h, readReg_of_popRead hpop]

theorem busWrite_recAppPost {v : Word} (h : s.takes ini Rg.REC_APP_POST = true) (hv : noReserved Rg.REC_APP_POST v = true)
    (hc : 0x8000 ≤ getF v 0 16) : s.busWrite ini Rg.REC_APP_POST 4 v = (s.begun ini Rg.REC_APP_POST).appPost ini v := by
  rw [busWrite_takes s ini _ v (by decide) h (by decide) (by decide), toPartner_none _ _ v (by decide) (by decide)]
  exact applyWrite_appPost _ ini v hv hc

end

/-- Settles O37: a command of the real-time complex runs its operation in the state the clause names; an access reaches its
register. -/
theorem recorder : Obligations.Recorder := by
  unfold Obligations.Recorder
  refine ⟨fun s hr => congrArg Host.Outcome.next (rt_on hr _),
    fun s cause hr hm hd hg => congrArg Host.Outcome.next ((rt_on hr _).trans (logFail_of_up hm hd hg cause)),
    fun s hr hd hc hg => congrArg Host.Outcome.next ((rt_on hr _).trans (recTrial_of_degraded hd hc hg)),
    fun s hr hc => congrArg Host.Outcome.next ((rt_on hr _).trans (recRestored_of_copying hc)),
    fun s ini v h hv => congrArg Host.Outcome.next (busWrite_localPage v (by decide) (by decide) h hv),
    fun s ini h => congrArg Host.Outcome.next (busRead_recWin0 h),
    fun s ini h => congrArg Host.Outcome.next (busRead_recWin15 h),
    fun s ini v h hv => congrArg Host.Outcome.next (busWrite_localPage v (by decide) (by decide) h hv),
    fun s ini v h hv hc => congrArg Host.Outcome.next (busWrite_recAppPost h hv hc)⟩

end Sys2Proof.Machine
end

section
/-! Burnish: measurements, NAND scans, the supercapacitor test, sample points and drive caps (R388 to R397). -/

namespace Sys2Proof.Machine

/-! ### Measurements and tests (R388, R391) -/

section
variable {s : State}

/-- An item that exists is measured; item 9 only under a locked source. -/
theorem ageMeasure_of_allowed {k : Nat} (hk : k ≤ 32) (hsrc : k = 9 → s.get Fd.TIME_SRC_STAT_STATE = 3) (v : Int) :
    s.ageMeasure k v =
      (let t := s.ageSet k (if k = 32 then (s.ledItem : Int) else v)
       if k = 7 then t.avsSample else t) := by
  unfold State.ageMeasure
  rw [if_neg (Nat.not_lt.mpr hk), if_neg fun hc => hc.2 (hsrc hc.1)]

/-- A test starts, or is put off with its event (R391). -/
theorem scapStart_of_idle (hr : s.age.scapRun = false) :
    s.scapStart =
      (let t : State := { s with age := { s.age with scapAt := some (s.utc / 3600) } }
       if s.pwr.state = .run ∧ s.nv.upd.state ≠ 6 ∧ s.nv.upd.state ≠ 8 ∧ 5000 ≤ s.pwr.vhold then
         { t with age := { t.age with scapRun := true, scapDue := false } }
       else ({ t with age := { t.age with scapDue := true } }).raise Ev.AGE_SCAP_TEST Pg.age [s.age.scapC, s.age.scapEsr, 1]) :=
  if_neg fun hrun => Bool.false_ne_true (hr.symm.trans hrun)

/-- An hour in which no test was tried yet, and one is due or planned, tries one. -/
theorem scapHour_of_due (hat : s.age.scapAt ≠ some (s.utc / 3600))
    (hdue : s.age.scapDue = true ∨ (s.flag Fd.AGE_CFG_SCAP_EN = true ∧ s.get Fd.AGE_SCAP_CFG_HOUR = s.utc / 3600 % 24 ∧
      (dateOfDay ((s.utc / 86400 : Nat) - 10957)).2.2 = (s.get Fd.AGE_SCAP_CFG_DAY : Int))) :
    s.scapHour = s.scapStart := by
  refine if_pos ?_
  rw [Bool.and_eq_true, Bool.or_eq_true]
  refine ⟨?_, bne_iff_ne.mpr hat⟩
  rcases hdue with hdue | ⟨hen, hhour, hday⟩
  · exact .inr hdue
  · left
    rw [hen, hhour, decide_eq_true hday, beq_self_eq_true]
    rfl

theorem scapDone_of_running (hr : s.age.scapRun = true) (c esr : Nat) :
    s.scapDone c esr =
      (let old := s.holdPlanWord
       let t := { s with age := { s.age with scapRun := false, scapC := c, scapEsr := esr } }
       let t := ((t.ageSet 10 c).ageSet 11 esr).irq Pg.age 3
       let t := t.raise Ev.AGE_SCAP_TEST Pg.age [c, esr, 0]
       if t.holdPlanWord = old then t else t.replanned 3 t.holdT 0) := by
  unfold State.scapDone
  rw [hr, if_neg (by decide)]

/-! ### Re-planning (R392, R393) -/

@[simp] theorem transmits_modFb (s : State) (b : Nat) (f : FbSt → FbSt) : (s.modFb b f).transmits = s.transmits := rfl

@[simp] theorem flag_modFb (s : State) (b : Nat) (f : FbSt → FbSt) (x : Fld) : (s.modFb b f).flag x = s.flag x := rfl

theorem spReplan_of_enabled {b : Nat} (ht : s.transmits = true) (he : s.flag (Fd.FB_SAMPLE_PT_BURNISH_EN b) = true) :
    s.spReplan b =
      (let f := s.fbs b
       let t := s.modFb b ({ · with errD := 0, errA := 0, frames := 0 })
       let d := spStep (t.spPlan b 0) f.errD f.frames
       let a := spStep (t.spPlan b 1) f.errA f.frames
       let moved := d.ofs != (t.spPlan b 0).ofs || a.ofs != (t.spPlan b 1).ofs
       let t := (t.setSpPlan b 0 d).setSpPlan b 1 a
       if !moved then t
       else
         let nom := ((t.get (Fd.FB_SAMPLE_PT_NOM_SP b) : Int) + a.ofs).toNat
         let dat := ((t.get (Fd.FB_SAMPLE_PT_DATA_SP b) : Int) + d.ofs).toNat
         let w := setF (setF 0 24 7 nom) 16 7 dat
         ((t.modFb b ({ · with spPend := some w })).mirrorOut (.samplePt b w)).replanned 4 w.toNat b) := by
  unfold State.spReplan
  rw [if_neg]
  rw [flag_modFb, transmits_modFb, he, ht]
  decide

theorem capReplan_of_noon (hn : s.utc / 3600 % 24 = 12) (hd : s.age.capDay ≠ some (s.utc / 86400)) :
    s.capReplan =
      (let t := if s.flag Fd.AGE_CFG_CAP_EN && s.transmits then
           s.node.table.foldl (fun (a : State × Nat) e =>
             let r := a.1.capNode e.1
             (r.1, a.2 + b2n r.2)) (s, 0)
         else (s, 0)
       let u := if t.2 = 0 then t.1 else t.1.replanned 5 t.2 0
       { u with age := { u.age with capSum := [], capCnt := [], capDay := some (u.utc / 86400) } }) := by
  refine if_neg ?_
  rintro (h | h)
  · exact h hn
  · exact hd h

end

/-! ### The page (R394, R397) -/

section
variable {s : State} {ini : Nat}

@[simp] theorem begun_utc (s : State) (ini a : Nat) : (s.begun ini a).utc = s.utc := by
  obtain ⟨x, h⟩ := begun_acc s ini a
  rw [h]
  rfl

/-- The first command of AGE.CMD measures the selected item; what the sensor reads is free (log entry 145). -/
theorem busWrite_ageCmdMeasure (h : s.takes ini Rg.AGE_CMD = true) :
    s.busWrite ini Rg.AGE_CMD 4 1 =
      (let f := (s.begun ini Rg.AGE_CMD).fresh
       f.2.ageMeasure (s.get ⟨Rg.AGE_ITEM_SEL, 0, 6⟩) (signed 32 f.1.toNat)) := by
  have hsel : (s.begun ini Rg.AGE_CMD).fresh.2.get ⟨Rg.AGE_ITEM_SEL, 0, 6⟩ = s.get ⟨Rg.AGE_ITEM_SEL, 0, 6⟩ :=
    begun_get s ini _ _
  rw [busWrite_localPage 1 (by decide) (by decide) h (by decide), ← hsel]
  rfl

theorem busWrite_ageCmdScapTest (h : s.takes ini Rg.AGE_CMD = true) :
    s.busWrite ini Rg.AGE_CMD 4 2 = (s.begun ini Rg.AGE_CMD).scapStart := by
  rw [busWrite_localPage 2 (by decide) (by decide) h (by decide)]
  rfl

/-- A read of MARGIN latches the item's other words with it. -/
theorem busRead_ageMargin (h : s.reaches ini Rg.AGE_MARGIN false = true) :
    s.busRead ini Rg.AGE_MARGIN 4 =
      (let t := (span 0x4C 0x58).foldl (fun t k => t.setLatch ini Pg.age k (s.live ini Pg.age k)) s
       t.respond ((t.latched ini Pg.age 0x48).getD (t.live ini Pg.age 0x48)) false) := by
  have hset : s.takeSnapshot ini (Rg.AGE_MARGIN / 0x1000) (Rg.AGE_MARGIN % 0x1000) =
      (span 0x4C 0x58).foldl (fun t k => t.setLatch ini Pg.age k (s.live ini Pg.age k)) s :=
    takeSnapshot_of_latchSet s ini (by decide) (by decide) (by decide)
  rw [busRead_reaches s ini _ (by decide) h, readReg_splitLo s ini _ (by decide), hset]
  rfl

end

/-- Settles O38: each command of the real-time complex in the state its clause names, then the accesses to the page. -/
theorem burnish : Obligations.Burnish := by
  unfold Obligations.Burnish
  refine ⟨fun s k v hr hk hsrc => ?measure, fun s v hr => congrArg Host.Outcome.next (rt_on hr _),
    fun s hr hrun hat hdue => congrArg Host.Outcome.next
      ((rt_on hr _).trans ((scapHour_of_due hat hdue).trans (scapStart_of_idle hrun))),
    fun s c esr hr hrun => congrArg Host.Outcome.next ((rt_on hr _).trans (scapDone_of_running hrun c esr)),
    fun s b hr hb ht he => ?samplePoint,
    fun s hr hn hd => congrArg Host.Outcome.next ((rt_on hr _).trans (capReplan_of_noon hn hd)),
    fun s ini h hk hsrc => ?cmdMeasure, fun s ini h => ?cmdScap,
    fun s ini h => congrArg Host.Outcome.next (busRead_ageMargin h)⟩
  case measure =>
    show Host.Outcome.next (s.rt (s.ifOk (decide (k < 64)) (s.ageMeasure k v))) = _
    rw [rt_on hr, ifOk_true (decide_eq_true (by omega)), ageMeasure_of_allowed hk hsrc]
  case samplePoint =>
    show Host.Outcome.next (s.rt (s.ifOk (decide (b < 16)) (s.spReplan b))) = _
    rw [rt_on hr, ifOk_true (decide_eq_true hb), spReplan_of_enabled ht he]
  case cmdMeasure =>
    have hstate : (s.begun ini Rg.AGE_CMD).fresh.2.get Fd.TIME_SRC_STAT_STATE = s.get Fd.TIME_SRC_STAT_STATE :=
      begun_get s ini _ _
    exact congrArg Host.Outcome.next
      ((busWrite_ageCmdMeasure h).trans (ageMeasure_of_allowed hk (fun h9 => hstate.trans (hsrc h9)) _))
  case cmdScap =>
    refine congrArg Host.Outcome.next ((busWrite_ageCmdScapTest h).trans ?_)
    unfold State.scapStart
    rw [begun_utc]

end Sys2Proof.Machine
end

section
/-! Power states (R398, R399, R406, R407, R411), the command registers of power and boot (R407, R408, R413, R419, R420) and
the boot stages (R400, R401, R403). -/

namespace Sys2Proof.Machine

/-! ### Power comes and goes (R398, R399, R407, R411) -/

section
variable {s : State}

theorem powerRise_of_vbatOnly (h : s.pwr.state = .vbatOnly) (vin : Nat) :
    s.powerRise vin =
      (let cold := s.pwr.fresh
       let t := s.afterReset.modPwr ({ · with vin := vin, pgood := true, ready := false, vhold := 0, charging := true })
       let u := t.wr Rg.SYS_RST_CAUSE (BitVec.ofNat 32 (1 + 2 * b2n s.pwr.throughHoldup + 64 * b2n cold))
       ((u.irq Pg.pwr 0).raise Ev.PWR_STATE Pg.pwr [4, 0]).bootStart) := by
  have hoff : (s.pwr.state == .off) = false := by rw [h]; rfl
  unfold State.powerRise
  rw [if_neg fun hc => hc.1 h]
  simp only [if_pos h, hoff, Bool.false_or]

theorem powerRise_of_off (h : s.pwr.state = .off) (vin : Nat) :
    s.powerRise vin =
      (let t := s.coldState.modPwr ({ · with vin := vin, pgood := true, ready := false, vhold := 0, charging := true })
       (t.wr Rg.SYS_RST_CAUSE (BitVec.ofNat 32 (1 + 2 * b2n s.pwr.throughHoldup + 64 * b2n true))).bootStart) := by
  have hoff : (s.pwr.state == .off) = true := by rw [h]; rfl
  have hvbat : s.pwr.state ≠ .vbatOnly := by rw [h]; decide
  unfold State.powerRise
  simp only [hoff, Bool.true_or, Bool.true_eq_false, and_false, if_neg hvbat, if_false]

theorem powerFall_of_awake (h : s.pwr.state = .run ∨ s.pwr.state = .low) (hp : s.pwr.pgood = true) (vin : Nat) (vbat : Bool) :
    s.powerFall vin vbat =
      (let t := s.modPwr ({ · with vin := vin, pgood := false, charging := false })
       if s.pwr.ready then t.enterHoldup t.holdPlan else (t.modBoot ({ · with noHoldup := true })).powerGone vbat) := by
  refine if_neg ?_
  rintro (⟨hrun, hlow⟩ | hgone)
  · exact h.elim hrun hlow
  · rw [hp] at hgone
    cases hgone

theorem vholdReady_of_rising (hr : s.rtOn = true) (hp : s.pwr.pgood = true) (hn : s.pwr.ready = false) {mv : Nat}
    (hv : 4500 ≤ mv) :
    s.vholdReady mv =
      (s.modPwr ({ · with vhold := mv, ready := true, charging := decide (mv < 5000) })).irq Pg.pwr 1 := by
  unfold State.vholdReady
  rw [hr, hp, hn, decide_eq_false (Nat.not_lt.mpr hv), if_neg (by decide), if_neg (by decide)]

section
variable (h : s.pwr.state = .holdup)
include h

/-- In HOLDUP, before power-down work begins. -/
theorem rideEnd_of_riding (hi : s.pwr.irrev = false) :
    s.rideEnd = { s.modPwr ({ · with irrev := true }) with nv := { s.nv with nodes := s.node.table, nodeBad := [] } } := by
  unfold State.rideEnd
  rw [h, hi, if_neg (by decide)]
  rfl

theorem vinReturn_of_riding (hi : s.pwr.irrev = false) (vin : Nat) :
    s.vinReturn vin =
      (let low := s.pwr.fromLow
       let t := s.raise Ev.PWR_VIN_RETURN Pg.pwr [(s.ns - s.pwr.holdAt) / 1000000]
       let u : State := { t with rcd := { t.rcd with gasp := false, copying := t.rcd.mounted } }
       let w := (u.setPwr (if low then .low else .run)).modPwr ({ · with
         vin := vin, pgood := true, charging := true, netOn := true, appOn := !low, throughHoldup := false })
       w.runStages ([16, 17, 18, 19, 20, 21, 22] ++ (if low then [] else [13, 14, 15]) ++
         (if w.pwr.done || w.pwr.romExec then [] else [23, 24]))) := by
  unfold State.vinReturn
  rw [h, hi, if_neg (by decide)]

/-- In HOLDUP, once power-down work has begun. -/
theorem powerDown_of_irrev (hi : s.pwr.irrev = true) (vbat : Bool) :
    s.powerDown vbat =
      (if vbat then (s.raise Ev.PWR_STATE Pg.pwr [2, 4]).recGasp else s.recGasp).powerGone vbat := by
  unfold State.powerDown
  rw [h, hi, if_neg (by decide)]

end

theorem wake_of_standby (hw : s.wakeSrc ≠ 0) (h : s.pwr.state = .standby) :
    s.wake =
      (let t := s.afterReset.wr Rg.PWR_WAKE_SRC (BitVec.ofNat 32 s.wakeSrc)
       (((t.irq Pg.pwr 0).raise Ev.PWR_STATE Pg.pwr [3, 0]).raise Ev.PWR_WAKE Pg.pwr [s.wakeSrc]).bootStart) := by
  unfold State.wake
  rw [if_neg hw, if_pos h]

theorem wake_of_low (hw : s.wakeSrc ≠ 0) (h : s.pwr.state = .low) :
    s.wake = ((s.wr Rg.PWR_WAKE_SRC (BitVec.ofNat 32 s.wakeSrc)).raise Ev.PWR_WAKE Pg.pwr [s.wakeSrc]).toRun := by
  have hstandby : s.pwr.state ≠ .standby := by rw [h]; decide
  unfold State.wake
  rw [if_neg hw, if_neg hstandby, if_pos h]

end

/-- Settles O6: each command in the power state, and on the side of its condition, that its clause names. -/
theorem powerStates : Obligations.PowerStates := by
  unfold Obligations.PowerStates
  exact ⟨fun s vin => ⟨fun h => congrArg Host.Outcome.next (powerRise_of_vbatOnly h vin),
      fun h => congrArg Host.Outcome.next (powerRise_of_off h vin)⟩,
    fun s vin vbat h hp => congrArg Host.Outcome.next (powerFall_of_awake h hp vin vbat),
    fun s mv hr hp hn hv => congrArg Host.Outcome.next (vholdReady_of_rising hr hp hn hv),
    fun s h hi => congrArg Host.Outcome.next (rideEnd_of_riding h hi),
    fun s vbat h hi => congrArg Host.Outcome.next (powerDown_of_irrev h hi vbat),
    fun s vin h hi => congrArg Host.Outcome.next (vinReturn_of_riding h hi vin),
    fun s hw => ⟨fun h => congrArg Host.Outcome.next (wake_of_standby hw h),
      fun h => congrArg Host.Outcome.next (wake_of_low hw h)⟩,
    fun s vbat h => congrArg Host.Outcome.next (if_pos h)⟩

/-! ### Command registers (R407, R408, R413, R419, R420) -/

section
variable {s : State}

theorem pwrCmd_run_of_low (h : s.pwr.state = .low) : s.pwrCmd 1 = (s.pwrStat 0).toRun := by
  unfold State.pwrCmd
  rw [h]
  rfl

theorem pwrCmd_low_of_run (h : s.pwr.state = .run) :
    s.pwrCmd 2 =
      (let t := (((s.pwrStat 0).appDown).setPwr .low).modPwr fun p => { p with
         todo := p.todo.filter (fun n => n < 13 || 15 < n), stage := if 13 ≤ p.stage ∧ p.stage ≤ 15 then 0 else p.stage }
       t.bootGo 32) := by
  unfold State.pwrCmd
  rw [h]
  rfl

section
variable (h : s.pwr.state = .run ∨ s.pwr.state = .low)
include h

theorem not_asleep : ¬(s.pwr.state ≠ .run ∧ s.pwr.state ≠ .low) := fun hc => h.elim hc.1 hc.2

theorem pwrCmd_standby_of_awake : s.pwrCmd 3 = s.toStandby := if_neg (not_asleep h)

theorem pwrCmd_appReset_of_awake : s.pwrCmd 4 = (s.pwrStat 0).domainApp 1 := if_neg (not_asleep h)

theorem pwrCmd_netReset_of_awake : s.pwrCmd 5 = (s.pwrStat 0).domainNet 1 := if_neg (not_asleep h)

end

variable {ini : Nat}

theorem busWrite_pwrCmd (c : Word) (h : s.takes ini Rg.PWR_CMD = true) (hc : noReserved Rg.PWR_CMD c = true) :
    s.busWrite ini Rg.PWR_CMD 4 c = (s.begun ini Rg.PWR_CMD).pwrCmd (getF c 0 3) :=
  busWrite_localPage c (by decide) (by decide) h hc

theorem busWrite_bootCmd (c : Word) (h : s.takes ini Rg.BOOT_CMD = true) (hc : noReserved Rg.BOOT_CMD c = true) :
    s.busWrite ini Rg.BOOT_CMD 4 c = (s.begun ini Rg.BOOT_CMD).bootCmd c :=
  busWrite_localPage c (by decide) (by decide) h hc

/-- The word for BOOT.CMD that retries one stage. -/
theorem bootRetryWord_facts : ∀ stage < 32, noReserved Rg.BOOT_CMD (BitVec.ofNat 32 (2 + 4 * (stage % 32))) = true ∧
    getF (BitVec.ofNat 32 (2 + 4 * (stage % 32))) 0 2 = 2 ∧
    getF (BitVec.ofNat 32 (2 + 4 * (stage % 32))) 2 5 = stage := by decide

theorem bootCmd_retrySel (s : State) {stage : Nat} (hs : stage < 32) :
    s.bootCmd (BitVec.ofNat 32 (2 + 4 * (stage % 32))) = s.setFail stage 0 := by
  obtain ⟨-, hop, hstage⟩ := bootRetryWord_facts stage hs
  unfold State.bootCmd
  simp only [hop, hstage]
  rfl

end

/-- Settles O7: the page's write rule, then the command in the power state that its clause names. -/
theorem powerCommands : Obligations.PowerCommands := by
  unfold Obligations.PowerCommands
  refine ⟨fun s ini h hl => ?run, fun s ini h hr => ?low, fun s ini h hs => ?standby, fun s ini h hs => ?appReset,
    fun s ini h hs => ?netReset, fun s ini h => congrArg Host.Outcome.next (busWrite_bootCmd 1 h (by decide)),
    fun s ini stage hs h => ?retrySel, fun s ini v hi h hv => ?kick⟩
  case run =>
    exact congrArg Host.Outcome.next
      ((busWrite_pwrCmd 1 h (by decide)).trans (pwrCmd_run_of_low (by rwa [begun_pwr])))
  case low =>
    exact congrArg Host.Outcome.next
      ((busWrite_pwrCmd 2 h (by decide)).trans (pwrCmd_low_of_run (by rwa [begun_pwr])))
  case standby =>
    exact congrArg Host.Outcome.next
      ((busWrite_pwrCmd 3 h (by decide)).trans (pwrCmd_standby_of_awake (by rwa [begun_pwr])))
  case appReset =>
    exact congrArg Host.Outcome.next
      ((busWrite_pwrCmd 4 h (by decide)).trans (pwrCmd_appReset_of_awake (by rwa [begun_pwr])))
  case netReset =>
    exact congrArg Host.Outcome.next
      ((busWrite_pwrCmd 5 h (by decide)).trans (pwrCmd_netReset_of_awake (by rwa [begun_pwr])))
  case retrySel =>
    exact congrArg Host.Outcome.next
      ((busWrite_bootCmd _ h (bootRetryWord_facts stage hs).1).trans (bootCmd_retrySel _ hs))
  case kick =>
    have hkick : (s.begun ini Rg.WDOG_KICK).kick ini = (s.begun ini Rg.WDOG_KICK).modPwr fun p =>
        { p with kicks := Tab.set (fun _ => 0) p.kicks ini (s.begun ini Rg.WDOG_KICK).ns } := if_neg (Nat.not_lt.mpr hi)
    rw [begun_ns] at hkick
    exact congrArg Host.Outcome.next ((busWrite_localPage v (by decide) (by decide) h hv).trans hkick)

/-! ### Boot stages (R400, R401, R403) -/

section
variable {s : State}

theorem stageDone_of_running (h : s.pwr.stage ≠ 0) (ok : Bool) (ms : Nat) :
    s.stageDone ok ms =
      if (ok && s.stageOk s.pwr.stage) || stageSure s.pwr.stage then
        (((s.setFail s.pwr.stage 0).setRes s.pwr.stage 1).stageWork s.pwr.stage).stageNext s.pwr.stage ms
      else (s.stageFail s.pwr.stage 1).stageNext s.pwr.stage ms := if_neg h

theorem stageLate_of_running (h : s.pwr.stage ≠ 0) (hs : stageSure s.pwr.stage = false) (ms : Nat) :
    s.stageLate ms = (s.stageFail s.pwr.stage 2).stageNext s.pwr.stage ms := by
  refine if_neg ?_
  rintro (h0 | hsure)
  · exact h h0
  · exact Bool.false_ne_true (hs.symm.trans hsure)

theorem romReset_of_running (hx : s.pwr.romExec = true) (hr : s.rtOn = true) (hn : s.pwr.resetHold = none) :
    s.romReset = (s.modPwr ({ · with resetHold := some .cmd, noHold := false })).yieldIfStandby.recGasp :=
  (if_pos hx).trans (startReset_eq s .cmd false hr hn)

end

/-- Settles O8: the running stage ends or is late, and the ROM executive resets. -/
theorem bootStages : Obligations.BootStages := by
  unfold Obligations.BootStages
  exact ⟨fun s ok ms hr h => congrArg Host.Outcome.next ((rt_on hr _).trans (stageDone_of_running h ok ms)),
    fun s ms hr h hs => congrArg Host.Outcome.next ((rt_on hr _).trans (stageLate_of_running h hs ms)),
    fun s hr hx hn => congrArg Host.Outcome.next ((rt_on hr _).trans (romReset_of_running hx hr hn))⟩

end Sys2Proof.Machine
end

section
/-! The update campaign: verification, activation, the loader and confirmation (R364 to R374). -/

namespace Sys2Proof.Machine

section
variable {s : State}

/-- Proof works while the real-time complex runs and this boot takes campaign actions (R377). -/
theorem updGo_on (hr : s.rtOn = true) (hi : s.updIdle = false) (t : State) : s.updGo t = t := by
  unfold State.updGo
  rw [rt_on hr, hi, ifOk_true (by decide)]

/-! ### Staging and activation (R364, R370, R371) -/

theorem updVerified_of_verifying (h : s.nv.upd.state = 3) :
    s.updVerified =
      (let u := s.nv.upd
       if u.man.any fun e => e.kind != 5 && sha384 (u.bytes e.offset e.length) != e.digest then s.updAbort 14
       else
         (((s.modUpd UpdNv.stage).updTo 4).raise Ev.UPD_STAGED Pg.upd
           [u.seq % 2 ^ 32, (u.targets.filter fun t => t.verified).length]).ackChange) := if_neg (not_not_intro h)

theorem updDeadline_of_due (h2 : 2 ≤ s.nv.upd.state) (h4 : s.nv.upd.state ≤ 4) (hd : s.nv.upd.deadline ≤ s.utc)
    (ht : s.transmits = true) :
    s.updDeadline =
      (let u := s.nv.upd
       if u.state = 4 ∧ u.targets.all (·.verified) ∧ (!s.updPaired ∨ u.partner = 3) then
         let t := s.updTo 5
         if u.actAt = 0 then t else t.updArm (t.tickAtUtc u.actAt)
       else s.updAbort 15) := by
  refine if_neg ?_
  rintro (h | h | h | h)
  · omega
  · omega
  · omega
  · rw [ht] at h
    cases h

theorem updActivateCmd_of_open (h5 : s.nv.upd.state = 5) (h0 : s.nv.upd.actAt = 0) (hn : s.nv.upd.actTick = none) :
    s.updActivateCmd = s.updArm (s.tick.num + s.ticksFor 300000 + 1) :=
  if_pos ⟨h5, h0, Option.isNone_iff_eq_none.mpr hn⟩

theorem updArmTimeout_of_late {t : Nat} (ha : s.nv.upd.actTick = some t) (h5 : s.nv.upd.state = 5)
    (ht : s.transmits = true) (hd : t ≤ s.tick.num + s.ticksFor 60000)
    (hl : (s.nv.upd.targets.any (fun t => !t.armed) || (s.updPaired && s.nv.upd.partner != 4)) = true) :
    s.updArmTimeout = s.updAbort 16 := by
  unfold State.updArmTimeout
  simp only [ha]
  exact if_pos ⟨h5, ht, hd, hl⟩

theorem updPartnerTimeout_of_silent (h6 : s.nv.upd.state = 6) (hr : s.role = 1) (hp5 : s.nv.upd.partner ≠ 5)
    (hp6 : s.nv.upd.partner ≠ 6) (hd : s.nv.upd.actSec + 600 ≤ s.sec) (hrun : s.nv.upd.running = false) :
    s.updPartnerTimeout = ((s.bulkClose 6 3).nodesRevert).updAbort 18 :=
  if_pos ⟨h6, hr, hp5, hp6, hd, (Bool.not_eq_true' _).mpr hrun⟩

/-! ### The loader (R372) -/

theorem loaderUnit_of_running (hrun : s.nv.upd.running = true) (hd : s.nv.upd.done < s.nv.upd.total)
    (hh : s.pwr.state ≠ .holdup ∨ s.upd.lastUnit = false) :
    s.loaderUnit = { (s.modUpd fun u => u.exchange u.done) with
      upd := { s.upd with lastUnit := s.pwr.state == .holdup } } := by
  refine if_pos ⟨hrun, hd, ?_⟩
  rcases hh with hh | hh
  · rw [beq_false_of_ne hh]
    rfl
  · rw [hh, Bool.and_false]
    rfl

theorem loaderDone_of_last (hrun : s.nv.upd.running = true) (hd : s.nv.upd.done = s.nv.upd.total) :
    s.loaderDone = { s with
      nv := { s.nv with upd := { s.nv.upd with running := false } }
      pwr := { s.pwr with exchange := false }, upd := { s.upd with resetDue := true } } := if_pos ⟨hrun, hd⟩

/-! ### Confirmation (R373, R374) -/

section
variable (h7 : s.nv.upd.state = 7) (hc : s.nv.upd.confirmed = false) (hs : 600 ≤ s.stable)
include h7 hc hs

theorem updConfirmCmd_of_stable (hm : s.nv.upd.manual = true) :
    s.updConfirmCmd = (s.modUpd fun u => { u with confirmed := true }).updTryConfirm :=
  if_pos ⟨h7, (Bool.not_eq_true' _).mpr hc, hs, hm⟩

theorem updStable_of_automatic (hm : s.nv.upd.manual = false) :
    s.updStable = (s.modUpd fun u => { u with confirmed := true }).updTryConfirm :=
  if_pos ⟨h7, (Bool.not_eq_true' _).mpr hc, hs, (Bool.not_eq_true' _).mpr hm⟩

end

theorem updNodeTimeout_of_due {t : Nat} (ha : s.nv.upd.actTick = some t) (h6 : 6 ≤ s.nv.upd.state)
    (h7 : s.nv.upd.state ≤ 7) (hd : t + 3000 ≤ s.tick.num) :
    s.updNodeTimeout =
      (let late := s.nv.upd.targets.filter fun t => !t.failed && !s.targetNew t
       let u := late.foldl (fun s t => (s.updJob t.index 0x33 []).targetFail t.index 0xFF) s
       if !late.isEmpty && u.flag Fd.UPD_CFG_NODE_STRICT then u.nodesRevert.swapBack 4 else u.updTryConfirm) := by
  unfold State.updNodeTimeout
  simp only [ha]
  exact if_neg (by omega)

theorem updRelease_of_due {t : Nat} (hk : s.nv.upd.keptAt = some t) (h0 : s.nv.upd.state = 0) (hd : t + 86400 ≤ s.sec) :
    s.updRelease = s.modUpd UpdNv.ended := by
  unfold State.updRelease
  simp only [hk]
  exact if_pos ⟨h0, hd⟩

/-! ### UPD.CMD -/

variable {ini : Nat}

@[simp] theorem begun_stable (s : State) (ini a : Nat) : (s.begun ini a).stable = s.stable := by
  obtain ⟨x, h⟩ := begun_acc s ini a
  rw [h]
  rfl

theorem busWrite_updCmd (c : Word) (h : s.takes ini Rg.UPD_CMD = true) (hi : s.updIdle = false)
    (hc : noReserved Rg.UPD_CMD c = true) :
    s.busWrite ini Rg.UPD_CMD 4 c = (s.begun ini Rg.UPD_CMD).updCmd (getF c 0 3) :=
  (busWrite_localPage c (by decide) (by decide) h hc).trans (blockWrite_updCmd s ini c hi)

end

/-- Settles O36: each command in the state of the campaign that its clause names. -/
theorem updateCampaign : Obligations.UpdateCampaign := by
  unfold Obligations.UpdateCampaign
  refine ⟨fun s hr hi h => congrArg Host.Outcome.next ((updGo_on hr hi _).trans (updVerified_of_verifying h)),
    fun s hr hi h2 h4 hd ht => congrArg Host.Outcome.next ((updGo_on hr hi _).trans (updDeadline_of_due h2 h4 hd ht)),
    fun s ini h hi h5 h0 hn => ?activate, fun s ini h hi h1 h5 => ?abort, fun s ini h hi h7 hc hs hm => ?confirm,
    fun s ini h hi h7 => ?revert,
    fun s t hr hi ha h5 ht hd hl => congrArg Host.Outcome.next
      ((updGo_on hr hi _).trans (updArmTimeout_of_late ha h5 ht hd hl)),
    fun s hr hi h6 h1 hp5 hp6 hd hrun => congrArg Host.Outcome.next
      ((updGo_on hr hi _).trans (updPartnerTimeout_of_silent h6 h1 hp5 hp6 hd hrun)),
    fun s hr hrun hd hh => congrArg Host.Outcome.next ((rt_on hr _).trans (loaderUnit_of_running hrun hd hh)),
    fun s hr hrun hd => congrArg Host.Outcome.next ((rt_on hr _).trans (loaderDone_of_last hrun hd)),
    fun s hr hi h7 hc hs hm => congrArg Host.Outcome.next
      ((updGo_on hr hi _).trans (updStable_of_automatic h7 hc hs hm)),
    fun s t hr hi ha h6 h7 hd => congrArg Host.Outcome.next ((updGo_on hr hi _).trans (updNodeTimeout_of_due ha h6 h7 hd)),
    fun s t hr hi hk h0 hd => congrArg Host.Outcome.next ((updGo_on hr hi _).trans (updRelease_of_due hk h0 hd))⟩
  case activate =>
    rw [← begun_nv s ini Rg.UPD_CMD] at h5 h0 hn
    exact congrArg Host.Outcome.next ((busWrite_updCmd 1 h hi (by decide)).trans (updActivateCmd_of_open h5 h0 hn))
  case abort =>
    rw [← begun_nv s ini Rg.UPD_CMD] at h1 h5
    exact congrArg Host.Outcome.next ((busWrite_updCmd 2 h hi (by decide)).trans (if_pos ⟨h1, h5⟩))
  case confirm =>
    rw [← begun_nv s ini Rg.UPD_CMD] at h7 hc hm
    rw [← begun_stable s ini Rg.UPD_CMD] at hs
    exact congrArg Host.Outcome.next
      ((busWrite_updCmd 3 h hi (by decide)).trans (updConfirmCmd_of_stable h7 hc hs hm))
  case revert =>
    rw [← begun_nv s ini Rg.UPD_CMD] at h7
    exact congrArg Host.Outcome.next ((busWrite_updCmd 4 h hi (by decide)).trans (if_pos h7))

end Sys2Proof.Machine
end

section
/-! Campaign streams: offers, chunks, acknowledgements and closes (R358 to R373). -/

namespace Sys2Proof.Machine

/-! ### Messages in (R265, R359) -/

section
variable {s : State}

/-- A message of the chain has its effect while the application domain runs and this boot takes campaign actions. -/
theorem updRun_on (ha : s.appUp = true) (hi : s.updIdle = false) (t : State) : s.updRun t = t := by
  unfold State.updRun
  rw [ha, hi, ifOk_true (by decide)]

/-- A well-formed message of a session counts for the session and acts on its body. -/
theorem bulkFrom_of_wellFormed {peer typ n : Nat} {x : Session} {m : List Nat} {p : LspMsg} (hs : s.sess peer = some x)
    (hp : lspParse m = some p) (hv : p.ver = 1) (ht : p.typ = typ) (hb : p.len = p.body.length) (hn : n ≤ p.len)
    (hmax : p.len ≤ 1184) (f : List Nat → State → State) : s.bulkFrom peer typ n m f = f p.body (s.heardPeer peer) := by
  have hlen : ¬(p.len ≠ p.body.length ∨ p.len < n ∨ 1184 < p.len) := by omega
  unfold State.bulkFrom
  simp only [hs, hp]
  rw [if_neg (not_not_intro hv), if_neg (not_not_intro ht), if_neg hlen]

/-- The same for a message of a source, on the session of its peer. -/
theorem bulkIn_of_source {src typ n : Nat} {x : Session} {m : List Nat} {p : LspMsg} (ha : s.appUp = true)
    (hi : s.updIdle = false) (h1 : 1 ≤ src) (h6 : src ≤ 6) (hs : s.sess (srcPeer src) = some x) (hp : lspParse m = some p)
    (hv : p.ver = 1) (ht : p.typ = typ) (hb : p.len = p.body.length) (hn : n ≤ p.len) (hmax : p.len ≤ 1184)
    (f : List Nat → State → State) :
    s.updRun (s.ifOk (decide (1 ≤ src ∧ src ≤ 6)) (s.bulkFrom (srcPeer src) typ n m f)) =
      f p.body (s.heardPeer (srcPeer src)) := by
  rw [updRun_on ha hi, ifOk_true (decide_eq_true ⟨h1, h6⟩), bulkFrom_of_wellFormed hs hp hv ht hb hn hmax]

/-- A BULK_CLOSE acts by its reason. -/
theorem bulkClosed_of_source {src reason : Nat} {x : Session} {m : List Nat} {p : LspMsg} (ha : s.appUp = true)
    (hi : s.updIdle = false) (h1 : 1 ≤ src) (h6 : src ≤ 6) (hs : s.sess (srcPeer src) = some x) (hp : lspParse m = some p)
    (hv : p.ver = 1) (ht : p.typ = 0x23) (hb : p.len = p.body.length) (hn : 16 ≤ p.len) (hmax : p.len ≤ 1184)
    (hr : beAt p.body 4 1 = reason) :
    s.updRun (s.ifOk (decide (1 ≤ src ∧ src ≤ 6)) (s.bulkClosed src reason m)) =
      (let t := s.heardPeer (srcPeer src)
       if reason = 0 then t.bulkCloseDone src p.body
       else if reason = 1 then t.bulkCloseAbort src p.body
       else if reason = 2 then t.bulkCloseActivate src p.body
       else t.bulkCloseRevert src) :=
  (bulkIn_of_source ha hi h1 h6 hs hp hv ht hb hn hmax _).trans (if_neg (not_not_intro hr))

/-! ### Offers and chunks (R358, R360, R363) -/

theorem bulkOpen_of_mayOffer {src : Nat} (h : s.mayOffer src = true) (b : List Nat) :
    s.bulkOpen src b =
      (let stream := beAt b 0 4
       let same := s.nv.upd.seq = beAt b 12 8 ∧ s.nv.upd.contLen = beAt b 4 8
       let o : UpdOffer := {
         src, stream, seq := beAt b 12 8, deadline := beAt b 20 8, actAt := beAt b 28 8, hdr := [] }
       let u := s.nv.upd
       if o.actAt ≠ 0 ∧ o.actAt < o.deadline + 300 then s.updRefuse o 12 o.seq
       else if 2 ≤ u.state ∧ u.state ≤ 5 ∧ same ∧ (s.upd.stream = none ∨ s.upd.stream = some (src, stream)) then
         let t := if u.state = 2 ∧ s.upd.stream = none then
             s.raise Ev.UPD_RESUMED Pg.upd [2, (u.bitmapWord.toNat / 65536)] else s
         let t := { t with upd := { t.upd with stream := some (src, stream) } }
         (t.modUpd fun u => { u with source := src, ackTo := (src, stream) }).bulkReply src stream t.updStatus 0
       else if 4 ≤ u.state ∧ same ∧ (u.source = src ∨ src = 6) then
         (s.modUpd fun u => { u with ackTo := (src, stream) }).bulkReply src stream s.updStatus 0
       else
         let t := { s with upd := { s.upd with offers := s.upd.offers.filter (fun (x : UpdOffer) => x.src != src) ++ [o] } }
         (if u.state = 0 then t.updTo 1 else t).bulkReply src stream 0 0) := by
  unfold State.bulkOpen
  simp only [h, Bool.not_true, Bool.false_eq_true, if_false, Bool.and_eq_true, beq_iff_eq, Option.isNone_iff_eq_none]

theorem bulkOpen_of_not_mayOffer {src : Nat} (h : s.mayOffer src = false) (b : List Nat) : s.bulkOpen src b = s :=
  if_pos ((Bool.not_eq_true' _).mpr h)

/-- A chunk of the campaign that is not held yet. -/
theorem bulkStore_of_missing {c : Nat} {d : List Nat} (hc : c < s.nv.upd.chunks) (hm : s.nv.upd.man ≠ [] ∨ c < 8)
    (hn : s.nv.upd.has c = false) (hd : d.length = min 1024 (s.nv.upd.contLen - 1024 * c)) :
    s.bulkStore c d =
      (let t := State.bulkHold { s with upd := { s.upd with got := s.upd.got + 1 } } c d
       if t.upd.got % 16 = 0 then t.bulkAckSend else t) := by
  have hfits : ¬(s.nv.upd.chunks ≤ c ∨ (s.nv.upd.man.isEmpty = true ∧ 8 ≤ c) ∨
      d.length ≠ min 1024 (s.nv.upd.contLen - 1024 * c)) := by
    rintro (h | ⟨hman, h8⟩ | h)
    · omega
    · exact hm.elim (fun hne => hne (List.isEmpty_iff.mp hman)) (fun hlt => by omega)
    · exact h hd
  unfold State.bulkStore
  simp only [if_neg hfits, hn, Bool.false_eq_true, if_false]

theorem bulkData_of_campaign {src : Nat} {b : List Nat}
    (hf : (s.upd.offers.find? fun o => o.src == src && o.stream == beAt b 0 4) = none)
    (hs : s.upd.stream = some (src, beAt b 0 4)) (h2 : s.nv.upd.state = 2) :
    s.bulkData src b = s.bulkStore (beAt b 4 4) ((b.drop 16).take (beAt b 8 2)) := by
  unfold State.bulkData
  simp only [hf]
  exact if_neg fun hc => hc.elim (fun hne => hne hs) (fun hne => hne h2)

theorem bulkData_of_offer {src : Nat} {b : List Nat} {o : UpdOffer}
    (hf : (s.upd.offers.find? fun o => o.src == src && o.stream == beAt b 0 4) = some o) (hc : beAt b 4 4 < 4)
    (hd : ((b.drop 16).take (beAt b 8 2)).length = 1024) :
    s.bulkData src b =
      (let o := { o with hdr := Tab.set (fun _ => []) o.hdr (beAt b 4 4) ((b.drop 16).take (beAt b 8 2)) }
       let t := { s with upd := { s.upd with offers := s.upd.offers.map fun x => if x.src = src then o else x } }
       if o.hdr.length = 4 then t.updOffered o else t) := by
  unfold State.bulkData
  simp only [hf]
  exact if_neg fun hn => hn.elim (fun hle => by omega) (fun hne => hne hd)

/-! ### Streams that this module sources, and its own answer (R360, R362) -/

theorem bulkAck_of_stream {k : Nat} {b : List Nat} (h : (s.relay k).stream = some (beAt b 0 4)) :
    s.bulkAck k b =
      (let status := beAt b 4 1
       let t := s.setRelay k { s.relay k with status := status, next := beAt b 8 4, map := (b.drop 12).take 32 }
       let t := if k = 6 then t.modUpd fun u => { u with
           partner := status, mateNew := u.mateNew || status == 5 || status == 6 }
         else t.modUpd fun u => { u with downstream := status }
       ((t.bulkPump k).updTryConfirm).keepOrFree) := if_neg (not_not_intro h)

theorem bulkAckSend_of_stream {src stream : Nat} (h : s.upd.stream = some (src, stream)) :
    s.bulkAckSend = s.bulkReply src stream s.updStatus (if s.updStatus = 7 then s.nv.upd.cause else 0) := by
  unfold State.bulkAckSend
  simp only [h]

theorem bulkChunkResend_of_missing {k c : Nat} {x : Session} (hc : c < (s.relay k).sent)
    (hh : (s.relay k).holds c = false) (hu : s.nv.upd.has c = true) (hs : s.sess k = some x) :
    s.bulkChunkResend k c = s.bulkChunk k c := if_pos ⟨hc, hh, hu, Option.isSome_of_eq_some hs⟩

theorem bulkOffer_of_may {k : Nat} {x : Session} (hk : k = 5 ∨ k = 6)
    (hmay : (if k = 5 then s.transmits else s.role == 1) = true) (he : s.flag Fd.UPD_CFG_RELAY_EN = true)
    (hm : s.nv.upd.man ≠ []) (hs : s.sess k = some x) :
    s.bulkOffer k =
      (let r := s.relay k
       let u := s.nv.upd
       let st := r.stream.getD s.fresh.1.toNat
       (s.fresh.2.setRelay k { r with stream := some st, opens := r.opens + 1, sent := 0 }).bulkSend k 0x20
         (beBytes 4 st ++ beBytes 8 u.contLen ++ beBytes 8 u.seq ++ beBytes 8 u.deadline ++ beBytes 8 u.actAt ++
           [0, 0, 0, 0])) := by
  have hallowed : (if k = 5 then s.transmits else k == 6 && s.role == 1) = true := by
    rcases hk with rfl | rfl
    · exact hmay
    · exact hmay
  have hman : s.nv.upd.man.isEmpty = false := List.isEmpty_eq_false_iff.mpr hm
  unfold State.bulkOffer
  dsimp only
  rw [hallowed, he, hman, hs, Option.isNone_some, if_neg (by decide)]

theorem bulkOpenResend_of_early {k : Nat} (h : (s.relay k).status < 3 ∨ 6 < (s.relay k).status) :
    s.bulkOpenResend k = s.bulkOffer k := if_neg (by omega)

end

/-- Settles O35: each message by the message rule and its operation, and each timer in the state of the stream that its clause
names. -/
theorem updateStreams : Obligations.UpdateStreams := by
  unfold Obligations.UpdateStreams
  refine ⟨fun s src x m p ha hi h1 h6 hs hp hv ht hb hn hmax =>
      congrArg Host.Outcome.next (bulkIn_of_source ha hi h1 h6 hs hp hv ht hb hn hmax _),
    fun s src b h => bulkOpen_of_mayOffer h b, fun s src b h => bulkOpen_of_not_mayOffer h b,
    fun s src x m p ha hi h1 h6 hs hp hv ht hb hn hmax =>
      congrArg Host.Outcome.next (bulkIn_of_source ha hi h1 h6 hs hp hv ht hb hn hmax _),
    fun s src c b hf hs h2 hc hlt hm hn hd => ?chunk, fun s src b o hf hc hd => bulkData_of_offer hf hc hd,
    fun s k x m p ha hi h5 h6 hs hp hv ht hb hn hmax => ?ack, fun s k b h => bulkAck_of_stream h,
    fun s src stream ha hi h => congrArg Host.Outcome.next ((updRun_on ha hi _).trans (bulkAckSend_of_stream h)),
    fun s k c x ha hi h5 h6 hc hh hu hs => ?chunkResend, fun s k x ha hi hk hst hmay he hm hs => ?openResend,
    fun s k typ body => rfl, fun s ha hi => congrArg Host.Outcome.next (updRun_on ha hi _),
    fun s src x m p ha hi h1 h6 hs hp hv ht hb hn hmax hr =>
      congrArg Host.Outcome.next (bulkClosed_of_source ha hi h1 h6 hs hp hv ht hb hn hmax hr),
    fun s src x m p ha hi h1 h6 hs hp hv ht hb hn hmax hr =>
      congrArg Host.Outcome.next (bulkClosed_of_source ha hi h1 h6 hs hp hv ht hb hn hmax hr),
    fun s src x m p ha hi h1 h6 hs hp hv ht hb hn hmax hr =>
      congrArg Host.Outcome.next (bulkClosed_of_source ha hi h1 h6 hs hp hv ht hb hn hmax hr),
    fun s src x m p ha hi h1 h6 hs hp hv ht hb hn hmax hr =>
      congrArg Host.Outcome.next (bulkClosed_of_source ha hi h1 h6 hs hp hv ht hb hn hmax hr)⟩
  case chunk =>
    subst hc
    exact (bulkData_of_campaign hf hs h2).trans (bulkStore_of_missing hlt hm hn hd)
  case ack =>
    show Host.Outcome.next (s.updRun (s.ifOk (decide (5 ≤ k ∧ k ≤ 6)) (s.bulkFrom k 0x22 44 m fun b s => s.bulkAck k b))) = _
    rw [updRun_on ha hi, ifOk_true (decide_eq_true ⟨h5, h6⟩), bulkFrom_of_wellFormed hs hp hv ht hb hn hmax]
  case chunkResend =>
    show Host.Outcome.next (s.updRun (s.ifOk (decide (5 ≤ k ∧ k ≤ 6)) (s.bulkChunkResend k c))) = _
    rw [updRun_on ha hi, ifOk_true (decide_eq_true ⟨h5, h6⟩), bulkChunkResend_of_missing hc hh hu hs]
    rfl
  case openResend =>
    show Host.Outcome.next (s.updRun (s.ifOk (decide (5 ≤ k ∧ k ≤ 6)) (s.bulkOpenResend k))) = _
    rw [updRun_on ha hi, ifOk_true (decide_eq_true (by omega)), bulkOpenResend_of_early hst, bulkOffer_of_may hk hmay he hm hs]

end Sys2Proof.Machine
end
